-- ==== Sys2Proof/Word.lean ====
section
/-! DEFINITION. Word.lean: the machine's smallest words and the numbered things of R8.
Bit vectors stand only for what the manual treats as bits; counts and times are natural numbers. -/

namespace Sys2Proof

/-- One byte of a frame, a record or a dictionary value. -/
abbrev Byte := BitVec 8

/-- Ports 0 to 7; bay n serves port n (R8). -/
abbrev PortId := Fin 8

/-- SDO server channels 0 to 3 (R8). -/
abbrev Chan := Fin 4

/-- Traffic classes 0 to 3 (R8). -/
abbrev Cls := Fin 4

/-- A 14-bit sequence number; its arithmetic is modulo 16 384 (R165). -/
abbrev Seq := BitVec 14

/-- R165: the distance from `a` to `b`. -/
def Seq.dist (a b : Seq) : Nat := (b - a).toNat

/-- R165: `a` precedes `b`. -/
def Seq.precedes (a b : Seq) : Bool := decide (1 ≤ Seq.dist a b) && decide (Seq.dist a b ≤ 8191)

end Sys2Proof
end

