-- ==== Sys2Proof/Syntax.lean ====
section
/-! DEFINITION. Syntax.lean: the commands of the KT850, one constructor per row of spec/opcode_table.json,
and the operands they carry. The table gives no operand fields; an operand here is what the row's rules
name as its input (a port, a channel, a written value, the content of a received shingle, a measured
quantity, the outcome of a physical act). Log entry 2. -/

namespace Sys2Proof

/-- The Etoon line modes of Table 4-1. -/
inductive EMode where
  | el50 | el25 | el10
  deriving DecidableEq, Repr, Inhabited

/-- The standard IEEE 802.3 line modes of Table 4-9. -/
inductive SMode where
  | b25g | b10g | b5g | b2g5 | b1g
  deriving DecidableEq, Repr, Inhabited

/-- A line mode (ActiveMode, Table 5-13). -/
inductive LineMode where
  | etoon (m : EMode)
  | std (m : SMode)
  deriving DecidableEq, Repr, Inhabited

/-- The header of a data shingle (Table 6-1), reserved bits left out (R152). -/
structure ShHdr where
  cls      : Cls
  seq      : Seq
  replay   : Bool
  gap      : Bool
  provoked : Bool
  /-- FirstTag in units of 4 bytes; 0x7F if no tag begins in the payload. -/
  firstTag : BitVec 7
  ackClass : Cls
  ackNext  : Seq
  deriving DecidableEq, Repr, Inhabited

/-- The ack block of a control shingle: the next expected number of each class (R161). -/
structure AckBlock where
  a0 : Seq
  a1 : Seq
  a2 : Seq
  a3 : Seq
  deriving DecidableEq, Repr, Inhabited

/-- How a received slot failed (Table 4-6); a correction count is carried where the RS decode succeeded. -/
inductive UncReason where
  | rsFail
  | lockLost
  | escape (corr : Fin 9)
  | unassigned (corr : Fin 9)
  | crc (corr : Fin 9)
  deriving DecidableEq, Repr, Inhabited

/-- The two criteria of R43, with the clock failure of R205 that is reported as the first. -/
inductive LockCriterion where
  | frequency | snr
  deriving DecidableEq, Repr, Inhabited

/-- Reasons of a REFUSE (Table 6-4). -/
inductive RefuseReason where
  | notOffered | withdrawn | thermal | noSnapshot | busy
  deriving DecidableEq, Repr, Inhabited

/-- How a frame arriving on HRXn ends (R265). -/
inductive FrameEnd where
  | terminate | newStart | lockLost
  deriving DecidableEq, Repr, Inhabited

/-- What the lane's PCS and FEC make of a stretch of frame bytes (R265, Table 10-3): clean; out of a codeword that the FEC corrected; an
invalid block; blocks of a codeword that the FEC could not correct. -/
inductive LaneBlock where
  | clean | corrected | invalid | uncorrectable
  deriving DecidableEq, Repr, Inhabited

/-- The training sequences a correlator expects (Table 5-2). -/
inductive TrainUse where
  | full | fast
  deriving DecidableEq, Repr, Inhabited

/-- Measured quantities that an exit criterion of R119 or R133 reads, in 0.01 dB. -/
structure Criterion where
  /-- Lowest Snr over the averages that the phase counts. -/
  snr      : Int
  /-- Consecutive 4096-symbol averages at or above that value. -/
  averages : Nat
  near     : Int
  far      : Int
  /-- Received power over the last 100 µs, relative to the outermost level. -/
  power    : Int
  /-- Every eligible neighbour is cancelled to 6 dB or more, or none is eligible. -/
  joined   : Bool
  deriving DecidableEq, Repr, Inhabited

/-- What the partner's next pages W0 to W2 carry (Table 5-1). -/
structure WenvoPages where
  /-- EL-50, EL-25, EL-10 in bits 0 to 2, as ModeMask lays them out. -/
  modes       : BitVec 3
  lpi         : Bool
  fastRelink  : Bool
  tc10        : Bool
  lineMajor   : BitVec 4
  lineMinor   : BitVec 4
  linePrev    : BitVec 4
  shMajor     : BitVec 4
  shMinor     : BitVec 4
  shPrev      : BitVec 4
  seed        : BitVec 12
  neighbours  : BitVec 3
  leaderWanted : Bool
  deriving DecidableEq, Repr, Inhabited

/-- What the partner's next pages were (R110, R113): none sent, message pages of another OUI (how many), or W0 to W2. -/
inductive PartnerPages where
  | noNp
  | foreign (n : Nat)
  | wenvo (w : WenvoPages)
  deriving DecidableEq, Repr, Inhabited

/-- Clause 98's master-slave outcome as this end sees it (R114). -/
inductive MsOutcome where
  | master | slave | fault
  deriving DecidableEq, Repr, Inhabited

/-- What the front end hands over for one shingle: the ADC samples, how they lie against the signals that the
cancellers take, and the estimates of DspState whose measurement the manual does not give. -/
structure AdaptIn where
  /-- The 8-bit samples in two's complement, oldest first (Table 3-1). -/
  samples : List (BitVec 8)
  /-- Per port m: how many symbols bay m released after the one that its first sample meets at delay 0. -/
  lags    : List Nat
  /-- In training: the place in the partner's period of the first sample's symbol, and whether the period is READY. -/
  place   : Nat
  negated : Bool
  near      : Int
  far       : Int
  xtalk     : Int
  couplings : List Int
  deriving DecidableEq, Repr, Inhabited

/-- What a probe of the line meets (R241): the received power over 10 µs in 0.01 dB, the ADC samples recorded from the start of each
burst, and whether energy appeared during a burst, which is then the last one launched. -/
structure ProbeIn where
  power  : Int
  bursts : List (List (BitVec 8))
  energy : Bool
  deriving DecidableEq, Repr, Inhabited

/-- What one measurement of a calibration run finds (Table 16-5): the count of REF in 1/2000 cycles (10 ps) over 10 000 000 cycles of REFIN; the
amplitude of the outermost level across the load, in µV; or what the probe bursts meet. -/
inductive CalIn where
  | refCount (n : Nat)
  | amplitude (microvolts : Nat)
  | bursts (m : ProbeIn)
  deriving DecidableEq, Repr, Inhabited

/-- A tone at the line wake detector of a port (R148): its amplitude in mV and how long it lasts in µs. -/
structure WakeTone where
  port : PortId
  mv   : Nat
  us   : Nat
  deriving DecidableEq, Repr, Inhabited

/-- A lane whose receiver lost its lock (R263): by hi_ber, where the blocks still lock, or not. -/
structure LaneLoss where
  port  : PortId
  hiBer : Bool
  deriving DecidableEq, Repr, Inhabited

/-- A host-lane PLL that lost lock (R350): in a standard mode, the class and the bytes of the frame that was being received (R208). -/
structure LanePllLoss where
  port : PortId
  cut  : Option (Cls × Nat)
  deriving DecidableEq, Repr, Inhabited

/-- The two copies of a port's two references as a reading meets them (R23, R247): the wrong bits of each 256-bit word that holds any. -/
structure RefErrors where
  lineActive  : List Nat
  lineOther   : List Nat
  probeActive : List Nat
  probeOther  : List Nat
  deriving DecidableEq, Repr, Inhabited

/-- The two reference slots of a port (R244). -/
inductive RefSlot where
  | line | probe
  deriving DecidableEq, Repr, Inhabited

/-- The blocks of Table 13-2, the source of an event. -/
inductive EvBlock where
  | bay (p : PortId) | clocks | power | thermal | fuses | sealUnit | dict | sieve | bist | crock
  deriving DecidableEq, Repr, Inhabited

/-- An event a block raises (Table 13-4). -/
structure Ev where
  src  : EvBlock
  /-- Port named in Source, if the event concerns one. -/
  port : Option PortId
  code : BitVec 16
  sev  : Fin 8
  arg  : List Byte
  deriving DecidableEq, Repr, Inhabited

/-- The step of Table 13-5 at which a verify fails (R341). -/
inductive VerifyStep where
  | word0 | word1 | readBack | mark
  deriving DecidableEq, Repr, Inhabited

/-- Clock domains of Table 14-2; SYM is one per bay. -/
inductive Domain where
  | sym (p : PortId) | eng | fab | ctl | slow
  deriving DecidableEq, Repr, Inhabited

/-- Fuse groups whose burns R380 speaks of. -/
inductive FuseGroup where
  | sealed | bound | returned | ended | rebaseline | calibration | rollback | witness
  deriving DecidableEq, Repr, Inhabited

/-- Calibration kinds (Table 16-4). -/
inductive CalKind where
  | timebase | levels | lengthScale
  deriving DecidableEq, Repr, Inhabited

/-- Gate numbers of the gate layout (Table 12-3): 0 to 7 bays, 8 to 15 host lanes, 16 sieve, 17 seal unit,
18 CLKOUT, 19 BIST engine. -/
abbrev GateId := Fin 20

/-- Instructions of the test access port (R386, R416, R417). `burn*` are the production instructions. -/
inductive TapInstr where
  | bypass | idcode | samplePreload | extest | extestPulse | extestTrain | clamp | highz
  | burnMakerHash (h : List Byte)
  | burnWorkshopHash (h : List Byte)
  deriving DecidableEq, Repr, Inhabited

/-- An SDO frame from a client: its format and its data field. -/
structure CanFrame where
  /-- CAN FD frame; classical otherwise. -/
  fd   : Bool
  data : List Byte
  deriving DecidableEq, Repr, Inhabited

/-- The commands: one constructor per row of spec/opcode_table.json, in the table's order. Instants `at` of
line and lane symbols are in units of 2^−4 ns, as SenderResidence counts them (R272). -/
inductive Instr where
  | launchSlot (p : PortId) (at_ : Nat)
  | dataShingle (p : PortId) (h : ShHdr) (payload : List Byte) (corr : Fin 9) (at_ : Nat)
  | uncorrectableSlot (p : PortId) (r : UncReason)
  | idle (p : PortId) (synced : Bool) (ack : AckBlock) (corr : Fin 9)
  | nak (p : PortId) (ack : AckBlock) (body : List Byte) (corr : Fin 9)
  | lpiEntry (p : PortId) (ack : AckBlock) (corr : Fin 9)
  | lpiExit (p : PortId) (ack : AckBlock) (corr : Fin 9)
  | sleepRequest (p : PortId) (ack : AckBlock) (corr : Fin 9)
  | sleepAck (p : PortId) (ack : AckBlock) (corr : Fin 9)
  | sleepReject (p : PortId) (ack : AckBlock) (corr : Fin 9)
  | beaconFast (p : PortId) (m : EMode) (ack : AckBlock) (corr : Fin 9)
  | beaconFull (p : PortId) (m : EMode) (ack : AckBlock) (corr : Fin 9)
  | request (p : PortId) (m : EMode) (epoch : Byte) (ack : AckBlock) (corr : Fin 9)
  | accept (p : PortId) (m : EMode) (epoch : Byte) (ack : AckBlock) (corr : Fin 9)
  | refuse (p : PortId) (r : RefuseReason) (epoch : Byte) (ack : AckBlock) (corr : Fin 9)
  | mark (p : PortId) (k : Fin 8) (epoch : Byte) (ack : AckBlock) (corr : Fin 9)
  | receiveEpoch (p : PortId)
  | epochExemptionEnd (p : PortId)
  | modeRequestRetry (p : PortId)
  | modePrepareDone (p : PortId)
  | autoDownshiftWindow (p : PortId) (meanSnr : Int)
  | replayTimer (p : PortId) (c : Cls) (seq : Seq)
  | nakRepeat (p : PortId) (c : Cls) (seq : Seq)
  | lossPasses (p : PortId) (c : Cls)
  | hostFrameStart (p : PortId) (at_ : Nat)
  | hostFrameData (p : PortId) (bytes : List Byte) (b : LaneBlock)
  | hostFrameEnd (p : PortId) (e : FrameEnd)
  | htxFrameBoundary (p : PortId) (at_ : Nat)
  | pfcRepeat (p : PortId) (c : Cls)
  | hostLaneUp (p : PortId)
  | hostLaneDown (e : LaneLoss)
  | hostLpiBegin (p : PortId)
  | hostLpiEnd (p : PortId)
  | hostIdleTimeout (p : PortId)
  | lpiEnter (p : PortId)
  | lpiRefresh (p : PortId)
  | energyDetect (p : PortId)
  | lpiFalseWake (p : PortId)
  | lpiRefreshMissed (p : PortId)
  | lockLoss (p : PortId) (c : LockCriterion)
  | adaptUpdate (p : PortId) (u : AdaptIn)
  | snapshotWindowEnd (p : PortId)
  | snapshotGo (ch : Chan) (p : PortId)
  | snapshotServe (p : PortId)
  | xtalkJoinDone (p m : PortId) (centiDb : Int)
  | xtalkJoinRetry (p m : PortId)
  | neighbourMaskWrite (ch : Chan) (p : PortId) (v : Byte)
  | autonegStart (p : PortId)
  | autonegResolve (p : PortId) (pages : PartnerPages) (stdModes : BitVec 5) (ms : MsOutcome)
  | clause98Pages (p : PortId)
  | startCandidate (p : PortId) (power : Int)
  | startConfirmed (p : PortId) (k : BitVec 58) (corr : Nat)
  | falseStart (p : PortId)
  | preEmption (p : PortId) (corr : Nat)
  | exitCriterionMet (p : PortId) (m : Criterion)
  | periodBoundary (p : PortId) (partnerReady : Option Nat)
  | phaseLimitExpiry (p : PortId) (m : Criterion)
  | relinkChoose (p : PortId)
  | snapshotReload (p : PortId)
  | echoChangeCheck (p : PortId) (near far : Int)
  | fastRelinkLimit (p : PortId) (m : Criterion)
  | episodeLimit (p : PortId)
  | retrainGo (ch : Chan) (p : PortId)
  | restartAnGo (ch : Chan) (p : PortId)
  | sleepGo (ch : Chan) (p : PortId)
  | sleepWaitTimeout (p : PortId)
  | wakeGo (ch : Chan) (p : PortId)
  | wakePulseDone (p : PortId)
  | lineWake (w : WakeTone)
  | adminDisable (ch : Chan) (p : PortId)
  | adminEnable (ch : Chan) (p : PortId)
  | modeMaskWrite (ch : Chan) (p : PortId) (v : BitVec 16)
  | targetModeWrite (ch : Chan) (p : PortId) (v : Byte)
  | ledgerEntryRead (ch : Chan) (p : PortId)
  | rollCallDownshiftOne (ch : Chan) (epoch : BitVec 16) (arg mask : Byte) (low : BitVec 24)
  | rollCallSetMode (ch : Chan) (epoch : BitVec 16) (arg mask : Byte) (low : BitVec 24)
  | rollCallLpiEnable (ch : Chan) (epoch : BitVec 16) (arg mask : Byte) (low : BitVec 24)
  | rollCallLpiDisable (ch : Chan) (epoch : BitVec 16) (arg mask : Byte) (low : BitVec 24)
  | rollCallApply (p : PortId)
  | armDrop (ch : Chan) (p : PortId)
  | armCorrupt (ch : Chan) (p : PortId)
  | armSwap (ch : Chan) (p : PortId)
  | armInterrupt (ch : Chan) (p : PortId)
  | armHostIn (ch : Chan) (p : PortId)
  | armHostOut (ch : Chan) (p : PortId)
  | disarmAllGo (ch : Chan)
  | interruptionEnd (p : PortId)
  | hostInCorruption (p : PortId)
  | hostOutCorruption (p : PortId)
  | provocationEpisodeEnd (p : PortId)
  | signatureComparison (p : PortId) (m : RefErrors)
  | thresholdsWrite (ch : Chan) (p : PortId) (v : BitVec 32)
  | captureLineGo (ch : Chan) (p : PortId)
  | captureProbeGo (ch : Chan) (p : PortId)
  | ackTamperGo (ch : Chan) (p : PortId)
  | captureTimeout (p : PortId) (slot : RefSlot)
  | probeRun (p : PortId) (m : ProbeIn)
  | probeRepeat (p : PortId) (m : ProbeIn)
  | simmerProbeWake (m : ProbeIn)
  | sealEnable (ch : Chan) (p : PortId)
  | sealDisable (ch : Chan) (p : PortId)
  | chainStart (p : PortId)
  | sealWindowEnd (p : PortId)
  | sealRoot (p : PortId)
  | sdoInitiateDownload (ch : Chan) (f : CanFrame)
  | sdoDownloadSegment (ch : Chan) (f : CanFrame)
  | sdoInitiateUpload (ch : Chan) (f : CanFrame)
  | sdoUploadSegment (ch : Chan) (f : CanFrame)
  | sdoBlockDownload (ch : Chan) (f : CanFrame)
  | sdoBlockUpload (ch : Chan) (f : CanFrame)
  | sdoAbort (ch : Chan) (f : CanFrame)
  | wideInitiateDownload (ch : Chan) (f : CanFrame)
  | wideInitiateUpload (ch : Chan) (f : CanFrame)
  | wideSegment (ch : Chan) (f : CanFrame)
  | wideConfirm (ch : Chan) (f : CanFrame)
  | sdoTimeout (ch : Chan)
  | genericWrite (ch : Chan) (index : BitVec 16) (sub : Byte) (data : List Byte)
  | eventClear (ch : Chan) (index : BitVec 16) (v : BitVec 32)
  | counterZero (ch : Chan) (index : BitVec 16) (sub : Byte) (data : List Byte)
  | postedWrite (ch : Chan) (index : BitVec 16) (sub : Byte) (data : List Byte)
  | postedApply
  | civilStep (ch : Chan) (v : BitVec 64)
  | allowanceWindow
  | canBitRateWrite (ch : Chan) (sub : Byte) (v : BitVec 16)
  | bitrateReverted
  | cobIdWrite (ch : Chan) (k : Fin 3) (sub : Byte) (v : BitVec 32)
  | profileSelect (ch : Chan) (sub : Byte) (v : BitVec 16)
  | authNonceRead (ch : Chan)
  | authResponse (ch : Chan) (data : List Byte)
  | nonceExpiry (ch : Chan)
  | authLockoutEnd
  | sessionEndWrite (ch : Chan) (sub : Byte) (v : BitVec 64)
  | sessionExpiry (ch : Chan)
  | ownersWrite (ch : Chan) (v : BitVec 16)
  | nmtStart (node : Byte)
  | nmtPreOperational (node : Byte)
  | nmtStop (node : Byte)
  | nmtResetCommunication (node : Byte)
  | nmtResetNode (node : Byte)
  | heartbeat
  | emcySend
  | busOff
  | gateSet (ch : Chan) (v : BitVec 32)
  | gateClear (ch : Chan) (v : BitVec 32)
  | gateOpenComplete (g : GateId)
  | gateCloseComplete (g : GateId)
  | configLock (ch : Chan) (sub : Byte) (v : Byte)
  | resetRequest (ch : Chan) (v : BitVec 32)
  | recordDataRead (ch : Chan)
  | recordBatchRead (ch : Chan)
  | clearGo (ch : Chan)
  | eventRaise (evs : List Ev)
  | recordCommit
  | recorderRecovered
  | tallyCheckpoint
  | crockScanEnd (mramFail : Bool)
  | crystalStable
  | pllLock
  | pllLockTimeout
  | crystalTimeout
  | crystalRestart
  | refFailed
  | pllUnlocked
  | hostLanePllFailed (e : LanePllLoss)
  | coldSwitch (d : Domain) (rcReady : Bool)
  | warmSwitchDone (d : Domain)
  | clockReturn (d : Domain)
  | rcRetrim
  | ctlSourceWrite (ch : Chan) (v : Byte)
  | slowSourceWrite (ch : Chan) (v : Byte)
  | clkoutSelectWrite (ch : Chan) (v : Byte)
  | clkoutDivideWrite (ch : Chan) (v : BitVec 16)
  | powerOnReset (qualifies : Bool)
  | vinDip
  | resetNAssert
  | resetNRelease
  | powerOnCheckEnd
  | rollbackBurn
  | fuseBurnVerify (g : FuseGroup)
  | powerRequestBoil (ch : Chan)
  | powerRequestSimmer (ch : Chan)
  | powerRequestRest (ch : Chan)
  | pointOfNoReturn
  | entryTimeout
  | entryComplete
  | canWakePattern
  | wakeIn
  | powerReturnDone
  | sensorConversion (readings : List Int)
  | throttleStage2Check
  | thermalShutdown (sensor : Fin 9) (reading : Int)
  | thermalRestart
  | lifecycleRequestSealed (ch : Chan)
  | lifecycleRequestReturned (ch : Chan)
  | lifecycleRequestEnded (ch : Chan)
  | returnTokenWrite (ch : Chan) (data : List Byte)
  | timebaseGo (ch : Chan)
  | levelsGo (ch : Chan)
  | lengthGo (ch : Chan)
  | calibrationMeasurement (m : CalIn)
  | calibrationTimeout
  | selfTestGo (ch : Chan)
  | bayTestDone (p : PortId) (expected found : BitVec 64) (want done : BitVec 32)
  | recipeImageWrite (ch : Chan) (image : List Byte)
  | standardUp (p : PortId)
  | standardLinkFail (p : PortId) (cut : Option (Cls × Nat))
  | standardPcsFrame (p : PortId) (c : Cls) (bytes : List Byte) (errored : Bool) (at_ : Nat)
  | leaderSilence (p : PortId)
  | errorPassive (on : Bool)
  | vinFails (cut : Option FuseGroup)
  | crystalFrequencyCheckFail
  | tapInstructionLoad (i : TapInstr)
  | trstNLow
  deriving DecidableEq, Repr, Inhabited

end Sys2Proof
end

