-- ==== Sys2Proof/Decode.lean ====
section
/-! DEFINITION. Decode.lean: the commands that a word spells. Every row of spec/opcode_table.json has an empty
list of fields: the manual gives no row bits, so no word spells a command. What arrives as bits (a received
slot, an SDO frame) is decoded by the codec of Machine/LineCode.lean and by the SDO server. -/

namespace Sys2Proof

/-- The command a table word spells: none, since no row of the table gives bits. -/
def decodeTableWord (_nbits _w : Nat) : Option Instr := none

end Sys2Proof
end

