-- ==== Sys2Proof/Machine/Bytes.lean ====
section
/-! DEFINITION. Bytes.lean: numbers as bytes in either order: dictionary values travel least significant byte first
(R9), record arguments and digests most significant byte first (R323). -/

namespace Sys2Proof.Machine

/-- A value as n bytes, most significant first. -/
def beBytes : Nat → Nat → List Byte
  | 0, _ => []
  | n + 1, v => BitVec.ofNat 8 (v / 256 ^ n) :: beBytes n v

/-- A value as n bytes, least significant first (R9). -/
def leBytes : Nat → Nat → List Byte
  | 0, _ => []
  | n + 1, v => BitVec.ofNat 8 v :: leBytes n (v / 256)

/-- The value of bytes, most significant first. -/
def beVal (bs : List Byte) : Nat := bs.foldl (fun a b => 256 * a + b.toNat) 0

/-- The value of bytes, least significant first. -/
def leVal (bs : List Byte) : Nat := bs.foldr (fun b a => b.toNat + 256 * a) 0

/-- An integer as n bytes in two's complement, least significant first. -/
def leInt (n : Nat) (v : Int) : List Byte := leBytes n (v % (256 ^ n : Nat)).toNat

/-- The integer of bytes in two's complement, least significant first. -/
def leIntVal (bs : List Byte) : Int :=
  let v := leVal bs
  if 2 * v < 256 ^ bs.length then v else (v : Int) - (256 ^ bs.length : Nat)

/-- An integer as n bytes in two's complement, most significant first. -/
def beInt (n : Nat) (v : Int) : List Byte := beBytes n (v % ((256 ^ n : Nat) : Int)).toNat

end Sys2Proof.Machine
end

