-- ==== Sys2Proof/Config.lean ====
section
/-! DEFINITION. Config.lean: what one device fixes and the free values. A constant without a body is a value
the manual leaves open; nothing in Lean can evaluate it, so a claim about it holds whatever it is.
State.free counts the free values drawn so far (log entries 3 to 7, 11, 61 to 65, 86 and 92). -/

namespace Sys2Proof.Config

/-- Draws of the SP 800-90A DRBG (R110, R114, R254, R258, R299): the n-th draw, as a number; the user of a
draw keeps the bits it needs. Log entry 3. -/
opaque drbg : Nat → Nat

/-- SerialNumber (0x1018:04), set per device at MANUFACTURE. Log entry 4. -/
opaque serialNumber : BitVec 32

/-- The number from which the device's P-256 private key comes (R258); see `deviceKey`. Log entry 4. -/
opaque devicePrivateKey : Nat

/-- DeviceCertificate (0x5001:01), a DER certificate of at most 2048 bytes (R258). Log entry 4. -/
opaque deviceCertificate : List Byte

/-- Bank0Version as delivered (0x2700:02, "per device"). Log entry 4. -/
opaque bank0Version : BitVec 32

/-- Bank1Version as delivered (0x2700:03, "per device"). Log entry 4. -/
opaque bank1Version : BitVec 32

/-- Whether a value in 0.01 dB between two integers is reported as the upper one: the manual does not state the
rounding. The arguments are the ratio's numerator and denominator. Log entry 5. -/
opaque roundsUp : Nat → Nat → Bool

/-- Whether a word with this many wrong bits, four or more, decodes: the BCH (275,256) code corrects two and detects
three (R23), and the manual says nothing beyond. Log entry 65. -/
opaque bchBeyond : Nat → Bool

/-- One LSB of the 8-bit ADC in units of 2^−20 of the outermost launch level, less one; the manual gives no full
scale. Log entry 61. -/
opaque adcLsbMinusOne : Nat

/-- The cosine and the sine of 2π·k/n in units of 2^−20 as the engines hold them: the manual gives no number format of
the FFT (R51, R63). Log entry 62. -/
opaque twiddle : Nat → Nat → Int × Int

/-- The timing error in 2^−20 symbol intervals that a 64-symbol block's Mueller–Müller sum shows at a level spacing
(R42): the manual gives no detector gain. Log entry 63. -/
opaque timingError : Int → Int → Int

/-- R148: whether the line wake detector reports a tone of an amplitude (mV) and a duration (µs) that the manual neither
has it report nor has it ignore. Log entry 64. -/
opaque wakeReported : Nat → Nat → Bool

/-- How far the commit in flight had come where power or a reset cuts it short (R331, R332), the n-th time: not to word 0, to word 0, or to the
true mark; the user takes it modulo 3. Log entry 92. -/
opaque commitCut : Nat → Nat

/-- Whether a reported integer for a rational quantity whose rounding the manual does not state (the learned
coefficients of R235, the means of R392, the location of R239) is the upper of its two neighbours. Log entry 5. -/
opaque ceilTaken : Int → Nat → Bool

/-- A reported integer for a quotient by 0, which has no result. Log entry 5. -/
opaque rounded : Int → Nat → Int

/-- A measured number the manual defines but whose physical input no command carries (an engine's load, a
coefficient of the frequency-domain law): the n-th such value. Log entry 7. -/
opaque measured : Nat → Int

/-- R232: the weight, in units of 2^−20, of tap i of the 32-tap windowed-sinc interpolator at a bandwidth in MHz, for a point r/d of a
symbol behind its middle tap; the manual gives no window. Arguments: bandwidth, d, r, i. Log entry 86. -/
opaque sincWeight : Nat → Nat → Nat → Nat → Int

/-- R235: the reference between its samples, in units of 2^−40, at n + r/d samples; the manual gives no interpolation. Arguments: the
samples, n, r, d. Log entry 86. -/
opaque refBetween : List Int → Nat → Nat → Nat → Int

/-- R241, R247: a signature filtered to 1.8 GHz; the manual gives no filter. Log entry 86. -/
opaque filtered18 : List Int → List Int

/-- R236: a segment level in 0.01 dB where the segment's energy, or that of the reference, is 0 and has no logarithm. Log entry 86. -/
opaque levelOfNothing : Nat → Nat → Int

/-- The choice among n that a sieve draw makes (R223): the manual gives the draw, not its map to trytes, trits,
signs and start symbols. The user takes it modulo n. Log entry 11. -/
opaque sieveChoice : BitVec 32 → Nat → Nat

/-- R142: coefficients resampled from one mode's symbol rate to another's, by ActiveMode codes; the manual gives no
interpolation. Log entry 7. -/
opaque resampled : Nat → Nat → List Int → List Int

/-- R266, R268: a 10GBASE-R or 25GBASE-R frame starts in the second half of its block: the lane's deficit idle count
decides, which no command carries. Log entry 7. -/
opaque startColumn : Nat → Bool

end Sys2Proof.Config
end

