-- ==== Sys2Proof/Machine/State.lean ====
section
/-! DEFINITION. State.lean: everything the manual gives the KT850, as plain data, and the machine right after
reset. A structure's field defaults are the reset values: those of the object tables (R317) and, where the
manual gives none, those of log entry 1. Quantities are natural numbers or integers where the manual counts,
bit vectors where software reads a word bit by bit. -/

namespace Sys2Proof.Machine

/-! ## Stops -/

/-- The block raises no fault: an abort, a refusal or a failure of the device is an effect on its state
(an abort code, a record, a counter). The type has no constructor. -/
inductive Fault where
  deriving DecidableEq, Repr

/-- Why a command has no meaning in the model. -/
inductive Refusal where
  /-- Raised only by an arm of exec whose command has not been given its meaning; safe, since it stops. -/
  | notModelled (mnemonic : String)
  deriving DecidableEq, Repr

/-! ## Bringing a link up (chapter 05) -/

/-- StartupPhase (Table 5-11). -/
inductive Phase where
  | disabled | autoneg | q | e1 | e2 | a | x | s | f | up | asleep | standardUp
  deriving DecidableEq, Repr, Inhabited

/-- LastDownCause (Table 5-11) with the code R371 adds. -/
inductive DownCause where
  | none | uncorrectableRun | lockFrequency | lockSnr | refreshMissed | beaconFast | beaconFull
  | partnerAutoneg | hostRetrain | hostRestartAn | hostDisable | sleep | standardLinkFail | powerEntry
  deriving DecidableEq, Repr, Inhabited

/-- Failure reasons (Table 5-11). -/
inductive FailReason where
  | none | limit | noisy | noLock | echoResidual | snr | noPartner | echoChanged | preempted | noSnapshot | msFault
  deriving DecidableEq, Repr, Inhabited

/-- The relink Table 5-6 chooses. -/
inductive Relink where
  | fast | full | autoneg
  deriving DecidableEq, Repr, Inhabited

/-- How a link came up (LINK_UP argument, Table 13-4). -/
inductive HowUp where
  | fullTraining | fastRelink | fullRetrain | standard
  deriving DecidableEq, Repr, Inhabited

/-- ModeChangeStatus (Table 5-13). -/
inductive McStatus where
  | idle | requested | preparing | counting | done
  | refusedByPartner | noAnswer | noSnapshot | notOffered | thermal | abandonedLinkDown
  deriving DecidableEq, Repr, Inhabited

/-- A mode change in progress (R140 to R145). -/
inductive McRole where
  | none | requester | responder
  deriving DecidableEq, Repr, Inhabited

/-- Progress of a mode change. -/
structure ModeChange where
  role       : McRole := .none
  target     : EMode := .el50
  old        : EMode := .el50
  epoch      : BitVec 8 := 0
  requests   : Nat := 0
  prepared   : Bool := false
  accepted   : Bool := false
  /-- Countdown of this end's MARK shingles still to launch; none before it starts. -/
  marks      : Option Nat := none
  /-- Received boundaries until the partner's epoch, from any MARK decoded. -/
  rxMark     : Option Nat := none
  txPassed   : Bool := false
  rxPassed   : Bool := false
  /-- Roll-call epoch that asked for it, if one did. -/
  rollEpoch  : Option (BitVec 16) := none
  deriving DecidableEq, Repr, Inhabited

/-- Link state of one port (Tables 5-10 to 5-14 and the rules behind them). -/
structure Link where
  phase        : Phase := .disabled
  up           : Bool := false
  asleep       : Bool := false
  noCommonMode : Bool := false
  downCause    : DownCause := .none
  downProvoked : Bool := false
  failPhase    : Phase := .disabled
  failReason   : FailReason := .none
  lastUp       : Nat := 0
  lastDown     : Nat := 0
  /-- StartupCounters, elements 0 to 9. -/
  counters     : List Nat := List.replicate 10 0
  adminEnabled : Bool := true
  wakeForward  : BitVec 8 := 0
  linkPolicy   : BitVec 8 := 3
  modeMask     : BitVec 16 := 0x1F07
  leaderPolicy : BitVec 8 := 0
  withdrawn    : BitVec 16 := 0
  mode         : Option LineMode := none
  lineVersion  : BitVec 16 := 0xFFFF
  shVersion    : BitVec 16 := 0xFFFF
  target       : BitVec 8 := 0
  mcStatus     : McStatus := .idle
  epoch        : BitVec 8 := 0
  seed         : BitVec 12 := 0
  partnerLine  : BitVec 16 := 0xFFFF
  partnerSh    : BitVec 16 := 0xFFFF
  partnerModes : BitVec 16 := 0
  partnerAbil  : BitVec 8 := 0
  partnerHint  : BitVec 8 := 0
  /-- Timing role of R41. -/
  leader       : Bool := false
  /-- A configuration fault under AUTO: the next attempt does not force master (R114). -/
  msBackOff    : Bool := false
  /-- What the auto-negotiation in progress or the last one sent: offer, own seed, Clause 98 seed,
  forced role (some true: master), ability bits of W1 (R110, R114, R426). -/
  offer        : BitVec 16 := 0
  ownSeed      : BitVec 12 := 0
  clauseSeed   : Nat := 0
  forced       : Option Bool := none
  ownAbil      : BitVec 8 := 0
  /-- The base page set NP; the 48-bit next pages sent, in order (R110, Table 5-1). -/
  np           : Bool := false
  pagesSent    : List (BitVec 48) := []
  /-- R138: Etoon mode whose training failed last, and after how many auto-negotiations in a row. -/
  failMode     : Option EMode := none
  failCount    : Nat := 0
  /-- Training has failed since the last auto-negotiation began, so the next one is consecutive (R138). -/
  failedSinceAn : Bool := false
  /-- R132: the episode's start, whether a fast relink in it has failed. -/
  episode      : Option Nat := none
  fastFailed   : Bool := false
  /-- Link down declared and the relink not yet chosen (R128), and what bears on the choice (Table 5-6). -/
  choosing     : Bool := false
  wantFull     : Bool := false
  fullBeacon   : Bool := false
  /-- RESTART_AN_GO or Clause 98 pages came before the choice (R126, R127). -/
  wantAn       : Bool := false
  /-- LINK_DOWN of the latest link-down has been raised; the relink may still wait for the port's clocks (R345, R354). -/
  downTold     : Bool := false
  sigBadAtDown : Bool := false
  beaconMode   : Option EMode := none
  /-- The last choice came from the second row of Table 5-6 (R126). -/
  bySecondRow  : Bool := false
  /-- The relink in progress, if one is. -/
  relink       : Option Relink := none
  /-- Link-downs of the last second with their Etoon modes (R139). -/
  recentDowns  : List (Nat × EMode) := []
  /-- The last link-down was the 4th within 1 s in its mode (R139). -/
  flap         : Bool := false
  /-- A mode change that the link-down abandoned, whose record follows LINK_DOWN (OP-9). -/
  mcOwed       : Option ModeChange := none
  /-- The mode that RETRAIN_GO trains in, where TargetMode held one refused for want of a snapshot (R145). -/
  retrainMode  : Option EMode := none
  /-- Mode cap of a roll call on a port that was down (R211). -/
  cap          : Option LineMode := none
  /-- Last line mode in which the port was up (R211). -/
  lastMode     : Option LineMode := none
  /-- Sleep handshake (R147): waiting for R99, or request sent; tally time of SLEEP_GO. -/
  sleepWait    : Option Nat := none
  sleepSent    : Bool := false
  /-- The wake pulse is being sent, since this tally time (R148, R149). -/
  wakePulse    : Option Nat := none
  /-- A wake of this port arrived during a return to BOIL, which it waits for: remote, or local (R149, R373). -/
  wakeDue      : Option Bool := none
  /-- The port was up at entry to SIMMER or REST, and how it relinks on return (R372). -/
  upAtEntry    : Bool := false
  deriving DecidableEq, Repr, Inhabited

/-- Training progress of one port (R118 to R126, R133 to R135). -/
structure Train where
  /-- The sequences in use: full training or fast relink. -/
  use         : TrainUse := .full
  /-- Tally time at which the phase was entered, and at which its training began with Q (R121). -/
  since       : Nat := 0
  begun       : Nat := 0
  critMet     : Bool := false
  /-- Own READY periods sent whole since the criterion was met; none before the first. -/
  readySent   : Option Nat := none
  /-- Tally time at which the first own READY period of the phase began. -/
  readyAt     : Option Nat := none
  /-- Own period boundaries since entry to the phase. -/
  periods     : Nat := 0
  /-- Tally time at which the partner's last whole READY period began. -/
  partnerReadyAt : Option Nat := none
  /-- LOCKED as the follower heard the leader's first READY period of E1 (R120). -/
  lockedAtReady : Option Bool := none
  /-- Phase X has reached its limit: it ends at the next own period boundary (R119, R122). -/
  limitPassed : Bool := false
  /-- The snapshot of a fast relink has been reloaded (R133). -/
  reloaded    : Bool := false
  /-- A slot of the partner's has been collected in this attempt (R87, R122). -/
  rxStarted   : Bool := false
  candidate   : Bool := false
  /-- Correlation of the confirmed alignment in thousandths (R123). -/
  confirmed   : Option Nat := none
  /-- Tally time of the confirmation; pre-emption is open for one period (R125). -/
  confirmedAt : Nat := 0
  preOpen     : Bool := false
  goodRun     : Nat := 0
  synced      : Bool := false
  partnerSynced : Bool := false
  /-- The sequence launched for 4 periods before a restart at Q (R126). -/
  restartAfter : Nat := 0
  deriving DecidableEq, Repr, Inhabited

/-! ## Line, LPI and line-code counters (chapter 04) -/

/-- Control shingles this port may owe or launch (Table 6-4). -/
inductive Ctl where
  | idle (synced : Bool)
  | nak (entries : List (Cls × Seq × Nat))
  | lpiEntry | sleepRequest | lpiExit | sleepAck | sleepReject
  | beacon (full : Bool) (m : EMode)
  | request (m : EMode) (epoch : BitVec 8)
  | accept (m : EMode) (epoch : BitVec 8)
  | refuse (r : RefuseReason) (epoch : BitVec 8)
  | mark (k : Nat) (epoch : BitVec 8)
  deriving DecidableEq, Repr, Inhabited

/-- The transmitter's quiet state (R99 to R103). -/
inductive TxLpi where
  | active
  /-- The shingle before quiet is on the line; quiet begins at the next boundary (R100, R102). -/
  | entering
  | quiet
  | refresh (left : Nat)
  /-- IDLE shingles still to send before LPI_EXIT. -/
  | waking (left : Nat)
  deriving DecidableEq, Repr, Inhabited

/-- What a slot carried on the line. -/
structure Launched where
  slot     : Nat
  /-- none: a data shingle; otherwise the control argument e. -/
  control  : Option Nat
  cls      : Cls := 0
  seq      : Seq := 0
  header   : List Byte := []
  payload  : List Byte := []
  /-- The 720 PAM-9 levels on the line (R82), after the sieve. -/
  levels   : List Int := []
  dropped  : Bool := false
  corrupted : Bool := false
  deriving DecidableEq, Repr, Inhabited

/-- What a transmitter released to its replica engines (R53, R116, R148); oldest symbol first. -/
inductive Seg where
  | levels (l : List Int)
  /-- A training period of a training state, every level negated where READY (R118). -/
  | period (k : BitVec 58) (ready : Bool)
  /-- Level 0 for as many symbols (R101). -/
  | quiet (n : Nat)
  /-- As many periods of the wake pulse's square wave. -/
  | wave (n : Nat)
  /-- A segment whose symbols from one place up to another the sieve silences (R225). -/
  | muted (g : Seg) (a b : Nat)
  deriving DecidableEq, Repr, Inhabited

/-- The line driver (R147): on, at level 0 for its last slot before sleep, or off. -/
inductive Driver where
  | on | zero | off
  deriving DecidableEq, Repr, Inhabited

/-- Line state of one port. -/
structure Line where
  txSlot     : Nat := 0
  rxSlot     : Nat := 0
  /-- Slots launched while up; replay timers and NAK repeats count them (R169, R171). -/
  launches   : Nat := 0
  /-- What was released, newest first: the last 8 segments (R53); tally time at which the newest was. -/
  released   : List Seg := []
  releasedAt : Nat := 0
  driver     : Driver := .on
  txLpi      : TxLpi := .active
  wakeWanted : Bool := false
  /-- Partner quiet since its LPI_ENTRY (R104). -/
  partnerQuiet : Bool := false
  /-- Slots seen in the exempt wake window; none when closed. -/
  wakeWindow : Option Nat := none
  wakeDecoded : Bool := false
  /-- The partner's slot number where the wake window opened, to which a false wake returns (R104). -/
  wakeSlot   : Nat := 0
  /-- Slots left in the exemption of a receive epoch (R144). -/
  epochExempt : Nat := 0
  /-- Consecutive non-exempt uncorrectable slots (R97). -/
  badRun     : Nat := 0
  /-- Uncorrectable slots in the running 100 ms window (R140). -/
  bad100     : Nat := 0
  /-- Control shingles that an active sequence demands, oldest first (R170 step 1). -/
  owed       : List Ctl := []
  last       : Option Launched := none
  /-- Bursts of the probe sequence launched by the last probe (R240, R241). -/
  bursts     : Nat := 0
  /-- The last frame handed to the standard PCS (R269). -/
  lastStd    : Option (Cls × List Byte) := none
  deriving DecidableEq, Repr, Inhabited

/-- Counters 0x3n70 (Tables 4-7 and 6-11). -/
structure Counters where
  sent        : Nat := 0
  received    : Nat := 0
  corrected   : Nat := 0
  rsFailures  : Nat := 0
  escapes     : Nat := 0
  crcFailures : Nat := 0
  histogram   : List Nat := List.replicate 9 0
  quietEntries : Nat := 0
  falseWakes  : Nat := 0
  refreshMissed : Nat := 0
  exempt      : Nat := 0
  framesIn    : List Nat := List.replicate 4 0
  framesOut   : List Nat := List.replicate 4 0
  replays     : List Nat := List.replicate 4 0
  withdrawals : List Nat := List.replicate 4 0
  pfcSent     : List Nat := List.replicate 2 0
  duplicates  : List Nat := List.replicate 4 0
  outOfWindow : Nat := 0
  reorderDiscards : Nat := 0
  ackInvalid  : Nat := 0
  tagErrors   : Nat := 0
  erroredIn   : Nat := 0
  deriving DecidableEq, Repr, Inhabited

/-! ## Shingle layer (chapter 06) -/

/-- ShingleConfig, ClassMap and HoldPolicy of one port (Tables 6-8 to 6-10). -/
structure ShCfg where
  maxFrame    : Nat := 9216
  replayTimer : Nat := 50
  pfcEnable   : BitVec 8 := 0
  pfcXoff     : Nat := 3072
  pfcXon      : Nat := 2048
  pfcQuanta   : Nat := 0xFFFF
  pfcSource   : BitVec 64 := 0
  pcpClass    : List Cls := [2, 3, 3, 2, 2, 1, 1, 0]
  defaultClass : Cls := 2
  /-- true: DROP_NEWEST. -/
  policy      : List Bool := [false, false, true, true]
  quota       : List Nat := [4096, 4096, 4096, 4096]
  deriving DecidableEq, Repr, Inhabited

/-- Causes of the loss ledger (Table 7-1). -/
inductive LossCause where
  | ingressFull | oversize | withdrawn | tagError | restartDiscard | restartUncertain | restartMissing
  | deliveryCut | standardLine
  deriving DecidableEq, Repr, Inhabited

/-- A loss the sender knows, carried by a loss tag (Table 6-3) with the tally time of its first frame. -/
structure TxLoss where
  cause    : LossCause
  frames   : Nat
  bytes    : Nat
  tally    : Nat
  provoked : Bool := false
  deriving DecidableEq, Repr, Inhabited

/-- One payload of the holding store (R172). -/
structure Payload where
  /-- The bytes written so far. -/
  bytes    : List Byte := []
  /-- Offset of the first tag that begins in it, in bytes. -/
  firstTag : Option Nat := none
  /-- Frames whose tag lies in it, and the bytes of those frames. -/
  frames   : Nat := 0
  fbytes   : Nat := 0
  /-- Loss tags that begin in it, with their offsets. -/
  losses   : List (Nat × TxLoss) := []
  /-- SenderResidence words: byte offset and ingress instant in 2^−4 ns (R272). -/
  stamps   : List (Nat × Nat) := []
  /-- It holds bytes of a frame still arriving. -/
  held     : Bool := false
  provoked : Bool := false
  deriving DecidableEq, Repr, Inhabited

/-- A launched, unacknowledged shingle (R165, R171). -/
structure LaunchedSh where
  seq        : Seq
  pay        : Payload
  /-- The gap shingle that stands for a withdrawn payload or a merged record (R175). -/
  gap        : Bool := false
  /-- Holds a holding-store slot: false once withdrawn, and for a gap record. -/
  slotHeld   : Bool := true
  /-- Value of Line.launches at the last launch, and at the last replay. -/
  lastLaunch : Nat
  lastReplay : Option Nat := none
  due        : Bool := false
  provoked   : Bool := false
  /-- Held back by a swap: numbered and not yet on the line (R224); past a link-down, so that it goes out as a replay. -/
  unsent     : Bool := false
  parted     : Bool := false
  /-- Instant of the first launch, for the transmit MDI timestamp (R191). -/
  firstAt    : Nat := 0
  deriving DecidableEq, Repr, Inhabited

/-- A whole frame in the rate-adaptation store of a standard mode (R269). -/
structure StdFrame where
  bytes    : List Byte
  at_      : Nat
  errored  : Bool := false
  markOn   : Bool := false
  mask     : BitVec 8 := 0
  deriving DecidableEq, Repr, Inhabited

/-- The transmit side of one class. -/
structure TxCls where
  next     : Seq := 0
  launched : List LaunchedSh := []
  closed   : List Payload := []
  openP    : Option Payload := none
  /-- Merged record of withdrawn CLOSED payloads awaiting its number (R175). -/
  gapRec   : Option TxLoss := none
  /-- Loss tags owed (R156, R174). -/
  owedLoss : List TxLoss := []
  /-- Whole frames of a standard mode. -/
  std      : List StdFrame := []
  deriving DecidableEq, Repr, Inhabited

/-- A frame on its way to the host, with what its delivery needs. -/
structure RxFrame where
  bytes    : List Byte
  errored  : Bool := false
  provoked : Bool := false
  /-- SenderResidence word of a PTP_EVENT frame. -/
  ptp      : Option (BitVec 32) := none
  /-- Arrival instant of the taken launch of the shingle that carries the first byte, in 2^−4 ns, and of the one that carries the tag with its
  SenderResidence word (R273). -/
  arrived  : Nat := 0
  tagAt    : Nat := 0
  /-- Arrival instant at the line ball of a standard-mode frame's first bit (R275). -/
  std      : Bool := false
  /-- Receive MDI timestamp (R191). -/
  mdi      : Nat := 0
  /-- Reorder-buffer slots its payloads hold (identifiers). -/
  slots    : List Nat := []
  deriving DecidableEq, Repr, Inhabited

/-- A loss waiting to pass (R178). -/
structure RxLoss where
  cause    : LossCause
  seqFirst : Seq := 0
  seqCount : Nat := 1
  frames   : Nat := 0
  bytes    : Nat := 0
  unknown  : Bool := false
  estimated : Bool := false
  provoked : Bool := false
  deriving DecidableEq, Repr, Inhabited

/-- What waits toward the host in one class, in delivery order. -/
inductive RxItem where
  | frame (f : RxFrame)
  | loss (l : RxLoss)
  deriving DecidableEq, Repr, Inhabited

/-- A shingle held out of order. -/
structure HeldSh where
  seq     : Seq
  hdr     : ShHdr
  payload : List Byte
  at_     : Nat
  deriving DecidableEq, Repr, Inhabited

/-- A frame or tag body that continues into the class's next payload. -/
structure Partial where
  /-- true: the 8-byte body of a loss tag; otherwise a frame. -/
  lossBody : Bool := false
  want     : Nat
  got      : List Byte
  errored  : Bool := false
  provoked : Bool := false
  ptp      : Option (BitVec 32) := none
  /-- Arrival instants of the shingle with the first byte (R191) and of the one with the tag (R273); the tag's number (R178). -/
  arrived  : Nat := 0
  tagAt    : Nat := 0
  seq      : Seq := 0
  slots    : List Nat := []
  deriving DecidableEq, Repr, Inhabited

/-- The receive side of one class. -/
structure RxCls where
  next     : Seq := 0
  held     : List HeldSh := []
  /-- The highest number decoded beyond next expected, held or discarded for want of a slot (R169). -/
  later    : Option Seq := none
  /-- Missing numbers already NAKed, with Line.launches at the NAK (R169). -/
  naked    : List (Seq × Nat) := []
  ready    : List RxItem := []
  unfinished : Option Partial := none
  /-- Bytes ahead of FirstTag are discarded into a loss (R178): the ledger entry it has, or 0 while it waits to pass. -/
  skipping : Bool := false
  skipEntry : Nat := 0
  /-- Line.launches when next expected last changed unreported; none when reported (R153). -/
  changedAt : Option Nat := none
  reportedAt : Nat := 0
  /-- Reorder-buffer slots held by payloads already taken, by identifier. -/
  taken    : List Nat := []
  /-- Those of them in the four slots held back for the class's next expected shingle (R179). -/
  own      : List Nat := []
  /-- Receive MDI timestamp of the frame delivered before. -/
  lastMdi  : Nat := 0
  deriving DecidableEq, Repr, Inhabited

/-- A frame arriving on HRXn (R156, R265). -/
structure Arriving where
  /-- Ingress instant in 2^−4 ns. -/
  at_      : Nat := 0
  /-- The bytes that arrived; none are kept once the frame is known to be discarded. -/
  bytes    : List Byte := []
  /-- Bytes received on the lane, packed or not. -/
  total    : Nat := 0
  errored  : Bool := false
  provoked : Bool := false
  /-- Settings in force at the first byte (R160, Tables 6-8 and 10-4). -/
  maxLen   : Nat := 9216
  pcpClass : List Cls := []
  dfltClass : Cls := 2
  markOn   : Bool := false
  mask     : BitVec 8 := 0
  /-- The class, once the frame is being packed. -/
  cls      : Option Cls := none
  /-- A SenderResidence word follows the tag (R157). -/
  ptpMark  : Bool := false
  /-- Where the tag is reserved: payloads of the class behind the tag's payload, and the offset in it. -/
  tagSpan  : Nat := 0
  tagAt    : Nat := 0
  /-- Where the packing of this frame and of the loss tags ahead of it began, and those loss tags (R174). -/
  cutSpan  : Nat := 0
  cutAt    : Nat := 0
  ahead    : List TxLoss := []
  /-- Discarded: oversize, no slot, or cut by an auto-negotiation (R156, R174, R204). -/
  oversize : Bool := false
  dropped  : Bool := false
  cut      : Bool := false
  deriving DecidableEq, Repr, Inhabited

/-! ## Loss ledger (chapter 07) -/

/-- A ledger entry (Table 7-2). -/
structure LedgerEntry where
  number    : Nat
  receive   : Bool
  provoked  : Bool
  estimated : Bool
  unknown   : Bool
  cls       : Cls
  cause     : LossCause
  seqFirst  : Seq
  seqCount  : Nat
  frames    : Nat
  bytes     : Nat
  first     : Nat
  last      : Nat
  deriving DecidableEq, Repr, Inhabited

/-- One part of a port's ledger: a ring of 1024 entries, newest first. -/
structure LedgerPart where
  newest      : Nat := 0
  entries     : List LedgerEntry := []
  overwritten : Nat := 0
  frames      : List Nat := List.replicate 4 0
  bytes       : List Nat := List.replicate 4 0
  deriving DecidableEq, Repr, Inhabited

/-- LossLedger 0x3n30. -/
structure Ledger where
  tx     : LedgerPart := {}
  rx     : LedgerPart := {}
  /-- EntrySelect0 to EntrySelect3. -/
  select : List (BitVec 32) := List.replicate 4 1
  deriving DecidableEq, Repr, Inhabited

/-! ## Host lane and timestamps (chapter 10) -/

/-- Lane modes of Table 10-1. -/
inductive LaneMode where
  | r50 | r25 | r10 | x1000
  deriving DecidableEq, Repr, Inhabited

/-- What the KT850 last put on HTXn. -/
inductive HtxItem where
  | pfc (c : Cls) (time : Nat) (bytes : List Byte)
  | frame (c : Cls) (bytes : List Byte) (errored : Bool)
  | lossNotice (bytes : List Byte)
  | sealFrame (bytes : List Byte)
  deriving DecidableEq, Repr, Inhabited

/-- HostLaneMode 0x3n60 and the lane behind it. -/
structure HostLane where
  select    : BitVec 8 := 0
  options   : BitVec 8 := 9
  /-- LaneOptions bits 0 and 3 in force (applied at a lane-mode change). -/
  optionsInUse : BitVec 8 := 9
  active    : Option LaneMode := none
  /-- A resolved lane mode that waits for a frame boundary on HTXn (R262). -/
  pendingMode : Option LaneMode := none
  up        : Bool := false
  lock      : Bool := false
  hiBer     : Bool := false
  fecAligned : Bool := false
  rxLpi     : Bool := false
  lpiPolicy : BitVec 8 := 4
  idleTime  : Nat := 10
  /-- No frame has begun for HostIdleTime (R276); tally time at which the last one began. -/
  idleHeld  : Bool := false
  begunAt   : Nat := 0
  counters  : List Nat := List.replicate 6 0
  arriving  : Option Arriving := none
  /-- Bytes that a new start discarded so far count in the frame that ends; none otherwise. -/
  started   : Bool := false
  /-- A delivery in progress on HTXn: its class and frame. -/
  busy      : Option HtxItem := none
  busyCls   : Cls := 0
  /-- Start of the window and leaf index of the frame in delivery, where it is sealed. -/
  busyLeaf  : Option (Nat × Nat) := none
  /-- Priority flow control: classes 2 and 3 paused (R180), frames owed (class, release). -/
  paused    : List Bool := [false, false]
  pfcOwed   : List (Cls × Bool) := []
  /-- Tally times at which the last pause frames of classes 2 and 3 began. -/
  pausedAt  : List Nat := [0, 0]
  lastOut   : Option HtxItem := none
  /-- The last delivery was cut (R183). -/
  cutLast   : Bool := false
  /-- An item has gone out on HTXn since the partner's LPI_ENTRY, so the LPI signalled for its quiet period has ended (R277). -/
  mirrorOver : Bool := false
  deriving DecidableEq, Repr, Inhabited

/-- PtpConfig 0x3n80. -/
structure Ptp where
  enable   : BitVec 8 := 3
  mask     : BitVec 8 := 0x0F
  trim     : Int := 0
  counters : List Nat := List.replicate 5 0
  lastResidence : BitVec 32 := 0
  deriving DecidableEq, Repr, Inhabited

/-! ## DSP (chapter 03) -/

/-- A neighbour's crosstalk canceller in this bay. -/
inductive Join where
  | none | joining | cancelling
  deriving DecidableEq, Repr, Inhabited

/-- A coefficient snapshot (R68). -/
structure Snapshot where
  tally : Nat
  valid : Bool := true
  /-- Wrong bits in each of its 256-bit words that holds any (R23). -/
  errs  : List Nat := []
  ffe   : List Int := []
  dfe   : List Int := []
  d     : Int := 0
  ne    : List Int := []
  far   : List Int := []
  trims : List Int := []
  xtalk : List (Nat × List Int) := []
  loopPhase : Int := 0
  loopInteg : Int := 0
  deriving DecidableEq, Repr, Inhabited

/-- A bay's coefficient store (Table 3-7): two slots per Etoon mode, newest first, and the directory's seed
and saved sequence state (R115, R372). -/
structure CoefStore where
  el50 : List Snapshot := []
  el25 : List Snapshot := []
  el10 : List Snapshot := []
  seed : BitVec 12 := 0
  savedTx : List Seq := []
  savedRx : List Seq := []
  deriving DecidableEq, Repr, Inhabited

/-- A frequency-domain canceller (R51, R58, R63): 2B complex coefficients a partition, in units of 2^−20 of the outermost
level; an absent partition or bin is 0. -/
structure Fdaf where
  w    : List (List (Int × Int)) := []
  /-- P(f), the smoothed input power at each bin, in units of 2^−20. -/
  pow  : List Int := []
  /-- The partition whose gradient is constrained next. -/
  turn : Nat := 0
  deriving DecidableEq, Repr, Inhabited

/-- The running signals of the receive chain (Table 3-1), newest sample first. -/
structure Chain where
  /-- The sub-ADC whose turn it is (R45). -/
  turn  : Nat := 0
  /-- Place of the next sample in the running block of R63. -/
  blk   : Nat := 0
  raws  : List Int := []
  /-- Cleaned samples, in units of 2^−42 of the outermost launch level (R40). -/
  clean : List Int := []
  /-- Decided levels (R47, R48). -/
  dec   : List Int := []
  /-- Slicer errors in units of 2^−62 whose updates are pending or discarded (0) (R65). -/
  err   : List Int := []
  /-- Slicer errors of the last 4096 symbols in which the partner was meant to transmit (R43). -/
  meas  : List Int := []
  /-- The far-echo replica and the sum of the crosstalk replicas for what is left of the running block. -/
  far   : List Int := []
  xtalk : List Int := []
  /-- The Mueller–Müller sum of the running 64-symbol block, its symbols, and the slicer input before (R42). -/
  mm    : Int := 0
  mmLen : Nat := 0
  mmIn  : Int := 0
  /-- Consecutive 64-symbol blocks with the frequency estimate outside ±0.035 % (R43). -/
  outside : Nat := 0
  deriving DecidableEq, Repr, Inhabited

/-- DspState 0x3n40 and HarnessGroup 0x3n41 of one port; coefficients in units of 2^−20. -/
structure Dsp where
  locked    : Bool := false
  adapting  : Bool := false
  tapAtLimit : Bool := false
  xtalkReduced : Bool := false
  snapRefused : Bool := false
  hold      : Bool := false
  snapGo    : Bool := false
  freq      : Int := 0
  snr       : Nat := 0
  near      : Int := 0
  far       : Int := 0
  xtalk     : Int := 0
  freezeCount : Nat := 0
  joinRetries : Nat := 0
  ffe       : List Int := List.replicate 6 0 ++ [1048576] ++ List.replicate 25 0
  dfe       : List Int := [0, 0, 0]
  d         : Int := 0
  ne        : List Int := List.replicate 192 0
  farEcho   : Fdaf := {}
  /-- Offset of sub-ADC j at j, gain at 64 + j, skew at 128 + j (R45). -/
  trims     : List Int := List.replicate 192 0
  /-- Per port, its crosstalk canceller (R58). -/
  xtalks    : List Fdaf := List.replicate 8 {}
  /-- The timing loop (R42), in units of 2^−32 symbol intervals; the integrator is the advance per 64-symbol block. -/
  loopPhase : Int := 0
  loopInteg : Int := 0
  chain     : Chain := {}
  joins     : List Join := List.replicate 8 .none
  /-- Tally time at which each join last started from zero (R59). -/
  joinSince : List Nat := List.replicate 8 0
  neighbours : BitVec 8 := 0
  /-- The mask in force from the last shingle boundary (R55, Table 3-13). -/
  neighboursInUse : BitVec 8 := 0
  nearest   : BitVec 8 := 0xFF
  /-- The nearest neighbour that stage 1 chose (R61). -/
  nearestInUse : Option PortId := none
  /-- The eligible neighbour of greatest coupling as stage 1 began (R61, R77). -/
  nearestCoupled : Option PortId := none
  couplings : List Int := List.replicate 8 (-32768)
  /-- The shingle whose updates are pending was uncorrectable or corrected more than 6 trytes (R65). -/
  lastBad   : Bool := false
  /-- The running snapshot window: LOCKED throughout, no uncorrectable slot, whole (R69, R75). -/
  winLocked : Bool := false
  winClean  : Bool := true
  winWhole  : Bool := false
  /-- The whole milliseconds of tally time at which the running window began (R69). -/
  winIndex  : Nat := 0
  /-- A snapshot was taken since link up (R234). -/
  snapSinceUp : Bool := false
  deriving DecidableEq, Repr, Inhabited

/-! ## Signature and seal (chapter 09) -/

/-- A signature block (Table 9-5). -/
structure SigBlock where
  slot    : RefSlot := .line
  mode    : BitVec 8 := 0
  last    : Nat := 0
  tRef    : Int := 0
  tally   : Nat := 0
  civil   : Nat := 0
  scale   : Nat := 500000
  samples : List Int := []
  deriving DecidableEq, Repr, Inhabited

/-- A reference slot with its two copies (R244, R247). -/
structure RefCopies where
  active  : Option SigBlock := none
  other   : Option SigBlock := none
  /-- Wrong bits in each 256-bit word of the active and of the other copy that holds any, as last read (R23). -/
  activeErrs : List Nat := []
  otherErrs  : List Nat := []
  deriving DecidableEq, Repr, Inhabited

/-- Level (Table 9-3). -/
inductive SigLevel where
  | normal | anomaly | tamper
  deriving DecidableEq, Repr, Inhabited

/-- Activity (Table 9-3). -/
inductive SigActivity where
  | active | suspendedDown | suspendedStandard | suspendedInterrupt | warming | noReference
  deriving DecidableEq, Repr, Inhabited

/-- Outcomes of a capture (CaptureResult, Table 9-3). -/
inductive CapResult where
  | none | pending | storedNew | storedRebaseline | notUp | notQuiet | fusesExhausted | fuseFailed | sessionEnded
  deriving DecidableEq, Repr, Inhabited

/-- SignatureStatus 0x3n50 to SignatureCurrent 0x3n52 of one port. -/
structure Sig where
  level    : SigLevel := .normal
  reason   : BitVec 8 := 0
  worst    : BitVec 8 := 0xFF
  worstLevel : Int := -32768
  location : BitVec 32 := 0xFFFFFFFF
  overCount     : Nat := 0
  thresholds : BitVec 32 := 0xF448F830
  /-- β, γ, b1, g1 in the units of 0x3n50:09. -/
  beta     : Int := 0
  gamma    : Int := 0
  b1       : Int := 10000
  g1       : Int := -200
  lineRes  : CapResult := .none
  probeRes : CapResult := .none
  /-- Channels whose session a pending capture runs under, and its start. -/
  lineCap  : Option (Chan × Nat) := none
  probeCap : Option (Chan × Nat) := none
  counters : List Nat := List.replicate 5 0
  lineRef  : RefCopies := {}
  probeRef : RefCopies := {}
  lineCur  : Option SigBlock := none
  probeCur : Option SigBlock := none
  segLevels : List (Nat × Int) := []
  /-- Consecutive comparisons over ANOMALY and over TAMPER, with the last one's segments (R238). -/
  anomRun  : Nat := 0
  anomSegs : List Nat := []
  tampRun  : Nat := 0
  tampSegs : List Nat := []
  cleanRun : Nat := 0
  /-- The running 100 ms window is to be skipped (R234). -/
  skip     : Bool := false
  /-- The port was up in an Etoon mode at some time in the running window (R234). -/
  wasUp    : Bool := false
  /-- Readings of the echo taps taken in the running window, and their sums (R232). -/
  readings : Nat := 0
  readSum  : List Int := []
  /-- Suspended by a sieve interruption until the next link up (R229). -/
  interrupted : Bool := false
  /-- Probes still to run in BOIL after an anomalous probe (R242). -/
  probesLeft : Nat := 0
  deriving DecidableEq, Repr, Inhabited

/-- An open or ended seal window (R248, R254). -/
structure SealWindow where
  number   : Nat := 0
  start    : Nat := 0
  length   : Nat := 100
  finish   : Nat := 0
  civil    : Nat := 0
  leaves   : List (List Byte) := []
  gaps     : Nat := 0
  unhashed : List Nat := []
  provoked : Bool := false
  chainStart : Bool := false
  cut      : Bool := false
  onRc     : Bool := false
  /-- The root is computed and its ANCHOR record waits in the commit queue (R254). -/
  awaiting : Bool := false
  root     : List Byte := []
  deriving DecidableEq, Repr, Inhabited

/-- A frame in a port's staging latch array: the start of its window, its length and the quarter blocks of SHA-256 work left. -/
structure HashJob where
  port     : PortId
  window   : Nat
  len      : Nat
  quarters : Nat
  deriving DecidableEq, Repr, Inhabited

/-- SealConfig 0x3n90 and the chain of one port. -/
structure Seal where
  enable   : Bool := false
  length   : Nat := 100
  dest     : BitVec 64 := 0x0000FFFFFFFFFFFF
  source   : BitVec 64 := 0x0000020000000000
  counters : List Nat := List.replicate 6 0
  current  : Nat := 0
  /-- T0 of a chain that has been enabled and not started. -/
  t0       : Option Nat := none
  window   : Option SealWindow := none
  /-- Ended windows awaiting their root, oldest first. -/
  ended    : List SealWindow := []
  /-- Digest of the chain's previous seal frame. -/
  prev     : List Byte := List.replicate 32 0
  /-- Loss notices owed, and signed seal frames that wait with how many notices precede them. -/
  notices  : List (List Byte) := []
  frames   : List (List Byte) := []
  /-- The seal was disabled while a frame is in delivery; the window is cut at its end (Table 9-12). -/
  cutDue   : Bool := false
  /-- WindowEnd of the window the previous anchor covers (R257). -/
  anchorEnd : Option Nat := none
  deriving DecidableEq, Repr, Inhabited

/-! ## Sieve (chapter 08) -/

/-- SievePort 0x251n and its running state. -/
structure SievePort where
  arm        : BitVec 8 := 0
  lineSelect : BitVec 8 := 0x0F
  dropMode   : BitVec 8 := 0
  dropArg    : BitVec 32 := 1
  corruptMode : BitVec 8 := 0
  corruptArg : BitVec 16 := 0x0101
  maxDistance : Nat := 1
  swapInterval : Nat := 1000
  intLength  : Nat := 20000
  intSides   : BitVec 8 := 3
  hostInterval : Nat := 1000000
  seed       : BitVec 32 := 1
  counters   : List Nat := List.replicate 7 0
  lfsr       : BitVec 32 := 1
  /-- Settings in force since their kind was armed: DropMode, DropArgument left, eligible slots seen, LineSelect. -/
  dMode      : BitVec 8 := 0
  dArg       : BitVec 32 := 1
  dSeen      : Nat := 0
  dSelect    : BitVec 8 := 0x0F
  cSelect    : BitVec 8 := 0x0F
  cMode      : BitVec 8 := 0
  cArg       : BitVec 16 := 0x0101
  cSeen      : Nat := 0
  sDist      : Nat := 1
  sInterval  : Nat := 1000
  sCount     : Nat := 0
  /-- A shingle held back for a swap: its class, its number and Line.launches at its intended slot (R224). -/
  swapOut    : Option (Cls × Seq × Nat) := none
  hInInterval  : Nat := 1000000
  hOutInterval : Nat := 1000000
  iSides     : BitVec 8 := 3
  iLength    : Nat := 20000
  /-- INTERRUPT armed and waiting for its boundary; an interruption lasts. -/
  intWaiting : Bool := false
  interrupting : Bool := false
  /-- Kinds in force; Arm as written can run ahead of it until the next boundary (R217). -/
  live       : BitVec 8 := 0
  /-- Disarms that wait for the port's next boundary: kinds and cause (SIEVE_DISARMED bytes 1 and 2). -/
  disarms    : List (BitVec 8 × BitVec 8) := []
  /-- Kinds armed anew while their disarm waits: they stay in force when it is made. -/
  rearmed    : BitVec 8 := 0
  /-- Tally time at which the interruption began, and at which the HOST_IN and HOST_OUT counts of blocks began (R225, R226). -/
  intSince   : Nat := 0
  hostInAt   : Nat := 0
  hostOutAt  : Nat := 0
  /-- A HOST_OUT corruption met a seal frame and moves to the first block after it (R226). -/
  hostOutDue : Bool := false
  /-- Provocation episode: tally time of the last provoked act (R227). -/
  episode    : Option Nat := none
  deriving DecidableEq, Repr, Inhabited

/-! ## One port -/

/-- Everything a port and its bay hold. -/
structure Port where
  link   : Link := {}
  train  : Train := {}
  mc     : ModeChange := {}
  line   : Line := {}
  cnt    : Counters := {}
  cfg    : ShCfg := {}
  tx     : Vector TxCls 4 := Vector.replicate 4 {}
  rx     : Vector RxCls 4 := Vector.replicate 4 {}
  /-- Next identifier of a reorder-buffer slot. -/
  slotId : Nat := 0
  led    : Ledger := {}
  host   : HostLane := {}
  ptp    : Ptp := {}
  dsp    : Dsp := {}
  store  : CoefStore := {}
  /-- The 4-bit level codes that the bay has placed on the gutter, newest slot first (R13). -/
  gutter : List (List (BitVec 4)) := []
  sig    : Sig := {}
  sealing : Seal := {}
  sieve  : SievePort := {}
  deriving DecidableEq, Repr, Inhabited

/-! ## The dictionary server (chapter 11) -/

/-- NMT state, with the time before boot-up. -/
inductive Nmt where
  | initialising | preOperational | operational | stopped
  deriving DecidableEq, Repr, Inhabited

/-- Session roles (R296). -/
inductive Role where
  | workshop | maker
  deriving DecidableEq, Repr, Inhabited

/-- An open session (R301). -/
structure Session where
  role   : Role
  expiry : Nat
  keyId  : List Byte
  deriving DecidableEq, Repr, Inhabited

/-- The transfer a channel has open (R288 to R292). -/
inductive Xfer where
  | none
  | segDown (index : BitVec 16) (sub : Byte) (size : Option Nat) (got : List Byte) (toggle : Bool)
  | segUp (index : BitVec 16) (sub : Byte) (left : List Byte) (toggle : Bool)
  | blkDown (index : BitVec 16) (sub : Byte) (size : Option Nat) (crc : Bool) (got : List Byte) (next : Nat) (last : Bool)
  | blkUp (index : BitVec 16) (sub : Byte) (all : List Byte) (sent : Nat) (blk : Nat) (started : Bool) (inFlight : Nat)
      (crc : Bool)
  | wideDown (index : BitVec 16) (sub : Byte) (size : Nat) (got : List Byte) (toggle : Bool)
  /-- `last`: the toggle of the last segment sent; none after the initiate response. -/
  | wideUp (index : BitVec 16) (sub : Byte) (left : List Byte) (last : Option Bool)
  deriving DecidableEq, Repr, Inhabited

/-- What the last request on a channel answered. -/
inductive Resp where
  | none
  | ok
  | data (d : List Byte)
  | abort (code : BitVec 32)
  deriving DecidableEq, Repr, Inhabited

/-- One SDO server channel. -/
structure Channel where
  profile  : BitVec 16 := 0x0100
  xfer     : Xfer := .none
  session  : Option Session := none
  nonce    : Option (List Byte × Nat) := none
  busy     : Bool := false
  counters : List Nat := List.replicate 8 0
  /-- R309: tally times of the refusal records that a window of 1 s up to now may hold, oldest first; suppressed since the last record. -/
  refTimes : List Nat := []
  refCarried : Nat := 0
  /-- R288: tally time of the last frame of the open transfer. -/
  heardAt  : Nat := 0
  recordSelect : BitVec 32 := 0
  emcyThreshold : BitVec 8 := 4
  configLock : Option (BitVec 8) := none
  keepAwake : BitVec 8 := 0
  resp     : Resp := .none
  deriving DecidableEq, Repr, Inhabited

/-- A frame the KT850 sends on the CAN bus. -/
structure CanOut where
  id   : BitVec 11
  fd   : Bool := false
  data : List Byte
  deriving DecidableEq, Repr, Inhabited

/-- An EMCY message that waits (R310, R311). -/
structure Emcy where
  code : BitVec 16
  err  : Byte
  mask : Byte
  info : BitVec 32
  deriving DecidableEq, Repr, Inhabited

/-- The CAN stack. -/
structure Can where
  nmt       : Nmt := .initialising
  node      : BitVec 8 := 0x47
  heartbeat : Nat := 100
  /-- COB-IDs of channels 1 to 3 as stored in MRAM (client to server, server to client), and in use. -/
  cobs      : List (BitVec 32) := []
  cobsInUse : List (BitVec 32) := []
  arbRate   : Nat := 500
  dataRate  : Nat := 2000
  inUse     : Nat × Nat := (500, 2000)
  before    : Nat × Nat := (500, 2000)
  /-- Tally time at which new rates were taken up, while the 2 s of R281 run. -/
  ratesSince : Option Nat := none
  goodFrame : Bool := false
  errorPassive : Bool := false
  emcy      : List Emcy := []
  emcySent  : Nat := 0
  emcyDropped : Nat := 0
  /-- Messages dropped since the last 0xFFFE and the channels they marked. -/
  dropped   : Nat := 0
  droppedMask : Byte := 0
  busOffs   : Nat := 0
  owners    : BitVec 16 := 0
  bindingCount : Nat := 0
  lastBinding : Nat := 0
  /-- Frames sent by the last command that sent any. -/
  out       : List CanOut := []
  deriving DecidableEq, Repr, Inhabited

/-- A write that the always-on domain has still to apply (R306). -/
inductive Posted where
  | civil (ch : Chan) (role : Byte) (step : Int)
  | simmerPeriod (ch : Chan) (v : Nat)
  | probeEnable (ch : Chan) (v : Bool)
  | retention (ch : Chan) (v : BitVec 8)
  deriving DecidableEq, Repr, Inhabited

/-! ## Always-on domain (R335 to R340, R364) -/

/-- The always-on domain's time and kept state. -/
structure Aon where
  /-- Tally time in ns, and the fraction in 10^−6 ns. -/
  tally      : Nat := 0
  frac       : Nat := 0
  onRc       : Bool := true
  offset     : Int := 0
  civilStale : Bool := true
  allowance  : Nat := 2000000
  /-- Allowance after the steps accepted and not yet applied (R339). -/
  allowanceHeld : Nat := 2000000
  lastStep   : Nat := 0
  /-- The 24 h window that the allowance belongs to. -/
  dayWindow  : Nat := 0
  posted     : List Posted := []
  /-- Tally time at which AuthLockout ends. -/
  lockout    : Nat := 0
  authRun    : Nat := 0
  /-- Tally times of the START records of thermal restarts (R383). -/
  restarts   : List Nat := []
  lostEvents : Nat := 0
  /-- VIN failed: the count of lost events is unknown (R332). -/
  lostUnknown : Bool := false
  /-- Sessions open at the reset, by channel (R301). -/
  openAtReset : List (Chan × Role) := []
  /-- WITNESS_LOST since this tally time; last recovery attempt. -/
  witnessLost : Option Nat := none
  lastAttempt : Nat := 0
  /-- DropTally when WITNESS_LOST was entered, less what a clear has since taken from it (R334, R342). -/
  dropAtEntry : List Int := List.replicate 8 0
  deriving DecidableEq, Repr, Inhabited

/-- Configuration MRAM's copies of always-on values (R300, R336): the civil-time offset, the seconds that AuthLockout has left and the run of
AUTH_FAILED outcomes. -/
structure Copies where
  offset   : Int := 0
  lockSecs : Nat := 0
  authRun  : Nat := 0
  deriving DecidableEq, Repr, Inhabited

/-! ## The crock (chapter 13) -/

/-- A queued event with its stamps. -/
structure QEvent where
  ev    : Ev
  tally : Nat
  civil : Nat
  onRc  : Bool
  stale : Bool
  deriving DecidableEq, Repr, Inhabited

/-- A record held in a slot. -/
structure Rec where
  slot  : Nat
  seq   : Nat
  sev   : Nat
  bytes : List Byte
  deriving DecidableEq, Repr, Inhabited

/-- R331: one copy of the chain-head word: the newest sequence number, its ChainTag and the tally checkpoint. -/
structure HeadCopy where
  newest     : Nat := 0
  tag        : List Byte := List.replicate 16 0
  checkpoint : Nat := 0
  deriving DecidableEq, Repr, Inhabited

/-- The event recorder. -/
structure Crock where
  recs     : List Rec := []
  /-- Bad-slot map, and the count that BadSlots shows. -/
  bad      : List Nat := []
  full7    : Bool := false
  full7Tally : Nat := 0
  dropTally : List Nat := List.replicate 8 0
  /-- Records owed ahead of the queue after a failed commit (R341). -/
  owed     : List QEvent := []
  queue    : List QEvent := []
  /-- Events dropped from the queue and not yet reported by RECORDS_DROPPED, per severity. -/
  droppedQ : List Nat := List.replicate 8 0
  /-- The active copy of the chain-head word (R331). -/
  newest   : Nat := 0
  headTag  : List Byte := List.replicate 16 0
  checkpoint : Nat := 0
  /-- The inactive copy, and whether the second of the two copies is the active one. -/
  spare    : HeadCopy := {}
  secondActive : Bool := false
  /-- R338: the checkpoint as this start found it. -/
  startCheckpoint : Nat := 0
  /-- R342: START ended WITNESS_LOST, and RECORDER_RECOVERED is still to commit: events are dropped until then (Table 13-7). -/
  recovering : Bool := false
  /-- Consecutive failed commit attempts. -/
  failRun  : Nat := 0
  /-- The start-up scan runs; START has been committed or dropped. -/
  scanning : Bool := true
  started  : Bool := false
  /-- START has been committed (R403). -/
  startCommitted : Bool := false
  deriving DecidableEq, Repr, Inhabited

/-! ## Clocks, gates and reset (chapter 14) -/

/-- SourceState values (Table 12-3). -/
inductive SrcState where
  | off | starting | running | failed
  deriving DecidableEq, Repr, Inhabited

/-- START causes (R338). -/
inductive StartCause where
  | powerOn | resetN | resetRequest | thermalRestart | hardResetOnRc
  deriving DecidableEq, Repr, Inhabited

/-- An EVT16 field (R303): the counter, the set bits, the counter value of each bit's last setting. -/
structure Evt16 where
  ctr  : BitVec 16 := 0
  bits : BitVec 16 := 0
  last : List (BitVec 16) := List.replicate 16 0
  deriving DecidableEq, Repr, Inhabited

/-- R352: the response of a write that asked for a switch of a domain, to be sent on the new clock. -/
structure HeldAnswer where
  dom   : Domain
  ch    : Chan
  index : BitVec 16
  sub   : Byte
  frame : CanOut
  deriving DecidableEq, Repr, Inhabited

/-- The clock network. -/
structure Clocks where
  rc        : SrcState := .running
  ref       : SrcState := .starting
  pll       : SrcState := .off
  hostPll   : List SrcState := List.replicate 8 .off
  stableAt  : Nat := 0
  ctlSource : BitVec 8 := 1
  slowSource : BitVec 8 := 1
  /-- Domains that run on input 1. -/
  onInput1  : List Domain := []
  /-- Switches pending: domain and whether to input 1. -/
  pending   : List (Domain × Bool) := []
  held      : List HeldAnswer := []
  armed     : Bool := false
  events    : Evt16 := {}
  coldSwitches : Nat := 0
  /-- A failure under way: its source (0 RC, 1 REF, 2 PLL), domains switched cold so far. -/
  failing   : Option Nat := none
  coldMask  : BitVec 8 := 0
  /-- Length of the last cold-switch reset of that failure, in RC cycles. -/
  coldLength : Nat := 0
  /-- A failure has been declared since the last start or return: domains go back to input 1 only by R354. -/
  recovering : Bool := false
  /-- An RC re-trim is in progress. -/
  retrim    : Bool := false
  clkSelect : BitVec 8 := 0
  clkDivide : Nat := 1
  /-- CLKOUT is low after a change of its selection or divider (R360). -/
  clkHold   : Bool := false
  /-- The crystal's frequency check failed in SIMMER (R375). -/
  simmerFail : Bool := false
  deriving DecidableEq, Repr, Inhabited

/-- GateEnable and GateStatus. -/
structure Gates where
  gates   : BitVec 32 := 0
  isOpen  : BitVec 32 := 0
  pending : BitVec 32 := 0
  deriving DecidableEq, Repr, Inhabited

/-! ## Power and heat (chapter 15) -/

/-- Power states (Table 15-1). -/
inductive PState where
  | boil | simmer | rest
  deriving DecidableEq, Repr, Inhabited

/-- Wake sources (R373). -/
inductive Wake where
  | can | wakeIn | line (p : PortId) | probe (p : PortId)
  deriving DecidableEq, Repr, Inhabited

/-- PowerState to RetentionMask, and the transition in progress. -/
structure Power where
  state      : PState := .boil
  /-- Target of the transition in progress, if one is. -/
  transition : Option PState := none
  /-- The transition is an entry that has passed the point of no return. -/
  passed     : Bool := false
  latched    : Bool := false
  wake       : Option Wake := none
  request    : BitVec 8 := 0
  refusals   : Nat := 0
  wakeAborts : Nat := 0
  lastRefuser : BitVec 8 := 0
  refuserCounts : List Nat := List.replicate 16 0
  lastRefusalAt : Nat := 0
  simmerPeriod : Nat := 500
  probeEnable : Bool := true
  retention  : BitVec 8 := 0xFF
  /-- R372: RetentionMask as it stood at the point of no return. -/
  maskAtPoint : BitVec 8 := 0xFF
  /-- Channel that asked for the entry in progress. -/
  askedBy    : Option Chan := none
  /-- Only CAN or WAKE_IN wakes: REST entered by the thermal restart limit (R383). -/
  thermalRest : Bool := false
  /-- RESET_N low: the device is held in reset. -/
  inReset    : Bool := false
  /-- Power is on: the power-on reset has released. -/
  on         : Bool := true
  /-- R408: VIN has risen since it was last below 1.0 V, whether or not its ramp released the power-on reset. -/
  vinUp      : Bool := true
  /-- Power removed by the thermal shutdown. -/
  shutdown   : Bool := false
  startCause : StartCause := .powerOn
  /-- Highest reading at shutdown and its sensor. -/
  shutReading : Int := 0
  shutSensor : Nat := 0
  /-- Next port of the SIMMER probe. -/
  nextProbe  : PortId := 0
  /-- R376: start of the SimmerPeriod window of tally time whose tick was the last to be taken. -/
  probeTick  : Nat := 0
  /-- R242, R259: ports whose SIMMER probe exceeded ANOMALY: their two further probes are owed once the device is in BOIL. -/
  probeDue   : List PortId := []
  inhDriven  : Bool := true
  deriving DecidableEq, Repr, Inhabited

/-- Temperature, thresholds and throttle. -/
structure Heat where
  sensors   : List Int := List.replicate 9 (-32768)
  peak      : Int := -32768
  warnSet   : Int := 11000
  warnClear : Int := 10500
  warn      : Bool := false
  events    : Evt16 := {}
  stage     : Nat := 0
  /-- R383: tally time since which every reading has been below 115 °C, while the device waits for a thermal restart. -/
  coolSince : Option Nat := none
  /-- Reading of one second ago (R382). -/
  lastSecond : Int := 0
  /-- A DOWNSHIFT_ONE order waits for the roll call in progress (R213). -/
  orderDue  : Bool := false
  deriving DecidableEq, Repr, Inhabited

/-! ## Fuses, life cycle, calibration, self-test, recipes (chapter 16) -/

/-- A fuse cell: unburned, burned and verified, spent and marked bad, or cut short and not verified. -/
inductive CellState where
  | fresh | burned | bad | unverified
  deriving DecidableEq, Repr, Inhabited

/-- A fuse cell with its hidden physical condition: whether a burn verifies (log entry 8). -/
structure Cell where
  st   : CellState := .fresh
  good : Bool := true
  deriving DecidableEq, Repr, Inhabited

/-- A calibration fuse slot (R394). -/
structure CalSlot where
  cell  : Cell := {}
  kind  : CalKind := .timebase
  value : Int := 0
  tally : Nat := 0
  civil : Nat := 0
  deriving DecidableEq, Repr, Inhabited

/-- The fuse array. -/
structure Fuses where
  sealed   : List Cell := List.replicate 4 {}
  bound    : List Cell := List.replicate 4 {}
  returned : List Cell := List.replicate 4 {}
  ended    : List Cell := List.replicate 4 {}
  rebase   : List Cell := List.replicate 64 {}
  calib    : List CalSlot := List.replicate 32 {}
  rollback : List Cell := List.replicate 64 {}
  witness  : List Cell := List.replicate 32 {}
  makerHash : Option (List Byte) := none
  workshopHash : Option (List Byte) := none
  /-- Device key and certificate are present (Table 16-2). -/
  keyPresent : Bool := true
  deriving DecidableEq, Repr, Inhabited

/-- A calibration run (R392). -/
structure CalRun where
  kind    : CalKind
  ch      : Chan
  started : Nat
  first   : Option (Int × Nat) := none
  /-- Tally time from which a gap serves the measurement that is due (R73, R392). -/
  since   : Nat
  deriving DecidableEq, Repr, Inhabited

/-- Stages of CalibrationState. -/
inductive CalStage where
  | idle | firstTaken | accepted | disagreed | abandoned | fuseFailed
  deriving DecidableEq, Repr, Inhabited

/-- Calibration objects. -/
structure Calib where
  counts    : List Nat := [0, 0, 0]
  lastTally : Nat := 0
  lastCivil : Nat := 0
  lastKind  : Nat := 0
  cable     : Nat := 0
  port      : PortId := 0
  stage     : CalStage := .idle
  stageKind : Nat := 0
  timebase  : Int := 0
  level     : Int := 0
  scale     : Int := 500000
  run       : Option CalRun := none
  deriving DecidableEq, Repr, Inhabited

/-- BayResult values (Table 12-5). -/
inductive BayResult where
  | none | pass | fail | incomplete | running | waiting
  deriving DecidableEq, Repr, Inhabited

/-- PowerOnCheck values. -/
inductive PocResult where
  | none | pass | failHolding | failMram
  deriving DecidableEq, Repr, Inhabited

/-- Self-test objects and the run. -/
structure Bist where
  mask    : BitVec 8 := 0
  maxCon  : Nat := 2
  results : List BayResult := List.replicate 8 .none
  poc     : PocResult := .none
  /-- The power-on check runs. -/
  checking : Bool := true
  mramFailed : Bool := false
  lastSig : List Byte := List.replicate 24 0
  /-- A run: its mask and concurrency. -/
  run     : Option (BitVec 8 × Nat) := none
  /-- Tally time at which each bay's test began. -/
  since   : List Nat := List.replicate 8 0
  deriving DecidableEq, Repr, Inhabited

/-- A recipe bank: its header fields and whether it checks. -/
structure Bank where
  present  : Bool := false
  rollback : Nat := 0
  version  : BitVec 32 := 0
  line     : BitVec 4 × BitVec 4 × BitVec 4 := (1, 0, 15)
  shingle  : BitVec 4 × BitVec 4 × BitVec 4 := (1, 0, 15)
  modes    : BitVec 16 := 0x1F07
  /-- Wrong bits in each of its 256-bit words that holds any (R23); its SHA-256 digest matches. -/
  errs     : List Nat := []
  digestOk : Bool := true
  deriving DecidableEq, Repr, Inhabited

/-- Recipe objects. -/
structure Recipes where
  active    : Option Bool := some false
  preferred : Bool := false
  bank0     : Bank := { present := true, version := Config.bank0Version }
  bank1     : Bank := { present := false, version := Config.bank1Version }
  loadResult : BitVec 8 := 0
  deriving DecidableEq, Repr, Inhabited

/-- Life cycle requests. -/
structure Life where
  token : Option (List Byte) := none
  deriving DecidableEq, Repr, Inhabited

/-! ## Roll call (chapter 07) -/

/-- RollCall and RollCallApplied. -/
structure Roll where
  order    : BitVec 64 := 0
  issuer   : BitVec 8 := 0xFF
  issuedAt : Nat := 0
  bays     : List (BitVec 32) := List.replicate 8 0x300
  status   : BitVec 8 := 0
  epoch    : BitVec 16 := 0
  lpiMask  : BitVec 8 := 0
  deriving DecidableEq, Repr, Inhabited

/-! ## Test access, environment -/

/-- Boundary-scan instructions that drive balls (R417). -/
inductive TapState where
  | reset | bypass | idcode | sample | driving (i : TapInstr)
  deriving DecidableEq, Repr, Inhabited

/-- What the device's balls and silicon present to it; no command of the table sets these (log entry 8). -/
structure Env where
  /-- ADDR[2:0]; open balls read 1. -/
  straps   : BitVec 3 := 7
  /-- REFIN in mHz; 0 when open. -/
  refin    : Nat := 0
  /-- Termination measured at each line ball, in mΩ. -/
  term     : List Nat := List.replicate 8 0
  /-- Delay of the open-end reflection at each line ball, in ps; 0 if none. -/
  reflect  : List Nat := List.replicate 8 0
  /-- Received power at each line ball in 0.01 dB, relative to the outermost level, while this end launches nothing (R241, R392). -/
  linePower : List Int := List.replicate 8 (-9000)
  /-- Crock slots whose write fails verification, and the step at which it does. -/
  badMram  : List (Nat × VerifyStep) := []
  /-- Crock slots whose words fail their BCH check when they are read (R325). -/
  badRead  : List Nat := []
  /-- Bays whose holding SRAM fails the power-on march. -/
  badSram  : BitVec 8 := 0
  /-- Ports whose staging latch array holds a word that fails its check (R253). -/
  badStaging : BitVec 8 := 0
  /-- The level of TRST_N is low (R416). -/
  trstLow  : Bool := false
  /-- A copy into a recipe bank verifies. -/
  bankOk   : Bool := true
  deriving DecidableEq, Repr, Inhabited

/-- The words of MRAM, beside the crock's, that a fall of VIN may cut short (R380): of a signature reference, or of a recipe bank. -/
inductive MramWord where
  | lineRef (p : PortId) | probeRef (p : PortId) | bank (one : Bool)
  deriving DecidableEq, Repr, Inhabited

/-! ## The machine -/

/-- R305: the copies of always-on values that SHADOW fields show, taken at the last SLOW edge. -/
structure Shadow where
  aon  : Aon := {}
  clk  : Clocks := {}
  pwr  : Power := {}
  heat : Heat := {}
  deriving DecidableEq, Repr, Inhabited

/-- The KT850 and the queue of commands that wait. -/
structure State where
  /-- Commands waiting, first in, first out. -/
  pending : List Instr := []
  /-- The model's own: how many free values have been drawn (log entry 3). -/
  free    : Nat := 0
  env     : Env := {}
  aon     : Aon := {}
  copies  : Copies := {}
  shadow  : Shadow := {}
  clk     : Clocks := {}
  gate    : Gates := {}
  pwr     : Power := {}
  heat    : Heat := {}
  fus     : Fuses := {}
  life    : Life := {}
  cal     : Calib := {}
  bist    : Bist := {}
  rcp     : Recipes := {}
  crock   : Crock := {}
  can     : Can := {}
  chans   : Vector Channel 4 := Vector.replicate 4 {}
  roll    : Roll := {}
  sieveHolder : Option Chan := none
  /-- AnchorInterval (0x5002:00) and LastAnchor (0x5003). -/
  anchorInterval : Nat := 60
  lastAnchor : List (BitVec 64) := List.replicate 8 0
  /-- Frames in the staging latch arrays that the seal unit has still to hash, oldest first (R253). -/
  hashWork : List HashJob := []
  /-- BayLoad, BattenLoad and PeakBayLoad (Table 3-14), as measured over the last 1 ms window. -/
  bayLoads : List Nat := List.replicate 8 0
  battenLoads : List Nat := List.replicate 64 0
  peakLoad : Nat := 0
  ports   : Vector Port 8 := Vector.replicate 8 {}
  tap     : TapState := .reset
  deriving DecidableEq, Repr, Inhabited

/-- The default COB-IDs of channels 1 to 3 (Table 11-2) for ADDR value `a`. -/
def defaultCobs (a : BitVec 3) : List (BitVec 32) :=
  [0x680, 0x688, 0x690, 0x698, 0x6A0, 0x6A8].map (fun b : BitVec 32 => b + a.zeroExtend 32)

/-- Port n with the default that depends on its number: SealSource (Table 9-11). -/
def Port.reset (n : Nat) : Port :=
  { sealing := { source := 0x0000020000000000 + BitVec.ofNat 64 n } }

/-- The machine right after a power-on reset of a device in MANUFACTURE: every field at its default (R317),
the start sequence of Table 14-7 at its beginning, the queue empty. Log entries 1 and 9. -/
def State.reset : State :=
  { can := { cobs := defaultCobs 7, cobsInUse := defaultCobs 7 }
    ports := #v[Port.reset 0, Port.reset 1, Port.reset 2, Port.reset 3,
                Port.reset 4, Port.reset 5, Port.reset 6, Port.reset 7] }

end Sys2Proof.Machine

namespace Sys2Proof

/-- The undefined state of R379, after VIN fell below 4.2 V without reaching 1.0 V: the n-th such state. No
body: nothing constrains it. The vin dip keeps from it everything but MRAM, the fuses and the queue
(log entry 6). -/
opaque Config.undefinedState : Nat → Machine.State

/-- The fuse group whose burn the n-th fall of VIN cut short, if one was being burned (R380). No command says it of a VIN dip
(log entry 6). -/
opaque Config.dipCuts : Nat → Option FuseGroup

/-- The MRAM word whose write the n-th fall of VIN cut short, if one was being written (R380; log entry 6). -/
opaque Config.wordCut : Nat → Option Machine.MramWord

end Sys2Proof
end

