-- ==== Sys2Proof/Machine/Ops.lean ====
section
/-! DEFINITION. Ops.lean: the named operations over the state that every family shares: updates of one port,
class or channel, saturating counters, free values, and the raising of events (R16, R330). The block takes
no exception; where a processor would, an event is raised. -/

namespace Sys2Proof.Machine

/-! ## Updates -/

/-- One port changed. -/
def modPort (p : PortId) (f : Port → Port) (s : State) : State := { s with ports := s.ports.set p (f s.ports[p]) }

/-- The link of one port changed. -/
def modLink (p : PortId) (f : Link → Link) (s : State) : State :=
  modPort p (fun q => { q with link := f q.link }) s

/-- The training state of one port changed. -/
def modTrain (p : PortId) (f : Train → Train) (s : State) : State :=
  modPort p (fun q => { q with train := f q.train }) s

/-- The mode change of one port changed. -/
def modMc (p : PortId) (f : ModeChange → ModeChange) (s : State) : State :=
  modPort p (fun q => { q with mc := f q.mc }) s

/-- The line state of one port changed. -/
def modLine (p : PortId) (f : Line → Line) (s : State) : State :=
  modPort p (fun q => { q with line := f q.line }) s

/-- The counters of one port changed. -/
def modCnt (p : PortId) (f : Counters → Counters) (s : State) : State :=
  modPort p (fun q => { q with cnt := f q.cnt }) s

/-- The host lane of one port changed. -/
def modHost (p : PortId) (f : HostLane → HostLane) (s : State) : State :=
  modPort p (fun q => { q with host := f q.host }) s

/-- The DSP of one port changed. -/
def modDsp (p : PortId) (f : Dsp → Dsp) (s : State) : State :=
  modPort p (fun q => { q with dsp := f q.dsp }) s

/-- The signature of one port changed. -/
def modSig (p : PortId) (f : Sig → Sig) (s : State) : State :=
  modPort p (fun q => { q with sig := f q.sig }) s

/-- The seal of one port changed. -/
def modSeal (p : PortId) (f : Seal → Seal) (s : State) : State :=
  modPort p (fun q => { q with sealing := f q.sealing }) s

/-- The sieve of one port changed. -/
def modSieve (p : PortId) (f : SievePort → SievePort) (s : State) : State :=
  modPort p (fun q => { q with sieve := f q.sieve }) s

/-- The transmit side of one class changed. -/
def modTx (p : PortId) (c : Cls) (f : TxCls → TxCls) (s : State) : State :=
  modPort p (fun q => { q with tx := q.tx.set c (f q.tx[c]) }) s

/-- The receive side of one class changed. -/
def modRx (p : PortId) (c : Cls) (f : RxCls → RxCls) (s : State) : State :=
  modPort p (fun q => { q with rx := q.rx.set c (f q.rx[c]) }) s

/-- One channel changed. -/
def modChan (ch : Chan) (f : Channel → Channel) (s : State) : State :=
  { s with chans := s.chans.set ch (f s.chans[ch]) }

/-- The same change on every port. -/
def forPorts (f : PortId → State → State) (s : State) : State := (List.finRange 8).foldl (fun t p => f p t) s

/-- The same change on every channel. -/
def forChans (f : Chan → State → State) (s : State) : State := (List.finRange 4).foldl (fun t c => f c t) s

/-- The same change on every class. -/
def forClasses (f : Cls → State → State) (s : State) : State := (List.finRange 4).foldl (fun t c => f c t) s

/-- f where the condition holds, else no change. -/
def doIf (b : Bool) (f : State → State) (s : State) : State := if b then f s else s

/-! ## Counters -/

/-- R98: addition that saturates at the largest value of 16 bits. -/
def sat16 (n : Nat) : Nat := min n 0xFFFF

/-- R98: saturation of an UNSIGNED32 counter. -/
def sat32 (n : Nat) : Nat := min n 0xFFFFFFFF

/-- R98: saturation of an UNSIGNED64 counter. -/
def sat64 (n : Nat) : Nat := min n 0xFFFFFFFFFFFFFFFF

/-- Element i of an UNSIGNED32 counter array counts k more. -/
def bump (i k : Nat) (l : List Nat) : List Nat := l.modify i (fun n => sat32 (n + k))

/-- Element i of an UNSIGNED64 counter array counts k more. -/
def bump64 (i k : Nat) (l : List Nat) : List Nat := l.modify i (fun n => sat64 (n + k))

/-! ## Free values -/

/-- A quotient that the manual asks for as an integer: exact where it is one; elsewhere one of its two neighbours, whose rounding is not stated,
and a division by 0 has no result (log entry 5). -/
def quotient (n : Int) (d : Nat) : Int :=
  if d = 0 then Config.rounded n d
  else if n % (d : Int) ≠ 0 && Config.ceilTaken n d then n / (d : Int) + 1
  else n / (d : Int)

/-- The integer nearest to n/d, the lower one at a half, for d above 0. -/
def nearestInt (n : Int) (d : Nat) : Int := -((d - 2 * n) / (2 * d : Nat))

/-- Table 1-8: the memories. -/
inductive Memory where
  | engine | batten | holding | reorder | coefficient | crock | recipe | configuration | spare
  deriving DecidableEq, Repr

/-- Table 1-8: bytes of one unit. -/
def unitBytes : Memory → Nat
  | .engine => 12 * 1024
  | .batten => 64 * 1024
  | .holding => 1024 * 1024
  | .reorder => 512 * 1024
  | .coefficient => 256 * 1024
  | .crock => 4 * 1024 * 1024
  | .recipe => 1024 * 1024
  | .configuration => 1024 * 1024
  | .spare => 1024 * 1024

/-- Table 1-8: how many units there are. -/
def memoryUnits : Memory → Nat
  | .engine => 1024
  | .batten => 64
  | .holding => 8
  | .reorder => 8
  | .coefficient => 8
  | .crock => 1
  | .recipe => 2
  | .configuration => 1
  | .spare => 1

/-- R172, R179: slots of 256 bytes in a memory of slots. -/
def slotsOf (m : Memory) : Nat := unitBytes m / 256

/-- R23: a word with n wrong bits decodes: two are corrected, three are detected. -/
def bchDecodes (n : Nat) : Bool := if n ≤ 2 then true else if n = 3 then false else Config.bchBeyond n

/-- R23: every word of a memory decodes. -/
def wordsDecode (errs : List Nat) : Bool := errs.all bchDecodes

/-- A fresh DRBG draw (log entry 3). -/
def drawn (s : State) : Nat := Config.drbg s.free

/-- A fresh measured value (log entry 7). -/
def measuredNow (s : State) : Int := Config.measured s.free

/-- The state after a free value was drawn. -/
def afterDraw (s : State) : State := { s with free := s.free + 1 }

/-! ## Time -/

/-- R336: civil time. -/
def civilNow (s : State) : Nat := (s.aon.tally + s.aon.offset).toNat

/-- R300: seconds that a lockout has left, rounded up. -/
def lockoutLeft (s : State) : Nat := (s.aon.lockout - s.aon.tally + 999999999) / 1000000000

/-- R300, R336: configuration MRAM's copies follow the always-on values. -/
def copyToMram (s : State) : State :=
  { s with copies := { offset := s.aon.offset, lockSecs := lockoutLeft s, authRun := s.aon.authRun } }

/-- R305: a SLOW edge copies the always-on values for SHADOW fields. -/
def takeShadow (s : State) : State := { s with shadow := { aon := s.aon, clk := s.clk, pwr := s.pwr, heat := s.heat } }

/-- R305: the state as SHADOW fields show it. -/
def shadowed (s : State) : State := { s with aon := s.shadow.aon, clk := s.shadow.clk, pwr := s.shadow.pwr, heat := s.shadow.heat }

/-- The device has no power, is held in reset by RESET_N (R363), or is shut down (R383): nothing but the always-on domain works. -/
def deviceHeld (s : State) : Bool := !s.pwr.on || s.pwr.inReset || s.pwr.shutdown

/-- R356: CTL clocks the CAN controller fast enough for the rates in use. -/
def canClocked (s : State) : Bool := s.clk.onInput1.contains .ctl || (decide (s.can.inUse.1 ≤ 500) && decide (s.can.inUse.2 ≤ 2000))

/-- R356, R363, R414: the transmitter may drive the bus: in BOIL, neither held in reset nor without power, and clocked fast enough. -/
def busDriven (s : State) : Bool := canClocked s && !deviceHeld s && decide (s.pwr.state = .boil)

/-! ## Events (R16, R323, R330) -/

/-- Table 13-2: the block code. -/
def blockCode : EvBlock → Nat
  | .bay _ => 0
  | .clocks => 1
  | .power => 2
  | .thermal => 3
  | .fuses => 4
  | .sealUnit => 5
  | .dict => 6
  | .sieve => 7
  | .bist => 8
  | .crock => 9

/-- R16: the rank of a source among events raised in one CTL cycle. -/
def sourceRank : EvBlock → Nat
  | .crock => 0
  | .clocks => 1
  | .power => 2
  | .thermal => 3
  | .fuses => 4
  | .sealUnit => 5
  | .dict => 6
  | .sieve => 7
  | .bist => 8
  | .bay p => 9 + p.val

/-- R16: the place of an event among those of its source: the order of the source's chapter where it gives one (LOSS behind what caused
it, R200; SESSION_OPEN behind SESSION_END, R301; RECORDER_RECOVERED directly behind START, Table 13-6), otherwise by event code. -/
def chapterPlace (code : BitVec 16) : Nat :=
  if code = 0x0006 then 0x1FFFF
  else if code = 0x0602 then 2 * 0x0603 + 1
  else if code = 0x0903 then 2 * 0x0900 + 1
  else 2 * code.toNat

/-- R16: by source, then by the source's own order. -/
def evKey (e : Ev) : Nat := sourceRank e.src * 131072 + chapterPlace e.code

/-- Inserts an event behind every event of no greater key. -/
def evInsert (e : Ev) : List Ev → List Ev
  | [] => [e]
  | x :: rest => if evKey x ≤ evKey e then x :: evInsert e rest else e :: x :: rest

/-- R16: events of one cycle in commit order. -/
def evSort (es : List Ev) : List Ev := es.foldl (fun acc e => evInsert e acc) []

/-- R227, R333: byte 0 of the port events that carry the provoked mark. -/
def portByte (p : PortId) (provoked : Bool) : Byte := BitVec.ofNat 8 (p.val + (if provoked then 128 else 0))

/-- An event of bay p. -/
def bayEv (p : PortId) (code sev : Nat) (arg : List Byte) : Ev :=
  { src := .bay p, port := some p, code := BitVec.ofNat 16 code, sev := Fin.ofNat 8 sev, arg := arg }

/-- An event of a device service that concerns no port. -/
def devEv (src : EvBlock) (code sev : Nat) (arg : List Byte) : Ev :=
  { src := src, port := none, code := BitVec.ofNat 16 code, sev := Fin.ofNat 8 sev, arg := arg }

/-- An event of a device service about port p. -/
def devPortEv (src : EvBlock) (p : PortId) (code sev : Nat) (arg : List Byte) : Ev :=
  { src := src, port := some p, code := BitVec.ofNat 16 code, sev := Fin.ofNat 8 sev, arg := arg }

/-- R330: capacity of the commit queue. -/
def queueCap : Nat := 1024

/-- R330: an event stamped in the cycle in which it is raised. -/
def stampEv (s : State) (e : Ev) : QEvent :=
  { ev := e, tally := s.aon.tally, civil := civilNow s, onRc := s.aon.onRc, stale := s.aon.civilStale }

/-- R329: DropTally counts a record that was not placed. -/
def dropEv (e : Ev) (s : State) : State :=
  { s with crock := { s.crock with dropTally := bump e.sev.val 1 s.crock.dropTally } }

/-- R330: one event enters the commit queue, or is dropped and counted where the queue is full or the crock is
in WITNESS_LOST (Table 13-6), or has yet to commit RECORDER_RECOVERED (Table 13-7). -/
def raise (e : Ev) (s : State) : State :=
  if s.aon.witnessLost.isSome || s.crock.recovering then dropEv e s
  else if queueCap ≤ s.crock.queue.length then
    let t := dropEv e s
    { t with crock := { t.crock with droppedQ := bump e.sev.val 1 t.crock.droppedQ } }
  else { s with crock := { s.crock with queue := s.crock.queue ++ [stampEv s e] } }

/-- Events in the order given, causes before consequences (OP-9). -/
def raiseAll (es : List Ev) (s : State) : State := es.foldl (fun t e => raise e t) s

/-! ## Loss causes and port masks -/

/-- Causes of a loss body (Table 6-3) and of the ledger (Table 7-1). -/
def causeCode : LossCause → Nat
  | .ingressFull => 1
  | .oversize => 2
  | .withdrawn => 3
  | .tagError => 4
  | .restartDiscard => 5
  | .restartUncertain => 6
  | .restartMissing => 7
  | .deliveryCut => 8
  | .standardLine => 9

/-- Bit n of a byte mask. -/
def maskBit (m : BitVec 8) (p : PortId) : Bool := m.getLsbD p.val

/-- Ports whose bit is set. -/
def maskPorts (m : BitVec 8) : List PortId := (List.finRange 8).filter (fun p => maskBit m p)

end Sys2Proof.Machine
end

