-- ==== Sys2Proof/Machine/Access.lean ====
section
/-! DEFINITION. Access.lean: who may do what: the life-cycle state and the fuses behind it (R385), ownership of
ports (R19, R20), binding (R425) and the roles a channel holds (R296). -/

namespace Sys2Proof.Machine

/-! ## Fuses -/

/-- A cell reads burned. -/
def isBurned (c : Cell) : Bool := decide (c.st = .burned)

/-- A cell has not been spent. -/
def isFresh (c : Cell) : Bool := decide (c.st = .fresh)

/-- R385: a fuse counts as burned when any one of its cells reads burned. -/
def fuseBurned (cells : List Cell) : Bool := cells.any isBurned

/-- A burn of one cell and its verification: a cell that fails is spent and marked bad (R380, R385). -/
def burnCell (c : Cell) : Cell := { c with st := if c.good then .burned else .bad }

/-- R385: one cell after another until one verifies; the flag says whether one did. -/
def burnFuse : List Cell → List Cell × Bool
  | [] => ([], false)
  | c :: rest =>
    if isFresh c then
      if c.good then (burnCell c :: rest, true)
      else let r := burnFuse rest; (burnCell c :: r.1, r.2)
    else let r := burnFuse rest; (c :: r.1, r.2)

/-- The next cell of a row of single burns (re-baseline counts, rollback and witness steps); the flag says whether
the burn verified. -/
def burnNext : List Cell → List Cell × Bool
  | [] => ([], false)
  | c :: rest =>
    if isFresh c then (burnCell c :: rest, c.good)
    else let r := burnNext rest; (c :: r.1, r.2)

/-- Cells that have been spent. -/
def spentCells (cells : List Cell) : Nat := (cells.filter (fun c => !isFresh c)).length

/-- Cells not yet spent. -/
def freshCells (cells : List Cell) : Nat := (cells.filter isFresh).length

/-! ## Life cycle -/

/-- LifeCycleState (0x2002:01). -/
inductive LifeState where
  | manufacture | sealedUnbound | sealedBound | returned | ended
  deriving DecidableEq, Repr, Inhabited

/-- R385: the state follows from the four fuses. -/
def lifeOf (f : Fuses) : LifeState :=
  if fuseBurned f.ended then .ended
  else if fuseBurned f.returned then .returned
  else if fuseBurned f.bound then .sealedBound
  else if fuseBurned f.sealed then .sealedUnbound
  else .manufacture

/-- The life-cycle state. -/
def life (s : State) : LifeState := lifeOf s.fus

/-- Codes of LifeCycleState (Table 12-2). -/
def lifeCode : LifeState → Nat
  | .manufacture => 1
  | .sealedUnbound => 2
  | .sealedBound => 3
  | .returned => 4
  | .ended => 5

/-- R425: ports are bound while the BOUND fuse is burned and the device is in SEALED BOUND or RETURNED. -/
def isBound (s : State) : Bool :=
  fuseBurned s.fus.bound && (decide (life s = .sealedBound) || decide (life s = .returned))

/-! ## Ownership and roles -/

/-- R19: the owning channel of a port. -/
def owner (s : State) (p : PortId) : Chan :=
  if life s = .manufacture ∨ life s = .sealedUnbound then 0
  else Fin.ofNat 4 (s.can.owners >>> (2 * p.val)).toNat

/-- The channel owns port p. -/
def owns (s : State) (ch : Chan) (p : PortId) : Bool := decide (owner s p = ch)

/-- R296: OWNER for device-wide objects. -/
def ownsAny (s : State) (ch : Chan) : Bool := (List.finRange 8).any (owns s ch)

/-- The channel owns all eight ports. -/
def ownsAll (s : State) (ch : Chan) : Bool := (List.finRange 8).all (owns s ch)

/-- The role of the channel's open session. -/
def roleOf (s : State) (ch : Chan) : Option Role := s.chans[ch].session.map Session.role

/-- The channel holds a WORKSHOP session. -/
def hasWorkshop (s : State) (ch : Chan) : Bool := decide (roleOf s ch = some .workshop)

/-- The channel holds a MAKER session. -/
def hasMaker (s : State) (ch : Chan) : Bool := decide (roleOf s ch = some .maker)

/-- The channel holds a session. -/
def hasSession (s : State) (ch : Chan) : Bool := s.chans[ch].session.isSome

/-- Role codes of SESSION_OPEN and AuthResponse: 1 WORKSHOP, 2 MAKER (Table 11-5). -/
def roleCode : Role → Nat
  | .workshop => 1
  | .maker => 2

end Sys2Proof.Machine
end

