-- ==== Sys2Proof/Machine/Ether.lean ====
section
/-! DEFINITION. Ether.lean: what the KT850 reads and writes in Ethernet frames: the FCS of IEEE 802.3, the
IEEE 802.1Q tag (R160), PTP event messages (R271) and the priority flow control frame (R181). -/

namespace Sys2Proof.Machine

/-- One bit of the reflected CRC-32 division. -/
def crc32Shift (c : Nat) : Nat := if c % 2 = 1 then (c / 2) ^^^ 0xEDB88320 else c / 2

/-- The CRC-32 of IEEE 802.3 over bytes. -/
def crc32 (bytes : List Byte) : Nat :=
  (bytes.foldl (fun c b =>
    crc32Shift (crc32Shift (crc32Shift (crc32Shift (crc32Shift (crc32Shift (crc32Shift (crc32Shift (c ^^^ b.toNat)))))))))
    0xFFFFFFFF) ^^^ 0xFFFFFFFF

/-- The FCS as its four bytes leave. -/
def fcsBytes (bytes : List Byte) : List Byte := leBytes 4 (crc32 bytes)

/-- A frame with its FCS appended. -/
def withFcs (bytes : List Byte) : List Byte := bytes ++ fcsBytes bytes

/-- The last four bytes of a frame are its FCS. -/
def fcsOk (frame : List Byte) : Bool :=
  decide (4 ≤ frame.length) && decide (fcsBytes (frame.take (frame.length - 4)) = frame.drop (frame.length - 4))

/-- A 48-bit address as its six bytes leave. -/
def macBytes (v : BitVec 64) : List Byte := beBytes 6 (v.toNat % 2 ^ 48)

/-- A multicast address: the group bit of its first byte is set. -/
def macMulticast (v : BitVec 64) : Bool := v.getLsbD 40

/-- The two bytes at an offset. -/
def half (frame : List Byte) (at_ : Nat) : Nat := beVal ((frame.drop at_).take 2)

/-- A TPID of an IEEE 802.1Q tag. -/
def isTpid (v : Nat) : Bool := v == 0x8100 || v == 0x88A8

/-- R160: the PCP of the first IEEE 802.1Q tag, if the frame has one. -/
def framePcp (frame : List Byte) : Option Nat :=
  if 16 ≤ frame.length ∧ isTpid (half frame 12) then some (half frame 14 / 8192) else none

/-- R271: the offset of the PTP header: after at most two tags, EtherType 0x88F7. -/
def ptpOffset (frame : List Byte) : Option Nat :=
  let t1 := if isTpid (half frame 12) then 16 else 12
  let t2 := if t1 = 16 ∧ isTpid (half frame 16) then 20 else t1
  if half frame t2 = 0x88F7 then some (t2 + 2) else none

/-- R271: the frame is a PTP event message under a message mask; the offset of its header. -/
def ptpEvent (mask : BitVec 8) (frame : List Byte) : Option Nat :=
  match ptpOffset frame with
  | none => none
  | some o =>
    let b0 := (frame.getD o 0).toNat
    let b1 := (frame.getD (o + 1) 0).toNat
    if b1 % 16 = 2 ∧ b0 % 16 ≤ 3 ∧ mask.getLsbD (b0 % 16) ∧ o + 34 + 4 ≤ frame.length then some o else none

/-- The signed correctionField of a PTP header at an offset (R273). -/
def correctionOf (frame : List Byte) (o : Nat) : Int :=
  let v := beVal ((frame.drop (o + 8)).take 8)
  if v < 2 ^ 63 then v else (v : Int) - 2 ^ 64

/-- R187, R273: the correctionField replaced and the FCS recomputed. -/
def withCorrection (frame : List Byte) (o : Nat) (v : Int) : List Byte :=
  withFcs (frame.take (o + 8) ++ beInt 8 v ++ ((frame.take (frame.length - 4)).drop (o + 16)))

/-- R181: the MAC Control frame that pauses priorities: source, priorities by bit, time. -/
def pfcFrame (source : BitVec 64) (prios : List Bool) (time : Nat) : List Byte :=
  let vec := (List.range 8).foldl (fun a i => if prios.getD i false then a + 2 ^ i else a) 0
  withFcs ([0x01, 0x80, 0xC2, 0x00, 0x00, 0x01] ++ macBytes source ++ beBytes 2 0x8808 ++ beBytes 2 0x0101 ++ beBytes 2 vec
    ++ (List.range 8).flatMap (fun i => beBytes 2 (if prios.getD i false then time else 0)) ++ List.replicate 26 0)

end Sys2Proof.Machine
end

