-- ==== Sys2Proof/Machine/P256.lean ====
section
/-! DEFINITION. P256.lean: ECDSA over NIST P-256 as FIPS 186-5 publishes it (R3, Table 0-3): points in Jacobian
coordinates over natural numbers, signing with a nonce from the DRBG (R254) and verifying (R299). -/

namespace Sys2Proof.Machine

/-- The prime of the field. -/
def ecP : Nat := 0xFFFFFFFF00000001000000000000000000000000FFFFFFFFFFFFFFFFFFFFFFFF

/-- The order of the base point. -/
def ecN : Nat := 0xFFFFFFFF00000000FFFFFFFFFFFFFFFFBCE6FAADA7179E84F3B9CAC2FC632551

/-- The curve's constant b. -/
def ecB : Nat := 0x5AC635D8AA3A93E7B3EBBD55769886BC651D06B0CC53B0F63BCE3C3E27D2604B

/-- A point in Jacobian coordinates: (X/Z², Y/Z³); Z = 0 is the point at infinity. -/
structure EcPoint where
  x : Nat
  y : Nat
  z : Nat
  deriving DecidableEq, Repr

/-- The base point. -/
def ecG : EcPoint :=
  { x := 0x6B17D1F2E12C4247F8BCE6E563A440F277037D812DEB33A0F4A13945D898C296
    y := 0x4FE342E2FE1A7F9B8EE7EB4A7C0F9E162BCE33576B315ECECBB6406837BF51F5
    z := 1 }

/-- The point at infinity. -/
def ecInfinity : EcPoint := ⟨1, 1, 0⟩

/-- The 256 low bits of a number, most significant first. -/
def bits256 (n : Nat) : List Bool := (List.range 256).map (fun i => n.testBit (255 - i))

/-- a^e modulo m for e below 2^256. -/
def modPow (a e m : Nat) : Nat :=
  (bits256 e).foldl (fun acc bit => let q := acc * acc % m; if bit then q * a % m else q) 1

/-- The inverse modulo a prime. -/
def modInv (a m : Nat) : Nat := modPow a (m - 2) m

/-- a − b modulo m, for b below m. -/
def modSub (a b m : Nat) : Nat := (a + (m - b % m)) % m

/-- Doubling (a = −3). -/
def ecDouble (p : EcPoint) : EcPoint :=
  if p.z = 0 ∨ p.y = 0 then ecInfinity
  else
    let delta := p.z * p.z % ecP
    let gamma := p.y * p.y % ecP
    let beta := p.x * gamma % ecP
    let alpha := 3 * modSub p.x delta ecP * (p.x + delta) % ecP
    let x := modSub (alpha * alpha) (8 * beta) ecP
    let y := modSub (alpha * modSub (4 * beta) x ecP) (8 * gamma * gamma) ecP
    { x := x, y := y, z := 2 * p.y * p.z % ecP }

/-- Addition. -/
def ecAdd (p q : EcPoint) : EcPoint :=
  if p.z = 0 then q
  else if q.z = 0 then p
  else
    let z1 := p.z * p.z % ecP
    let z2 := q.z * q.z % ecP
    let u1 := p.x * z2 % ecP
    let u2 := q.x * z1 % ecP
    let s1 := p.y * q.z * z2 % ecP
    let s2 := q.y * p.z * z1 % ecP
    if u1 = u2 then (if s1 = s2 then ecDouble p else ecInfinity)
    else
      let h := modSub u2 u1 ecP
      let r := modSub s2 s1 ecP
      let h2 := h * h % ecP
      let h3 := h2 * h % ecP
      let v := u1 * h2 % ecP
      let x := modSub (modSub (r * r) h3 ecP) (2 * v) ecP
      let y := modSub (r * modSub v x ecP) (s1 * h3) ecP
      { x := x, y := y, z := h * p.z * q.z % ecP }

/-- k·P for k below 2^256. -/
def ecMul (k : Nat) (p : EcPoint) : EcPoint :=
  (bits256 k).foldl (fun acc bit => let q := ecDouble acc; if bit then ecAdd q p else q) ecInfinity

/-- The affine coordinates of a finite point. -/
def ecAffine (p : EcPoint) : Nat × Nat :=
  let zi := modInv p.z ecP
  (p.x * zi * zi % ecP, p.y * zi * zi * zi % ecP)

/-- The affine point satisfies the curve's equation with coordinates below p. -/
def ecOnCurve (x y : Nat) : Bool :=
  decide (x < ecP) && decide (y < ecP) && (y * y % ecP == (x * x * x + (ecP - 3) * x + ecB) % ecP)

/-- FIPS 186-5: r and s of a 32-byte digest with one nonce. -/
def ecdsaPair (key nonce : Nat) (digest : List Byte) : Nat × Nat :=
  let r := (ecAffine (ecMul nonce ecG)).1 % ecN
  (r, modInv nonce ecN * (beVal digest + r * key) % ecN)

/-- ECDSA signing of a 32-byte digest: r then s, 32 bytes each, big-endian, and the number of the next draw. The nonce comes from draw n;
where r or s is 0 the next draw is taken (FIPS 186-5), `fuel` times at most (log entry 88). -/
def ecdsaSign (key : Nat) (draw : Nat → Nat) (digest : List Byte) : Nat → Nat → List Byte × Nat
  | 0, n => let x := ecdsaPair key (1 + draw n % (ecN - 1)) digest; (beBytes 32 x.1 ++ beBytes 32 x.2, n + 1)
  | fuel + 1, n =>
    let x := ecdsaPair key (1 + draw n % (ecN - 1)) digest
    if x.1 = 0 ∨ x.2 = 0 then ecdsaSign key draw digest fuel (n + 1) else (beBytes 32 x.1 ++ beBytes 32 x.2, n + 1)

/-- R258: the device's private key, from 1 to n − 1 as FIPS 186-5 has it. -/
def deviceKey : Nat := 1 + Config.devicePrivateKey % (ecN - 1)

/-- The public key of a private key: X then Y, 32 bytes each, big-endian. -/
def publicKeyOf (key : Nat) : List Byte :=
  let q := ecAffine (ecMul key ecG)
  beBytes 32 q.1 ++ beBytes 32 q.2

/-- R258: DevicePublicKey (0x5000:01), the other half of the device's key pair. -/
def devicePublicKey : List Byte := publicKeyOf deviceKey

/-- ECDSA verification of a 64-byte signature over a 32-byte digest with a 64-byte public key (X then Y). -/
def ecdsaVerify (pub digest sig : List Byte) : Bool :=
  let x := beVal (pub.take 32)
  let y := beVal (pub.drop 32)
  let r := beVal (sig.take 32)
  let s := beVal (sig.drop 32)
  if sig.length = 64 ∧ pub.length = 64 ∧ ecOnCurve x y ∧ 0 < r ∧ r < ecN ∧ 0 < s ∧ s < ecN then
    let w := modInv s ecN
    let q := ecAdd (ecMul (beVal digest * w % ecN) ecG) (ecMul (r * w % ecN) ⟨x, y, 1⟩)
    if q.z = 0 then false else (ecAffine q).1 % ecN == r
  else false

end Sys2Proof.Machine
end

