-- ==== Sys2Proof/Machine/Seal.lean ====
section
/-! DEFINITION. Seal.lean: the evidence seal of chapter 09: chains and windows, leaves and roots, loss notices,
seal frames and anchors. -/

namespace Sys2Proof.Machine

/-! ## Roots -/

/-- The largest power of 2 less than n, for n of 2 or more: doubling from k, `fuel` times at most. -/
def splitPoint : Nat → Nat → Nat → Nat
  | 0, k, _ => k
  | fuel + 1, k, n => if 2 * k < n then splitPoint fuel (2 * k) n else k

/-- R251: the Merkle tree hash over the leaves, with fuel for its depth. -/
def merkle : Nat → List (List Byte) → List Byte
  | _, [] => List.replicate 32 0
  | _, [l] => l
  | 0, _ => []
  | fuel + 1, ls =>
    let k := splitPoint 64 1 ls.length
    sha256 (0x01 :: merkle fuel (ls.take k) ++ merkle fuel (ls.drop k))

/-- R251: the root of a window. -/
def sealRootOf (ls : List (List Byte)) : List Byte := merkle (ls.length + 1) ls

/-! ## Windows -/

/-- The open window of port p. -/
def openWindow (s : State) (p : PortId) : Option SealWindow := s.ports[p].sealing.window

/-- The open window of one port changed, if it has one. -/
def modWindow (p : PortId) (f : SealWindow → SealWindow) (s : State) : State :=
  modSeal p (fun q => { q with window := q.window.map f }) s

/-- R248: the first whole millisecond of tally time strictly after t. -/
def nextMs (t : Nat) : Nat := (t / 1000000 + 1) * 1000000

/-- A window that starts at t with the current WindowLength (R248). -/
def newWindow (s : State) (p : PortId) (number t : Nat) : SealWindow :=
  { number := number, start := t, length := s.ports[p].sealing.length, finish := t,
    civil := (t + s.aon.offset).toNat, chainStart := decide (number = 0), onRc := s.aon.onRc }

/-- R249: the open window is cut at this instant. -/
def cutWindow (p : PortId) (s : State) : State :=
  modSeal p (fun q => { q with
    window := none, cutDue := false
    ended := q.ended ++ q.window.toList.map (fun w => { w with finish := s.aon.tally, cut := true }) }) s

/-- R249: the chain has ended, its open window cut at this instant. -/
def cutChain (p : PortId) (s : State) : State := modSeal p (fun q => { q with t0 := none }) (cutWindow p s)

/-- R249, Table 9-12: at the end of a delivery, the window of a chain that ended during it is cut. -/
def cutAtEnd (p : PortId) (s : State) : State := if s.ports[p].sealing.cutDue then cutWindow p s else s

/-- The seal unit's gate is open (bit 17 of GateOpen). -/
def sealUnitOpen (s : State) : Bool := s.gate.isOpen.getLsbD 17

/-- R248: a chain will start on port p at the first whole millisecond strictly after now, if its seal is enabled
and the seal unit is open. -/
def armChain (p : PortId) (s : State) : State :=
  if s.ports[p].sealing.enable && sealUnitOpen s then
    modSeal p (fun q => { q with t0 := some (nextMs s.aon.tally) }) s
  else s

/-! ## Staging (R253) -/

/-- Bytes of port p in its staging latch array of 32 KiB. -/
def staged (s : State) (p : PortId) : Nat :=
  ((s.hashWork.filter (fun j => decide (j.port = p))).map HashJob.len).foldl (· + ·) 0

/-- R253: a frame of n bytes finds room in the staging latch array. -/
def stagingFits (s : State) (p : PortId) (n : Nat) : Bool := decide (n ≤ 32768 - staged s p)

/-- R253: the quarter blocks of SHA-256 work of a frame of n bytes, ⌈(n + 10) / 64⌉ blocks. -/
def hashQuarters (n : Nat) : Nat := 4 * ((n + 10 + 63) / 64)

/-- A budget of quarter blocks spent on the oldest frames first. -/
def hashRun : Nat → List HashJob → List HashJob
  | _, [] => []
  | budget, j :: rest =>
    if j.quarters ≤ budget then hashRun (budget - j.quarters) rest else { j with quarters := j.quarters - budget } :: rest

/-- Quarter blocks hashed in one SLOW cycle. -/
def hashPerTick : Nat := 3375

/-! ## Leaves (R250) -/

/-- A leaf appended to the open window, with what it changes of the window. -/
def addLeaf (p : PortId) (leaf : List Byte) (f : SealWindow → SealWindow) (s : State) : State :=
  modWindow p (fun w => f { w with leaves := w.leaves ++ [leaf] }) s

/-- R253: the frame whose delivery begins can be hashed: there is room in the staging, and its words check. -/
def hashable (s : State) (p : PortId) (n : Nat) : Bool := stagingFits s p n && !s.env.badStaging.getLsbD p.val

/-- R250, R253: the leaf of a frame whose delivery begins on a sealed port: the bytes a host can store, its
termination and its provoked mark. -/
def frameLeaf (p : PortId) (bytes : List Byte) (errored provoked : Bool) (s : State) : State :=
  match openWindow s p with
  | none => s
  | some w =>
    let idx := w.leaves.length
    let mark := fun v : SealWindow => { v with provoked := v.provoked || provoked }
    if hashable s p bytes.length then
      let t := addLeaf p (sha256 ((if errored then 0x03 else 0x00) :: bytes)) mark s
      let t := modSeal p (fun q => { q with counters := bump 1 1 q.counters }) t
      { t with hashWork := t.hashWork ++
          [{ port := p, window := w.start, len := bytes.length, quarters := hashQuarters bytes.length }] }
    else
      let leaf := sha256 (0x04 :: beBytes 2 bytes.length ++ beBytes 4 idx)
      modSeal p (fun q => { q with counters := bump 3 1 q.counters })
        (addLeaf p leaf (fun v => { mark v with unhashed := v.unhashed ++ [idx] }) s)

/-- Table 9-8: the gap record of a loss. -/
def gapRecord (c : Cls) (l : RxLoss) (entry tally : Nat) : List Byte :=
  [BitVec.ofNat 8 (l.provoked.toNat * 128 + l.estimated.toNat * 64 + l.unknown.toNat * 32 + c.val),
   BitVec.ofNat 8 (causeCode l.cause)]
  ++ beBytes 2 l.seqFirst.toNat ++ beBytes 2 l.seqCount ++ beBytes 2 (min l.frames 65535)
  ++ beBytes 4 (min l.bytes 0xFFFFFFFF) ++ beBytes 4 entry ++ beBytes 8 tally ++ List.replicate 8 0

/-- The addresses and EtherType that both evidence frames carry. -/
def evidenceHead (q : Seal) : List Byte := macBytes q.dest ++ macBytes q.source ++ [0x88, 0xB5]

/-- Table 9-7: a loss notice. -/
def lossNotice (q : Seal) (p : PortId) (number leaf : Nat) (gap : List Byte) : List Byte :=
  withFcs (evidenceHead q ++ [0x02, 0x01] ++ beBytes 2 p.val ++ beBytes 4 0 ++ beBytes 8 number ++ beBytes 4 leaf ++ gap)

/-- R250, R252: a gap leaf at the present point in delivery order, with its loss notice. -/
def gapLeaf (p : PortId) (c : Cls) (l : RxLoss) (entry : Nat) (s : State) : State :=
  match openWindow s p with
  | none => s
  | some w =>
    let g := gapRecord c l entry s.aon.tally
    let t := addLeaf p (sha256 (0x02 :: g)) (fun v => { v with gaps := v.gaps + 1, provoked := v.provoked || l.provoked }) s
    modSeal p (fun q => { q with counters := bump 2 1 q.counters
                                 notices := q.notices ++ [lossNotice q p w.number w.leaves.length g] }) t

/-- One window, open or ended, changed: no two windows of a port start at the same time. -/
def modStarted (p : PortId) (start : Nat) (f : SealWindow → SealWindow) (s : State) : State :=
  let g := fun w : SealWindow => if w.start = start ∧ w.awaiting = false then f w else w
  modSeal p (fun q => { q with window := q.window.map g, ended := q.ended.map g }) s

/-- The number of the window of port p that started at a time. -/
def windowNumber (s : State) (p : PortId) (start : Nat) : Nat :=
  let q := s.ports[p].sealing
  match (q.window.toList ++ q.ended).find? (fun w => decide (w.start = start)) with
  | some w => w.number
  | none => 0

/-- R250: a frame cut on HTXn takes a gap leaf in place of its frame leaf, at the position where its delivery began. -/
def cutLeaf (p : PortId) (c : Cls) (l : RxLoss) (entry : Nat) (at_ : Nat × Nat) (s : State) : State :=
  let g := gapRecord c l entry s.aon.tally
  let t := modStarted p at_.1 (fun w =>
    { w with leaves := w.leaves.set at_.2 (sha256 (0x02 :: g)), gaps := w.gaps + 1, provoked := w.provoked || l.provoked
             unhashed := w.unhashed.filter (fun i => i != at_.2) }) s
  modSeal p (fun q => { q with counters := bump 2 1 q.counters
                               notices := q.notices ++ [lossNotice q p (windowNumber s p at_.1) at_.2 g] }) t

/-! ## Seal frames (R254, R255) -/

/-- Table 9-10: the flags of a seal frame. -/
def sealFlags (w : SealWindow) (anchor : Option Nat) (failed : Bool) : Nat :=
  w.provoked.toNat + 2 * (!w.unhashed.isEmpty).toNat + 4 * (decide (64 < w.unhashed.length)).toNat + 8 * failed.toNat
    + 16 * anchor.isSome.toNat + 32 * w.chainStart.toNat + 64 * w.cut.toNat + 128 * w.onRc.toNat

/-- Table 9-7: the body of a seal frame up to its signature. -/
def sealBody (p : PortId) (w : SealWindow) (root prev : List Byte) (anchor : Option Nat) (failed : Bool) : List Byte :=
  [0x01, 0x01] ++ beBytes 2 (sealFlags w anchor failed) ++ [BitVec.ofNat 8 p.val, 0] ++ beBytes 2 w.length
    ++ beBytes 8 w.number ++ beBytes 8 w.start ++ beBytes 8 w.finish ++ beBytes 8 w.civil ++ beBytes 4 w.leaves.length
    ++ beBytes 4 w.gaps ++ beBytes 4 w.unhashed.length ++ beBytes 4 (anchor.getD 0) ++ root ++ prev
    ++ (w.unhashed.take 64).flatMap (beBytes 4)

/-- R254: the window at the head of the ended ones gets its signed seal frame; `anchor` is the sequence number of
its committed anchor, `failed` says that a required anchor could not be committed (R207). -/
def finishSeal (p : PortId) (root : List Byte) (anchor : Option Nat) (failed : Bool) (s : State) : State :=
  match s.ports[p].sealing.ended with
  | [] => s
  | w :: rest =>
    let q := s.ports[p].sealing
    let body := sealBody p w root (if w.chainStart then List.replicate 32 0 else q.prev) anchor failed
    let sig := ecdsaSign deviceKey Config.drbg (sha256 body) 8 s.free
    let signed := body ++ sig.1
    let c := bump 0 1 q.counters
    let c := if anchor.isSome then bump 4 1 c else if failed then bump 5 1 c else c
    modSeal p (fun r => { r with
      ended := rest, prev := sha256 signed, counters := c,
      anchorEnd := if anchor.isSome then some w.finish else r.anchorEnd,
      frames := r.frames ++ [withFcs (evidenceHead r ++ signed)] }) { s with free := sig.2 }

/-! ## Anchors (R256, R257) -/

/-- R257: the first window to end AnchorInterval or more after the end of the window of the previous anchor, or
with no previous anchor. -/
def anchorInterval (s : State) (p : PortId) (w : SealWindow) : Bool :=
  match s.ports[p].sealing.anchorEnd with
  | none => true
  | some e => decide (e + s.anchorInterval * 1000000000 ≤ w.finish)

/-- R257: the window must be anchored. -/
def anchorNeeded (s : State) (p : PortId) (w : SealWindow) : Bool :=
  decide (0 < w.gaps) || !w.unhashed.isEmpty || w.provoked || w.chainStart || w.cut || anchorInterval s p w

/-- Table of R256: the argument of ANCHOR. -/
def anchorArg (s : State) (p : PortId) (w : SealWindow) (root : List Byte) : List Byte :=
  [BitVec.ofNat 8 p.val,
   BitVec.ofNat 8 ((decide (0 < w.gaps)).toNat + 2 * (!w.unhashed.isEmpty).toNat + 4 * w.provoked.toNat
     + 8 * w.chainStart.toNat + 16 * w.cut.toNat + 32 * (anchorInterval s p w).toNat)]
  ++ beBytes 4 (w.number % 2 ^ 32) ++ root.take 14

/-- R254: every leaf of the window is known: no frame of it waits to be hashed or is still in delivery. -/
def leavesKnown (s : State) (p : PortId) (w : SealWindow) : Bool :=
  !s.hashWork.any (fun j => decide (j.port = p) && decide (j.window = w.start))
  && (match s.ports[p].host.busyLeaf with | some b => decide (b.1 ≠ w.start) | none => true)

/-- R254: the oldest ended window is rooted. Its anchor, where one is required, enters the commit queue, and the
seal frame follows the commit; an anchor that cannot be queued has failed (R207). -/
def rootWindow (p : PortId) (s : State) : State :=
  match s.ports[p].sealing.ended with
  | [] => s
  | w :: rest =>
    if w.awaiting || !leavesKnown s p w then s
    else
      let root := sealRootOf w.leaves
      if anchorNeeded s p w then
        if s.aon.witnessLost.isSome || decide (queueCap ≤ s.crock.queue.length) then
          finishSeal p root none true (raise (devPortEv .sealUnit p 0x0500 6 (anchorArg s p w root)) s)
        else
          raise (devPortEv .sealUnit p 0x0500 6 (anchorArg s p w root))
            (modSeal p (fun q => { q with ended := { w with awaiting := true, root := root } :: rest }) s)
      else finishSeal p root none false s

/-- R254: the ANCHOR of port p was committed under a sequence number, or dropped (none); the seal frame of the
window that waits for it follows. -/
def anchorOutcome (p : PortId) (seq : Option Nat) (s : State) : State :=
  match s.ports[p].sealing.ended with
  | [] => s
  | w :: _ =>
    if w.awaiting then
      let t := finishSeal p w.root seq seq.isNone s
      match seq with
      | none => t
      | some n => { t with lastAnchor := t.lastAnchor.set p.val (BitVec.ofNat 64 (n * 2 ^ 32 + w.number % 2 ^ 32)) }
    else s

/-- The event is an ANCHOR of a port. -/
def anchorPort (e : Ev) : Option PortId := if e.code = 0x0500 then e.port else none

/-! ## Commands -/

/-- R248: at T0, window 0 of the chain opens. The window of a chain that ended during a delivery still in progress is cut at that time. -/
def execChainStart (p : PortId) (s : State) : Host.Outcome State Fault Refusal :=
  .next (match s.ports[p].sealing.t0 with
    | none => s
    | some t =>
      if t ≤ s.aon.tally ∧ s.ports[p].sealing.enable ∧ sealUnitOpen s then
        modSeal p (fun q => { q with t0 := none, current := 0, window := some (newWindow s p 0 t) }) (cutWindow p s)
      else s)

/-- R248: a window ends and the next opens with the current WindowLength. -/
def execSealWindowEnd (p : PortId) (s : State) : Host.Outcome State Fault Refusal :=
  .next (match openWindow s p with
    | none => s
    | some w =>
      let e := w.start + w.length * 1000000
      if e ≤ s.aon.tally then
        modSeal p (fun q => { q with ended := q.ended ++ [{ w with finish := e }], current := w.number + 1
                                     window := some (newWindow s p (w.number + 1) e) }) s
      else s)

/-- R254: the root of the oldest ended window, its anchor and its seal frame. -/
def execSealRoot (p : PortId) (s : State) : Host.Outcome State Fault Refusal := .next (rootWindow p s)

end Sys2Proof.Machine
end

