-- ==== Sys2Proof/Machine/Crock.lean ====
section
/-! DEFINITION. Crock.lean: the event recorder of chapter 13 (records, chaining, placement, commits, failure of its
memory) and the EMCY messages a committed record queues (R310 to R312). -/

namespace Sys2Proof.Machine

/-! ## ErrorRegister and EMCY -/

/-- R312: ErrorRegister (0x1001). -/
def errorRegister (s : State) : Byte :=
  let tamper := s.ports.toList.any (fun p => decide (p.sig.level = .tamper))
  BitVec.ofNat 8 ((s.aon.witnessLost.isSome || tamper).toNat + 8 * s.heat.warn.toNat + 16 * s.can.errorPassive.toNat
    + 128 * tamper.toNat)

/-- R311: capacity of the EMCY queue. -/
def emcyCap : Nat := 32

/-- R311: a message joins the queue, or is dropped and counted where the queue is full or NMT is Stopped. -/
def queueEmcy (m : Emcy) (s : State) : State :=
  if s.can.nmt = .stopped ∨ emcyCap ≤ s.can.emcy.length then
    { s with can := { s.can with emcyDropped := sat32 (s.can.emcyDropped + 1), dropped := s.can.dropped + 1
                                 droppedMask := s.can.droppedMask ||| m.mask } }
  else { s with can := { s.can with emcy := s.can.emcy ++ [m] } }

/-- R310: the channels whose threshold a severity meets. -/
def emcyMask (s : State) (sev : Nat) : Byte :=
  BitVec.ofNat 8 ((List.finRange 4).foldl (fun a c =>
    if s.chans[c].emcyThreshold.toNat ≤ sev then a + 2 ^ c.val else a) 0)

/-- R310: the EMCY of a committed record, if it meets any channel's threshold. -/
def recordEmcy (src : EvBlock) (sev seq : Nat) (s : State) : State :=
  let m := emcyMask s sev
  let code := 0xFF00 + 16 * sev + (match src with | .bay p => p.val | _ => 8)
  if m = 0 then s
  else queueEmcy { code := BitVec.ofNat 16 code, err := errorRegister s, mask := m, info := BitVec.ofNat 32 seq } s

/-- R311: when space returns, error code 0xFFFE goes into the first free place for the messages dropped. -/
def emcyDropNotice (s : State) : State :=
  if 0 < s.can.dropped ∧ s.can.nmt ≠ .stopped ∧ s.can.emcy.length < emcyCap then
    { s with can := { s.can with
        emcy := s.can.emcy ++ [{ code := 0xFFFE, err := errorRegister s, mask := s.can.droppedMask
                                 info := BitVec.ofNat 32 s.can.dropped }]
        dropped := 0, droppedMask := 0 } }
  else s

/-! ## Records -/

/-- R324: the number after a sequence number. -/
def nextSeq (n : Nat) : Nat := if n = 0xFFFFFFFF then 1 else n + 1

/-- R325: the chain key K. -/
def chainKey : List Byte := sha256 (devicePublicKey ++ beBytes 4 Config.serialNumber.toNat)

/-- HMAC-SHA-256 under a key of 32 bytes. -/
def hmac (key m : List Byte) : List Byte :=
  let pad := fun x : Byte => (key ++ List.replicate 32 0).map (fun b => b ^^^ x)
  sha256 (pad 0x5C ++ sha256 (pad 0x36 ++ m))

/-- The source byte (Table 13-1). -/
def sourceByte (e : Ev) : Byte :=
  BitVec.ofNat 8 (blockCode e.src * 16 + (match e.port with | some p => p.val | none => 15))

/-- Record bytes 0 to 43 (Table 13-1). -/
def recordHead (q : QEvent) (seq : Nat) : List Byte :=
  [BitVec.ofNat 8 (32 + 16 * q.stale.toNat + 8 * q.onRc.toNat + q.ev.sev.val), sourceByte q.ev]
  ++ leBytes 2 q.ev.code.toNat ++ leBytes 4 seq ++ leBytes 8 q.tally ++ leBytes 8 q.civil
  ++ (q.ev.arg ++ List.replicate 20 0).take 20

/-- R325: the ChainTag that follows the tag `prev`. -/
def chainTag (prev head : List Byte) : List Byte := (hmac chainKey (0x54 :: prev ++ head)).take 16

/-- R325: the ValidMark of record bytes 0 to 59. -/
def validMark (body : List Byte) : List Byte := (hmac chainKey (0x4D :: body)).take 4

/-- R323: the 64 bytes of a record. -/
def recordBytes (q : QEvent) (seq : Nat) (prev : List Byte) : List Byte :=
  let head := recordHead q seq
  let body := head ++ chainTag prev head
  body ++ validMark body

/-! ## Placement (R327 to R329) -/

/-- Slots of the crock. -/
def slotCount : Nat := unitBytes .crock / 64

/-- Capacity of the bad-slot map (R341). -/
def badCap : Nat := 4096

/-- The slot holds a record or is in the bad-slot map. -/
def slotTaken (k : Crock) (slot : Nat) : Bool := k.bad.contains slot || k.recs.any (fun r => r.slot == slot)

/-- The lowest-numbered free slot from `slot` on, `fuel` slots looked at. -/
def freeFrom (k : Crock) : Nat → Nat → Option Nat
  | 0, _ => none
  | fuel + 1, slot => if slotTaken k slot then freeFrom k fuel (slot + 1) else some slot

/-- R328: the lowest-numbered free slot. -/
def freeSlot (k : Crock) : Option Nat := freeFrom k slotCount 0

/-- R327: low records held. -/
def lowCount (k : Crock) : Nat := (k.recs.filter (fun r => decide (r.sev ≤ 5))).length

/-- The slot of the oldest record that satisfies a test; records stand in commit order. -/
def oldestSlot (k : Crock) (f : Rec → Bool) : Option Nat := (k.recs.find? f).map Rec.slot

/-- R328: the slot for a record of severity `sev`, or none. -/
def placeSlot (k : Crock) (sev : Nat) : Option Nat :=
  if sev ≤ 5 then
    match (if lowCount k < 49152 - k.bad.length then freeSlot k else none) with
    | some x => some x
    | none => oldestSlot k (fun r => decide (r.sev ≤ sev))
  else
    match freeSlot k with
    | some x => some x
    | none => if sev = 6 then oldestSlot k (fun r => decide (r.sev = 6)) else oldestSlot k (fun r => decide (r.sev ≤ 6))

/-! ## Commits (R330, R331, R341) -/

/-- R331, R337: the inactive copy of the chain-head word is written and made active. -/
def writeHead (newest : Nat) (tag : List Byte) (checkpoint : Nat) (k : Crock) : Crock :=
  { k with newest := newest, headTag := tag, checkpoint := checkpoint
           spare := { newest := k.newest, tag := k.headTag, checkpoint := k.checkpoint }, secondActive := !k.secondActive }

/-- R325: the crock as its words read: a slot whose words fail their BCH check holds no record. -/
def crockRead (env : Env) (k : Crock) : Crock := { k with recs := k.recs.filter (fun r => !env.badRead.contains r.slot) }

/-- R331: the step at which a write of a slot fails its verify: its words cannot be written, or do not read back. -/
def slotFails (env : Env) (slot : Nat) : Option VerifyStep :=
  ((env.badMram.find? (fun b => b.1 == slot)).map Prod.snd) <|> (if env.badRead.contains slot then some .readBack else none)

/-- How one commit attempt ends. -/
inductive Attempt where
  | committed (k : Crock) (seq : Nat)
  | dropped (k : Crock)
  | failed (k : Crock) (slot : Nat) (step : VerifyStep)

/-- R329: the bookkeeping of a record that no slot can take. -/
def notPlaced (k : Crock) (sev : Nat) : Crock :=
  { k with full7 := k.full7 || decide (sev = 7)
           full7Tally := if sev = 7 then sat32 (k.full7Tally + 1) else k.full7Tally
           dropTally := bump sev 1 k.dropTally }

/-- R331, Table 13-5: place, chain, write and verify one record, and write the chain head. -/
def attemptCommit (env : Env) (k : Crock) (q : QEvent) : Attempt :=
  let k := crockRead env k
  match placeSlot k q.ev.sev.val with
  | none => .dropped (notPlaced k q.ev.sev.val)
  | some slot =>
    let k := { k with recs := k.recs.filter (fun r => r.slot != slot) }
    match slotFails env slot with
    | some step => .failed k slot step
    | none =>
      let seq := nextSeq k.newest
      let head := recordHead q seq
      .committed (writeHead seq (chainTag k.headTag head) (max k.checkpoint q.tally) { k with
        recs := k.recs ++ [{ slot := slot, seq := seq, sev := q.ev.sev.val, bytes := recordBytes q seq k.headTag }], failRun := 0 }) seq

/-- R341: the argument of RECORDER_FAULT. -/
def faultArg (slot : Nat) (step : VerifyStep) (q : QEvent) (badCount : Nat) : List Byte :=
  beBytes 2 slot ++ [(match step with | .word0 => 1 | .word1 => 2 | .readBack => 3 | .mark => 4 : Byte),
    BitVec.ofNat 8 q.ev.sev.val] ++ beBytes 2 q.ev.code.toNat ++ beBytes 2 badCount

/-- Events dropped and counted in DropTally; an ANCHOR among them has failed (R207). -/
def dropEvents (qs : List QEvent) (s : State) : State :=
  qs.foldl (fun t q =>
    let t := dropEv q.ev t
    match anchorPort q.ev with
    | some p => anchorOutcome p none t
    | none => t) s

/-- R342, Table 13-6: entry to WITNESS_LOST, with the events still to be dropped. -/
def enterWitnessLost (extra : List QEvent) (s : State) : State :=
  let lost := extra ++ s.crock.owed ++ s.crock.queue
  let s := { s with
    fus := { s.fus with witness := (burnNext s.fus.witness).1 }
    aon := { s.aon with witnessLost := some s.aon.tally, lastAttempt := s.aon.tally, dropAtEntry := s.crock.dropTally.map Int.ofNat }
    crock := { s.crock with owed := [], queue := [], failRun := 0, started := true, recovering := false } }
  dropEvents lost (queueEmcy { code := 0xFFFF, err := errorRegister s, mask := 0x0F, info := 0 } s)

/-- R330: the RECORDS_DROPPED record enters the queue as soon as it has room. -/
def droppedNotice (s : State) : State :=
  if s.crock.droppedQ.any (fun n => decide (0 < n)) ∧ s.crock.queue.length < queueCap ∧ s.aon.witnessLost.isNone then
    let e := devEv .crock 0x0904 3 (s.crock.droppedQ.flatMap (fun n => beBytes 2 (sat16 n)))
    raise e { s with crock := { s.crock with droppedQ := List.replicate 8 0 } }
  else s

/-- R341, R342: a commit failed verification at a slot; the slot joins the bad-slot map and RECORDER_FAULT and the
pending record are owed, or WITNESS_LOST is entered. -/
def commitFailed (k : Crock) (slot : Nat) (step : VerifyStep) (q : QEvent) (rest : List QEvent) (s : State) : State :=
  if badCap ≤ k.bad.length then enterWitnessLost (q :: rest) { s with crock := { k with owed := [] } }
  else
    let k := { k with bad := k.bad ++ [slot], failRun := k.failRun + 1 }
    if 8 ≤ k.failRun then enterWitnessLost (q :: rest) { s with crock := { k with owed := [] } }
    else
      let fault := stampEv s (devEv .crock 0x0902 7 (faultArg slot step q k.bad.length))
      droppedNotice { s with crock := { k with owed := fault :: q :: rest } }

/-- R365: once START is committed or dropped, the recorder objects are served. -/
def markStarted (committed : Bool) (q : QEvent) (s : State) : State :=
  if q.ev.code = 0x0900 then { s with crock := { s.crock with started := true, startCommitted := committed } } else s

/-- R342, Table 13-7: once RECORDER_RECOVERED has committed, or has no slot, events are queued again. -/
def endRecovery (q : QEvent) (s : State) : State :=
  if q.ev.code = 0x0903 then { s with crock := { s.crock with recovering := false } } else s

/-- What follows a successful commit: the EMCY of R310, and the seal frame of an ANCHOR (R254). -/
def afterCommit (q : QEvent) (seq : Nat) (s : State) : State :=
  let t := endRecovery q (markStarted true q (recordEmcy q.ev.src q.ev.sev.val seq s))
  match anchorPort q.ev with
  | some p => anchorOutcome p (some seq) t
  | none => t

/-- What follows a record that no slot could take. -/
def afterDropped (q : QEvent) (s : State) : State :=
  match anchorPort q.ev with
  | some p => anchorOutcome p none s
  | none => endRecovery q (markStarted false q s)

/-- R331: one event committed, the others of `rest` still owed ahead of the queue. -/
def commitOne (q : QEvent) (rest : List QEvent) (s : State) : State :=
  match attemptCommit s.env s.crock q with
  | .committed k seq => droppedNotice (afterCommit q seq { s with crock := { k with owed := rest } })
  | .dropped k => droppedNotice (afterDropped q { s with crock := { k with owed := rest } })
  | .failed k slot step => commitFailed k slot step q rest s

/-- R331: the crock commits its next event: what R341 owes first, then the queue in order; nothing while the
start-up scan runs or in WITNESS_LOST, nor outside BOIL, where MRAM has no power or events wait (Tables 15-1 and 15-4). -/
def commitNext (s : State) : State :=
  if s.crock.scanning || decide (s.pwr.state ≠ .boil) || s.aon.witnessLost.isSome then s
  else
    match s.crock.owed with
    | q :: rest => commitOne q rest s
    | [] =>
      match s.crock.queue with
      | [] => s
      | q :: rest => commitOne q [] { s with crock := { s.crock with queue := rest } }

/-- R331, R332: power or reset cuts short the commit in flight. Cut before word 0 it leaves no trace. Cut after word 0, the old record of its slot
is gone, and the new one never existed; its number is allotted again. Cut after the true mark, the record exists, and the chain head's copies do not
name it yet. Which of the three is open (log entry 92). -/
def cutCommit (s : State) : State :=
  let t := afterDraw s
  let n := Config.commitCut s.free % 3
  match (if 1 ≤ n && !s.crock.scanning && s.aon.witnessLost.isNone then (s.crock.owed ++ s.crock.queue).head? else none) with
  | none => t
  | some q =>
    let k := crockRead s.env s.crock
    match placeSlot k q.ev.sev.val with
    | none => t
    | some slot =>
      let left := k.recs.filter (fun r => r.slot != slot)
      if n = 1 ∨ (slotFails s.env slot).isSome then { t with crock := { s.crock with recs := left } }
      else
        let seq := nextSeq k.newest
        { t with crock := { s.crock with
            recs := left ++ [{ slot := slot, seq := seq, sev := q.ev.sev.val, bytes := recordBytes q seq k.headTag }] } }

/-! ## Reading records back (R325, R338) -/

/-- R325: a record whose slot's words pass their BCH check. -/
def slotReads (s : State) (r : Rec) : Bool := !s.env.badRead.contains r.slot

/-- R325: the ValidMark of a record checks. -/
def markChecks (r : Rec) : Bool := decide (r.bytes.drop 60 = validMark (r.bytes.take 60))

/-- R325: the records that exist: one that fails its check on a read does not. -/
def recordsSeen (s : State) : List Rec := s.crock.recs.filter (slotReads s)

/-- R338: the chain head is the active chain-head copy or the newest valid record, whichever has the later number: the record can be one ahead. -/
def takeHead (k : Crock) : Crock :=
  match k.recs.getLast? with
  | some r => if r.seq = nextSeq k.newest then { k with newest := r.seq, headTag := (r.bytes.drop 44).take 16 } else k
  | none => k

/-- R338: the scan of every slot rebuilds the index and takes the chain head. -/
def rebuildIndex (s : State) : State :=
  { s with crock := takeHead { s.crock with recs := s.crock.recs.filter (fun r => slotReads s r && markChecks r) } }

/-! ## Recovery and start (R338, R342) -/

/-- R342: one commit attempted outside the queue; the flag says whether the record was committed. -/
def commitDirect (q : QEvent) (s : State) : State × Bool :=
  match attemptCommit s.env s.crock q with
  | .committed k seq => (recordEmcy q.ev.src q.ev.sev.val seq { s with crock := k }, true)
  | .dropped k => ({ s with crock := k }, false)
  | .failed k slot _ =>
    ({ s with crock := { notPlaced k q.ev.sev.val with
        full7 := k.full7, full7Tally := k.full7Tally
        bad := if k.bad.length < badCap then k.bad ++ [slot] else k.bad } }, false)

/-- R342: the argument of RECORDER_RECOVERED. -/
def recoveredArg (s : State) : List Byte :=
  (List.zipWith (fun now before => beBytes 2 (sat16 ((now : Int) - before).toNat)) s.crock.dropTally s.aon.dropAtEntry).flatten
  ++ beBytes 4 ((s.aon.tally - s.aon.witnessLost.getD s.aon.tally) / 1000000000)

/-- The RECORDER_RECOVERED event, stamped now. -/
def recoveredEvent (s : State) : QEvent := stampEv s (devEv .crock 0x0903 7 (recoveredArg s))

/-- WITNESS_LOST ends. -/
def endWitnessLost (s : State) : State := { s with aon := { s.aon with witnessLost := none } }

/-- R342: the attempts of WITNESS_LOST are 10 s of tally time apart, counted from the entry, or from a start in it: the start of the window of the
attempt made now. -/
def attemptWindow (s : State) : Nat := s.aon.lastAttempt + (s.aon.tally - s.aon.lastAttempt) / 10000000000 * 10000000000

/-- R342: a recovery attempt: the first in its 10 s window. -/
def recoverAttempt (s : State) : State :=
  match s.aon.witnessLost with
  | none => s
  | some _ =>
    if s.crock.scanning || decide (s.aon.tally < s.aon.lastAttempt + 10000000000) then s
    else
      let r := commitDirect (recoveredEvent s) { s with aon := { s.aon with lastAttempt := attemptWindow s } }
      if r.2 then endWitnessLost r.1 else r.1

/-- R338: START causes. -/
def startCode : StartCause → Nat
  | .powerOn => 1
  | .resetN => 2
  | .resetRequest => 3
  | .thermalRestart => 4
  | .hardResetOnRc => 5

/-- R338: the argument of START; `checkFailed` is PowerOnCheck so far. -/
def startArg (s : State) (checkFailed : Bool) : List Byte :=
  let thermal := decide (s.pwr.startCause = .thermalRestart)
  [BitVec.ofNat 8 (startCode s.pwr.startCause), BitVec.ofNat 8 (s.aon.civilStale.toNat + 2 * checkFailed.toNat)]
  ++ beBytes 2 (if s.aon.lostUnknown then 0xFFFF else sat16 s.aon.lostEvents)
  ++ beBytes 8 s.crock.startCheckpoint ++ beBytes 4 s.crock.newest
  ++ beInt 2 (if thermal then s.pwr.shutReading else 0) ++ [BitVec.ofNat 8 (if thermal then s.pwr.shutSensor else 0)]

/-- Table 13-4: START has severity 5 for causes 4 and 5, otherwise 3. -/
def startEvent (s : State) (checkFailed : Bool) : QEvent :=
  stampEv s (devEv .crock 0x0900 (if s.pwr.startCause = .thermalRestart ∨ s.pwr.startCause = .hardResetOnRc then 5 else 3)
    (startArg s checkFailed))

/-- R301: SESSION_END of one channel's session with a cause (Table 13-4). -/
def sessionEndEv (ch : Chan) (r : Role) (cause : Nat) : Ev :=
  devEv .dict 0x0603 1 [BitVec.ofNat 8 ch.val, BitVec.ofNat 8 (roleCode r), BitVec.ofNat 8 cause]

/-- R301, R338: after START, the SESSION_END records of the sessions open at the reset, channels ascending. -/
def sessionEndsAfterStart (s : State) : State :=
  raiseAll (s.aon.openAtReset.map (fun cr => sessionEndEv cr.1 cr.2 3)) { s with aon := { s.aon with openAtReset := [] } }

/-- R396: the MRAM part of the power-on check fails: words of the crock, as the scan found them, of a recipe bank, or of a signature reference. -/
def mramFails (crockFails : Bool) (s : State) : Bool :=
  crockFails || !wordsDecode s.rcp.bank0.errs || !wordsDecode s.rcp.bank1.errs
  || s.ports.toList.any (fun q => [q.sig.lineRef, q.sig.probeRef].any (fun r => !wordsDecode r.activeErrs || !wordsDecode r.otherErrs))

/-- R338, R342: the start-up scan ends and START is the first record; in WITNESS_LOST it is a recovery attempt, and where it commits,
RECORDER_RECOVERED follows it by the steps of R341. Only the crock's own words lead to WITNESS_LOST (R396). -/
def scanEnd (crockFails : Bool) (s : State) : State :=
  if !s.crock.scanning || deviceHeld s then s
  else
    let failed := mramFails crockFails s
    let s := rebuildIndex { s with crock := { s.crock with scanning := false }, bist := { s.bist with mramFailed := failed } }
    let s := if crockFails && s.aon.witnessLost.isNone then enterWitnessLost [] s else s
    let q := startEvent s failed
    let s := { s with aon := { s.aon with lostEvents := 0, lostUnknown := false } }
    match s.aon.witnessLost with
    | some _ =>
      let r := commitDirect q { s with aon := { s.aon with lastAttempt := s.aon.tally }
                                       crock := { s.crock with started := true } }
      sessionEndsAfterStart (if r.2 then
          commitOne (recoveredEvent r.1) [] (endWitnessLost { r.1 with crock := { r.1.crock with startCommitted := true, recovering := true } })
        else r.1)
    | none =>
      match attemptCommit s.env s.crock q with
      | .committed k seq => sessionEndsAfterStart (afterCommit q seq { s with crock := k })
      | .dropped k => sessionEndsAfterStart (afterDropped q { s with crock := k })
      | .failed k slot step => sessionEndsAfterStart (commitFailed k slot step q [] s)

/-! ## Clearing and checkpoint (R334, R337) -/

/-- R334: every slot invalid, the tallies at 0, FULL7 clear, the queue emptied and a new chain begun; an ANCHOR in the queue is not
committed, and its window's seal frame follows without it (R254, R207). -/
def emptyCrock (s : State) : State :=
  forPorts (fun p => anchorOutcome p none) { s with
    aon := { s.aon with dropAtEntry := List.zipWith (fun before now => before - (now : Int)) s.aon.dropAtEntry s.crock.dropTally }
    crock := writeHead 0 (List.replicate 16 0) s.crock.checkpoint { s.crock with
      recs := [], full7 := false, full7Tally := 0, dropTally := List.replicate 8 0, owed := [], queue := []
      droppedQ := List.replicate 8 0, failRun := 0, recovering := false } }

/-! ## Commands -/

/-- R330: a block raises events in one CTL cycle; they enter the queue in the order of R16. -/
def execEventRaise (evs : List Ev) (s : State) : Host.Outcome State Fault Refusal :=
  .next (if deviceHeld s then s else raiseAll (evSort evs) s)

/-- R331: the next commit. -/
def execRecordCommit (s : State) : Host.Outcome State Fault Refusal := .next (commitNext s)

/-- R342: the recovery attempt of WITNESS_LOST. -/
def execRecorderRecovered (s : State) : Host.Outcome State Fault Refusal := .next (recoverAttempt s)

/-- R337: at a whole second of tally time, the checkpoint holds that second. -/
def execTallyCheckpoint (s : State) : Host.Outcome State Fault Refusal :=
  .next { s with crock := writeHead s.crock.newest s.crock.headTag (max s.crock.checkpoint (s.aon.tally / 1000000000 * 1000000000)) s.crock }

/-- R338: the start-up scan ends. -/
def execCrockScanEnd (mramFail : Bool) (s : State) : Host.Outcome State Fault Refusal := .next (scanEnd mramFail s)

/-- R310, R311: the message at the head of the EMCY queue is sent; a drop notice takes the place it frees. -/
def execEmcySend (s : State) : Host.Outcome State Fault Refusal :=
  .next (if s.can.nmt = .stopped ∨ s.can.nmt = .initialising ∨ busDriven s = false then s
    else match s.can.emcy with
      | [] => emcyDropNotice s
      | m :: rest =>
        emcyDropNotice { s with can := { s.can with
          emcy := rest, emcySent := sat32 (s.can.emcySent + 1)
          out := [{ id := BitVec.ofNat 11 (0x080 + s.can.node.toNat)
                    data := leBytes 2 m.code.toNat ++ [m.err, m.mask] ++ leBytes 4 m.info.toNat }] } })

end Sys2Proof.Machine
end

