-- ==== Sys2Proof/Machine/Ternary.lean ====
section
/-! DEFINITION. Ternary.lean: trits, trytes as elements of GF(729), PAM-9 levels and the 19-into-12 packing
(chapter 02). -/

namespace Sys2Proof.Machine

/-- R5: a balanced trit. -/
inductive Trit where
  | neg | zero | pos
  deriving DecidableEq, Repr, Inhabited

/-- R5: the value of a trit. -/
def tritVal : Trit → Int
  | .neg => -1
  | .zero => 0
  | .pos => 1

/-- R26: the field digit φ(t) = t mod 3. -/
def fieldDigit : Trit → Nat
  | .zero => 0
  | .pos => 1
  | .neg => 2

/-- Table 2-2: addition in GF(3), which wraps. -/
def tritAdd : Trit → Trit → Trit
  | .zero, b => b
  | a, .zero => a
  | .pos, .pos => .neg
  | .neg, .neg => .pos
  | .pos, .neg => .zero
  | .neg, .pos => .zero

/-- R28: multiplication of balanced trits. -/
def tritMul : Trit → Trit → Trit
  | .zero, _ => .zero
  | _, .zero => .zero
  | .pos, b => b
  | .neg, .pos => .neg
  | .neg, .neg => .pos

/-- Exchange of + and −. -/
def tritNeg : Trit → Trit
  | .neg => .pos
  | .zero => .zero
  | .pos => .neg

/-- R25: a tryte ⟨t5 t4 t3 t2 t1 t0⟩. -/
structure Tryte where
  t5 : Trit
  t4 : Trit
  t3 : Trit
  t2 : Trit
  t1 : Trit
  t0 : Trit
  deriving DecidableEq, Repr, Inhabited

/-- R25: the integer value of a tryte. -/
def tryteVal (a : Tryte) : Int :=
  tritVal a.t5 * 243 + tritVal a.t4 * 81 + tritVal a.t3 * 27 + tritVal a.t2 * 9 + tritVal a.t1 * 3 + tritVal a.t0

/-- R26: the field index N. -/
def fieldIndex (a : Tryte) : Nat :=
  fieldDigit a.t5 * 243 + fieldDigit a.t4 * 81 + fieldDigit a.t3 * 27 + fieldDigit a.t2 * 9 + fieldDigit a.t1 * 3
    + fieldDigit a.t0

/-! ## GF(729) -/

/-- The field zero ⟨000000⟩ (R26). -/
def gfZero : Tryte := ⟨.zero, .zero, .zero, .zero, .zero, .zero⟩

/-- α^0. -/
def gfOne : Tryte := ⟨.zero, .zero, .zero, .zero, .zero, .pos⟩

/-- α, the class of x (R27). -/
def gfAlpha : Tryte := ⟨.zero, .zero, .zero, .zero, .pos, .zero⟩

/-- R28: addition digit by digit, without carry. -/
def gfAdd (a b : Tryte) : Tryte :=
  ⟨tritAdd a.t5 b.t5, tritAdd a.t4 b.t4, tritAdd a.t3 b.t3, tritAdd a.t2 b.t2, tritAdd a.t1 b.t1, tritAdd a.t0 b.t0⟩

/-- R91: negation exchanges + and − in every trit. -/
def gfNeg (a : Tryte) : Tryte :=
  ⟨tritNeg a.t5, tritNeg a.t4, tritNeg a.t3, tritNeg a.t2, tritNeg a.t1, tritNeg a.t0⟩

/-- R91: subtraction adds the negated element. -/
def gfSub (a b : Tryte) : Tryte := gfAdd a (gfNeg b)

/-- Multiplication of every digit by one trit. -/
def gfScale (k : Trit) (a : Tryte) : Tryte :=
  ⟨tritMul k a.t5, tritMul k a.t4, tritMul k a.t3, tritMul k a.t2, tritMul k a.t1, tritMul k a.t0⟩

/-- R27: multiplication by x, reduced with α^6 = α^4 + 2α^2 + α + 1. -/
def gfMulX (a : Tryte) : Tryte :=
  gfAdd ⟨a.t4, a.t3, a.t2, a.t1, a.t0, .zero⟩ (gfScale a.t5 ⟨.zero, .pos, .zero, .neg, .pos, .pos⟩)

/-- R28: multiplication of the polynomials, reduced by R27. -/
def gfMul (a b : Tryte) : Tryte :=
  gfAdd (gfMulX (gfAdd (gfMulX (gfAdd (gfMulX (gfAdd (gfMulX (gfAdd (gfMulX (gfScale a.t5 b)) (gfScale a.t4 b)))
    (gfScale a.t3 b))) (gfScale a.t2 b))) (gfScale a.t1 b))) (gfScale a.t0 b)

/-- a^n. -/
def gfPow (a : Tryte) : Nat → Tryte
  | 0 => gfOne
  | n + 1 => gfMul a (gfPow a n)

/-- a^(2^k) by squaring. -/
def gfSquares (a : Tryte) : Nat → Tryte
  | 0 => a
  | k + 1 => gfSquares (gfMul a a) k

/-- The inverse of a nonzero element, a^727 (R27: α has order 728); 727 = 1 + 2 + 4 + 16 + 64 + 128 + 512. -/
def gfInv (a : Tryte) : Tryte :=
  [0, 1, 2, 4, 6, 7, 9].foldl (fun acc k => gfMul acc (gfSquares a k)) gfOne

/-- The powers α^0, α^1, … , n of them, by multiplication by x. -/
def gfPowers : Nat → Tryte → List Tryte
  | 0, _ => []
  | n + 1, a => a :: gfPowers n (gfMulX a)

/-! ## PAM-9 -/

/-- R29: the level of the symbol (high, low). -/
def pamLevel (hi lo : Trit) : Int := 3 * tritVal hi + tritVal lo

/-- R29: the three symbols of a tryte, in sending order. -/
def tryteLevels (a : Tryte) : List Int := [pamLevel a.t5 a.t4, pamLevel a.t3 a.t2, pamLevel a.t1 a.t0]

/-- The trit of an integer −1, 0 or +1. -/
def tritOf (v : Int) : Trit := if v < 0 then .neg else if v = 0 then .zero else .pos

/-- R31: a decided level turned back into (high, low). -/
def levelTrits (l : Int) : Trit × Trit :=
  let hi : Int := ((l + 4).toNat / 3 : Nat) - 1
  (tritOf hi, tritOf (l - 3 * hi))

/-- The tryte of three decided levels. -/
def tryteOfLevels (a b c : Int) : Tryte :=
  ⟨(levelTrits a).1, (levelTrits a).2, (levelTrits b).1, (levelTrits b).2, (levelTrits c).1, (levelTrits c).2⟩

/-! ## The 19-into-12 packing -/

/-- The trit of an unsigned ternary digit: 0, 1, 2 become −, 0, + (R33). -/
def tritOfUnsigned (d : Nat) : Trit := if d = 0 then .neg else if d = 1 then .zero else .pos

/-- The unsigned ternary digit of a trit. -/
def unsignedOfTrit : Trit → Nat
  | .neg => 0
  | .zero => 1
  | .pos => 2

/-- A tryte of six unsigned ternary digits of `u`, 0 ≤ u < 729 (R33). -/
def tryteOfUnsigned (u : Nat) : Tryte :=
  ⟨tritOfUnsigned (u / 243 % 3), tritOfUnsigned (u / 81 % 3), tritOfUnsigned (u / 27 % 3), tritOfUnsigned (u / 9 % 3),
   tritOfUnsigned (u / 3 % 3), tritOfUnsigned (u % 3)⟩

/-- The unsigned value of a tryte, its integer value plus 364. -/
def unsignedOfTryte (a : Tryte) : Nat :=
  unsignedOfTrit a.t5 * 243 + unsignedOfTrit a.t4 * 81 + unsignedOfTrit a.t3 * 27 + unsignedOfTrit a.t2 * 9
    + unsignedOfTrit a.t1 * 3 + unsignedOfTrit a.t0

/-- R34: word value u as the trytes 2g (trits 11 to 6) and 2g + 1 (trits 5 to 0). -/
def pack12 (u : Nat) : Tryte × Tryte := (tryteOfUnsigned (u / 729 % 729), tryteOfUnsigned (u % 729))

/-- R33: the word value of two trytes. -/
def unpack12 (w : Tryte × Tryte) : Nat := unsignedOfTryte w.1 * 729 + unsignedOfTryte w.2

/-- R35: first word value of the escape range, 2^19. -/
def escapeBase : Nat := 524288

/-- R35: the word is an escape. -/
def isEscape (u : Nat) : Bool := decide (escapeBase ≤ u)

end Sys2Proof.Machine
end

