-- ==== Sys2Proof/Machine/LineCode.lean ====
section
/-! DEFINITION. LineCode.lean: from the bits of a shingle to line symbols and back: CRC-24, scrambler,
RS(240,224) and the outcomes of a received slot (chapter 04). -/

namespace Sys2Proof.Machine

/-! ## Bits and bytes -/

/-- The n low bits of v, most significant first. -/
def bitsOf : Nat → Nat → List Bool
  | 0, _ => []
  | n + 1, v => v.testBit n :: bitsOf n v

/-- The value of a bit list, most significant first. -/
def bitsVal (bs : List Bool) : Nat := bs.foldl (fun a b => 2 * a + b.toNat) 0

/-- The bits of bytes, bit 7 first (R81). -/
def bytesBits (bs : List Byte) : List Bool := bs.flatMap (fun b => bitsOf 8 b.toNat)

/-- The bits in groups of `n`, at most `fuel` of them. -/
def chunks {α : Type} (n : Nat) : Nat → List α → List (List α)
  | 0, _ => []
  | fuel + 1, l => l.take n :: chunks n fuel (l.drop n)

/-- The first `n` whole bytes of a bit list. -/
def bitsBytes (n : Nat) (bs : List Bool) : List Byte := (chunks 8 n bs).map (fun c => BitVec.ofNat 8 (bitsVal c))

/-! ## CRC-24 -/

/-- One bit of the CRC division of R84. -/
def crcShift (c : Nat) : Nat :=
  let d := 2 * c
  if d.testBit 24 then d ^^^ 0x1864CFB else d

/-- R84: the OpenPGP CRC-24, polynomial 0x864CFB, initial value 0xB704CE. -/
def crc24 (bytes : List Byte) : Nat :=
  bytes.foldl (fun c b =>
    crcShift (crcShift (crcShift (crcShift (crcShift (crcShift (crcShift (crcShift (c ^^^ (b.toNat <<< 16))))))))))
    0xB704CE

/-! ## Scrambler -/

/-- Multiplication by x modulo x^58 + x^19 + 1, the polynomial of the recurrence of R86. -/
def keyMulX (r : BitVec 58) : BitVec 58 := (r <<< 1) ^^^ (if r.getLsbD 57 then 0x80001#58 else 0#58)

/-- Multiplication modulo x^58 + x^19 + 1: the bits of `a`, most significant first. -/
def keyMul (a b : BitVec 58) : BitVec 58 :=
  (bitsOf 58 a.toNat).foldl (fun acc bit => keyMulX acc ^^^ (if bit then b else 0#58)) 0#58

/-- x^n, by the bits of n (at most 80 of them). -/
def keyPow (n : Nat) : BitVec 58 :=
  (bitsOf 80 n).foldl (fun acc bit => let q := keyMul acc acc; if bit then keyMulX q else q) 1#58

/-- The parity of the coefficients: the linear form that takes every seed bit as 1 (R86). -/
def keyParity (r : BitVec 58) : Bool := (bitsOf 58 r.toNat).foldl xor false

/-- n keystream bits from the power `r` of the first. -/
def keyBits : Nat → BitVec 58 → List Bool
  | 0, _ => []
  | n + 1, r => keyParity r :: keyBits n (keyMulX r)

/-- R86: keystream bit c[k]. -/
def keystreamBit (k : Nat) : Bool := keyParity (keyPow (k + 58))

/-- R86: the keystream c[2128·s] to c[2128·s + 2127] of launch slot s. -/
def slotKeystream (s : Nat) : List Bool := keyBits 2128 (keyPow (2128 * s + 58))

/-! ## The Reed–Solomon code -/

/-- Multiplication of a polynomial (coefficients from x^0 up) by (x − a) (R91). -/
def polyMulRoot (g : List Tryte) (a : Tryte) : List Tryte :=
  List.zipWith gfSub (gfZero :: g) ((g.map (gfMul a)) ++ [gfZero])

/-- R91: the generator, coefficients of x^0 to x^16. -/
def rsGenerator : List Tryte := (gfPowers 16 gfAlpha).foldl polyMulRoot [gfOne]

/-- R92: one message tryte enters the remainder register r[0] to r[15]. -/
def rsStep (g : List Tryte) (r : List Tryte) (m : Tryte) : List Tryte :=
  let f := gfAdd m (r.getLastD gfZero)
  List.zipWith (fun low gj => gfSub low (gfMul f gj)) (gfZero :: r.dropLast) g

/-- R92: the 16 parity trytes of 224 message trytes. -/
def rsParity (msg : List Tryte) : List Tryte :=
  ((msg.foldl (rsStep (rsGenerator.take 16)) (List.replicate 16 gfZero)).map gfNeg).reverse

/-- R92: the systematic codeword. -/
def rsEncode (msg : List Tryte) : List Tryte := msg ++ rsParity msg

/-- A polynomial (coefficients from x^0 up) at a point. -/
def polyEval (p : List Tryte) (x : Tryte) : Tryte := p.foldr (fun c acc => gfAdd c (gfMul x acc)) gfZero

/-- R93: the syndromes S_1 to S_16. -/
def rsSyndromes (word : List Tryte) : List Tryte := (gfPowers 16 gfAlpha).map (polyEval word.reverse)

/-- Sum of two polynomials. -/
def polyAdd : List Tryte → List Tryte → List Tryte
  | [], b => b
  | a, [] => a
  | x :: a, y :: b => gfAdd x y :: polyAdd a b

/-- The registers of Berlekamp–Massey. -/
structure BmState where
  c : List Tryte
  b : List Tryte
  l : Nat
  m : Nat
  bd : Tryte

/-- One round of Berlekamp–Massey on syndrome number `n` (from 0); `past` holds S_(n+1), S_n, … S_1. -/
def bmRound (q : BmState) (n : Nat) (past : List Tryte) : BmState :=
  let d := (List.zipWith gfMul (q.c.take (q.l + 1)) past).foldl gfAdd gfZero
  if d = gfZero then { q with m := q.m + 1 }
  else
    let k := gfNeg (gfMul d (gfInv q.bd))
    let c' := polyAdd q.c (List.replicate q.m gfZero ++ q.b.map (gfMul k))
    if 2 * q.l ≤ n then { c := c', b := q.c, l := n + 1 - q.l, m := 1, bd := d }
    else { q with c := c', m := q.m + 1 }

/-- Berlekamp–Massey over the syndromes: number from 0, past, and those to come. -/
def bmRun (q : BmState) : Nat → List Tryte → List Tryte → BmState
  | _, _, [] => q
  | n, past, s :: rest => bmRun (bmRound q n (s :: past)) (n + 1) (s :: past) rest

/-- The formal derivative of a polynomial; `k` is the exponent of its first coefficient. -/
def polyDeriv : Nat → List Tryte → List Tryte
  | _, [] => []
  | k, c :: rest =>
    if k = 0 then polyDeriv 1 rest
    else gfScale (if k % 3 = 0 then .zero else if k % 3 = 1 then .pos else .neg) c :: polyDeriv (k + 1) rest

/-- The product of two polynomials cut to its first 16 coefficients. -/
def polyMul16 (a b : List Tryte) : List Tryte :=
  (a.foldr (fun c acc => polyAdd (b.map (gfMul c)) (gfZero :: acc)) []).take 16

/-- α^−1 = α^727 (Table 2-3). -/
def gfAlphaInv : Tryte := ⟨.pos, .zero, .neg, .zero, .pos, .neg⟩

/-- Exponents 0 to 239 with the inverse locators α^−p. -/
def rsPlaces : Nat → Nat → Tryte → List (Nat × Tryte)
  | 0, _, _ => []
  | n + 1, p, x => (p, x) :: rsPlaces n (p + 1) (gfMul gfAlphaInv x)

/-- Replaces the tryte at exponent p of a codeword by itself minus `e` (R93: exponent p is tryte 239 − p). -/
def rsCorrect (word : List Tryte) (p : Nat) (e : Tryte) : List Tryte :=
  word.modify (239 - p) (fun t => gfSub t e)

/-- R93, R94: the corrected codeword and the correction count, or none where the decode fails. The degree of R94 is taken as the register
length of the Berlekamp–Massey algorithm: where the polynomial falls short of it, the decode fails (log entry 78). -/
def rsDecode (word : List Tryte) : Option (List Tryte × Nat) :=
  let syn := rsSyndromes word
  if syn.all (· = gfZero) then some (word, 0)
  else
    let q := bmRun { c := [gfOne], b := [gfOne], l := 0, m := 1, bd := gfOne } 0 [] syn
    let roots := (rsPlaces 240 0 gfOne).filter (fun px => polyEval q.c px.2 = gfZero)
    if 8 < q.l ∨ roots.length ≠ q.l then none
    else
      let omega := polyMul16 syn q.c
      let lam' := polyDeriv 0 q.c
      let errs := roots.map (fun px => (px.1, gfNeg (gfMul (polyEval omega px.2) (gfInv (polyEval lam' px.2)))))
      if errs.any (fun pe => pe.2 = gfZero) then none
      else some (errs.foldl (fun w pe => rsCorrect w pe.1 pe.2) word, q.l)

/-! ## A slot -/

/-- The bits b[0] to b[2103] of a shingle: a header or control head of 7 bytes and 256 bytes of payload (R81). -/
def shingleBytes (head payload : List Byte) : List Byte := head ++ payload

/-- R82: the 2128 bits with their CRC, before scrambling. -/
def shingleBits (bytes : List Byte) : List Bool := bytesBits bytes ++ bitsOf 24 (crc24 bytes)

/-- The words of 112 groups; `ctl` is the escape argument of a control shingle, which replaces word 0 (R36). -/
def shingleWords (ctl : Option Nat) (scrambled : List Bool) : List Nat :=
  let ws := (chunks 19 112 scrambled).map bitsVal
  match ctl with
  | none => ws
  | some e => (escapeBase + e) :: ws.drop 1

/-- The message trytes of words (R34). -/
def wordsTrytes (ws : List Nat) : List Tryte := ws.flatMap (fun u => [(pack12 u).1, (pack12 u).2])

/-- R82: the 240 trytes of a shingle launched in slot s. -/
def slotTrytes (s : Nat) (ctl : Option Nat) (bytes : List Byte) : List Tryte :=
  rsEncode (wordsTrytes (shingleWords ctl (List.zipWith xor (shingleBits bytes) (slotKeystream s))))

/-- R29, R82: the 720 levels of 240 trytes. -/
def trytesLevels (ts : List Tryte) : List Int := ts.flatMap tryteLevels

/-- R82: the symbols of a shingle launched in slot s. -/
def encodeSlot (s : Nat) (ctl : Option Nat) (bytes : List Byte) : List Int := trytesLevels (slotTrytes s ctl bytes)

/-- What a received slot turned out to be (Table 4-6). -/
inductive SlotOutcome where
  | uncorrectable (r : UncReason)
  /-- Control argument e and the 263 bytes, whose first 19 bits hold e. -/
  | control (e : Nat) (bytes : List Byte) (corr : Fin 9)
  | data (bytes : List Byte) (corr : Fin 9)
  deriving DecidableEq, Repr

/-- The trytes of decided levels, three symbols a tryte (R31). -/
def levelsTrytes : Nat → List Int → List Tryte
  | 0, _ => []
  | n + 1, a :: b :: c :: rest => tryteOfLevels a b c :: levelsTrytes n rest
  | _ + 1, _ => []

/-- The word values of message trytes. -/
def trytesWords : Nat → List Tryte → List Nat
  | 0, _ => []
  | n + 1, a :: b :: rest => unpack12 (a, b) :: trytesWords n rest
  | _ + 1, _ => []

/-- R85, R89: the descrambled bits of a slot's words; in a control shingle b[0] to b[18] read e. -/
def descramble (s : Nat) (ctl : Option Nat) (words : List Nat) : List Bool :=
  match ctl with
  | none => List.zipWith xor (words.flatMap (bitsOf 19)) (slotKeystream s)
  | some e =>
    bitsOf 19 e ++ List.zipWith xor ((words.drop 1).flatMap (bitsOf 19)) ((slotKeystream s).drop 19)

/-- R37, R38, R96: the outcome of a slot whose 240 trytes were received with lock held; `assigned` says which
control arguments belong to a kind. -/
def receiveSlot (assigned : Nat → Bool) (s : Nat) (trytes : List Tryte) : SlotOutcome :=
  match rsDecode trytes with
  | none => .uncorrectable .rsFail
  | some (word, n) =>
    let corr := Fin.ofNat 9 n
    let words := trytesWords 112 word
    let w0 := words.headD 0
    let ctl := if isEscape w0 then some (w0 - escapeBase) else none
    if (words.drop 1).any isEscape then .uncorrectable (.escape corr)
    else if (match ctl with | some e => !assigned e | none => false) then .uncorrectable (.unassigned corr)
    else
      let bits := descramble s ctl words
      let bytes := bitsBytes 263 bits
      if crc24 bytes ≠ bitsVal (bits.drop 2104) then .uncorrectable (.crc corr)
      else
        match ctl with
        | none => .data bytes corr
        | some e => .control e bytes corr

end Sys2Proof.Machine
end

