-- ==== Sys2Proof/Machine/Shingle.lean ====
section
/-! DEFINITION. Shingle.lean: what the bits of a shingle say: the data header (Table 6-1), frame tags and loss
bodies (Tables 6-2, 6-3), control kinds (Table 6-4), the ack block and the NAK body (Table 6-5), and the
command that a received slot is. -/

namespace Sys2Proof.Machine

/-! ## Codes of modes and reasons -/

/-- ActiveMode codes of the Etoon modes (R162). -/
def emodeCode : EMode → Nat
  | .el50 => 1
  | .el25 => 2
  | .el10 => 3

/-- The Etoon mode of a code. -/
def emodeOf : Nat → Option EMode
  | 1 => some .el50
  | 2 => some .el25
  | 3 => some .el10
  | _ => none

/-- REFUSE reasons (Table 6-4). -/
def refuseCode : RefuseReason → Nat
  | .notOffered => 1
  | .withdrawn => 2
  | .thermal => 3
  | .noSnapshot => 4
  | .busy => 5

/-- The REFUSE reason of a code. -/
def refuseOf : Nat → Option RefuseReason
  | 1 => some .notOffered
  | 2 => some .withdrawn
  | 3 => some .thermal
  | 4 => some .noSnapshot
  | 5 => some .busy
  | _ => none

/-! ## The data header -/

/-- Table 6-1: the 56-bit header, reserved bits 0 (R152). -/
def headerVal (h : ShHdr) : Nat :=
  h.cls.val * 2 ^ 54 + h.seq.toNat * 2 ^ 40 + h.replay.toNat * 2 ^ 39 + h.gap.toNat * 2 ^ 38 + h.provoked.toNat * 2 ^ 37
    + h.firstTag.toNat * 2 ^ 17 + h.ackClass.val * 2 ^ 14 + h.ackNext.toNat

/-- The seven header bytes, header bits [55:48] first (R151). -/
def headerBytes (h : ShHdr) : List Byte := beBytes 7 (headerVal h)

/-- The header of a 56-bit value; reserved bits are ignored (R152). -/
def headerOf (v : Nat) : ShHdr :=
  { cls := Fin.ofNat 4 (v / 2 ^ 54), seq := BitVec.ofNat 14 (v / 2 ^ 40), replay := v.testBit 39, gap := v.testBit 38,
    provoked := v.testBit 37, firstTag := BitVec.ofNat 7 (v / 2 ^ 17), ackClass := Fin.ofNat 4 (v / 2 ^ 14),
    ackNext := BitVec.ofNat 14 v }

/-! ## Tags -/

/-- A frame tag (Table 6-2). -/
structure Tag where
  cls      : Cls
  length   : Nat
  errored  : Bool := false
  ptp      : Bool := false
  loss     : Bool := false
  pad      : Bool := false
  provoked : Bool := false
  deriving DecidableEq, Repr

/-- Table 6-2: the 32 bits of a tag. -/
def tagVal (t : Tag) : Nat :=
  t.cls.val * 2 ^ 30 + t.length % 16384 * 2 ^ 16 + t.errored.toNat * 2 ^ 15 + t.ptp.toNat * 2 ^ 14 + t.loss.toNat * 2 ^ 13
    + t.pad.toNat * 2 ^ 12 + t.provoked.toNat * 2 ^ 11

/-- R154: a tag, most significant byte first. -/
def tagBytes (t : Tag) : List Byte := beBytes 4 (tagVal t)

/-- The tag of 32 bits; reserved bits are ignored. -/
def tagOf (v : Nat) : Tag :=
  { cls := Fin.ofNat 4 (v / 2 ^ 30), length := v / 2 ^ 16 % 16384, errored := v.testBit 15, ptp := v.testBit 14,
    loss := v.testBit 13, pad := v.testBit 12, provoked := v.testBit 11 }

/-- R154: the tag keeps the rule: a loss or pad tag has length 0, a frame tag 1 to 16 000. A tag that is both LOSS and PAD, and a LOSS or
PAD tag with PTP_EVENT or ERRORED, is taken to break it too (log entry 81). -/
def tagValid (t : Tag) : Bool :=
  if t.loss || t.pad then decide (t.length = 0) && !(t.loss && t.pad) && !t.ptp && !t.errored
  else decide (1 ≤ t.length) && decide (t.length ≤ 16000)

/-- The cause named in a loss body; other values are reserved. -/
def lossBodyCause : Nat → Option LossCause
  | 1 => some .ingressFull
  | 2 => some .oversize
  | 3 => some .withdrawn
  | _ => none

/-- Table 6-3: the 8-byte loss body. -/
def lossBody (l : TxLoss) : List Byte :=
  beBytes 4 (causeCode l.cause * 2 ^ 24 + min l.frames 65535) ++ beBytes 4 (min l.bytes 0xFFFFFFFF)

/-- A loss tag with its body: 12 bytes (R174). -/
def lossTag (c : Cls) (l : TxLoss) : List Byte :=
  tagBytes { cls := c, length := 0, loss := true, provoked := l.provoked } ++ lossBody l

/-- A pad tag (R156). -/
def padTag (c : Cls) : List Byte := tagBytes { cls := c, length := 0, pad := true }

/-- Length rounded up to a multiple of 4 (R154). -/
def roundUp4 (n : Nat) : Nat := (n + 3) / 4 * 4

/-! ## Control shingles -/

/-- Table 6-4: the escape argument of a control kind. -/
def ctlArg : Ctl → Nat
  | .idle synced => if synced then 9 else 8
  | .nak _ => 12
  | .lpiEntry => 16
  | .sleepRequest => 17
  | .lpiExit => 18
  | .sleepAck => 19
  | .sleepReject => 20
  | .beacon full m => (if full then 36 else 32) + emodeCode m
  | .request m _ => 48 + emodeCode m
  | .accept m _ => 52 + emodeCode m
  | .refuse r _ => 56 + refuseCode r
  | .mark k _ => 63 + k

/-- R162: the argument is assigned to a kind. -/
def ctlAssigned (e : Nat) : Bool :=
  [8, 9, 12, 16, 17, 18, 19, 20, 33, 34, 35, 37, 38, 39, 49, 50, 51, 53, 54, 55, 57, 58, 59, 60, 61,
   64, 65, 66, 67, 68, 69, 70, 71].contains e

/-- Table 6-5: one NAK entry: class, first missing number, run length. -/
def nakEntry (e : Cls × Seq × Nat) : List Byte :=
  beBytes 4 (e.1.val * 2 ^ 30 + e.2.1.toNat * 2 ^ 16 + (e.2.2 - 1) % 256 * 2 ^ 8)

/-- Payload bytes 8 to 255 of a control shingle (R161, Tables 6-4 and 6-5). -/
def ctlBody (k : Ctl) : List Byte :=
  let used := match k with
    | .nak es => [BitVec.ofNat 8 es.length, 0, 0, 0] ++ es.flatMap nakEntry
    | .request _ ep => [ep]
    | .accept _ ep => [ep]
    | .refuse _ ep => [ep]
    | .mark _ ep => [ep]
    | _ => []
  (used ++ List.replicate 248 0).take 248

/-- R161: the ack block of four next expected numbers, class 0 first. -/
def ackBytes (a : List Seq) : List Byte := a.flatMap (fun x => beBytes 2 x.toNat)

/-- R85, R161: the first 7 bytes of a control shingle: e in b[0] to b[18], the rest 0. -/
def ctlHead (e : Nat) : List Byte := beBytes 7 (e * 2 ^ 37)

/-- The entries a NAK body names: at most 60, and none where the count is 0 or above 60 (R427). -/
def nakEntries (body : List Byte) : List (Cls × Seq × Nat) :=
  let n := (body.headD 0).toNat
  if 60 < n then []
  else (List.range n).map (fun i =>
    let v := beVal ((body.drop (4 + 4 * i)).take 4)
    (Fin.ofNat 4 (v / 2 ^ 30), BitVec.ofNat 14 (v / 2 ^ 16), v / 2 ^ 8 % 256 + 1))

/-- The ack block of the payload of a control shingle. -/
def ackOf (payload : List Byte) : AckBlock :=
  let v := fun i => BitVec.ofNat 14 (beVal ((payload.drop (2 * i)).take 2))
  { a0 := v 0, a1 := v 1, a2 := v 2, a3 := v 3 }

/-- The value an ack block gives for a class. -/
def ackFor (a : AckBlock) (c : Cls) : Seq :=
  match c with
  | 0 => a.a0
  | 1 => a.a1
  | 2 => a.a2
  | 3 => a.a3

/-- The command that a control shingle with argument e and 263 bytes is. -/
def ctlCommand (p : PortId) (e : Nat) (bytes : List Byte) (corr : Fin 9) : Option Instr :=
  let payload := bytes.drop 7
  let ack := ackOf payload
  let body := payload.drop 8
  let ep := body.headD 0
  if e = 8 then some (.idle p false ack corr)
  else if e = 9 then some (.idle p true ack corr)
  else if e = 12 then some (.nak p ack body corr)
  else if e = 16 then some (.lpiEntry p ack corr)
  else if e = 17 then some (.sleepRequest p ack corr)
  else if e = 18 then some (.lpiExit p ack corr)
  else if e = 19 then some (.sleepAck p ack corr)
  else if e = 20 then some (.sleepReject p ack corr)
  else if e < 36 then (emodeOf (e - 32)).map (fun m => .beaconFast p m ack corr)
  else if e < 40 then (emodeOf (e - 36)).map (fun m => .beaconFull p m ack corr)
  else if e < 52 then (emodeOf (e - 48)).map (fun m => .request p m ep ack corr)
  else if e < 56 then (emodeOf (e - 52)).map (fun m => .accept p m ep ack corr)
  else if e < 62 then (refuseOf (e - 56)).map (fun r => .refuse p r ep ack corr)
  else if 64 ≤ e ∧ e ≤ 71 then some (.mark p (Fin.ofNat 8 (e - 64)) ep ack corr)
  else none

/-- R96: the command that a slot received on port p with the given trytes is; `at_` is the arrival of its symbol 0. -/
def slotCommand (p : PortId) (at_ : Nat) (slot : Nat) (trytes : List Tryte) : Option Instr :=
  match receiveSlot ctlAssigned slot trytes with
  | .uncorrectable r => some (.uncorrectableSlot p r)
  | .data bytes corr => some (.dataShingle p (headerOf (beVal (bytes.take 7))) (bytes.drop 7) corr at_)
  | .control e bytes corr => ctlCommand p e bytes corr

end Sys2Proof.Machine
end

