-- ==== Sys2Proof/Machine/Modes.lean ====
section
/-! DEFINITION. Modes.lean: line modes and what a port may change to: codes (Table 5-13), offers (R109, R138), snapshots
(R70), and the bay states that other families ask about (gates, self-test). -/

namespace Sys2Proof.Machine

/-! ## Codes -/

/-- ActiveMode (Table 5-13). -/
def modeCode : Option LineMode → Nat
  | none => 0
  | some (.etoon m) => emodeCode m
  | some (.std .b25g) => 0x10
  | some (.std .b10g) => 0x11
  | some (.std .b5g) => 0x12
  | some (.std .b2g5) => 0x13
  | some (.std .b1g) => 0x14

/-- The Etoon mode of a port, if it has one. -/
def etoonMode (q : Port) : Option EMode :=
  match q.link.mode with
  | some (.etoon m) => some m
  | _ => none

/-- The bit of an Etoon mode in ModeMask. -/
def emodeBit (m : EMode) : Nat := emodeCode m - 1

/-- The next lower Etoon mode. -/
def nextLower : EMode → Option EMode
  | .el50 => some .el25
  | .el25 => some .el10
  | .el10 => none

/-- Thirds of a nanosecond in one training period (Table 5-3). -/
def periodThirds : EMode → Nat
  | .el50 => 4096
  | .el25 => 8192
  | .el10 => 20480

/-- m is a lower mode than n: a lower symbol rate. -/
def lowerThan (m n : EMode) : Bool := decide (emodeCode n < emodeCode m)

/-- The lower of two Etoon modes. -/
def lowerMode (m n : EMode) : EMode := if lowerThan m n then m else n

/-- R138: the port offers the mode: it is in the offer of the last auto-negotiation and not withdrawn. -/
def offers (q : Port) (m : EMode) : Bool := q.link.offer.getLsbD (emodeBit m) && !q.link.withdrawn.getLsbD (emodeBit m)

/-- Both ends offer the mode. -/
def bothOffer (q : Port) (m : EMode) : Bool := offers q m && q.link.partnerModes.getLsbD (emodeBit m)

/-- R139, R140: the next lower Etoon mode that both ends offer. -/
def lowerOffered (q : Port) (m : EMode) : Option EMode :=
  match nextLower m with
  | none => none
  | some a =>
    if bothOffer q a then some a
    else match nextLower a with
      | none => none
      | some b => if bothOffer q b then some b else none

/-! ## Snapshots (R70) -/

/-- The two slots of a mode, newest first. -/
def snapSlots (k : CoefStore) : EMode → List Snapshot
  | .el50 => k.el50
  | .el25 => k.el25
  | .el10 => k.el10

/-- R70: the newest slot whose entry is valid and whose words decode. -/
def snapshotFor (k : CoefStore) (m : EMode) : Option Snapshot := (snapSlots k m).find? (fun x => x.valid && wordsDecode x.errs)

/-- The mode has a snapshot that a reload can use. -/
def hasSnapshot (q : Port) (m : EMode) : Bool := (snapshotFor q.store m).isSome

/-! ## Bays and gates -/

/-- The gate numbered g is open (GateOpen, 0x2104). -/
def gateOpen (s : State) (g : Nat) : Bool := s.gate.isOpen.getLsbD g

/-- The gate of bay p is open. -/
def bayOpen (s : State) (p : PortId) : Bool := gateOpen s p.val

/-- R345: ENG, FAB and the bay's SYM, which carry data only on input 1, run on it. -/
def portClocked (s : State) (p : PortId) : Bool :=
  [Domain.sym p, .eng, .fab].all (fun d => s.clk.onInput1.contains d)

/-- The gate of host lane p is open. -/
def laneGateOpen (s : State) (p : PortId) : Bool := gateOpen s (8 + p.val)

/-- R398: the bay is under self-test, or is named in a run and waits for its test. -/
def bayInTest (s : State) (p : PortId) : Bool :=
  match s.bist.results.getD p.val .none with
  | .running => true
  | .waiting => true
  | _ => false

/-- The bay's own test runs. -/
def bayTesting (s : State) (p : PortId) : Bool := decide (s.bist.results.getD p.val .none = .running)

/-! ## Battens (R12, R72, R73, Tables 3-8 and 3-9) -/

/-- R72, Table 3-8: function codes of a bay's eight battens in a line mode. -/
def modeBattens : Option LineMode → List Nat
  | none => List.replicate 8 0
  | some (.etoon .el50) => [0x8181, 0x0202, 0x0202, 0x0202, 0x0303, 0x0303, 0x8484, 0x0584]
  | some (.etoon .el25) => [0x0501, 0x0202, 0x0202, 0x0303, 0x0404, 0, 0, 0]
  | some (.etoon .el10) => [0x0501, 0x0202, 0x0403, 0, 0, 0, 0, 0]
  | some (.std _) => [0x0808, 0x0808, 0, 0, 0, 0, 0, 0]

/-- Codes of bay p without gap work; a gated bay and a DISABLED port use no batten (log entry 87). -/
def battensInUse (s : State) (p : PortId) : List Nat :=
  if bayTesting s p then List.replicate 8 0x0909
  else if !bayOpen s p || !s.ports[p].link.adminEnabled then List.replicate 8 0
  else modeBattens s.ports[p].link.mode

/-- The idle battens of bay p, by their device numbers. -/
def spareBattens (s : State) (p : PortId) : List Nat :=
  ((battensInUse s p).zipIdx.filter (fun c => c.1 == 0)).map (fun c => 8 * p.val + c.2)

/-- R73, R392: the batten on which the calibration measurement that is due does its gap work: the lowest idle one, of CalibrationPort's
bay where the kind has a port (log entry 87). -/
def calBatten (s : State) : Option Nat :=
  match s.cal.run with
  | none => none
  | some r =>
    if s.aon.tally < r.since then none
    else if r.kind = .timebase then ((List.finRange 8).flatMap (spareBattens s)).head?
    else (spareBattens s s.cal.port).head?

/-- R73: the batten on which a pending capture of port p does its gap work: the lowest idle one left (log entry 87). -/
def sigBatten (s : State) (p : PortId) : Option Nat :=
  if s.ports[p].sig.lineCap.isSome || s.ports[p].sig.probeCap.isSome then
    (spareBattens s p).find? (fun b => decide (calBatten s ≠ some b))
  else none

/-- R73, Tables 3-8 and 3-9: function codes of a bay's eight battens. -/
def battenCodes (s : State) (p : PortId) : List Nat :=
  (battensInUse s p).mapIdx (fun i c =>
    if calBatten s = some (8 * p.val + i) then 0x0606 else if sigBatten s p = some (8 * p.val + i) then 0x0707 else c)

/-- R73: a mode change from `s` to `t` that took the batten of a measurement under way: the measurement restarts in a later gap. -/
def gapAbandoned (s t : State) : State :=
  match calBatten s with
  | none => t
  | some b =>
    if (battensInUse t (Fin.ofNat 8 (b / 8))).getD (b % 8) 0 = 0 then t
    else { t with cal := { t.cal with run := t.cal.run.map (fun r => { r with since := t.aon.tally }) } }

/-- Thermal throttle stage 2 is in force (R382). -/
def throttle2 (s : State) : Bool := decide (2 ≤ s.heat.stage)

end Sys2Proof.Machine
end

