-- ==== Sys2Proof/Machine/Datapath.lean ====
section
/-! DEFINITION. Datapath.lean: the symbols of a bay: training sequences (R116 to R118), what a transmitter releases to its replicas
and to the gutter (R13, R53), and the receive chain of Table 3-1 with its adaptation laws (R40 to R51, R58, R62 to R66). Coefficients
are integers in units of 2^−20, samples in units of 2^−42 of the outermost launch level, the slicer's in units of 2^−62. -/

namespace Sys2Proof.Machine

/-! ## Training sequences -/

/-- R117, Table 5-2: the use code. -/
def useCode (u : TrainUse) (leader : Bool) : BitVec 2 :=
  match u, leader with
  | .full, true => 0
  | .full, false => 1
  | .fast, true => 2
  | .fast, false => 3

/-- R117: the training state K of an end: S, the use code, and ones. -/
def trainState (seed : BitVec 12) (u : TrainUse) (leader : Bool) : BitVec 58 := seed ++ useCode u leader ++ BitVec.allOnes 44

/-- R116: one step of the recurrence: bit 57 of the register is k[j − 58], bit 38 is k[j − 39]. -/
def trainStep (r : BitVec 58) : BitVec 58 := (r <<< 1) ||| (if xor (r.getLsbD 38) (r.getLsbD 57) then 1#58 else 0#58)

/-- The register after n more bits. -/
def trainRun : Nat → BitVec 58 → BitVec 58
  | 0, r => r
  | n + 1, r => trainRun n (trainStep r)

/-- R116: n words of 19 keystream bits, from the register that stands before the first. -/
def trainWords : Nat → BitVec 58 → List Nat
  | 0, _ => []
  | n + 1, r => let q := trainRun 19 r; q.toNat % 524288 :: trainWords n q

/-- R116: the levels of the first n words of a period. -/
def trainLevels (n : Nat) (k : BitVec 58) : List Int := trytesLevels (wordsTrytes (trainWords n k))

/-- R116: the 24 576 levels of a period. -/
def periodLevels (k : BitVec 58) : List Int := trainLevels 4096 k

/-- R148: one period of the wake pulse's square wave, at 3.6 GBd. -/
def wakeWave : List Int := List.replicate 8 4 ++ List.replicate 8 (-4)

/-- R148: the periods of 1.0 ms. -/
def wakePeriods : Nat := 225000

/-- The levels of a released segment, oldest first. -/
def segLevels : Seg → List Int
  | .levels l => l
  | .period k ready => if ready then (periodLevels k).map (fun l => -l) else periodLevels k
  | .quiet n => List.replicate n 0
  | .wave n => (List.replicate n wakeWave).flatten
  | .muted g a b => (segLevels g).mapIdx (fun i l => if a ≤ i ∧ i < b then 0 else l)

/-- The symbols of a segment. -/
def segLength : Seg → Nat
  | .levels l => l.length
  | .period _ _ => 24576
  | .quiet n => n
  | .wave n => 16 * n
  | .muted g _ _ => segLength g

/-- R53: the levels a bay has released, newest first. -/
def releasedLevels (l : Line) : List Int := l.released.flatMap (fun g => (segLevels g).reverse)

/-! ## The gutter (R13, R14) -/

/-- R14, R57, R122: the port places a stream on the gutter: up in an Etoon mode, as leader. -/
def streams (q : Port) : Bool := q.link.up && q.link.leader && (etoonMode q).isSome

/-- R13: the 4-bit code of a level, in two's complement (log entry 66). -/
def levelCode (l : Int) : BitVec 4 := BitVec.ofInt 4 l

/-- R13: the levels another bay's stream carries, newest first. -/
def gutterLevels (q : Port) : List Int := q.gutter.flatMap (fun g => (g.map BitVec.toInt).reverse)

/-- R13, R53: a bay releases a segment to its own replicas and, where it streams, to every other bay. -/
def release (p : PortId) (g : Seg) (s : State) : State :=
  modPort p (fun q => { q with
    line := { q.line with released := (g :: q.line.released).take 8, releasedAt := s.aon.tally }
    gutter := if streams q then (((segLevels g).map levelCode) :: q.gutter).take 8 else [] }) s

/-! ## Small arithmetic -/

/-- The sign of an integer. -/
def sgn (x : Int) : Int := if x < 0 then -1 else if x = 0 then 0 else 1

/-- A value held between limits. -/
def clampInt (lo hi v : Int) : Int := if v < lo then lo else if hi < v then hi else v

/-- R46: a coefficient is a signed 24-bit value; an update that would pass its range leaves it at the end (log entry 67). -/
def clamp24 (w : List Int) : List Int := w.map (clampInt (-8388608) 8388607)

/-- R49: the limits of the three DFE taps. -/
def clampDfe (w : List Int) : List Int := w.mapIdx (fun i v => if i = 0 then clampInt (-786432) 786432 v else clampInt (-262144) 262144 v)

/-- R49: a tap is held at its limit. -/
def dfeAtLimit (w : List Int) : Bool := (w.mapIdx (fun i v => if i = 0 then decide (v = 786432 ∨ v = -786432) else decide (v = 262144 ∨ v = -262144))).any id

/-- R62: one sign-sign update of a filter with step `mu`, as the rule prints it (log entry 76). -/
def signSign (mu e : Int) (w x : List Int) : List Int :=
  w.mapIdx (fun i v => v - mu * sgn e * sgn (x.getD i 0))

/-- The sum of products of a filter's taps and its inputs. -/
def dot (w x : List Int) : Int := (List.zipWith (· * ·) w x).foldl (· + ·) 0

/-- Rounding to the nearest multiple: n/d to the nearest integer, halves up, within 16 bits (log entry 5). -/
def nearest16 (d : Nat) (v : Int) : Int := clampInt (-32768) 32767 ((2 * v + d) / (2 * d))

/-! ## Frequency-domain filters (R51, R58, R63) -/

/-- Table 3-2: the block length B. -/
def blockLen : EMode → Nat
  | .el50 => 64
  | .el25 => 32
  | .el10 => 16

/-- R51, Table 3-2: partitions of the far-echo canceller. -/
def farParts (m : EMode) : Nat := 2048 / blockLen m

/-- R58, Table 3-2: partitions of a crosstalk canceller. -/
def xtalkParts (m : EMode) : Nat := 512 / blockLen m

/-- Product of two complex numbers. -/
def cMul (a b : Int × Int) : Int × Int := (a.1 * b.1 - a.2 * b.2, a.1 * b.2 + a.2 * b.1)

/-- Sum of two complex numbers. -/
def cAdd (a b : Int × Int) : Int × Int := (a.1 + b.1, a.2 + b.2)

/-- The complex conjugate. -/
def cConj (a : Int × Int) : Int × Int := (a.1, -a.2)

/-- A complex number over 2^k; the rounding is not stated (log entry 62). -/
def cShift (k : Nat) (a : Int × Int) : Int × Int := (quotient a.1 (2 ^ k), quotient a.2 (2 ^ k))

/-- One bin of a transform of length n: Σ x_j·exp(−2πi·jk/n), or with the opposite sign where `inv`. -/
def dftBin (n : Nat) (inv : Bool) (x : List (Int × Int)) (k : Nat) : Int × Int :=
  let sum := (x.mapIdx (fun j v =>
    let t := Config.twiddle n (j * k % n)
    cMul v (t.1, if inv then t.2 else -t.2))).foldl cAdd (0, 0)
  cShift 20 sum

/-- The FFT of a frame of real values; of zeros it is zero. -/
def fft (x : List Int) : List (Int × Int) :=
  if x.all (· = 0) then [] else (List.range x.length).map (dftBin x.length false (x.map (fun v => (v, 0))))

/-- The real part of the inverse FFT of n bins; of no bins it is zero. -/
def ifft (n : Nat) (x : List (Int × Int)) : List Int :=
  if x.all (fun v => decide (v = (0, 0))) then List.replicate n 0
  else (List.range n).map (fun k => quotient (dftBin n true x k).1 n)

/-- The coefficients of one partition as taps: the first B values in time (R68). -/
def partTaps (b : Nat) (w : List (Int × Int)) : List Int := (ifft (2 * b) w).take b

/-- R68: a canceller's taps in the time domain. -/
def fdafTaps (b parts : Nat) (f : Fdaf) : List Int := (List.range parts).flatMap (fun p => partTaps b (f.w.getD p []))

/-- R68: taps transformed again on reload. -/
def fdafOf (b parts : Nat) (taps : List Int) : Fdaf :=
  if taps.all (· = 0) then {}
  else { w := (List.range parts).map (fun p => fft (((taps.drop (p * b)).take b ++ List.replicate (2 * b) 0).take (2 * b))) }

/-- The frame of 2B inputs, oldest first, that ends `i` places behind the newest of `hist`. -/
def inputFrame (b : Nat) (hist : List Int) (i : Nat) : List Int := ((hist.drop i).take (2 * b)).reverse.map (fun l => l * 1048576)

/-- R51: the replica of one block by overlap-save: the last B values of the sum over the partitions; the newest input that the
block's last sample meets at delay 0 of the canceller stands at `i`. -/
def fdafBlock (b parts : Nat) (hist : List Int) (i : Nat) (f : Fdaf) : List Int :=
  if f.w.isEmpty then List.replicate b 0
  else
    let sum := (List.range (2 * b)).map (fun k =>
      (List.range parts).foldl (fun acc p =>
        let x := fft (inputFrame b hist (i + p * b))
        cAdd acc (cShift 20 (cMul (x.getD k (0, 0)) ((f.w.getD p []).getD k (0, 0))))) (0, 0))
    (ifft (2 * b) sum).drop b

/-- R63: P ← (1 − 2^−6)·P + 2^−6·|X_0|². -/
def smoothPower (p : Int) (x : Int × Int) : Int := quotient (63 * p + quotient (x.1 * x.1 + x.2 * x.2) 1048576) 64

/-- R63: one bin's update, step 2^−k; the errors are in units of 2^−62. -/
def fdafBin (k : Nat) (w x e : Int × Int) (p : Int) : Int × Int :=
  let g := cMul (cConj x) e
  cAdd w (quotient g.1 (p.toNat * 2 ^ (40 + k)), quotient g.2 (p.toNat * 2 ^ (40 + k)))

/-- R63: the gradient constraint zeroes the upper B time-domain coefficients of a partition. -/
def constrain (b : Nat) (w : List (Int × Int)) : List (Int × Int) := fft (partTaps b w ++ List.replicate b 0)

/-- R63: P(f) of every bin after one more block; with no power and no input it stays absent. -/
def smoothPowers (b : Nat) (x0 : List (Int × Int)) (pow : List Int) : List Int :=
  if x0.isEmpty && pow.isEmpty then [] else (List.range (2 * b)).map (fun j => smoothPower (pow.getD j 0) (x0.getD j (0, 0)))

/-- R63: one block's update with step 2^−k from its B slicer errors, oldest first. Where every error is 0 the gradient is 0; the power is
smoothed and the constraint takes its turn all the same. -/
def fdafUpdate (b parts k : Nat) (hist : List Int) (i : Nat) (errs : List Int) (f : Fdaf) : Fdaf :=
  let pow := smoothPowers b (fft (inputFrame b hist i)) f.pow
  let w := if errs.all (· = 0) then f.w else
    let e := fft (List.replicate b 0 ++ errs)
    (List.range parts).map (fun p =>
      let x := fft (inputFrame b hist (i + p * b))
      (List.range (2 * b)).map (fun j => fdafBin k ((f.w.getD p []).getD j (0, 0)) (x.getD j (0, 0)) (e.getD j (0, 0)) (pow.getD j 0)))
  { w := w.modify f.turn (constrain b), pow := pow, turn := (f.turn + 1) % parts }

/-! ## Steps and what adapts -/

/-- Table 3-6: the steps in units of 2^−20: equaliser and DFE, near echo, level spacing, trims; and the exponents of the block
laws: far echo, crosstalk. -/
structure Steps where
  eq    : Int
  echo  : Int
  lev   : Int
  trim  : Int
  far   : Nat
  xtalk : Nat
  deriving DecidableEq, Repr

/-- Acquisition steps. -/
def acqSteps : Steps := { eq := 1024, echo := 512, lev := 2048, trim := 256, far := 5, xtalk := 5 }

/-- Tracking steps. -/
def trackSteps : Steps := { eq := 64, echo := 32, lev := 128, trim := 16, far := 9, xtalk := 9 }

/-- R64, R120, R133, R144: the steps in force on a port; a fast relink runs on tracking steps to its end. -/
def stepsOf (q : Port) : Steps :=
  if q.link.up then (if 0 < q.line.epochExempt then acqSteps else trackSteps)
  else if q.link.phase = .f ∨ q.link.relink = some .fast then trackSteps
  else if q.link.phase = .a then { acqSteps with echo := trackSteps.echo, far := trackSteps.far }
  else acqSteps

/-- What adapts on a symbol. -/
structure Works where
  ffe    : Bool := false
  dfe    : Bool := false
  lev    : Bool := false
  echo   : Bool := false
  trims  : Bool := false
  xtalk  : Bool := false
  timing : Bool := false
  deriving DecidableEq, Repr

/-- R67: HOLD is in effect. -/
def holdInEffect (q : Port) : Bool := q.dsp.hold && q.link.up

/-- R101, R104: the partner's transmitter is quiet in LPI at this moment. -/
def partnerSilent (q : Port) : Bool := q.line.partnerQuiet && q.line.wakeWindow.isNone

/-- R43: the partner is silent by plan. -/
def silentByPlan (q : Port) : Bool :=
  decide (q.link.phase = .q) || (decide (q.link.phase = .e1) && q.link.leader) || (decide (q.link.phase = .e2) && !q.link.leader)
  || partnerSilent q

/-- R43, R144: the SNR criterion is suspended. -/
def snrSuspended (q : Port) : Bool := silentByPlan q || decide (0 < q.line.epochExempt)

/-- The port's own transmitter sends a refresh (R102). -/
def ownRefresh (q : Port) : Bool := match q.line.txLpi with | .refresh _ => true | _ => false

/-- R66, R104: while the partner's direction is quiet, only the echo cancellers and the equaliser adapt, on the symbols of a refresh. -/
def refreshOnly (q : Port) : Bool := q.line.partnerQuiet

/-- R101, R143: a follower holds its timing-loop integrator while its own transmitter is quiet, and between its receive epoch and its
transmit epoch. -/
def holdsFrequency (q : Port) : Bool := !q.link.leader && (decide (q.line.txLpi = .quiet) || (q.mc.rxPassed && !q.mc.txPassed))

/-- R143: the mode at whose rate the receiver runs: the target from the receive epoch on. -/
def rxMode (q : Port) : Option EMode := if q.mc.rxPassed then some q.mc.target else etoonMode q

/-- R143: the mode at whose rate the transmitter runs: the target from the transmit epoch on. -/
def txMode (q : Port) : Option EMode := if q.mc.txPassed then some q.mc.target else etoonMode q

/-- Table 5-4: the port is in a phase of full training, whose work runs before LOCKED is first set (log entry 68). -/
def acquiring (q : Port) : Bool :=
  match q.link.phase with
  | .q => true
  | .e1 => true
  | .e2 => true
  | .a => true
  | .x => true
  | _ => false

/-- R66: adaptation pauses: the line is quiet outside a refresh, an interruption lasts, or lock is lost. -/
def adaptPaused (q : Port) : Bool :=
  (partnerSilent q && !ownRefresh q) || q.sieve.interrupting || (!q.dsp.locked && !acquiring q)

/-- R66, R67, Table 5-4: what adapts on a port. -/
def worksOf (q : Port) : Works :=
  let held := holdInEffect q
  let all : Works := { ffe := !held, dfe := !held, lev := !held, echo := true, trims := true, xtalk := !held, timing := true }
  if adaptPaused q then {}
  else match q.link.phase with
  | .q => { trims := true }
  | .e1 => if q.link.leader then { echo := true, trims := true } else { ffe := true, trims := true, timing := true }
  | .e2 => if q.link.leader then { ffe := true, trims := true, timing := true } else { echo := true, trims := true }
  | .a => { all with xtalk := false }
  | _ => if refreshOnly q then { ffe := !held, echo := true, timing := !partnerSilent q } else all

/-! ## The receive chain, symbol by symbol -/

/-- What the symbols of one shingle meet. -/
structure Ctx where
  mode  : EMode
  steps : Steps
  works : Works
  /-- The port's own released levels and the neighbours' gutter levels, newest first, with how far ahead each is. -/
  own   : List Int
  lag   : Nat
  nbrs  : List (Nat × Join × List Int × Nat)
  /-- The partner transmits by plan, so the slicer SNR is judged. -/
  judged : Bool
  leader : Bool
  /-- The integrator is held (R101, R143). -/
  held   : Bool := false

/-- One ADC LSB in units of 2^−20 of the outermost level. -/
def adcLsb : Nat := Config.adcLsbMinusOne + 1

/-- R45: a sample with the offset, gain and skew of its sub-ADC removed: the trims weigh 1, the sample and its slope (log entry 61). -/
def correctSample (trims : List Int) (j : Nat) (x before : Int) : Int :=
  let a := adcLsb * x
  let b := adcLsb * (x - before)
  4 * (a * 1048576 - (trims.getD j 0 * 1048576 + trims.getD (64 + j) 0 * a + trims.getD (128 + j) 0 * b))

/-- R45, R62: the updates of the three trims of one sub-ADC. -/
def adaptTrims (mu e : Int) (j : Nat) (x before : Int) (trims : List Int) : List Int :=
  let t := trims.modify j (fun v => v - mu * sgn e)
  let t := t.modify (64 + j) (fun v => v - mu * sgn e * sgn x)
  t.modify (128 + j) (fun v => v - mu * sgn e * sgn (x - before))

/-- R47: the level decided for a slicer input, `d` in the input's units; a sample on a threshold goes to the lower level (log entry 69). -/
def decideLevel (y d : Int) : Int :=
  (([-7, -5, -3, -1, 1, 3, 5, 7] : List Int).filter (fun k => decide (k * d < 2 * y))).length - 4

/-- R48: the slicer input for symbol k: the candidate of the nine whose L′ equals the decision before. -/
def slicerInput (y d : Int) (h : List Int) (a1 a2 a3 : Int) : Int :=
  let u := 4194304 * d
  let base := y - h.getD 1 0 * a2 * u - h.getD 2 0 * a3 * u
  let cands := ([-4, -3, -2, -1, 0, 1, 2, 3, 4] : List Int).map (fun l => (l, base - h.getD 0 0 * l * u))
  ((cands.find? (fun c => decide (c.1 = a1))).map Prod.snd).getD base

/-- R65: how many whole blocks make at least one shingle. -/
def pendingBlocks (m : EMode) : Nat := (720 + blockLen m - 1) / blockLen m

/-- R51, R58, R63, R65: what happens as a block begins, at sample k of the shingle: the update of the block that is a shingle old, and
the replicas of the new block. The slicer error serves a joining canceller too (log entry 76). -/
def blockBegin (cx : Ctx) (k : Nat) (d : Dsp) : Dsp :=
  let b := blockLen cx.mode
  let back := pendingBlocks cx.mode * b
  let errs := ((d.chain.err.drop (back - 6)).take b).reverse
  let errs := errs ++ List.replicate (b - errs.length) 0
  -- the newest input that the old block's last sample met stands `back + 1` samples behind
  let old := fun lag : Nat => lag + back + 1 - k
  let now := fun lag : Nat => lag + 1 - (k + b)
  let far := if cx.works.echo then fdafUpdate b (farParts cx.mode) cx.steps.far cx.own (old cx.lag + 192) errs d.farEcho else d.farEcho
  let xs := d.xtalks.mapIdx (fun m f =>
    match cx.nbrs.find? (fun n => n.1 == m) with
    | some (_, j, hist, lag) =>
      if cx.works.xtalk && decide (j ≠ .none) then
        fdafUpdate b (xtalkParts cx.mode) (if j = .joining then acqSteps.xtalk else cx.steps.xtalk) hist (old lag) errs f
      else f
    | none => f)
  let rep := (cx.nbrs.filter (fun n => decide (n.2.1 = .cancelling))).map (fun n =>
    fdafBlock b (xtalkParts cx.mode) n.2.2.1 (now n.2.2.2) (xs.getD n.1 {}))
  { d with
    farEcho := far, xtalks := xs
    chain := { d.chain with
      far := fdafBlock b (farParts cx.mode) cx.own (now cx.lag + 192) far
      xtalk := rep.foldl (List.zipWith (· + ·)) (List.replicate b 0) } }

/-- R62, R65: the time-domain updates from the symbol one shingle back, applied before the sample at `k` is taken; the chain's newest
decision is 7 samples old. -/
def applyPending (cx : Ctx) (k : Nat) (d : Dsp) : Dsp :=
  let c := d.chain
  let e := c.err.getD 719 0
  let j := (c.turn + 64 * 12 - 726) % 64
  { d with
    ffe := if cx.works.ffe then clamp24 (signSign cx.steps.eq e d.ffe (c.clean.drop 719)) else d.ffe
    dfe := if cx.works.dfe then clampDfe (signSign cx.steps.eq e d.dfe (c.dec.drop 720)) else d.dfe
    d := if cx.works.lev then d.d + cx.steps.lev * sgn e * sgn (c.dec.getD 719 0) else d.d
    ne := if cx.works.echo then clamp24 (signSign cx.steps.echo e d.ne (cx.own.drop (cx.lag + 726 - k))) else d.ne
    trims := if cx.works.trims then adaptTrims cx.steps.trim e j (c.raws.getD 725 0) (c.raws.getD 726 0) d.trims else d.trims }

/-- R42: a 64-symbol block of the timing loop ends: the proportional-integral filter (log entry 63), and the count of R43. A leader moves only the
phase. -/
def timingBlock (cx : Ctx) (d : Dsp) : Dsp :=
  let err := Config.timingError d.chain.mm d.d
  let integ := if cx.leader then 0 else if cx.held then d.loopInteg else d.loopInteg + err
  let off := decide (35000 * 2 ^ 38 < integ.natAbs * 10 ^ 8)
  { d with
    loopInteg := integ
    loopPhase := d.loopPhase + 64 * err + integ
    chain := { d.chain with mm := 0, mmLen := 0, outside := if off then d.chain.outside + 1 else 0 } }

/-- R42: the phase interpolator's setting, in 1/128 of a symbol interval. -/
def interpolator (d : Dsp) : Nat := (d.loopPhase / 33554432).toNat % 128

/-- One symbol of the timing loop (R42). -/
def timingSymbol (cx : Ctx) (x level before : Int) (d : Dsp) : Dsp :=
  if !cx.works.timing then d
  else
    let c := d.chain
    let t := { d with chain := { c with mm := c.mm + x * before - c.mmIn * level, mmLen := c.mmLen + 1, mmIn := x } }
    if t.chain.mmLen = 64 then timingBlock cx t else t

/-- Table 3-1: one sample through the chain; `known` is the partner's level where training or a planned silence gives it. -/
def chainSymbol (cx : Ctx) (d : Dsp) (u : Nat × BitVec 8 × Option Int) : Dsp :=
  let k := u.1
  let raw := u.2.1.toInt
  let d := if d.chain.blk = 0 then blockBegin cx k d else d
  let d := applyPending cx k d
  let c := d.chain
  let near := dot d.ne (cx.own.drop (cx.lag - k))
  let clean := correctSample d.trims c.turn raw (c.raws.headD 0) - (near + c.far.headD 0 + c.xtalk.headD 0) * 1048576
  let hist := (clean :: c.clean).take 760
  let y := dot d.ffe hist
  let a1 := c.dec.getD 0 0
  let x := slicerInput y d.d d.dfe a1 (c.dec.getD 1 0) (c.dec.getD 2 0)
  let step := d.d * 4398046511104
  let level := u.2.2.getD (decideLevel x step)
  let e := x - level * step
  timingSymbol cx x level a1 { d with chain := { c with
    turn := (c.turn + 1) % 64, blk := (c.blk + 1) % blockLen cx.mode
    raws := (raw :: c.raws).take 760, clean := hist
    dec := (level :: c.dec).take 760
    err := ((if cx.works = {} then 0 else e) :: c.err).take 1024
    meas := if cx.judged then (e :: c.meas).take 4096 else c.meas
    far := c.far.drop 1, xtalk := c.xtalk.drop 1 } }

/-! ## Slicer SNR (R43, Table 3-11) -/

/-- The ratio 6.667·d²/mean e² as numerator and denominator, the errors and d in one unit. -/
def snrRatio (d : Dsp) : Nat × Nat :=
  let sum := (d.chain.meas.foldl (fun a e => a + e * e) 0).toNat
  (6667 * d.chain.meas.length * (d.d * 4398046511104).natAbs ^ 2, 1000 * sum)

/-- 10·log10(num/den) is at least n hundredths of a decibel. -/
def atLeastCentiDb (num den n : Nat) : Bool := decide (10 ^ n * den ^ 1000 ≤ num ^ 1000)

/-- The greatest n below 2^bits with that property, found bit by bit. -/
def centiDbFloor (num den : Nat) : Nat → Nat → Nat
  | 0, acc => acc
  | b + 1, acc => centiDbFloor num den b (if atLeastCentiDb num den (acc + 2 ^ b) then acc + 2 ^ b else acc)

/-- Snr (0x3n40:03) in 0.01 dB, its rounding not stated (log entry 5); a ratio below 1 reads 0. -/
def snrCentiDb (num den : Nat) : Nat :=
  let n := centiDbFloor num den 16 0
  if decide (10 ^ n * den ^ 1000 = num ^ 1000) then n else if Config.roundsUp num den then n + 1 else n

/-- The SNR over the last 4096 symbols, once there are as many. -/
def snrNow (d : Dsp) : Nat := if d.chain.meas.length < 4096 then d.snr else let r := snrRatio d; snrCentiDb r.1 r.2

/-- R43: the slicer SNR over 4096 symbols is 17.8 dB or more, without rounding. -/
def snrLocks (d : Dsp) : Bool :=
  decide (4096 ≤ d.chain.meas.length) && (let r := snrRatio d; decide (10 ^ 178 * r.2 ^ 100 ≤ r.1 ^ 100))

/-- FrequencyOffset (0x3n40:02) in 0.01 ppm: 0 as leader. -/
def freqOf (leader : Bool) (d : Dsp) : Int := if leader then 0 else quotient (d.loopInteg * 10 ^ 8) (2 ^ 38)

/-- R43: the frequency estimate lies within ±0.035 %. -/
def freqLocks (d : Dsp) : Bool := decide (d.loopInteg.natAbs * 10 ^ 8 ≤ 35000 * 2 ^ 38)

/-- R42: a port that has lost lock does not track beyond ±0.03 %. -/
def freqHeld (d : Dsp) : Int := clampInt (-(30000 * 2 ^ 38 / 10 ^ 8)) (30000 * 2 ^ 38 / 10 ^ 8) d.loopInteg

end Sys2Proof.Machine
end

