-- ==== Sys2Proof/Machine/Ledger.lean ====
section
/-! DEFINITION. Ledger.lean: the loss ledger of chapter 07 (R196 to R200), its 32-byte entries (Table 7-2) and the
provocation episode that marks them (R227). -/

namespace Sys2Proof.Machine

/-! ## Provocation episodes -/

/-- R227: port p is in a provocation episode: less than 10 ms after its last provoked act, or the link is down after a
provoked link-down. -/
def inEpisode (s : State) (p : PortId) : Bool :=
  match s.ports[p].sieve.episode with
  | none => false
  | some t => decide (s.aon.tally < t + 10000000) || (!s.ports[p].link.up && s.ports[p].link.downProvoked)

/-- R227: a provoked act on port p. -/
def provoke (p : PortId) (s : State) : State := modSieve p (fun v => { v with episode := some s.aon.tally }) s

/-! ## Entries -/

/-- Entries of one part's ring. -/
def ringSize : Nat := 1024

/-- R197: the loss, at tally time t, merges into the newest entry. -/
def ledgerMerges (e : LedgerEntry) (c : Cls) (l : RxLoss) (t : Nat) : Bool :=
  decide (e.cls = c) && decide (e.cause = l.cause) && (e.provoked == l.provoked)
  && ((decide (e.seqCount = 0) && decide (l.seqCount = 0))
      || (decide (0 < e.seqCount) && decide (0 < l.seqCount)
          && decide (l.seqFirst = e.seqFirst + BitVec.ofNat 14 e.seqCount)))
  && decide (e.seqCount + l.seqCount ≤ 4096) && decide (e.first ≤ t) && decide (t < e.first + 1000000)

/-- R197: the merged entry. -/
def ledgerMerged (e : LedgerEntry) (l : RxLoss) (t : Nat) : LedgerEntry :=
  { e with seqCount := e.seqCount + l.seqCount, frames := sat16 (e.frames + l.frames), bytes := sat32 (e.bytes + l.bytes)
           unknown := e.unknown || l.unknown, estimated := e.estimated || l.estimated, last := t }

/-- A new entry (Table 7-2). -/
def ledgerNew (number : Nat) (rx : Bool) (c : Cls) (l : RxLoss) (t : Nat) : LedgerEntry :=
  { number := number, receive := rx, provoked := l.provoked, estimated := l.estimated, unknown := l.unknown, cls := c
    cause := l.cause, seqFirst := l.seqFirst, seqCount := l.seqCount, frames := sat16 l.frames, bytes := sat32 l.bytes
    first := t, last := t }

/-- R199: the totals of one part count every loss. -/
def ledgerTotals (c : Cls) (l : RxLoss) (part : LedgerPart) : LedgerPart :=
  { part with frames := bump64 c.val l.frames part.frames, bytes := bump64 c.val l.bytes part.bytes }

/-- R196, R199: a loss that makes a new entry. -/
def ledgerPush (rx : Bool) (c : Cls) (l : RxLoss) (t : Nat) (part : LedgerPart) : LedgerPart :=
  { ledgerTotals c l part with
    newest := part.newest + 1
    entries := (ledgerNew (part.newest + 1) rx c l t :: part.entries).take ringSize
    overwritten := if ringSize ≤ part.entries.length then sat32 (part.overwritten + 1) else part.overwritten }

/-- One part of a port's ledger. -/
def ledgerPart (s : State) (p : PortId) (rx : Bool) : LedgerPart := if rx then s.ports[p].led.rx else s.ports[p].led.tx

/-- One part of a port's ledger changed. -/
def modLedger (p : PortId) (rx : Bool) (f : LedgerPart → LedgerPart) (s : State) : State :=
  modPort p (fun q => { q with led := if rx then { q.led with rx := f q.led.rx } else { q.led with tx := f q.led.tx } }) s

/-- R200: the LOSS record of a new entry. -/
def lossEv (p : PortId) (rx : Bool) (c : Cls) (l : RxLoss) (number : Nat) : Ev :=
  bayEv p 0x0006 3 ([portByte p l.provoked, BitVec.ofNat 8 (rx.toNat * 128 + c.val), BitVec.ofNat 8 (causeCode l.cause), 0]
    ++ beBytes 2 l.seqFirst.toNat ++ beBytes 4 number)

/-- R196 to R200: a loss of class c, at tally time t, merges into the newest entry of its part or makes a new one. -/
def ledgerAdd (p : PortId) (rx : Bool) (c : Cls) (l : RxLoss) (t : Nat) (s : State) : State :=
  let part := ledgerPart s p rx
  let fresh := raise (lossEv p rx c l (part.newest + 1)) (modLedger p rx (ledgerPush rx c l t) s)
  match part.entries with
  | e :: rest =>
    if ledgerMerges e c l t then
      modLedger p rx (fun q => { ledgerTotals c l q with entries := ledgerMerged e l t :: rest }) s
    else fresh
  | [] => fresh

/-- R178: bytes discarded later are added to the entry that already accounts for their frame, and to the totals. -/
def ledgerMore (p : PortId) (c : Cls) (number n : Nat) (s : State) : State :=
  modLedger p true (fun q => { q with
    bytes := bump64 c.val n q.bytes
    entries := q.entries.map (fun e => if e.number = number then { e with bytes := sat32 (e.bytes + n) } else e) }) s

/-- Table 7-2: the flags byte. -/
def entryFlags (e : LedgerEntry) : Byte :=
  BitVec.ofNat 8 (e.receive.toNat * 128 + e.provoked.toNat * 64 + e.estimated.toNat * 32 + e.unknown.toNat * 16 + e.cls.val)

/-- Table 7-2: the 32 bytes of an entry. -/
def entryBytes (e : LedgerEntry) : List Byte :=
  leBytes 4 e.number ++ [entryFlags e, BitVec.ofNat 8 (causeCode e.cause)] ++ leBytes 2 e.seqFirst.toNat
  ++ leBytes 2 e.seqCount ++ leBytes 2 (if e.unknown then 0 else e.frames) ++ leBytes 4 e.bytes ++ leBytes 8 e.first
  ++ leBytes 8 e.last

/-- R202: the entry that an EntrySelect names, if it is held. -/
def selectedEntry (s : State) (p : PortId) (sel : BitVec 32) : Option LedgerEntry :=
  (ledgerPart s p (sel.getLsbD 31)).entries.find? (fun e => decide (e.number = sel.toNat % 2 ^ 31))

end Sys2Proof.Machine
end

