-- ==== Sys2Proof/Machine/Sieve.lean ====
section
/-! DEFINITION. Sieve.lean: the fault provocations of chapter 08: draws, the choice of slots, the drop pattern and trit
corruption, arming, disarming and interruption (R216 to R227). -/

namespace Sys2Proof.Machine

/-! ## Draws (R220) -/

/-- One advance of the Galois LFSR with x^32 + x^22 + x^2 + x + 1: the register times x. -/
def lfsrNext (r : BitVec 32) : BitVec 32 := (r <<< 1) ^^^ (if r.getLsbD 31 then 0x00400007#32 else 0#32)

/-- One of n for a draw (log entry 11). -/
def choose (r : BitVec 32) (n : Nat) : Nat := if n = 0 then 0 else Config.sieveChoice r n % n

/-- k distinct members of a list, one draw each, with the register left. -/
def pickMany : Nat → BitVec 32 → List Nat → BitVec 32 × List Nat
  | 0, r, _ => (r, [])
  | k + 1, r, pool =>
    let r := lfsrNext r
    let i := choose r pool.length
    let q := pickMany k r (pool.eraseIdx i)
    (q.1, (pool[i]?).toList ++ q.2)

/-! ## What a provocation does to a codeword -/

/-- R222: the word value of the drop pattern's word 1. -/
def dropWord : Nat := 531440

/-- R222: the codeword the slot would have carried, with word 1 replaced and the parity recomputed. -/
def dropPattern (trytes : List Tryte) : List Tryte :=
  rsEncode (trytes.take 2 ++ [(pack12 dropWord).1, (pack12 dropWord).2] ++ (trytes.take 224).drop 4)

/-- A tryte with its i-th trit, from the least, replaced. -/
def tryteWith (a : Tryte) (i : Nat) (f : Trit → Trit) : Tryte :=
  match i with
  | 0 => { a with t0 := f a.t0 }
  | 1 => { a with t1 := f a.t1 }
  | 2 => { a with t2 := f a.t2 }
  | 3 => { a with t3 := f a.t3 }
  | 4 => { a with t4 := f a.t4 }
  | _ => { a with t5 := f a.t5 }

/-- R223: + or − added to each chosen trit, one draw bit each. -/
def scatterTrits : BitVec 32 → List Nat → List Tryte → BitVec 32 × List Tryte
  | r, [], ts => (r, ts)
  | r, x :: xs, ts =>
    let r := lfsrNext r
    scatterTrits r xs (ts.modify (x / 6) (fun a => tryteWith a (x % 6) (fun v => tritAdd v (if r.getLsbD 0 then .pos else .neg))))

/-- R223: SCATTER of A trits over ⌈A/6⌉ trytes. -/
def scatter (r : BitVec 32) (a : Nat) (ts : List Tryte) : BitVec 32 × List Tryte :=
  let q := pickMany ((a + 5) / 6) r (List.range 240)
  let places := q.2.flatMap (fun t => (List.range 6).map (fun i => 6 * t + i))
  let w := pickMany a q.1 places
  scatterTrits w.1 w.2 ts

/-- R223: BURST over L symbols: a nonzero level is negated, and level 0 becomes +4. -/
def burst (r : BitVec 32) (l : Nat) (levels : List Int) : BitVec 32 × List Int :=
  let r := lfsrNext r
  let start := choose r (720 - l + 1)
  (r, levels.mapIdx (fun i v => if start ≤ i ∧ i < start + l then (if v = 0 then 4 else -v) else v))

/-! ## Kinds -/

/-- Kinds of Arm (Table 8-2) by bit. -/
def kindDrop : Nat := 0
def kindCorrupt : Nat := 1
def kindSwap : Nat := 2
def kindInterrupt : Nat := 3
def kindHostIn : Nat := 4
def kindHostOut : Nat := 5

/-- The kind is in force on the port. -/
def sieveLive (q : Port) (k : Nat) : Bool := q.sieve.live.getLsbD k

/-- R218: the sieve is busy. -/
def sieveBusy (s : State) : Bool := s.ports.toList.any (fun q => decide (q.sieve.live ≠ 0) || q.sieve.interrupting)

/-- R216: the Holder leaves once nothing is armed and no interruption lasts. -/
def releaseHolder (s : State) : State := if sieveBusy s then s else { s with sieveHolder := none }

/-- R224: a swap in progress is given up; the shingle held back is due, as a replay where a link-down parts the two. -/
def skipSwap (p : PortId) (down : Bool) (s : State) : State :=
  match s.ports[p].sieve.swapOut with
  | none => s
  | some (c, n, _) =>
    modTx p c (fun t => { t with launched := t.launched.map (fun e =>
      if e.seq = n ∧ e.unsent then { e with due := true, parted := down } else e) })
      (modSieve p (fun v => { v with swapOut := none, counters := bump 3 1 v.counters }) s)

/-- R216: kinds of one port leave force, but for those to keep, with the SIEVE_DISARMED record; a shingle that SWAP holds back is due. -/
def disarmNow (p : PortId) (kinds keep cause : BitVec 8) (s : State) : State :=
  if s.ports[p].sieve.live &&& kinds = 0 then s
  else
    let gone := kinds &&& ~~~keep
    let t := if kinds.getLsbD kindSwap then skipSwap p false s else s
    releaseHolder (raise (devPortEv .sieve p 0x0701 6 [BitVec.ofNat 8 p.val, s.ports[p].sieve.live &&& kinds, cause])
      (modSieve p (fun v => { v with
        live := v.live &&& ~~~gone, arm := v.arm &&& ~~~gone
        intWaiting := v.intWaiting && !gone.getLsbD kindInterrupt
        hostOutDue := v.hostOutDue && !gone.getLsbD kindHostOut }) t))

/-- R225: the driver is silenced. -/
def silenced (v : SievePort) : Bool := v.interrupting && v.iSides.getLsbD 0

/-- R225: the sieve cuts the receiver's input, so nothing arrives. -/
def inputCut (q : Port) : Bool := q.sieve.interrupting && q.sieve.iSides.getLsbD 1

/-- R148, Table 5-3: symbols that have left since a segment of training or of the wake pulse was released, `now` being tally time. -/
def symbolsSince (q : Port) (now : Nat) : Seg → Option Nat
  | .wave _ => some (18 * (now - q.line.releasedAt) / 5)
  | .period _ _ => (etoonMode q).map (fun m => 24576 * 3 * (now - q.line.releasedAt) / periodThirds m)
  | .muted g _ _ => symbolsSince q now g
  | _ => none

/-- R225: the driver falls silent within a segment under way: its symbols from now on are at level 0. -/
def muteSeg (q : Port) (now : Nat) (g : Seg) : Seg :=
  match symbolsSince q now g with
  | some n => if n < segLength g then .muted g n (segLength g) else g
  | none => g

/-- R225: the driver sounds again within a segment under way. -/
def unmuteSeg (q : Port) (now : Nat) (g : Seg) : Seg :=
  match g, symbolsSince q now g with
  | .muted h a b, some n => if b = segLength h then .muted h a (min n b) else g
  | _, _ => g

/-- The newest released segment changed. -/
def modNewest (p : PortId) (f : Seg → Seg) (s : State) : State := modLine p (fun l => { l with released := l.released.modify 0 f }) s

/-- R53, R225: a segment as the driver launches it: all of it at level 0 where the sieve silences the driver. -/
def asLaunched (v : SievePort) (g : Seg) : Seg := if silenced v then .muted g 0 (segLength g) else g

/-- R225: the interruption on port p ends. -/
def endInterruption (p : PortId) (s : State) : State :=
  let t := modSieve p (fun v => { v with interrupting := false }) s
  if silenced s.ports[p].sieve then modNewest p (unmuteSeg s.ports[p] s.aon.tally) t else t

/-- Slots are launched on the port, so it has shingle boundaries; none in a phase S that R126 has ended. -/
def slotsRun (q : Port) : Bool :=
  (q.link.up || (decide (q.link.phase = .s) && decide (q.train.restartAfter = 0)))
  && (match q.link.mode with | some (.etoon _) => true | _ => false)

/-- R217: a disarm of some kinds waits for the port's next boundary, or is made at once where no slot runs; an
interruption in progress ends at once. -/
def disarm (p : PortId) (kinds cause : BitVec 8) (s : State) : State :=
  let s := if kinds.getLsbD kindInterrupt && s.ports[p].sieve.interrupting then endInterruption p s else s
  let s := modSieve p (fun v => { v with arm := v.arm &&& ~~~kinds, rearmed := v.rearmed &&& ~~~kinds }) s
  if slotsRun s.ports[p] then modSieve p (fun v => { v with disarms := v.disarms ++ [(kinds, cause)] }) s
  else disarmNow p kinds 0 cause s

/-- R217: the disarms that waited are made, at a boundary of port p or where its slots stop; kinds armed anew meanwhile stay in force. -/
def disarmDue (p : PortId) (s : State) : State :=
  let v := s.ports[p].sieve
  v.disarms.foldl (fun t d => disarmNow p d.1 v.rearmed d.2 t) (modSieve p (fun v => { v with disarms := [], rearmed := 0 }) s)

/-- R217: every kind on every port is disarmed. -/
def disarmAll (cause : BitVec 8) (s : State) : State :=
  releaseHolder (forPorts (fun p t =>
    if t.ports[p].sieve.live = 0 ∧ t.ports[p].sieve.interrupting = false then t else disarm p 0xFF cause t) s)

/-- R225: INTERRUPT silences the port: a provoked act, and signature comparison is suspended (R229). The act is the start: the 10 ms of
R227 count from it (the model's choice, log entry 94). -/
def startInterruption (p : PortId) (s : State) : State :=
  let t := modPort p (fun q => { q with
    sieve := { q.sieve with interrupting := true, intWaiting := false, intSince := s.aon.tally, counters := bump 4 1 q.sieve.counters }
    sig := { q.sig with interrupted := true, skip := true } }) s
  provoke p (if silenced t.ports[p].sieve then modNewest p (muteSeg s.ports[p] s.aon.tally) t else t)

/-- R225: an interruption that waits starts at once where no slot is running. -/
def startIfNoSlot (p : PortId) (s : State) : State :=
  if s.ports[p].sieve.intWaiting && !slotsRun s.ports[p] then startInterruption p s else s

/-- R216, R220: kinds of port p are armed by channel ch: the settings of each kind come into force, the LFSR is loaded. -/
def armKinds (ch : Chan) (p : PortId) (kinds : BitVec 8) (s : State) : State :=
  let has := fun k => kinds.getLsbD k
  let s := modSieve p (fun v => { v with
    live := v.live ||| kinds, lfsr := v.seed
    rearmed := v.rearmed ||| v.disarms.foldl (fun a d => a ||| (d.1 &&& kinds)) 0
    dMode := if has kindDrop then v.dropMode else v.dMode
    dArg := if has kindDrop then v.dropArg else v.dArg
    dSeen := if has kindDrop then 0 else v.dSeen
    dSelect := if has kindDrop then v.lineSelect else v.dSelect
    cSelect := if has kindCorrupt then v.lineSelect else v.cSelect
    cMode := if has kindCorrupt then v.corruptMode else v.cMode
    cArg := if has kindCorrupt then v.corruptArg else v.cArg
    cSeen := if has kindCorrupt then 0 else v.cSeen
    sDist := if has kindSwap then v.maxDistance else v.sDist
    sInterval := if has kindSwap then v.swapInterval else v.sInterval
    sCount := if has kindSwap then 0 else v.sCount
    hInInterval := if has kindHostIn then v.hostInterval else v.hInInterval
    hOutInterval := if has kindHostOut then v.hostInterval else v.hOutInterval
    hostInAt := if has kindHostIn then s.aon.tally else v.hostInAt
    hostOutAt := if has kindHostOut then s.aon.tally else v.hostOutAt
    iSides := if has kindInterrupt then v.intSides else v.iSides
    iLength := if has kindInterrupt then v.intLength else v.iLength
    intWaiting := v.intWaiting || has kindInterrupt }) s
  let s := raise (devPortEv .sieve p 0x0700 6 [BitVec.ofNat 8 p.val, s.ports[p].sieve.arm, BitVec.ofNat 8 ch.val])
    { s with sieveHolder := some (s.sieveHolder.getD ch) }
  startIfNoSlot p s

/-- R216, R217: a write of Arm arms the kinds whose bits it sets anew and disarms those whose bits it clears. -/
def writeArm (ch : Chan) (p : PortId) (v : BitVec 8) (s : State) : State :=
  let old := s.ports[p].sieve.arm
  let fresh := v &&& ~~~old
  let gone := old &&& ~~~v
  let s := modSieve p (fun x => { x with arm := v }) s
  let s := if gone = 0 then s else disarm p gone 1 s
  if fresh = 0 then s else armKinds ch p fresh s

/-! ## Choosing slots (R221 to R224) -/

/-- R221: the bit of LineSelect for a slot: its class, or 4 for a control shingle. -/
def selectBit (ctl : Bool) (c : Cls) : Nat := if ctl then 4 else c.val

/-- R219, R221: the slot is eligible. -/
def sieveEligible (q : Port) (sel : BitVec 8) (ctl : Bool) (c : Cls) : Bool := q.link.up && sel.getLsbD (selectBit ctl c)

/-- R222: whether DROP takes an eligible slot, with the sieve after the choice; in PATTERN mode the first eligible slot since arming is slot 0
(the model's choice, log entry 94). -/
def dropChoice (v : SievePort) : Bool × SievePort :=
  if v.dMode = 1 then
    let r := lfsrNext v.lfsr
    (decide (r.toNat < 2 ^ 32 / v.dArg.toNat), { v with lfsr := r, dSeen := v.dSeen + 1 })
  else if v.dMode = 2 then (v.dArg.getLsbD (v.dSeen % 32), { v with dSeen := v.dSeen + 1 })
  else (decide (v.dArg ≠ 0), { v with dArg := v.dArg - 1, dSeen := v.dSeen + 1 })

/-- R223: whether CORRUPT takes an eligible codeword, with the sieve after the choice: the last of each CorruptPeriod (the model's choice, log
entry 94). -/
def corruptChoice (v : SievePort) : Bool × SievePort :=
  if (v.cArg >>> 8).toNat ≤ v.cSeen + 1 then (true, { v with cSeen := 0 }) else (false, { v with cSeen := v.cSeen + 1 })

/-- R222: DROP in COUNT mode disarms itself after its last drop. -/
def dropDone (p : PortId) (s : State) : State :=
  if s.ports[p].sieve.dMode = 0 ∧ s.ports[p].sieve.dArg = 0 then disarmNow p 1 0 2 s else s

/-- R222: the choice of DROP for a slot of the port, made where it is armed and the slot eligible. -/
def sieveDrop (p : PortId) (ctl : Bool) (c : Cls) (s : State) : Bool × State :=
  if sieveLive s.ports[p] kindDrop && sieveEligible s.ports[p] s.ports[p].sieve.dSelect ctl c then
    let r := dropChoice s.ports[p].sieve
    let t := modSieve p (fun _ => r.2) s
    if r.1 then (true, dropDone p (provoke p (modSieve p (fun v => { v with counters := bump 0 1 v.counters }) t))) else (false, t)
  else (false, s)

/-- R223: the choice of CORRUPT for a slot of the port. -/
def sieveCorrupt (p : PortId) (ctl : Bool) (c : Cls) (s : State) : Bool × State :=
  if sieveLive s.ports[p] kindCorrupt && sieveEligible s.ports[p] s.ports[p].sieve.cSelect ctl c then
    let r := corruptChoice s.ports[p].sieve
    (r.1, modSieve p (fun _ => r.2) s)
  else (false, s)

/-- R223: the levels of a corrupted codeword, with the sieve after its draws. -/
def corruptLevels (v : SievePort) (ts : List Tryte) : List Int × SievePort :=
  let n := (v.cArg &&& 0xFF).toNat
  if v.cMode = 1 then
    let r := burst v.lfsr n (trytesLevels ts)
    (r.2, { v with lfsr := r.1 })
  else
    let r := scatter v.lfsr n ts
    (trytesLevels r.2, { v with lfsr := r.1 })

/-! ## Commands -/

/-- R225: InterruptLength expires: the interruption ends and the kind has disarmed itself. -/
def execInterruptionEnd (p : PortId) (s : State) : Host.Outcome State Fault Refusal :=
  .next (
    let v := s.ports[p].sieve
    if v.interrupting ∧ v.intSince + v.iLength ≤ s.aon.tally then releaseHolder (disarmNow p 8 0 2 (endInterruption p s)) else s)

/-- R226, Table 10-1: hundredths of a nanosecond that one 66-bit block takes on a lane, or one code group in 1000BASE-X. -/
def blockTime : LaneMode → Nat
  | .r50 => 128
  | .r25 => 256
  | .r10 => 640
  | .x1000 => 800

/-- R226: as many blocks as HostInterval says have passed on the lane since a tally time, which shows whole microseconds. -/
def blocksPassed (q : Port) (interval since now : Nat) : Bool :=
  match q.host.active with
  | some m => decide (interval * blockTime m ≤ 100 * (now + 1000 - since))
  | none => false

/-- R226: HostInterval expires, and HOST_IN corrupts a block on HRXn; the frame that is arriving becomes ERRORED and PROVOKED. -/
def execHostInCorruption (p : PortId) (s : State) : Host.Outcome State Fault Refusal :=
  .next (if sieveLive s.ports[p] kindHostIn && blocksPassed s.ports[p] s.ports[p].sieve.hInInterval s.ports[p].sieve.hostInAt s.aon.tally then
    provoke p (modPort p (fun q => { q with
      sieve := { q.sieve with hostInAt := s.aon.tally, counters := bump 5 1 q.sieve.counters }
      host := { q.host with arriving := q.host.arriving.map (fun a => { a with errored := true, provoked := true }) } }) s)
  else s)

/-- R227: a provocation episode ends 10 ms after its last provoked act, unless a provoked link-down lasts. -/
def execProvocationEpisodeEnd (p : PortId) (s : State) : Host.Outcome State Fault Refusal :=
  .next (if inEpisode s p then s else modSieve p (fun v => { v with episode := none }) s)

end Sys2Proof.Machine
end

