-- ==== Sys2Proof/Machine/Echo.lean ====
section
/-! DEFINITION. Echo.lean: the arithmetic of the cable signature: the 100 ps grid (R232), the fit and the segment energies of a
comparison (R235, R236, R239), and the probe sequence with its least-squares estimate (R240, R241). Log entry 86 names the number formats
and filters that the manual leaves open. -/

namespace Sys2Proof.Machine

/-! ## Decibels -/

/-- k·log10(num/den) is at least t, exactly. -/
def atLeastDb (k num den : Nat) (t : Int) : Bool := decide (10 ^ t.toNat * den ^ k ≤ num ^ k * 10 ^ (-t).toNat)

/-- The greatest n below 2^bits that satisfies a test which holds up to some n, found bit by bit. -/
def topBits (f : Nat → Bool) : Nat → Nat → Nat
  | 0, acc => acc
  | b + 1, acc => topBits f b (if f (acc + 2 ^ b) then acc + 2 ^ b else acc)

/-- k·log10(num/den) rounded down. -/
def dbFloor (k num den : Nat) : Int :=
  if den ≤ num then topBits (fun n => atLeastDb k num den n) 20 0 else -(topBits (fun n => !atLeastDb k num den (-(n : Int))) 20 0 + 1 : Nat)

/-- k·log10(num/den) to the nearest integer, as the worked example of R239 rounds. -/
def dbNearest (k num den : Nat) : Int :=
  let f := dbFloor k num den
  if atLeastDb (2 * k) num den (2 * f + 1) then f + 1 else f

/-! ## The grid (R232, R233) -/

/-- Table 9-1: the last sample a line signature covers. -/
def lineLast : EMode → Nat
  | .el50 => 1244
  | .el25 => 2488
  | .el10 => 4095

/-- Table 9-1: the bandwidth of a line signature in MHz. -/
def lineBandwidth : EMode → Nat
  | .el50 => 4500
  | .el25 => 4500
  | .el10 => 1800

/-- Table 3-3: symbols in 100 ps, as a fraction. -/
def symbolsPerStep : EMode → Nat × Nat
  | .el50 => (9, 5)
  | .el25 => (9, 10)
  | .el10 => (9, 25)

/-- R232: sample k of the grid from taps at symbol spacing. -/
def gridSample (bw : Nat) (f : Nat × Nat) (taps : List Rat) (k : Nat) : Rat :=
  let x := f.1 * k
  (List.range 32).foldl (fun acc i =>
    let j := x / f.2 + i
    if j < 15 then acc else acc + taps.getD (j - 15) 0 * (Config.sincWeight bw f.2 (x % f.2) i : Rat) / 1048576) 0

/-- R232: a sample in units of 2^−24, an INTEGER32 that is not the mark of a sample that is not covered. -/
def sampleOf (x : Rat) : Int := let y := x * 16777216; clampInt (-2147483647) 2147483647 (quotient y.num y.den)

/-- R232: the samples of a signature up to the last one covered. -/
def gridSamples (bw : Nat) (f : Nat × Nat) (last : Nat) (taps : List Rat) : List Int :=
  (List.range (last + 1)).map (fun k => sampleOf (gridSample bw f taps k))

/-- R232: 4096 samples; what the source does not cover holds 0x8000_0000. -/
def coverSamples (last : Nat) (xs : List Int) : List Int :=
  (xs.take (last + 1) ++ List.replicate 4096 (-2147483648)).take 4096

/-- R232: the echo taps in the time domain: near echo 0 to 191, far echo 192 to 2239. -/
def echoTaps (m : EMode) (d : Dsp) : List Int := d.ne ++ fdafTaps (blockLen m) (farParts m) d.farEcho

/-- R232: one reading of the echo taps added to those of the window, 16 at most. -/
def readTaps (m : EMode) (d : Dsp) (g : Sig) : Sig :=
  if 16 ≤ g.readings then g
  else
    let x := echoTaps m d
    { g with readings := g.readings + 1
             readSum := if g.readings = 0 then x else List.zipWith (· + ·) g.readSum x }

/-- R232: readings that the window has not taken are taken now, `fuel` at most. -/
def readAll (m : EMode) (d : Dsp) : Nat → Sig → Sig
  | 0, g => g
  | fuel + 1, g => if 16 ≤ g.readings then g else readAll m d fuel (readTaps m d g)

/-- R232: the line signature from the sums of 16 readings in units of 2^−20. -/
def lineSamples (m : EMode) (sum : List Int) : List Int :=
  gridSamples (lineBandwidth m) (symbolsPerStep m) (lineLast m) (sum.map (fun v => (v : Rat) / 16777216))

/-! ## The fit (R235) -/

/-- R233: the last sample of a segment. -/
def segmentEnd (j : Nat) : Nat := min (50 * j + 49) 4095

/-- R233: the segments compared, where both signatures cover every sample up to `last`. -/
def comparedSegments (last : Nat) : List Nat := (List.range 82).filter (fun j => decide (segmentEnd j ≤ last))

/-- R235: what the fit gives: β in 0.01 ppm, γ as a factor in units of 2^−30 and in 0.001 dB, whether either ended at a limit. -/
structure Fit where
  beta    : Int
  gain    : Int
  gamma   : Int
  atLimit : Bool
  deriving DecidableEq, Repr

/-- R235: the reference stretched by β at sample k, in units of 2^−40. -/
def refAt (r : List Int) (beta : Int) (k : Nat) : Int :=
  let n := k * 100000000
  let d := (100000000 + beta).toNat
  if n % d = 0 then r.getD (n / d) 0 * 65536 else Config.refBetween r (n / d) (n % d) d

/-- A factor in units of 2^−30 for a gain in 0.001 dB, rounded down. -/
def gainOf (x : Int) : Nat := topBits (fun g => decide (g ^ 20000 * 10 ^ (-x).toNat ≤ 2 ^ 600000 * 10 ^ x.toNat)) 40 0

/-- R235: the γ that fits best at one β, held within its limits, and the sum of squares it leaves, in units of 2^−140: the sum is a parabola
in γ, so the best γ is the grid's point nearest to its vertex (log entry 86). -/
def gainAt (s : List Int) (ref : List Int) (lo hi : Nat) : Int × Nat :=
  let num := 70368744177664 * (List.zipWith (· * ·) s ref).foldl (· + ·) 0
  let den := (ref.foldl (fun a v => a + v * v) 0).toNat
  let g := clampInt lo hi (if den = 0 then quotient num den else nearestInt num den)
  (g, ((List.zipWith (fun x v => x * 70368744177664 - g * v) s ref).foldl (fun a v => a + v * v) 0).toNat)

/-- The β of the least sum of squares, the first among equals. -/
def leastBeta (f : Int → Int × Nat) (lo : Int) : Nat → Int
  | 0 => lo
  | n + 1 => let b := leastBeta f lo n; if (f (lo + (n + 1 : Nat))).2 < (f b).2 then lo + (n + 1 : Nat) else b

/-- R235: the fit of reference r to signature s over samples 0 to `last`; b1 and g1 as learned, dT = T − T_ref in 0.01 °C. -/
def fitSig (s r : List Int) (last : Nat) (b1 g1 dT : Int) : Fit :=
  let pred := nearestInt (g1 * dT) 1000
  let lo := gainOf (pred - 1000)
  let hi := gainOf (pred + 1000)
  let bLo := -((20000000 - b1 * dT) / 100)
  let bHi := (b1 * dT + 20000000) / 100
  let xs := s.take (last + 1)
  let at_ := fun b => gainAt xs ((List.range (last + 1)).map (refAt r b)) lo hi
  let b := leastBeta at_ bLo (bHi - bLo).toNat
  let g := (at_ b).1
  { beta := b, gain := g
    gamma := if g = lo then pred - 1000 else if g = hi then pred + 1000 else dbNearest 20000 g.toNat 1073741824
    atLimit := decide (b = bLo) || decide (b = bHi) || decide (g = lo) || decide (g = hi) }

/-! ## Segment energies (R236, R239) -/

/-- What a comparison measures: the fit, the sensor reading, Σ d² of each compared segment, E_ref, and Σ k·d² over each segment. -/
structure Compared where
  fit     : Fit
  temp    : Int
  energy  : List (Nat × Nat)
  eref    : Nat
  moment  : List (Nat × Nat)
  deriving DecidableEq, Repr

/-- Samples of a segment. -/
def segmentSamples (j : Nat) : List Nat := (List.range 50).map (fun i => 50 * j + i) |>.filter (fun k => decide (k ≤ 4095))

/-- R236: a signature compared with a reference over samples 0 to `last`. -/
def compareSig (s r : List Int) (last : Nat) (b1 g1 temp tRef : Int) : Compared :=
  let f := fitSig s r last b1 g1 (temp - tRef)
  let ref := fun k => f.gain * refAt r f.beta k
  let d2 := fun k => ((s.getD k 0 * 70368744177664 - ref k) ^ 2).toNat
  let segs := comparedSegments last
  { fit := f, temp := temp
    energy := segs.map (fun j => (j, (segmentSamples j).foldl (fun a k => a + d2 k) 0))
    eref := segs.foldl (fun a j => (segmentSamples j).foldl (fun a k => a + ((ref k) ^ 2).toNat) a) 0
    moment := segs.map (fun j => (j, (segmentSamples j).foldl (fun a k => a + k * d2 k) 0)) }

/-- R236: Lev_j in 0.01 dB. -/
def segLevel (num eref : Nat) : Int :=
  clampInt (-32767) 32767 (if num = 0 ∨ eref = 0 then Config.levelOfNothing num eref else dbNearest 1000 num eref)

/-- R236: segments whose level is at or above a threshold in 0.01 dB. -/
def segmentsOver (t : Int) (c : Compared) : List Nat :=
  (c.energy.filter (fun x => decide (0 < x.2) && atLeastDb 1000 x.2 c.eref t)).map Prod.fst

/-- The worst compared segment: the greatest energy, the lowest number among equals. -/
def worstSegment : List (Nat × Nat) → Option (Nat × Nat)
  | [] => none
  | x :: rest =>
    match worstSegment rest with
    | none => some x
    | some y => if x.2 < y.2 then some y else if x.2 = y.2 ∧ y.1 < x.1 then some y else some x

/-- The sum over a segment and its two neighbours. -/
def aroundSegment (j : Nat) (xs : List (Nat × Nat)) : Nat :=
  (xs.filter (fun x => decide (x.1 ≤ j + 1) && decide (j ≤ x.1 + 1))).foldl (fun a x => a + x.2) 0

/-- R239: the location in mm from the centroid num/den in samples, to the nearest millimetre as the worked example rounds; LengthScale in
0.01 ps/m, β in 0.01 ppm. -/
def sigLocation (num den : Nat) (beta scale : Int) : BitVec 32 :=
  let n := num * 10 ^ 15
  let d := den * ((100000000 + beta) * 2 * scale).toNat
  BitVec.ofNat 32 ((2 * n + d) / (2 * d))

/-! ## The probe (R240, R241) -/

/-- R240: n digits of the m-sequence from a window of eight. -/
def probeDigits : Nat → List Nat → List Nat
  | 0, _ => []
  | n + 1, w => w.headD 0 :: probeDigits n (w.drop 1 ++ [(2 * w.getD 5 0 + w.headD 0) % 3])

/-- R240: the digit as it is launched, at one eighth of the outermost amplitude: + for 1, − for 2. -/
def probeTrit (d : Nat) : Int := if d = 1 then 1 else if d = 2 then -1 else 0

/-- R240: a burst of 4096 trits. -/
def probeBurst : List Int := (probeDigits 4096 [1, 0, 0, 0, 0, 0, 0, 0]).map probeTrit

/-- The solution of n linear equations, each row its coefficients and then its right side; an unknown that no row determines is 0. -/
def solveRows : Nat → List (List Rat) → List Rat
  | 0, _ => []
  | n + 1, rows =>
    match rows.find? (fun r => decide (r.headD 0 ≠ 0)) with
    | none => 0 :: solveRows n (rows.map (fun r => r.drop 1))
    | some piv =>
      let rest := (rows.erase piv).map (fun r => List.zipWith (fun a b => a - r.headD 0 / piv.headD 1 * b) (r.drop 1) (piv.drop 1))
      let xs := solveRows n rest
      (((piv.drop 1).getD n 0 - (List.zipWith (· * ·) (piv.drop 1) xs).foldl (· + ·) 0) / piv.headD 1) :: xs

/-- Σ x[k]·y[k + i]. -/
def correlate (x y : List Int) (i : Nat) : Int := (List.zipWith (· * ·) x (y.drop i)).foldl (· + ·) 0

/-- R241: the least-squares echo response of 1475 taps to one burst, relative to the outermost launch level, from its recorded samples. -/
def probeEstimate (raw : List (BitVec 8)) : List Rat :=
  let y := raw.map (fun v => 8 * (adcLsb : Int) * v.toInt)
  let auto := (List.range 1475).map (correlate probeBurst probeBurst)
  (solveRows 1475 ((List.range 1475).map (fun i =>
    (List.range 1475).map (fun j => (auto.getD ((i - j) + (j - i)) 0 : Rat)) ++ [(correlate probeBurst y i : Rat)]))).map (· / 1048576)

/-- R241: the signature of a probe: the mean of the four estimates on the grid, at 1.8 GHz. -/
def probeSamples (bursts : List (List (BitVec 8))) : List Int :=
  let sum := bursts.foldl (fun a b => List.zipWith (· + ·) a (probeEstimate b)) (List.replicate 1475 0)
  gridSamples 1800 (symbolsPerStep .el10) 4095 (sum.map (· / bursts.length))

end Sys2Proof.Machine
end

