-- ==== Sys2Proof/Machine/Dsp.lean ====
section
/-! DEFINITION. Dsp.lean: adaptation, snapshots and cross-port cancellation (chapter 03). Coefficients are integers in
units of 2^−20 (R46). -/

namespace Sys2Proof.Machine

/-! ## Harness groups and crosstalk (R55 to R61) -/

/-- R56: both ports lead in the same Etoon mode, and port m places a stream on the gutter; between the epochs of a change (R143) port n's
receiver and port m's transmitter decide. -/
def crosstalkKnown (s : State) (n m : PortId) : Bool :=
  let a := s.ports[n]
  let b := s.ports[m]
  a.link.leader && (rxMode a).isSome && decide (rxMode a = txMode b) && streams b

/-- R56: port m's crosstalk into port n may be cancelled. -/
def xtalkEligible (s : State) (n m : PortId) : Bool := maskBit s.ports[n].dsp.neighboursInUse m && crosstalkKnown s n m

/-- R61: thermal stage 1 limits port n to its nearest neighbour. -/
def xtalkReduced (s : State) : Bool := decide (1 ≤ s.heat.stage)

/-- R56, R61: port n cancels port m, or joins it. -/
def xtalkWanted (s : State) (n m : PortId) : Bool :=
  xtalkEligible s n m && (!xtalkReduced s || decide (s.ports[n].dsp.nearestInUse = some m))

/-- R59: port n may begin a join: its link is up, or it is in the crosstalk join phase. -/
def xtalkOpen (q : Port) : Bool := q.link.up || decide (q.link.phase = .x)

/-- The join state of one neighbour after a shingle boundary (R59, R60). -/
def joinStep (wanted canJoin : Bool) (j : Join) : Join :=
  if !wanted then .none else if j = .none && canJoin then .joining else j

/-- R59, R60: at port n's shingle boundary, neighbours that are no longer wanted are removed with their coefficients, and
new ones begin to join from zero. -/
def xtalkBoundary (n : PortId) (s : State) : State :=
  let want := fun m : PortId => xtalkWanted s n m
  let old := fun m : PortId => s.ports[n].dsp.joins.getD m.val .none
  let new := fun m : PortId => joinStep (want m) (xtalkOpen s.ports[n]) (old m)
  modDsp n (fun d => { d with
    joins := (List.finRange 8).map new
    joinSince := (List.finRange 8).map (fun m =>
      if old m = .none ∧ new m = .joining then s.aon.tally else d.joinSince.getD m.val 0)
    xtalks := (List.finRange 8).map (fun m => if want m then d.xtalks.getD m.val {} else {}) }) s

/-- Table 3-13: the coupling that the dictionary shows: 0x8000 for a port whose crosstalk is not cancelled. -/
def couplingShown (q : Port) (m : PortId) : Int :=
  if q.dsp.joins.getD m.val .none = .cancelling ∧ xtalkOpen q then q.dsp.couplings.getD m.val (-32768) else -32768

/-- R61: the eligible neighbour with the greatest measured coupling, ties to the lower port. -/
def coupledNearest (s : State) (n : PortId) : Option PortId :=
  ((List.finRange 8).filter (xtalkEligible s n)).foldl (fun best m =>
    match best with
    | none => some m
    | some b => if couplingShown s.ports[n] b < couplingShown s.ports[n] m then some m else some b) none

/-- R61: the port named as nearest, or the one that coupling chose. -/
def nearestChoice (d : Dsp) : Option PortId :=
  if d.nearest ≠ 0xFF then some (Fin.ofNat 8 d.nearest.toNat) else d.nearestCoupled

/-- R61: thermal stage 1 begins: the nearest neighbour of port n is chosen. -/
def chooseNearest (n : PortId) (s : State) : State :=
  modDsp n (fun d => let d := { d with nearestCoupled := coupledNearest s n }; { d with nearestInUse := nearestChoice d }) s

/-- R55, Table 3-13, Table 3-15: what a shingle boundary of port n brings into force: the neighbour mask, and a nearest
neighbour written during stage 1. -/
def dspBoundary (n : PortId) (s : State) : State :=
  let s := modDsp n (fun d => { d with
    neighboursInUse := d.neighbours, xtalkReduced := Sys2Proof.Machine.xtalkReduced s
    nearestInUse := if xtalkReduced s then nearestChoice d else d.nearestInUse }) s
  xtalkBoundary n s

/-! ## Adaptation (R62 to R67) -/

/-- The timing role of the partner is the opposite one; its training state (R117). -/
def partnerState (q : Port) : BitVec 58 :=
  trainState q.link.seed (if q.link.phase = .f then .fast else .full) (!q.link.leader)

/-- Table 5-4: the partner's sequence is on the line and known. -/
def partnerTrains (q : Port) : Bool :=
  !silentByPlan q && (match q.link.phase with
    | .e1 => true
    | .e2 => true
    | .a => true
    | .x => true
    | .f => true
    | _ => false)

/-- The partner's level for each symbol that the samples decide, where it is known: 0 in a planned silence, its training sequence in
training (the decisions lag the samples by the 6 pre-cursor symbols, Table 3-10). -/
def knownLevels (q : Port) (u : AdaptIn) : List (Option Int) :=
  if silentByPlan q then List.replicate u.samples.length (some 0)
  else if partnerTrains q then
    let l := periodLevels (partnerState q)
    let sign : Int := if u.negated then -1 else 1
    (List.range u.samples.length).map (fun k => some (sign * l.getD ((u.place + k + 24570) % 24576) 0))
  else List.replicate u.samples.length none

/-- What the symbols of a shingle meet in port p's receive chain. -/
def chainCtx (s : State) (p : PortId) (m : EMode) (u : AdaptIn) : Ctx :=
  let q := s.ports[p]
  { mode := m, steps := stepsOf q, works := worksOf q
    own := releasedLevels q.line, lag := u.lags.getD p.val 0
    nbrs := ((List.finRange 8).filter (fun n => decide (q.dsp.joins.getD n.val .none ≠ .none))).map (fun n =>
      (n.val, q.dsp.joins.getD n.val .none, gutterLevels s.ports[n], u.lags.getD n.val 0))
    judged := !snrSuspended q, leader := q.link.leader, held := holdsFrequency q }

/-- The estimates that the engines report each shingle, and what the chain itself gives: the frequency estimate and the slicer SNR. -/
def reportDsp (leader : Bool) (u : AdaptIn) (d : Dsp) : Dsp :=
  { d with
    freq := freqOf leader d, snr := snrNow d, near := u.near, far := u.far, xtalk := u.xtalk
    couplings := (List.range 8).map (fun m => if d.joins.getD m .none = .none then -32768 else u.couplings.getD m (-32768)) }

/-- R43: a training port is locked once its frequency estimate and SNR meet the criterion; LOCKED keeps its value while the partner is
silent by plan. -/
def acquiresLock (q : Port) (d : Dsp) : Bool :=
  d.locked || (!q.link.up && !silentByPlan q && freqLocks d && snrLocks d)

/-- R65: the updates computed from the last shingle are discarded: its slicer errors count as 0. A frequency-domain block that holds symbols
of a discarded and of a good shingle is updated from the good ones' errors (the model's choice, log entry 93). -/
def dropPending (d : Dsp) : Dsp :=
  { d with chain := { d.chain with err := (List.replicate 720 0 ++ d.chain.err.drop 720).take (d.chain.err.length) } }

/-- R40 to R67: one shingle's samples through the receive chain. Updates are applied one shingle later, unless its decode was bad; those
that still wait as a pause of R66 begins are dropped (the model's choice, log entry 93). The command LOCK_LOSS clears LOCKED. -/
def adapt (p : PortId) (u : AdaptIn) (s : State) : State :=
  let q := s.ports[p]
  match rxMode q with
  | none => s
  | some m =>
    let cx := chainCtx s p m u
    let bad := q.dsp.lastBad
    let d := if bad || adaptPaused q then dropPending q.dsp else q.dsp
    let d := ((List.range u.samples.length).zip (u.samples.zip (knownLevels q u))).foldl (chainSymbol cx) d
    let d := reportDsp q.link.leader u d
    modDsp p (fun _ => { d with
      locked := acquiresLock q d, lastBad := false
      freezeCount := if bad then sat32 (d.freezeCount + 1) else d.freezeCount
      tapAtLimit := dfeAtLimit d.dfe
      adapting := !bad && !adaptPaused q }) s

/-- R65: the decode of the shingle whose updates are pending failed or corrected more than 6 trytes. -/
def noteDecode (p : PortId) (bad : Bool) (s : State) : State := modDsp p (fun d => { d with lastBad := d.lastBad || bad }) s

/-! ## Snapshots (R68 to R71, R75) -/

/-- R68: a snapshot of the running filters of mode m, in the time domain; a neighbour that is still joining is not in it, the manual
does not say whether it is (log entry 70). -/
def snapshotOf (s : State) (p : PortId) (m : EMode) : Snapshot :=
  let d := s.ports[p].dsp
  { tally := s.aon.tally, ffe := d.ffe, dfe := d.dfe, d := d.d, ne := d.ne, far := fdafTaps (blockLen m) (farParts m) d.farEcho, trims := d.trims
    xtalk := ((List.finRange 8).filter (fun n => decide (d.joins.getD n.val .none = .cancelling))).map
      (fun n => (n.val, fdafTaps (blockLen m) (xtalkParts m) (d.xtalks.getD n.val {})))
    loopPhase := d.loopPhase, loopInteg := d.loopInteg }

/-- R69: a snapshot goes into the older slot of its mode's pair. -/
def storeSnapshot (m : EMode) (x : Snapshot) (k : CoefStore) : CoefStore :=
  match m with
  | .el50 => { k with el50 := (x :: k.el50).take 2 }
  | .el25 => { k with el25 := (x :: k.el25).take 2 }
  | .el10 => { k with el10 := (x :: k.el10).take 2 }

/-- R69, R75: a snapshot of the active mode is written. -/
def takeSnapshot (p : PortId) (m : EMode) (s : State) : State :=
  let x := snapshotOf s p m
  modPort p (fun q => { q with store := storeSnapshot m x q.store, dsp := { q.dsp with snapRefused := false, snapSinceUp := true } }) s

/-- R68, R133, R142: the filters are loaded from a snapshot and transformed for a mode; the running signals start afresh. -/
def loadSnapshot (m : EMode) (x : Snapshot) (d : Dsp) : Dsp :=
  { d with
    ffe := x.ffe, dfe := x.dfe, d := x.d, ne := x.ne, trims := x.trims
    farEcho := fdafOf (blockLen m) (farParts m) x.far
    xtalks := (List.range 8).map (fun n => fdafOf (blockLen m) (xtalkParts m) (((x.xtalk.find? (fun e => e.1 == n)).map Prod.snd).getD []))
    joins := (List.range 8).map (fun n => if x.xtalk.any (fun e => e.1 == n) then .cancelling else .none)
    loopPhase := x.loopPhase, loopInteg := x.loopInteg, tapAtLimit := dfeAtLimit x.dfe, chain := {} }

/-- R142: the echo cancellers and the equaliser resampled from mode a's symbol rate to mode b's. -/
def resample (a b : EMode) (d : Dsp) : Dsp :=
  let f := Config.resampled (emodeCode a) (emodeCode b)
  { d with
    ffe := f d.ffe, ne := f d.ne, farEcho := fdafOf (blockLen b) (farParts b) (f (fdafTaps (blockLen a) (farParts a) d.farEcho))
    xtalks := List.replicate 8 {}, joins := List.replicate 8 .none, chain := {} }

/-- R119: the filters as training starts: the main tap at 1.0, every other coefficient 0. -/
def zeroFilters (d : Dsp) : Dsp :=
  { d with ffe := List.replicate 6 0 ++ [1048576] ++ List.replicate 25 0, dfe := [0, 0, 0], d := 0, ne := List.replicate 192 0
           farEcho := {}, xtalks := List.replicate 8 {}, joins := List.replicate 8 .none, chain := {}
           locked := false, adapting := false, tapAtLimit := false }

/-- R69, R75: the running window has been clean: LOCKED throughout and no uncorrectable shingle. -/
def windowClean (q : Port) : Bool := q.dsp.locked && q.dsp.winLocked && q.dsp.winClean

/-! ## Engine loads (R11, R22, Tables 1-7, 3-8 and 3-14) -/

/-- Table 3-8: the loads of a mode in GMAC/s: equaliser, near echo, far echo, cross-port for seven neighbours, adaptation. -/
def functionLoads : EMode → List Nat
  | .el50 => [600, 3500, 1900, 1400, 800]
  | .el25 => [300, 1750, 1000, 750, 400]
  | .el10 => [120, 700, 420, 300, 200]

/-- Neighbours whose crosstalk port p cancels or joins. -/
def joinedCount (q : Port) : Nat := (q.dsp.joins.filter (fun j => decide (j ≠ .none))).length

/-- The load of function i in units of 1/7 GMAC/s: the cross-port figure is for seven neighbours. -/
def functionLoad (m : EMode) (n i : Nat) : Nat := (functionLoads m).getD i 0 * (if i = 3 then n else 7)

/-- Table 3-8: how a mode's functions load its eight battens, in units of 1/42 GMAC/s: the overflow of R22 goes to spare cycles, of
one function evenly over the places named (log entry 71). -/
def battenShares (m : EMode) (n : Nat) : List Nat :=
  let f := fun i : Nat => 6 * functionLoad m n i
  let cap := 1152 * 42
  match m with
  | .el50 =>
    let near := min (f 1) (3 * cap)
    let adapt := min (f 4) (cap / 2)
    let cross := (f 3 + (f 4 - adapt)) / 3
    [f 0 + (f 1 - near), near / 3, near / 3, near / 3, f 2 / 2, f 2 / 2, 2 * cross, cross + adapt]
  | .el25 => [f 0 + f 4, f 1 / 2, f 1 / 2, f 2, f 3, 0, 0, 0]
  | .el10 => [f 0 + f 4, f 1, f 2 + f 3, 0, 0, 0, 0, 0]

/-- A 16-bit load in 0.1 % from a measured value (log entry 7). -/
def loadOf (v : Int) : Nat := v.toNat % 65536

/-- A share over a capacity in 0.1 %. -/
def perMille (share capacity : Nat) : Nat := loadOf (quotient (share * 1000) capacity)

/-- Table 3-14: the loads of bay p over the 1 ms window that ends: by Table 3-8 in an Etoon mode that is up, elsewhere as measured. -/
def measureLoads (p : PortId) (s : State) : State :=
  let q := s.ports[p]
  let shares := match etoonMode q with
    | some m => if q.link.up then some (battenShares m (joinedCount q)) else none
    | none => none
  let v := fun k : Nat => loadOf (Config.measured (s.free + k))
  let bay := match shares with | some l => perMille (l.foldl (· + ·) 0) (9216 * 42) | none => v 0
  { s with bayLoads := s.bayLoads.set p.val bay
           battenLoads := s.battenLoads.mapIdx (fun i x =>
             if i / 8 = p.val then (match shares with | some l => perMille (l.getD (i % 8) 0) (1152 * 42) | none => v (1 + i % 8)) else x)
           peakLoad := max s.peakLoad bay
           free := s.free + 9 }

/-! ## Commands -/

/-- R65: the engines apply a shingle's updates. -/
def execAdaptUpdate (p : PortId) (u : AdaptIn) (s : State) : Host.Outcome State Fault Refusal := .next (adapt p u s)

/-- R69: a 1 ms window ends, at a whole millisecond of tally time; a clean whole window gives a snapshot. -/
def execSnapshotWindowEnd (p : PortId) (s : State) : Host.Outcome State Fault Refusal :=
  .next (if s.aon.tally / 1000000 ≤ s.ports[p].dsp.winIndex then s else
    let q := s.ports[p]
    let t := match rxMode q with
      | some m => if q.link.up && q.dsp.winWhole && windowClean q then takeSnapshot p m s else s
      | none => s
    modDsp p (fun d => { d with winWhole := q.link.up, winClean := true, winLocked := d.locked, winIndex := s.aon.tally / 1000000 }) (measureLoads p t))

/-- R75: the request is judged over the running window, and the snapshot is written or refused. -/
def execSnapshotServe (p : PortId) (s : State) : Host.Outcome State Fault Refusal :=
  .next (
    let q := s.ports[p]
    if !q.dsp.snapGo then s
    else
      let ok := q.link.up && windowClean q
      let t := match rxMode q with
        | some m => if ok then takeSnapshot p m s else s
        | none => s
      let done := ok && (etoonMode q).isSome
      raise (bayEv p 0x0010 0 [BitVec.ofNat 8 p.val, if done then 1 else 2])
        (modDsp p (fun d => { d with snapGo := false, snapRefused := !done }) t))

/-- R59: a join is still within its 5 ms. -/
def joinOpen (s : State) (p m : PortId) : Bool := decide (s.aon.tally < s.ports[p].dsp.joinSince.getD m.val 0 + 5000000)

/-- R59: a joining canceller that shows 6 dB of cancellation within 5 ms is added at the subtraction point. -/
def execXtalkJoinDone (p m : PortId) (centiDb : Int) (s : State) : Host.Outcome State Fault Refusal :=
  .next (if s.ports[p].dsp.joins.getD m.val .none = .joining ∧ 600 ≤ centiDb ∧ xtalkWanted s p m ∧ joinOpen s p m then
    modDsp p (fun d => { d with joins := d.joins.set m.val .cancelling }) s
  else s)

/-- R59: a join that has not reached 6 dB within 5 ms starts again from zero. -/
def execXtalkJoinRetry (p m : PortId) (s : State) : Host.Outcome State Fault Refusal :=
  .next (if s.ports[p].dsp.joins.getD m.val .none = .joining ∧ joinOpen s p m = false then
    modDsp p (fun d => { d with joinRetries := sat32 (d.joinRetries + 1), xtalks := d.xtalks.set m.val {}
                                joinSince := d.joinSince.set m.val s.aon.tally }) s
  else s)

end Sys2Proof.Machine
end

