-- ==== Sys2Proof/Machine/Hold.lean ====
section
/-! DEFINITION. Hold.lean: the transmit holding store of a bay (R172 to R176), the packer that fills it from the host
lane (R154 to R160, R265), and the priority flow control it asks for (R180). -/

namespace Sys2Proof.Machine

/-! ## Rates and occupancy -/

/-- R260: the line payload rate in Mb/s: Etoon payloads of Table 4-1, nominal MAC rates of the standard modes. -/
def lineRate : LineMode → Nat
  | .etoon .el50 => 51200
  | .etoon .el25 => 25600
  | .etoon .el10 => 10240
  | .std .b25g => 25000
  | .std .b10g => 10000
  | .std .b5g => 5000
  | .std .b2g5 => 2500
  | .std .b1g => 1000

/-- The data rate of a lane mode in Mb/s (Table 10-1). -/
def laneRate : LaneMode → Nat
  | .r50 => 50000
  | .r25 => 25000
  | .r10 => 10000
  | .x1000 => 1000

/-- R260: the port is rate-adapted. -/
def rateAdapted (q : Port) : Bool :=
  match q.link.mode, q.host.active with
  | some m, some l => decide (lineRate m < laneRate l)
  | _, _ => false

/-- Slots that a whole frame of n bytes takes in the rate-adaptation store. -/
def stdSlots (n : Nat) : Nat := (n + 255) / 256

/-- R172: slots a class holds: OPEN, CLOSED and LAUNCHED payloads, and the whole frames of a standard mode. -/
def occupancy (t : TxCls) : Nat :=
  t.openP.isSome.toNat + t.closed.length + (t.launched.filter LaunchedSh.slotHeld).length
  + (t.std.map (fun f => stdSlots f.bytes.length)).foldl (· + ·) 0

/-- R172: slots in use of the 3968 that all classes share; class 0 uses its reserve of 128 first. -/
def sharedUsed (q : Port) : Nat :=
  occupancy q.tx[0] - min 128 (occupancy q.tx[0]) + occupancy q.tx[1] + occupancy q.tx[2] + occupancy q.tx[3]

/-- R172: `n` free slots are available to class c. -/
def slotsFree (q : Port) (c : Cls) (n : Nat) : Bool :=
  let o := occupancy q.tx[c]
  decide (o + n ≤ q.cfg.quota.getD c.val 4096)
  && (if c = 0 then decide (o + n - min 128 (o + n) + (sharedUsed q - (o - min 128 o)) ≤ slotsOf .holding - 128)
    else decide (sharedUsed q + n ≤ slotsOf .holding - 128))

/-- HoldPolicy of a class: true for DROP_NEWEST. -/
def dropNewest (q : Port) (c : Cls) : Bool := q.cfg.policy.getD c.val true

/-! ## Priority flow control (R180) -/

/-- Classes 2 and 3 have a PFC bit. -/
def pfcIndex (c : Cls) : Option Nat := if c = 2 then some 0 else if c = 3 then some 1 else none

/-- R180: the conditions under which a class may be paused. -/
def pfcAllowed (q : Port) (i : Nat) : Bool :=
  q.cfg.pfcEnable.getLsbD i && decide (q.cfg.pfcSource ≠ 0) && rateAdapted q

/-- R180: after the occupancy or the conditions changed, the pause or release that is owed for one class; a pause not yet sent goes where its
release is owed. -/
def pfcCheckOne (c : Cls) (i : Nat) (q : Port) : Port :=
  let o := occupancy q.tx[c]
  if q.host.paused.getD i false then
    if pfcAllowed q i && decide (q.cfg.pfcXon < o) then q
    else { q with host := { q.host with
      paused := q.host.paused.set i false, pfcOwed := q.host.pfcOwed.filter (fun x => decide (x ≠ (c, false))) ++ [(c, true)] } }
  else if pfcAllowed q i && decide (q.cfg.pfcXoff ≤ o) then
    { q with host := { q.host with paused := q.host.paused.set i true, pfcOwed := q.host.pfcOwed ++ [(c, false)] } }
  else q

/-- R180: both classes that may be paused. -/
def pfcCheck (p : PortId) (s : State) : State := modPort p (fun q => pfcCheckOne 3 1 (pfcCheckOne 2 0 q)) s

/-! ## Losses the sender knows -/

/-- Two losses under one loss tag: the first one's cause, and the tally time of the first frame lost (R196). -/
def joinLoss (a b : TxLoss) : TxLoss :=
  { a with frames := a.frames + b.frames, bytes := a.bytes + b.bytes, tally := min a.tally b.tally, provoked := a.provoked || b.provoked }

/-- R175: what a withdrawn payload loses: the frames whose tags lie in it and the counts of its loss tags. -/
def payLoss (w : Payload) (now : Nat) (provoked : Bool) : TxLoss :=
  w.losses.foldl (fun a l => joinLoss a l.2)
    { cause := .withdrawn, frames := w.frames, bytes := w.fbytes, tally := now, provoked := provoked || w.provoked }

/-- A loss the sender knows, as a ledger loss with its shingle (R196). -/
def txEntry (l : TxLoss) (seqFirst : Seq) (seqCount : Nat) : RxLoss :=
  { cause := l.cause, seqFirst := seqFirst, seqCount := seqCount, frames := l.frames, bytes := l.bytes, provoked := l.provoked }

/-- R174: one discarded frame joins the class's INGRESS_FULL counts, or begins them. -/
def oweFull (l : TxLoss) : List TxLoss → List TxLoss
  | [] => [l]
  | [x] => if x.cause = .ingressFull then [joinLoss x l] else [x, l]
  | x :: rest => x :: oweFull l rest

/-! ## Withdrawal (R173, R175) -/

/-- R173: the number of class c whose launch has begun and not ended: the shingle of the slot that is on the line. -/
def goingOut (q : Port) (c : Cls) : Option Seq :=
  match q.line.last with
  | some x => if q.link.up ∧ x.control.isNone ∧ x.cls = c then some x.seq else none
  | none => none

/-- The oldest LAUNCHED payload still in its slot, but for the one that is going out (R173, R182), turns into the gap shingle that
stands for it; the flag says whether there was one. -/
def withdrawLaunched (now : Nat) (provoked : Bool) (out : Option Seq) : List LaunchedSh → List LaunchedSh × Bool
  | [] => ([], false)
  | e :: rest =>
    if e.slotHeld && !e.gap && decide (out ≠ some e.seq) then
      ({ e with gap := true, slotHeld := false, pay := { losses := [(0, payLoss e.pay now provoked)], frames := e.pay.frames, fbytes := e.pay.fbytes }
                provoked := e.provoked || provoked } :: rest, true)
    else let r := withdrawLaunched now provoked out rest; (e :: r.1, r.2)

/-- R173: the oldest payload of the class is withdrawn, LAUNCHED payloads first; none if nothing can be. -/
def withdrawOne (p : PortId) (c : Cls) (s : State) : Option State :=
  let t := s.ports[p].tx[c]
  let prov := inEpisode s p
  let r := withdrawLaunched s.aon.tally prov (goingOut s.ports[p] c) t.launched
  if r.2 then
    some (modCnt p (fun n => { n with withdrawals := bump c.val 1 n.withdrawals })
      (modTx p c (fun t => { t with launched := r.1 }) s))
  else
    match t.closed with
    | w :: rest =>
      if w.held then none
      else
        let l := payLoss w s.aon.tally prov
        some (modTx p c (fun t => { t with closed := rest, gapRec := some ((t.gapRec.map (fun g => joinLoss g l)).getD l) }) s)
    | [] => none

/-- The class's OPEN payload is granted; an arriving frame of the class counts one payload more behind its tag. -/
def grantOpen (p : PortId) (c : Cls) (s : State) : State :=
  modPort p (fun q => { q with
    tx := q.tx.set c { q.tx[c] with openP := some {} }
    host := { q.host with arriving := q.host.arriving.map (fun a =>
      if a.cls = some c then { a with tagSpan := a.tagSpan + 1, cutSpan := a.cutSpan + 1 } else a) } }) s

/-- R173, R174: the class gets an OPEN payload, withdrawing under DROP_OLDEST up to `fuel` payloads; the flag says
whether it has one. -/
def ensureSlot (p : PortId) (c : Cls) : Nat → State → State × Bool
  | 0, s => (s, s.ports[p].tx[c].openP.isSome)
  | fuel + 1, s =>
    if s.ports[p].tx[c].openP.isSome then (s, true)
    else if slotsFree s.ports[p] c 1 then (grantOpen p c s, true)
    else if dropNewest s.ports[p] c then (s, false)
    else
      match withdrawOne p c s with
      | none => (s, false)
      | some t => ensureSlot p c fuel t

/-- Fuel for ensureSlot: more than the payloads a class can hold. -/
def slotFuel : Nat := 8200

/-- An OPEN payload for the class, if one can be had. -/
def openSlot (p : PortId) (c : Cls) (s : State) : State × Bool := ensureSlot p c slotFuel s

/-! ## Writing into payloads -/

/-- The OPEN payload of one class changed. -/
def modOpen (p : PortId) (c : Cls) (f : Payload → Payload) (s : State) : State :=
  modTx p c (fun t => { t with openP := t.openP.map f }) s

/-- Bytes in the OPEN payload. -/
def openLen (s : State) (p : PortId) (c : Cls) : Nat :=
  match s.ports[p].tx[c].openP with
  | none => 0
  | some w => w.bytes.length

/-- R156, R173: a full OPEN payload closes, and the class seeks its next slot. -/
def closeFull (p : PortId) (c : Cls) (s : State) : State :=
  if 256 ≤ openLen s p c then
    (openSlot p c (modTx p c (fun t => { t with closed := t.closed ++ t.openP.toList, openP := none }) s)).1
  else s

/-- Bytes appended to the class's payloads, `held` while their frame is still arriving; the flag says whether every
byte found a slot. The fuel is the number of bytes. -/
def putBytes (p : PortId) (c : Cls) (held : Bool) : Nat → List Byte → State → State × Bool
  | _, [], s => (s, true)
  | 0, _ :: _, s => (s, false)
  | fuel + 1, bs, s =>
    let r := openSlot p c s
    if r.2 then
      let room := 256 - openLen r.1 p c
      let t := modOpen p c (fun w => { w with bytes := w.bytes ++ bs.take room, held := w.held || held }) r.1
      putBytes p c held fuel (bs.drop room) (closeFull p c t)
    else r

/-- All of a list of bytes. -/
def putAll (p : PortId) (c : Cls) (held : Bool) (bs : List Byte) (s : State) : State × Bool :=
  putBytes p c held (bs.length + 1) bs s

/-- R155: a tag begins at the present offset of the OPEN payload. -/
def noteTag (w : Payload) : Payload := { w with firstTag := w.firstTag <|> some w.bytes.length }

/-- R174: one loss tag with its body, written behind what the class has packed; the flag says whether it fitted. -/
def putLoss (p : PortId) (c : Cls) (held : Bool) (l : TxLoss) (s : State) : State × Bool :=
  let r := openSlot p c s
  if r.2 then
    putAll p c held (lossTag c l)
      (modOpen p c (fun w => { noteTag w with losses := w.losses ++ [(w.bytes.length, l)] }) r.1)
  else r

/-- The loss tags owed ahead of a frame, oldest first. -/
def putLosses (p : PortId) (c : Cls) : List TxLoss → State → State × Bool
  | [], s => (s, true)
  | l :: rest, s =>
    let r := putLoss p c true l s
    if r.2 then putLosses p c rest r.1 else r

/-- A pad tag where one fits: the rest of the OPEN payload is fill (R156). -/
def padOpen (c : Cls) (w : Payload) : Payload :=
  if w.bytes.length < 256 then
    { noteTag w with bytes := w.bytes ++ padTag c ++ List.replicate (252 - w.bytes.length) 0 }
  else w

/-! ## A frame's place -/

/-- Payloads that are not launched, oldest first. -/
def pays (t : TxCls) : List Payload := t.closed ++ t.openP.toList

/-- The payloads put back, the last of them OPEN or not. -/
def setPays (t : TxCls) (ps : List Payload) (opened : Bool) : TxCls :=
  if opened then { t with closed := ps.dropLast, openP := ps.getLast? } else { t with closed := ps, openP := none }

/-- The payload `span` places before the last one changed. -/
def modBack (span : Nat) (f : Payload → Payload) (t : TxCls) : TxCls :=
  setPays t ((pays t).modify ((pays t).length - 1 - span) f) t.openP.isSome

/-- A payload cut back to an offset. -/
def truncPayload (at_ : Nat) (w : Payload) : Payload :=
  { w with bytes := w.bytes.take at_, losses := w.losses.filter (fun l => decide (l.1 < at_))
           stamps := w.stamps.filter (fun l => decide (l.1 < at_)), firstTag := w.firstTag.filter (fun o => decide (o < at_)) }

/-- R173, R174: everything from a position on is withdrawn, and a payload left holding nothing is freed. -/
def truncTx (span at_ : Nat) (t : TxCls) : TxCls :=
  let ps := pays t
  let k := ps.length - 1 - span
  if at_ = 0 then setPays t (ps.take k) false
  else setPays t (ps.take k ++ ((ps.drop k).take 1).map (truncPayload at_)) true

/-- No payload of the class holds bytes of an arriving frame any more. -/
def unhold (t : TxCls) : TxCls := setPays t ((pays t).map (fun w => { w with held := false })) t.openP.isSome

/-- The arriving frame of port p. -/
def arrivingOf (s : State) (p : PortId) : Option Arriving := s.ports[p].host.arriving

/-- The arriving frame changed. -/
def modArriving (p : PortId) (f : Arriving → Arriving) (s : State) : State :=
  modHost p (fun h => { h with arriving := h.arriving.map f }) s

/-- R156, R174: the bytes of the arriving frame leave every payload they occupy; the loss tags written ahead of it are
owed again. -/
def unpack (p : PortId) (s : State) : State :=
  match arrivingOf s p with
  | none => s
  | some a =>
    match a.cls with
    | none => s
    | some c =>
      let t := modTx p c (fun t => unhold { truncTx a.cutSpan a.cutAt t with owedLoss := a.ahead ++ t.owedLoss }) s
      modArriving p (fun a => { a with cls := none, ahead := [] }) t

/-- The bytes of a frame are discarded because a slot it needs is not to be had (R173, R174). -/
def dropArriving (p : PortId) (s : State) : State := modArriving p (fun a => { a with dropped := true, bytes := [] }) (unpack p s)

/-- R160: the class of a frame under the settings captured at its first byte. -/
def classOf (a : Arriving) : Cls :=
  match framePcp a.bytes with
  | some k => a.pcpClass.getD k a.dfltClass
  | none => a.dfltClass

/-- R160: the bytes that have arrived settle the frame's class: the type field is there, and the PCP behind a TPID. -/
def layable (a : Arriving) : Bool :=
  decide (16 ≤ a.bytes.length) || (decide (14 ≤ a.bytes.length) && !isTpid (half a.bytes 12))

/-- R156: a frame has begun whose bytes do not settle its class yet, and may take class c: the place of its tag is reserved there from its
first byte (log entry 82). -/
def mayTake (a : Arriving) (c : Cls) : Bool :=
  a.cls.isNone && decide (0 < a.total) && !a.oversize && !a.dropped && !a.cut && (decide (a.dfltClass = c) || a.pcpClass.contains c)

/-- R156, R157: the place of the tag: a pad tag first where the tag and its SenderResidence word would part; then 4
bytes for the tag, and 4 for the word of a PTP event frame. -/
def reserveTag (p : PortId) (c : Cls) (ptp : Bool) (at_ : Nat) (s : State) : State × Bool :=
  let r := openSlot p c s
  if r.2 then
    let r := if ptp && decide (openLen r.1 p c = 252)
      then openSlot p c (closeFull p c (modOpen p c (fun w => { padOpen c w with held := true }) r.1)) else r
    if r.2 then
      let o := openLen r.1 p c
      let t := modArriving p (fun a => { a with tagSpan := 0, tagAt := o }) r.1
      let t := modOpen p c (fun w => { noteTag w with stamps := if ptp then w.stamps ++ [(o + 4, at_)] else w.stamps }) t
      putAll p c true (List.replicate (if ptp then 8 else 4) 0) t
    else r
  else r

/-- R156, R174: the arriving frame is laid into its class: owed loss tags ahead of it, the tag's place, and the bytes
that have arrived. Without a slot it is discarded whole. -/
def layFrame (p : PortId) (ptp : Bool) (s : State) : State :=
  match arrivingOf s p with
  | none => s
  | some a =>
    let c := classOf a
    let r := openSlot p c s
    if r.2 then
      let owed := r.1.ports[p].tx[c].owedLoss
      let t := modArriving p (fun a => { a with cls := some c, ptpMark := ptp, cutSpan := 0, cutAt := openLen r.1 p c
                                                tagSpan := 0, tagAt := 0, ahead := owed }) r.1
      let t := modTx p c (fun x => { x with owedLoss := [] }) t
      let r := putLosses p c owed t
      let r := if r.2 then reserveTag p c ptp a.at_ r.1 else r
      let r := if r.2 then putAll p c true a.bytes r.1 else r
      if r.2 then r.1 else dropArriving p r.1
    else dropArriving p r.1

/-- The frame is marked as a PTP event message when laid out (R271, R272). -/
def wantsMark (a : Arriving) : Bool := a.markOn && !a.errored && (ptpEvent a.mask a.bytes).isSome

/-- The line mode is a standard one. -/
def inStd (q : Port) : Bool :=
  match q.link.mode with
  | some (.std _) => true
  | _ => false

/-! ## Loss tags at a slot boundary (R156, R174, Table 6-12) -/

/-- R174: an OPEN payload for a class that owes a loss tag, without withdrawing anything. -/
def grantOwed (p : PortId) (c : Cls) (s : State) : State :=
  if !s.ports[p].tx[c].owedLoss.isEmpty && s.ports[p].tx[c].openP.isNone && slotsFree s.ports[p] c 1 then grantOpen p c s else s

/-- A frame of the class is being packed, or the place of its tag is reserved there. -/
def packing (s : State) (p : PortId) (c : Cls) : Bool :=
  match arrivingOf s p with
  | some a => decide (a.cls = some c) || mayTake a c
  | none => false

/-- Owed loss tags written where 12 bytes remain, oldest first. -/
def flushOwed (p : PortId) (c : Cls) : List TxLoss → State → State
  | [], s => s
  | l :: rest, s =>
    let t := grantOwed p c s
    if t.ports[p].tx[c].openP.isSome && decide (openLen t p c + 12 ≤ 256) then
      flushOwed p c rest (putLoss p c false l (modTx p c (fun x => { x with owedLoss := rest }) t)).1
    else t

/-- R174: the loss tags a class owes go into its OPEN payload, while no frame of the class is being packed. -/
def flushLosses (p : PortId) (c : Cls) (s : State) : State :=
  if packing s p c then s else flushOwed p c s.ports[p].tx[c].owedLoss s

/-! ## Standard modes (R208, R269) -/

/-- R173, R208: the oldest whole frame of a class leaves the rate-adaptation store and is entered at once. -/
def withdrawStd (p : PortId) (c : Cls) (s : State) : Option State :=
  match s.ports[p].tx[c].std with
  | [] => none
  | f :: rest =>
    some (ledgerAdd p false c
      { cause := .withdrawn, seqCount := 0, frames := 1, bytes := f.bytes.length, provoked := inEpisode s p } s.aon.tally
      (modTx p c (fun t => { t with std := rest }) s))

/-- R269: room for a whole frame of n bytes in a class, under its policy. -/
def stdRoom (p : PortId) (c : Cls) (n : Nat) : Nat → State → State × Bool
  | 0, s => (s, false)
  | fuel + 1, s =>
    if slotsFree s.ports[p] c (stdSlots n) then (s, true)
    else if dropNewest s.ports[p] c then (s, false)
    else
      match withdrawStd p c s with
      | none => (s, false)
      | some t => stdRoom p c n fuel t

/-- R107: a frame admitted into the class counts in FramesIn; an errored one also in ErroredFramesIn (R158). -/
def countIn (p : PortId) (c : Cls) (errored : Bool) (s : State) : State :=
  modCnt p (fun n => { n with framesIn := bump64 c.val 1 n.framesIn
                              erroredIn := if errored then sat32 (n.erroredIn + 1) else n.erroredIn }) s

/-- R180, R269: a whole frame joins the rate-adaptation store, or is discarded and entered with SeqCount 0 (R208). -/
def storeStd (p : PortId) (a : Arriving) (s : State) : State :=
  let c := classOf a
  let r := stdRoom p c a.bytes.length 4097 s
  pfcCheck p <| if r.2 then
    countIn p c a.errored (modTx p c (fun t => { t with std := t.std ++
      [{ bytes := a.bytes, at_ := a.at_, errored := a.errored, markOn := a.markOn, mask := a.mask }] }) r.1)
  else
    ledgerAdd p false c { cause := .ingressFull, seqCount := 0, frames := 1, bytes := a.total, provoked := inEpisode s p }
      s.aon.tally r.1

/-! ## The frame's end -/

/-- R154, R156: the tag of a frame that has wholly arrived. -/
def frameTag (a : Arriving) (c : Cls) (ptp : Bool) : List Byte :=
  tagBytes { cls := c, length := a.total, errored := a.errored, ptp := ptp, provoked := a.provoked }

/-- The reserved bytes of the tag overwritten, and the frame counted in the tag's payload. -/
def writeTag (a : Arriving) (c : Cls) (w : Payload) : Payload :=
  { w with bytes := w.bytes.take a.tagAt ++ frameTag a c a.ptpMark ++ w.bytes.drop (a.tagAt + 4)
           frames := w.frames + 1, fbytes := w.fbytes + a.total }

/-- R156, R158: a frame that is packed whole ends: its tag is written, its last word filled, and it is counted. -/
def sealFrame (p : PortId) (s : State) : State :=
  match arrivingOf s p with
  | none => s
  | some a =>
    match a.cls with
    | none => s
    | some c =>
      let t := modTx p c (modBack a.tagSpan (writeTag a c)) s
      let t := (putAll p c true (List.replicate (roundUp4 a.total - a.total) 0) t).1
      let t := countIn p c a.errored (modTx p c unhold t)
      if a.ptpMark then modPort p (fun q => { q with ptp := { q.ptp with counters := bump 0 1 q.ptp.counters } }) t else t

/-- The loss of a discarded frame joins what its class owes. -/
def oweLoss (p : PortId) (c : Cls) (cause : LossCause) (a : Arriving) (s : State) : State :=
  let l : TxLoss := { cause := cause, frames := 1, bytes := a.total, tally := s.aon.tally, provoked := inEpisode s p || a.provoked }
  modTx p c (fun t => { t with
    owedLoss := if cause = .ingressFull then oweFull l t.owedLoss else t.owedLoss ++ [l] }) s

/-- R265: the arriving frame has ended. -/
def endArriving (p : PortId) (s : State) : State := modHost p (fun h => { h with arriving := none }) s

/-- R156, R174: a frame that was cut off or found no slot ends, and its loss is owed. The loss tag of an oversize frame is written in the
frame's place where it fits; the counts of frames without a slot wait for the next frame admitted or the next slot boundary. -/
def endLost (p : PortId) (c : Cls) (cause : LossCause) (a : Arriving) (s : State) : State :=
  let t := oweLoss p c cause a (endArriving p s)
  pfcCheck p (if cause = .oversize then flushLosses p c t else t)

/-- R272: a frame that is packed is laid out again with the SenderResidence word where its bytes show a PTP event message, and without
it where they do not. -/
def relay (p : PortId) (a : Arriving) (s : State) : State :=
  if a.ptpMark = wantsMark a then s else layFrame p (wantsMark a) (unpack p s)

/-- R265: a frame that lasted to its end is packed. -/
def endWhole (p : PortId) (a : Arriving) (s : State) : State :=
  let t := if a.cls.isNone then layFrame p (wantsMark a) s else relay p a s
  match arrivingOf t p with
  | none => t
  | some b =>
    if b.dropped then endLost p (classOf a) .ingressFull a t
    else pfcCheck p (endArriving p (sealFrame p t))

/-- R265: the arriving frame ends, with ERRORED set where `errored` says so. -/
def frameEnd (p : PortId) (errored : Bool) (s : State) : State :=
  match arrivingOf s p with
  | none => s
  | some a0 =>
    let a := { a0 with errored := a0.errored || errored }
    let s := modArriving p (fun _ => a) s
    let std := inStd s.ports[p]
    if a.total = 0 then modHost p (fun h => { h with arriving := none, counters := bump 5 1 h.counters }) s
    else if a.cut then endArriving p s
    else if a.oversize then
      if std then
        ledgerAdd p false a.dfltClass { cause := .oversize, seqCount := 0, frames := 1, bytes := a.total, provoked := inEpisode s p }
          s.aon.tally (endArriving p s)
      else endLost p a.dfltClass .oversize a s
    else if a.dropped then endLost p a.dfltClass .ingressFull a s
    else if std then storeStd p a (endArriving p s)
    else endWhole p a s

/-! ## The frame's bytes -/

/-- R156: a frame that passes MaxFrameLength is cut off; its class is kept for the loss. One already discarded for want of a slot keeps the
cause INGRESS_FULL (the model's choice, log entry 95). -/
def cutOversize (p : PortId) (s : State) : State :=
  match arrivingOf s p with
  | none => s
  | some a =>
    if a.maxLen < a.total ∧ a.oversize = false ∧ a.dropped = false ∧ a.cut = false then
      pfcCheck p (modArriving p (fun b => { b with oversize := true, bytes := [], dfltClass := a.cls.getD (classOf a) }) (unpack p s))
    else s

/-- More bytes of the arriving frame: kept, and packed once the packer knows their class (R156). -/
def frameBytes (p : PortId) (bs : List Byte) (s : State) : State :=
  match arrivingOf s p with
  | none => s
  | some a =>
    let s := modArriving p (fun b => { b with total := b.total + bs.length }) s
    if a.oversize || a.dropped || a.cut then s
    else
      let s := cutOversize p (modArriving p (fun b => { b with bytes := b.bytes ++ bs }) s)
      match arrivingOf s p with
      | none => s
      | some b =>
        if b.oversize || inStd s.ports[p] then s
        else
          match b.cls with
          | some c =>
            let r := putAll p c true bs s
            let t := if r.2 then relay p b r.1 else dropArriving p r.1
            pfcCheck p (modArriving p (fun x => if x.dropped then { x with dfltClass := c } else x) t)
          | none =>
            if layable b then
              let t := layFrame p (wantsMark b) s
              pfcCheck p (modArriving p (fun x => if x.dropped then { x with dfltClass := classOf b } else x) t)
            else s

/-- R265: a frame begins; the settings in force at its first byte are captured (Tables 6-8 and 10-4, R160). A frame of a
bay without power goes nowhere. -/
def frameBegin (p : PortId) (at_ : Nat) (powered : Bool) (s : State) : State :=
  modPort p (fun q => { q with host := { q.host with
    idleHeld := false, begunAt := s.aon.tally
    arriving := some { at_ := at_, maxLen := q.cfg.maxFrame, pcpClass := q.cfg.pcpClass, dfltClass := q.cfg.defaultClass
                       markOn := q.ptp.enable.getLsbD 0, mask := q.ptp.mask, cut := !powered } } }) s

end Sys2Proof.Machine
end

