-- ==== Sys2Proof/Machine/Roll.lean ====
section
/-! DEFINITION. Roll.lean: the roll call (R209 to R214): issuing an order, the bays' reports and its completion. -/

namespace Sys2Proof.Machine

/-! ## The order word (R209) -/

/-- Epoch of an order. -/
def orderEpoch (o : BitVec 64) : BitVec 16 := (o >>> 48).truncate 16

/-- Kind of an order. -/
def orderKind (o : BitVec 64) : Nat := (o >>> 40).toNat % 256

/-- Argument of an order. -/
def orderArg (o : BitVec 64) : Nat := (o >>> 32).toNat % 256

/-- PortMask of an order. -/
def orderMask (o : BitVec 64) : BitVec 8 := (o >>> 24).truncate 8

/-- R209: the order word of its fields. -/
def orderWord (epoch : BitVec 16) (kind : Byte) (arg mask : Byte) (low : BitVec 24) : BitVec 64 :=
  epoch ++ kind ++ arg ++ mask ++ low

/-! ## Results (Table 7-8) -/

/-- PENDING. -/
def resPending : Nat := 0x00
/-- APPLIED. -/
def resApplied : Nat := 0x01
/-- CAPPED. -/
def resCapped : Nat := 0x02
/-- NOT_NAMED. -/
def resNotNamed : Nat := 0x03
/-- ALREADY. -/
def resAlready : Nat := 0x04
/-- REFUSED. -/
def resRefused : Nat := 0x80

/-- The result field of a bay's entry. -/
def bayResult (w : BitVec 32) : Nat := w.toNat / 256 % 256

/-- An entry of RollCallApplied. -/
def bayEntry (epoch : BitVec 16) (result reason : Nat) : BitVec 32 :=
  epoch ++ BitVec.ofNat 8 result ++ BitVec.ofNat 8 reason

/-- Bays named in the order in progress that have not reported. -/
def rollPending (r : Roll) (p : PortId) : Bool :=
  decide (r.status = 1) && maskBit (orderMask r.order) p && decide (bayResult (r.bays.getD p.val 0) = resPending)

/-- The mask of bays named in the order that report REFUSED. -/
def rollRefused (r : Roll) : Nat :=
  (List.finRange 8).foldl (fun a p =>
    if maskBit (orderMask r.order) p && decide (bayResult (r.bays.getD p.val 0) = resRefused) then a + 2 ^ p.val else a) 0

/-! ## Issuing and completing -/

/-- R210, R211: an order is issued: named bays are PENDING, the others NOT_NAMED. -/
def rollIssue (issuer : BitVec 8) (o : BitVec 64) (s : State) : State :=
  let bay := fun (p : PortId) (w : BitVec 32) =>
    if maskBit (orderMask o) p then bayEntry (orderEpoch o) resPending 0
    else bayEntry ((w >>> 16).truncate 16) resNotNamed 0
  raise (devEv .dict 0x0608 1 (issuer :: beBytes 8 o.toNat))
    { s with roll := { s.roll with order := o, issuer := issuer, issuedAt := s.aon.tally, status := 1, epoch := orderEpoch o
                                   bays := (List.finRange 8).map (fun p => bay p (s.roll.bays.getD p.val 0)) } }

/-- R213: the DOWNSHIFT_ONE order of thermal stage 2 to every bay whose gate is open. -/
def thermalOrder (s : State) : BitVec 64 :=
  let mask : BitVec 8 := BitVec.ofNat 8 (s.gate.isOpen.toNat % 256)
  orderWord (s.roll.epoch + 1) 0x01 0 mask 0

/-- R213: the thermal order is issued, or waits for the roll call in progress. -/
def issueThermal (s : State) : State :=
  if s.roll.status = 1 then { s with heat := { s.heat with orderDue := true } }
  else if orderMask (thermalOrder s) = 0 then { s with heat := { s.heat with orderDue := false } }
  else rollIssue 0xFF (thermalOrder s) { s with heat := { s.heat with orderDue := false } }

/-- R212: once every named bay has left PENDING, the roll call is complete; a thermal order that waited follows. -/
def rollComplete (s : State) : State :=
  if s.roll.status = 1 ∧ (List.finRange 8).all (fun p => !rollPending s.roll p) then
    let refused := rollRefused s.roll
    let st : BitVec 8 := if refused = 0 then 2 else 3
    let t := raise (devEv .dict 0x0609 (if refused = 0 then 1 else 3)
      (beBytes 2 s.roll.epoch.toNat ++ [st, BitVec.ofNat 8 refused])) { s with roll := { s.roll with status := st } }
    if t.heat.orderDue then issueThermal t else t
  else s

/-- R211, R212: bay p reports its result. -/
def rollReport (p : PortId) (result reason : Nat) (s : State) : State :=
  rollComplete { s with roll := { s.roll with bays := s.roll.bays.set p.val (bayEntry s.roll.epoch result reason) } }

end Sys2Proof.Machine
end

