-- ==== Sys2Proof/Machine/ModeChange.lean ====
section
/-! DEFINITION. ModeChange.lean: changing mode at an epoch (R140 to R145): requests, preparation, the MARK countdown, both
epochs, and the report to the host and to a roll call. -/

namespace Sys2Proof.Machine

/-! ## Codes and reports -/

/-- ModeChangeStatus codes (Table 5-13). -/
def mcCode : McStatus → Nat
  | .idle => 0x00
  | .requested => 0x01
  | .preparing => 0x02
  | .counting => 0x03
  | .done => 0x04
  | .refusedByPartner => 0x81
  | .noAnswer => 0x82
  | .noSnapshot => 0x83
  | .notOffered => 0x84
  | .thermal => 0x85
  | .abandonedLinkDown => 0x86

/-- A refusal, by this end or by the partner (ModeChangeRefusals, element 9 of StartupCounters). -/
def mcRefusal : McStatus → Bool
  | .refusedByPartner => true
  | .noSnapshot => true
  | .notOffered => true
  | .thermal => true
  | _ => false

/-- Control shingles of a mode change. -/
def isMcCtl : Ctl → Bool
  | .request _ _ => true
  | .accept _ _ => true
  | .mark _ _ => true
  | _ => false

/-- The MODE_CHANGE record (Table 13-4). -/
def mcEvent (s : State) (p : PortId) (mc : ModeChange) (st : McStatus) : Ev :=
  bayEv p 0x0005 (if st = .done then 1 else 3)
    ([portByte p (inEpisode s p), BitVec.ofNat 8 (emodeCode mc.old), BitVec.ofNat 8 (emodeCode mc.target), mc.epoch,
      BitVec.ofNat 8 (mcCode st)] ++ beBytes 2 (match mc.rollEpoch with | some e => e.toNat | none => 0))

/-- R144: a mode change of port p ends with a status: shown and counted. -/
def mcClear (p : PortId) (st : McStatus) (s : State) : State :=
  let k := if st = .done then some 8 else if mcRefusal st then some 9 else none
  modPort p (fun q => { q with
    mc := {}
    link := { q.link with mcStatus := st, counters := (match k with | some i => bump i 1 q.link.counters | none => q.link.counters) }
    line := { q.line with owed := q.line.owed.filter (fun c => !isMcCtl c) } }) s

/-- R144, R211: the end of a mode change recorded, and reported to the roll call that asked for it. -/
def mcTell (p : PortId) (mc : ModeChange) (st : McStatus) (s : State) : State :=
  let s := raise (mcEvent s p mc st) s
  match mc.rollEpoch with
  | some e =>
    if rollPending s.roll p && decide (s.roll.epoch = e) then
      if st = .done then rollReport p resApplied 0 s else rollReport p resRefused (mcCode st) s
    else s
  | none => s

/-- R144, R211: a mode change of port p ends with a status: shown, counted, recorded and reported. -/
def mcEnd (p : PortId) (st : McStatus) (s : State) : State := mcTell p s.ports[p].mc st (mcClear p st s)

/-- A mode change is in progress. -/
def mcBusy (q : Port) : Bool := decide (q.mc.role ≠ .none)

/-! ## Starting -/

/-- R142, R145: why a change to a target would be refused, if it would. -/
def mcObstacle (s : State) (p : PortId) (cur target : EMode) : Option McStatus :=
  let q := s.ports[p]
  if !bothOffer q target then some .notOffered
  else if lowerThan cur target && throttle2 s then some .thermal
  else if lowerThan cur target && !hasSnapshot q target then some .noSnapshot
  else none

/-- R140, R141: port p asks for a change, or refuses it itself. -/
def mcStart (p : PortId) (target : EMode) (roll : Option (BitVec 16)) (s : State) : State :=
  match etoonMode s.ports[p] with
  | none => s
  | some cur =>
    let ep := s.ports[p].link.epoch + 1
    let mc : ModeChange := { role := .requester, target := target, old := cur, epoch := ep, requests := 1, rollEpoch := roll }
    let t := modMc p (fun _ => mc) s
    match mcObstacle s p cur target with
    | some st => mcEnd p st t
    | none => modPort p (fun q => { q with
        link := { q.link with mcStatus := .requested }
        line := { q.line with owed := q.line.owed ++ [.request target ep] } }) t

/-! ## Countdown and epochs -/

/-- R143: the countdown may start: the leader owes MARK(8) to MARK(1). -/
def mcCount (p : PortId) (s : State) : State :=
  modPort p (fun q => { q with
    link := { q.link with mcStatus := .counting }
    mc := if q.link.leader && q.mc.marks.isNone && !q.mc.txPassed then { q.mc with marks := some 8 } else q.mc }) s

/-- R142, R143: the target's filters are loaded, or resampled where the target is lower and has no snapshot. -/
def mcLoad (q : Port) : Dsp :=
  match snapshotFor q.store q.mc.target with
  | some x => loadSnapshot q.mc.target x q.dsp
  | none => resample q.mc.old q.mc.target q.dsp

/-- R144: once both epochs have passed, the new mode is active and the change is reported. -/
def mcApply (p : PortId) (s : State) : State :=
  let mc := s.ports[p].mc
  if mc.txPassed && mc.rxPassed then
    pfcCheck p (mcEnd p .done (gapAbandoned s (modLink p (fun l =>
      { l with mode := some (.etoon mc.target), lastMode := some (.etoon mc.target) }) s)))
  else s

/-- R143: the first slot at the new rate: the transmit epoch has passed. -/
def mcTransmitEpoch (p : PortId) (s : State) : State :=
  mcApply p (modMc p (fun m => { m with marks := none, txPassed := true }) s)

/-- R143, R144: the received boundary after the partner's MARK(1): the receiver takes the target's rate and filters, among the crosstalk
cancellers those that R56 allows. -/
def mcReceiveEpoch (p : PortId) (s : State) : State :=
  mcApply p (xtalkBoundary p (modPort p (fun q => { q with
    mc := { q.mc with rxMark := none, rxPassed := true }
    dsp := mcLoad q
    line := { q.line with epochExempt := 256 }
    link := { q.link with epoch := q.link.epoch + 1 } }) s))

/-! ## What the partner sends -/

/-- Table 6-4: why this end refuses the partner's request, if it does (R142). -/
def refuseReason (s : State) (p : PortId) (cur target : EMode) : Option RefuseReason :=
  let q := s.ports[p]
  if !q.link.offer.getLsbD (emodeBit target) then some .notOffered
  else if q.link.withdrawn.getLsbD (emodeBit target) then some .withdrawn
  else if lowerThan cur target && throttle2 s then some .thermal
  else if lowerThan cur target && !hasSnapshot q target then some .noSnapshot
  else none

/-- A control shingle owed to the partner. -/
def oweCtl (p : PortId) (c : Ctl) (s : State) : State := modLine p (fun l => { l with owed := l.owed ++ [c] }) s

/-- R163: REFUSE, counted in ModeChangeRefusals. -/
def mcRefuse (p : PortId) (r : RefuseReason) (ep : BitVec 8) (s : State) : State :=
  oweCtl p (.refuse r ep) (modLink p (fun l => { l with counters := bump 9 1 l.counters }) s)

/-- R142: the request is prepared for. -/
def mcRespond (p : PortId) (cur target : EMode) (ep : BitVec 8) (s : State) : State :=
  match refuseReason s p cur target with
  | some r => mcRefuse p r ep s
  | none => modPort p (fun q => { q with
      mc := { role := .responder, target := target, old := cur, epoch := ep }
      link := { q.link with mcStatus := .preparing }
      line := { q.line with owed := q.line.owed.filter (fun c => !isMcCtl c) } }) s

/-- R142, R145, R163: a REQUEST for a target and epoch number. -/
def mcRequested (p : PortId) (m : EMode) (ep : BitVec 8) (s : State) : State :=
  let q := s.ports[p]
  match etoonMode q with
  | none => s
  | some cur =>
    if !q.link.up then s
    else match q.mc.role with
    | .none => mcRespond p cur m ep s
    | .responder =>
      if ep ≠ q.mc.epoch then mcRefuse p .busy ep s
      else if q.mc.prepared && q.mc.marks.isNone && !q.mc.txPassed then oweCtl p (.accept q.mc.target ep) s
      else s
    | .requester =>
      if ep ≠ q.mc.epoch then mcRefuse p .busy ep s
      else if q.mc.accepted then s
      else if m = q.mc.target then
        let t := modMc p (fun x => { x with accepted := true }) s
        if q.mc.prepared then mcCount p t else modLink p (fun l => { l with mcStatus := .preparing }) t
      else if lowerThan m q.mc.target then mcRespond p cur m ep s
      else s

/-- R143: ACCEPT for the request in progress. -/
def mcAccepted (p : PortId) (m : EMode) (ep : BitVec 8) (s : State) : State :=
  let q := s.ports[p]
  if q.mc.role = .requester ∧ q.mc.accepted = false ∧ q.mc.target = m ∧ q.mc.epoch = ep then
    let t := modPort p (fun q => { q with
      mc := { q.mc with accepted := true }
      line := { q.line with owed := q.line.owed.filter (fun c => match c with | .request _ _ => false | _ => true) } }) s
    if q.mc.prepared then mcCount p t else modLink p (fun l => { l with mcStatus := .preparing }) t
  else s

/-- R141, R211: REFUSE of the request in progress. -/
def mcRefused (p : PortId) (ep : BitVec 8) (s : State) : State :=
  let q := s.ports[p]
  if q.mc.role = .requester ∧ q.mc.accepted = false ∧ q.mc.epoch = ep then mcEnd p .refusedByPartner s else s

/-- R143: a MARK of the partner's; the follower starts its own countdown at its first boundary after it. -/
def mcMark (p : PortId) (k : Nat) (ep : BitVec 8) (s : State) : State :=
  let q := s.ports[p]
  if q.mc.role ≠ .none ∧ q.mc.epoch = ep ∧ q.mc.rxPassed = false ∧ 0 < k then
    modPort p (fun q => { q with
      link := { q.link with mcStatus := .counting }
      mc := { q.mc with
        rxMark := some k, accepted := true
        marks := if !q.link.leader && q.mc.prepared && q.mc.marks.isNone && !q.mc.txPassed then some 8 else q.mc.marks } }) s
  else s

/-- R143: a follower whose preparation completes after a MARK of the leader's starts its countdown then. -/
def mcFollow (p : PortId) (s : State) : State :=
  modMc p (fun m => if m.rxMark.isSome || m.rxPassed then (if m.marks.isNone && !m.txPassed then { m with marks := some 8 } else m) else m) s

/-- R142: preparation is complete; ACCEPT, or the countdown, may follow. -/
def mcPrepared (p : PortId) (s : State) : State :=
  let q := s.ports[p]
  if q.mc.prepared then s
  else match q.mc.role with
  | .none => s
  | .responder => oweCtl p (.accept q.mc.target q.mc.epoch) (modMc p (fun m => { m with prepared := true }) s)
  | .requester =>
    let t := modMc p (fun m => { m with prepared := true }) s
    if q.mc.accepted then mcFollow p (mcCount p t) else t

/-- R143: after its ACCEPT is launched, a leader that responds starts its countdown: the rule ties the start to the requester's decode and
preparation, which that leader cannot see (log entry 73). -/
def mcAcceptLaunched (p : PortId) (s : State) : State :=
  if s.ports[p].link.leader && decide (s.ports[p].mc.role = .responder) then mcCount p s else s

/-- R141: no answer within 200 µs: REQUEST again, up to 4 in all. -/
def mcRetry (p : PortId) (s : State) : State :=
  let q := s.ports[p]
  if q.mc.role = .requester ∧ q.mc.accepted = false then
    if 4 ≤ q.mc.requests then mcEnd p .noAnswer s
    else oweCtl p (.request q.mc.target q.mc.epoch) (modMc p (fun m => { m with requests := m.requests + 1 }) s)
  else s

/-! ## Commands -/

/-- R143: the received boundary that follows the partner's MARK(1). -/
def execReceiveEpoch (p : PortId) (s : State) : Host.Outcome State Fault Refusal :=
  .next (if s.ports[p].mc.role ≠ .none ∧ s.ports[p].mc.rxMark.isSome then mcReceiveEpoch p s else s)

/-- R144: the 256 slots after a receive epoch are over. -/
def execEpochExemptionEnd (p : PortId) (s : State) : Host.Outcome State Fault Refusal :=
  .next (modLine p (fun l => { l with epochExempt := 0 }) s)

/-- R141: 200 µs without an answer. -/
def execModeRequestRetry (p : PortId) (s : State) : Host.Outcome State Fault Refusal := .next (mcRetry p s)

/-- R142: preparation completes. -/
def execModePrepareDone (p : PortId) (s : State) : Host.Outcome State Fault Refusal := .next (mcPrepared p s)

/-- R140: a 100 ms window ends; low SNR or many uncorrectable slots ask for a downshift. -/
def execAutoDownshiftWindow (p : PortId) (meanSnr : Int) (s : State) : Host.Outcome State Fault Refusal :=
  .next (
    let q := s.ports[p]
    let poor := decide (meanSnr < 2000) || decide (64 ≤ q.line.bad100)
    let t := modLine p (fun l => { l with bad100 := 0 }) s
    if q.link.up && q.link.linkPolicy.getLsbD 0 && poor && !mcBusy q then
      match etoonMode q with
      | none => t
      | some m =>
        match lowerOffered q m with
        | some target => mcStart p target none t
        | none => t
    else t)

end Sys2Proof.Machine
end

