-- ==== Sys2Proof/Machine/Link.lean ====
section
/-! DEFINITION. Link.lean: link down and the choice of the relink (R127 to R132, R139), the ledger entries of a restart
(R204), the start of auto-negotiation (R109, R110, R114, R426), and the relinks' first acts. -/

namespace Sys2Proof.Machine

/-! ## Codes (Table 5-11) -/

/-- StartupPhase. -/
def phaseCode : Phase → Nat
  | .disabled => 0x00
  | .autoneg => 0x01
  | .q => 0x02
  | .e1 => 0x03
  | .e2 => 0x04
  | .a => 0x05
  | .x => 0x06
  | .s => 0x07
  | .f => 0x08
  | .up => 0x09
  | .asleep => 0x0A
  | .standardUp => 0x0B

/-- LastDownCause without its provoked bit; 0x0D by R371. -/
def downCode : DownCause → Nat
  | .none => 0x00
  | .uncorrectableRun => 0x01
  | .lockFrequency => 0x02
  | .lockSnr => 0x03
  | .refreshMissed => 0x04
  | .beaconFast => 0x05
  | .beaconFull => 0x06
  | .partnerAutoneg => 0x07
  | .hostRetrain => 0x08
  | .hostRestartAn => 0x09
  | .hostDisable => 0x0A
  | .sleep => 0x0B
  | .standardLinkFail => 0x0C
  | .powerEntry => 0x0D

/-- Failure reasons. -/
def failCode : FailReason → Nat
  | .none => 0x00
  | .limit => 0x01
  | .noisy => 0x02
  | .noLock => 0x03
  | .echoResidual => 0x04
  | .snr => 0x05
  | .noPartner => 0x06
  | .echoChanged => 0x07
  | .preempted => 0x08
  | .noSnapshot => 0x09
  | .msFault => 0x0A

/-- Byte 2 of LINK_DOWN: the relink chosen. -/
def relinkCode : Relink → Nat
  | .fast => 1
  | .full => 2
  | .autoneg => 3

/-- LastDownCause as read: bit 7 set if provoked. -/
def downCauseByte (l : Link) : Byte := BitVec.ofNat 8 (downCode l.downCause + (if l.downProvoked then 128 else 0))

/-! ## Ledger entries of a restart (R204) -/

/-- Frames and bytes whose tags lie in payloads. -/
def payTotals (ps : List Payload) : Nat × Nat := ps.foldl (fun a w => (a.1 + w.frames, a.2 + w.fbytes)) (0, 0)

/-- The arriving frame counts in class c's RESTART_DISCARD, with the bytes that had arrived. -/
def arrivingIn (s : State) (p : PortId) (c : Cls) : Option Nat :=
  match arrivingOf s p with
  | none => none
  | some a => if 0 < a.total ∧ a.cut = false ∧ (a.cls.getD (classOf a)) = c then some a.total else none

/-- Payloads of a class that were never launched, oldest first: one that a swap holds back (R224), CLOSED and OPEN. -/
def neverLaunched (t : TxCls) : List Payload := (t.launched.filter LaunchedSh.unsent).map LaunchedSh.pay ++ pays t

/-- RESTART_UNCERTAIN of one class, if any number is launched and unacknowledged. -/
def restartUncertain (p : PortId) (c : Cls) (s : State) : State :=
  match s.ports[p].tx[c].launched.filter (fun e => !e.unsent) with
  | [] => s
  | e :: rest =>
    let n := payTotals ((e :: rest).map LaunchedSh.pay)
    ledgerAdd p false c { cause := .restartUncertain, seqFirst := e.seq, seqCount := rest.length + 1, frames := n.1, bytes := n.2 }
      s.aon.tally s

/-- RESTART_DISCARD of one class, if it held any frame that was not launched. -/
def restartDiscard (p : PortId) (c : Cls) (s : State) : State :=
  let t := s.ports[p].tx[c]
  let n := payTotals (neverLaunched t)
  let std := t.std.foldl (fun a f => a + f.bytes.length) 0
  let arr := arrivingIn s p c
  let frames := n.1 + t.std.length + (if arr.isSome then 1 else 0)
  let l : RxLoss := { cause := .restartDiscard, seqCount := 0, frames := frames, bytes := n.2 + std + arr.getD 0
                      estimated := arr.isSome, provoked := inEpisode s p }
  if frames = 0 then s else ledgerAdd p false c l s.aon.tally s

/-- The losses of one class whose tags or gap records were never launched, each under its own cause. -/
def restartOwed (p : PortId) (c : Cls) (s : State) : State :=
  let t := s.ports[p].tx[c]
  let ls := t.gapRec.toList ++ ((neverLaunched t).flatMap (fun w => w.losses.map Prod.snd)) ++ t.owedLoss
  ls.foldl (fun u l => ledgerAdd p false c (txEntry l 0 0) l.tally u) s

/-- The held numbers of a class, as distances from the next expected one. -/
def heldSpan (r : RxCls) : Nat := r.held.foldl (fun a h => max a ((h.seq - r.next).toNat + 1)) 0

/-- The frame left unfinished, if one is; a loss body is none. -/
def unfinishedFrame (u : Option Partial) : Option Partial := u.filter (fun f => !f.lossBody)

/-- Bytes of an unfinished frame. -/
def unfinishedBytes (u : Option Partial) : Nat :=
  match unfinishedFrame u with
  | some f => f.got.length
  | none => 0

/-- R227: a PROVOKED flag was received with the unfinished frame. -/
def unfinishedMark (u : Option Partial) : Bool := (u.map Partial.provoked).getD false

/-- RESTART_MISSING of one class, with its gap leaf, if a shingle is held or a frame unfinished; PROVOKED by the episode or by a flag
received with what is lost (R227). -/
def restartMissing (p : PortId) (c : Cls) (s : State) : State :=
  let r := s.ports[p].rx[c]
  let n := heldSpan r
  let extra := unfinishedBytes r.unfinished
  if n = 0 ∧ (unfinishedFrame r.unfinished).isNone then s
  else
    let l : RxLoss := { cause := .restartMissing, seqFirst := r.next, seqCount := n, frames := 0, bytes := 256 * n + extra
                        unknown := true, estimated := true
                        provoked := inEpisode s p || unfinishedMark r.unfinished || r.held.any (fun h => h.hdr.provoked) }
    let t := ledgerAdd p true c l s.aon.tally s
    gapLeaf p c l (ledgerPart t p true).newest t

/-- R165, R204: the class starts afresh at both ends; what waits toward the host stays. -/
def freshRx (r : RxCls) : RxCls :=
  { r with next := 0, held := [], later := none, naked := [], unfinished := none, skipping := false, changedAt := none, reportedAt := 0 }

/-- R204: an auto-negotiation discards the port's shingle-layer state, with its ledger entries. -/
def restartEntries (p : PortId) (s : State) : State :=
  let s := forClasses (fun c t => restartMissing p c (restartOwed p c (restartDiscard p c (restartUncertain p c t)))) s
  modPort p (fun q => { q with
    tx := Vector.replicate 4 {}
    rx := q.rx.map freshRx
    line := { q.line with owed := [] }
    host := { q.host with arriving := q.host.arriving.map (fun a =>
      if 0 < a.total then { a with cut := true, cls := none, bytes := [], ahead := [] } else { a with cls := none, ahead := [] }) } }) s

/-! ## Auto-negotiation -/

/-- R109, R345, R402: the port may start auto-negotiation; with no recipe, or with its clocks on RC, it stays DISABLED. -/
def autonegAllowed (s : State) (p : PortId) : Bool :=
  bayOpen s p && portClocked s p && s.ports[p].link.adminEnabled && !s.ports[p].link.asleep && !bayTesting s p && s.rcp.active.isSome

/-- R112, R211: the modes that a cap leaves: the target and every lower one; an Etoon mode ranks above every standard mode. -/
def capMask : Option LineMode → BitVec 16
  | none => 0xFFFF
  | some (.etoon .el50) => 0xFFFF
  | some (.etoon .el25) => 0xFFFE
  | some (.etoon .el10) => 0xFFFC
  | some (.std .b25g) => 0xFF00
  | some (.std .b10g) => 0xFE00
  | some (.std .b5g) => 0xFC00
  | some (.std .b2g5) => 0xF800
  | some (.std .b1g) => 0xF000

/-- R109, R138, R211: the offer of the next auto-negotiation. -/
def offerNow (q : Port) : BitVec 16 := q.link.modeMask &&& ~~~q.link.withdrawn &&& capMask q.link.cap

/-- R114: the role that the base page forces: some true for master. -/
def forcedRole (q : Port) : Option Bool :=
  if q.link.leaderPolicy = 0 then (if q.dsp.neighbours ≠ 0 ∧ q.link.msBackOff = false then some true else none)
  else if q.link.leaderPolicy = 1 then some true
  else if q.link.leaderPolicy = 2 then some false
  else none

/-- R426: the ability bits of W1: LPI always, FAST_RELINK and TC10 as LinkPolicy stands. -/
def ownAbility (q : Port) : BitVec 8 :=
  BitVec.ofNat 8 (1 + 2 * (q.link.linkPolicy.getLsbD 1).toNat + 4 * (q.link.linkPolicy.getLsbD 2).toNat)

/-- The recipe bank in force, if one is. -/
def activeBank (r : Recipes) : Option Bank :=
  match r.active with
  | some false => some r.bank0
  | some true => some r.bank1
  | none => none

/-- R110, Table 5-1: the message page W0. -/
def pageW0 : BitVec 48 := BitVec.ofNat 48 (0x01 * 2 ^ 40 + 0x3A6E91 * 2 ^ 16 + 5)

/-- R110, Table 5-1: the page W1: the Etoon modes offered, the ability bits and the version offers. -/
def pageW1 (offer : BitVec 16) (abil : BitVec 8) (b : Bank) : BitVec 48 :=
  let bit := fun (x : Bool) (n : Nat) => x.toNat * 2 ^ n
  BitVec.ofNat 48 (bit (offer.getLsbD 0) 10 + bit (offer.getLsbD 1) 9 + bit (offer.getLsbD 2) 8
    + bit (abil.getLsbD 0) 7 + bit (abil.getLsbD 1) 6 + bit (abil.getLsbD 2) 5
    + b.line.1.toNat * 2 ^ 44 + b.line.2.1.toNat * 2 ^ 40 + b.line.2.2.toNat * 2 ^ 36
    + b.shingle.1.toNat * 2 ^ 32 + b.shingle.2.1.toNat * 2 ^ 28 + b.shingle.2.2.toNat * 2 ^ 24)

/-- R110, Table 5-1: the page W2: the training seed, the neighbour count and the leader hint. -/
def pageW2 (seed : BitVec 12) (neighbours : BitVec 8) : BitVec 48 :=
  let n := ((List.range 8).filter (fun i => neighbours.getLsbD i)).length
  BitVec.ofNat 48 (seed.toNat * 2 ^ 36 + n * 2 ^ 33 + (decide (neighbours ≠ 0)).toNat * 2 ^ 32)

/-- Clause 98's null message page, with which a message page that is not from Wenvo is answered (R110). -/
def nullPage : BitVec 48 := 1

/-- R110: the offer holds an Etoon mode, so the base page sets NP. -/
def offersEtoon (offer : BitVec 16) : Bool := offer.getLsbD 0 || offer.getLsbD 1 || offer.getLsbD 2

/-- R110: the next pages of an auto-negotiation, W0 first. -/
def nextPages (b : Option Bank) (offer : BitVec 16) (abil : BitVec 8) (seed : BitVec 12) (neighbours : BitVec 8) : List (BitVec 48) :=
  match b with
  | some b => if offersEtoon offer then [pageW0, pageW1 offer abil b, pageW2 seed neighbours] else []
  | none => []

/-- R138: an auto-negotiation that training has not failed since the last one breaks the run of consecutive ones. -/
def consecutive (l : Link) : Link := if l.failedSinceAn then { l with failedSinceAn := false } else { l with failMode := none, failCount := 0 }

/-- R109, R110, R204: auto-negotiation begins, with fresh draws of TrainingSeed and of the Clause 98 seed; not forcing master after a
configuration fault holds for this attempt only (R114). -/
def beginAutoneg (p : PortId) (s : State) : State :=
  let s := restartEntries p s
  let d1 := drawn s
  let s := afterDraw s
  let d2 := drawn s
  let seed := BitVec.ofNat 12 d1
  pfcCheck p (afterDraw (modPort p (fun q => { q with
    train := {}
    mc := {}
    dsp := zeroFilters q.dsp
    link := { consecutive q.link with
      phase := .autoneg, relink := some .autoneg, choosing := false, wantAn := false, retrainMode := none, mode := none, epoch := 0
      msBackOff := false
      counters := bump 4 1 q.link.counters
      np := offersEtoon (offerNow q)
      pagesSent := nextPages (activeBank s.rcp) (offerNow q) (ownAbility q) seed q.dsp.neighbours
      offer := offerNow q, ownAbil := ownAbility q, forced := forcedRole q
      ownSeed := seed, clauseSeed := d2 } }) s))

/-- Auto-negotiation begins if R109 allows it; otherwise the port stays down, showing why. -/
def tryAutoneg (p : PortId) (s : State) : State :=
  let s := disarmDue p s
  startIfNoSlot p (if autonegAllowed s p then beginAutoneg p s
  else modLink p (fun l => { l with
    choosing := false, wantAn := false, retrainMode := none, relink := none, phase := if l.asleep then .asleep else .disabled }) s)

/-! ## Link down -/

/-- R139: the link-downs of the last second with the one at `now`. -/
def downsWith (now : Nat) (m : Option EMode) (ds : List (Nat × EMode)) : List (Nat × EMode) :=
  match m with
  | some m => ds.filter (fun d => decide (now < d.1 + 1000000000)) ++ [(now, m)]
  | none => ds

/-- R139: the link-down at `now` is at least the 4th within 1 s in its mode. -/
def flapsNow (now : Nat) (m : Option EMode) (ds : List (Nat × EMode)) : Bool :=
  match m with
  | some e => decide (4 ≤ ((downsWith now m ds).filter (fun d => decide (d.2 = e) && decide (now < d.1 + 1000000000))).length)
  | none => false

/-- R130, R145: a link-down abandons a mode change: its status shows at once, its record follows LINK_DOWN (OP-9). -/
def mcAbandon (p : PortId) (s : State) : State :=
  if mcBusy s.ports[p] then
    mcClear p .abandonedLinkDown (modLink p (fun l => { l with mcOwed := some s.ports[p].mc }) s)
  else s

/-- R127, R132: link down is declared with a cause; the relink is chosen later (R128). -/
def declareDown (p : PortId) (cause : DownCause) (s : State) : State :=
  if !s.ports[p].link.up then s
  else
    let prov := inEpisode s p
    let s := skipSwap p true s
    let s := modPort p (fun q => { q with
      link := { q.link with
        up := false, downCause := cause, downProvoked := prov, lastDown := s.aon.tally
        counters := bump 0 1 q.link.counters
        choosing := true, wantFull := decide (cause = .hostRetrain), fullBeacon := decide (cause = .beaconFull)
        wantAn := false, sigBadAtDown := decide (q.sig.level ≠ .normal), beaconMode := none, bySecondRow := false
        episode := some s.aon.tally, fastFailed := false, downTold := false
        recentDowns := downsWith s.aon.tally (etoonMode q) q.link.recentDowns
        flap := flapsNow s.aon.tally (etoonMode q) q.link.recentDowns
        sleepWait := none, sleepSent := false, relink := none }
      line := { q.line with
        txLpi := .active, wakeWanted := false, partnerQuiet := false, wakeWindow := none, wakeDecoded := false
        epochExempt := 0, badRun := 0, owed := [] }
      dsp := { q.dsp with winWhole := false }
      sig := { q.sig with skip := true } }) s
    startIfNoSlot p (pfcCheck p (mcAbandon p (disarmDue p s)))

/-- R127: the LINK_DOWN record (Table 13-4). -/
def linkDownEv (s : State) (p : PortId) (r : Relink) : Ev :=
  let l := s.ports[p].link
  bayEv p 0x0002 4 [portByte p l.downProvoked, downCauseByte l, BitVec.ofNat 8 (relinkCode r), BitVec.ofNat 8 (modeCode l.mode)]

/-- OP-9, R127: LINK_DOWN, once for a link-down, and then the record of a mode change that the link-down abandoned. -/
def raiseDown (p : PortId) (r : Relink) (s : State) : State :=
  if s.ports[p].link.downTold then s
  else
    let t := modLink p (fun l => { l with downTold := true }) (raise (linkDownEv s p r) s)
    match s.ports[p].link.mcOwed with
    | some mc => mcTell p mc .abandonedLinkDown (modLink p (fun l => { l with mcOwed := none }) t)
    | none => t

/-- R127: a link down with no relink of its own (R146, R208: standard modes; R359): the record follows at once. -/
def declareDownAt (p : PortId) (cause : DownCause) (r : Relink) (s : State) : State :=
  if s.ports[p].link.up then
    raiseDown p r (declareDown p cause s)
  else s

/-- R147: after SLEEP_ACK the link goes down with cause SLEEP; the driver launches level 0 and switches off at the next boundary. -/
def fallAsleep (p : PortId) (s : State) : State :=
  let t := modLink p (fun l => { l with asleep := true }) (declareDown p .sleep s)
  if inStd s.ports[p] then modLine p (fun l => { l with driver := .off }) t
  else modLine p (fun l => { l with driver := .zero, last := none }) (release p (.quiet 720) t)

/-! ## The choice of relink (Table 5-6) -/

/-- Table 5-6, first row: 10 s have passed since the link-down that began the episode. -/
def episodeOver (s : State) (p : PortId) : Bool :=
  match s.ports[p].link.episode with
  | none => false
  | some t => decide (t + 10000000000 ≤ s.aon.tally)

/-- Table 5-6, third row: the conditions of a fast relink in a mode. -/
def fastAllowed (q : Port) (m : EMode) : Bool :=
  q.link.linkPolicy.getLsbD 1 && q.link.partnerAbil.getLsbD 1 && hasSnapshot q m && !q.link.sigBadAtDown

/-- Table 5-6, first row: causes that call for auto-negotiation. -/
def autonegCause (c : DownCause) : Bool :=
  match c with
  | .hostRestartAn => true
  | .hostDisable => true
  | .sleep => true
  | .partnerAutoneg => true
  | .standardLinkFail => true
  | _ => false

/-- R131: the relink of the first row of Table 5-6 that holds, and whether it was the second row. -/
def chooseRelink (s : State) (p : PortId) : Relink × Bool :=
  let q := s.ports[p]
  match etoonMode q with
  | none => (.autoneg, false)
  | some m =>
    if autonegCause q.link.downCause || q.link.wantAn || episodeOver s p then (.autoneg, false)
    else if q.link.wantFull || q.link.fullBeacon || q.link.fastFailed then (.full, true)
    else if fastAllowed q m then (.fast, false)
    else if q.link.partnerAbil.getLsbD 1 then (.full, false)
    else (.autoneg, false)

/-- R139: the link has gone down 4 times within 1 s in its mode, under AUTO_DOWNSHIFT. -/
def flapping (s : State) (p : PortId) : Bool := s.ports[p].link.linkPolicy.getLsbD 0 && s.ports[p].link.flap

/-- R211: a mode within the cap that a roll call has put on the port. -/
def capped (q : Port) (m : EMode) : EMode :=
  match q.link.cap with
  | some (.etoon c) => lowerMode m c
  | _ => m

/-- R131, R139, R145, R211: the mode the relink names, the link having been in mode m: the one that RETRAIN_GO asked for, or the next lower one
after 4 link-downs; the lower of both ends' beacons; and within a cap. -/
def relinkMode (s : State) (p : PortId) (m : EMode) : EMode :=
  let q := s.ports[p]
  let own := if flapping s p then (lowerOffered q m).getD m else q.link.retrainMode.getD m
  capped q (match q.link.beaconMode with | some b => lowerMode own b | none => own)

/-- R128: 8 relink beacons are owed. -/
def oweBeacons (p : PortId) (full : Bool) (m : EMode) (s : State) : State :=
  modLine p (fun l => { l with owed := List.replicate 8 (.beacon full m) }) s

/-- Tables 5-2 and 5-4, R126: the end transmits a training sequence in its phase; a silent follower of E2 is one that was not LOCKED at
the leader's READY (R120). -/
def transmits (q : Port) : Bool :=
  decide (0 < q.train.restartAfter)
  || (match q.link.phase with
    | .e1 => q.link.leader
    | .e2 => !q.link.leader && q.train.lockedAtReady.getD true
    | .a => true
    | .x => true
    | .f => q.train.reloaded
    | _ => false)

/-- Table 5-4, R116 to R118: a period begins in training: of the phase's sequence, negated where it is a READY period, or of level 0 where the
end is silent or the sieve silences its driver (R53). In phase S slots are on the line instead. -/
def sendPeriod (p : PortId) (s : State) : State :=
  let q := s.ports[p]
  if slotsRun q then s
  else if transmits q then
    release p (asLaunched q.sieve
      (.period (trainState q.link.seed (if 0 < q.train.restartAfter then .full else q.train.use) q.link.leader) q.train.readySent.isSome)) s
  else release p (.quiet 24576) s

/-- A phase of a training attempt begins (R119); a first period begins with it where the end was silent before, and silence where it is
silent from now on. -/
def enterPhase (p : PortId) (ph : Phase) (s : State) : State :=
  let use := if ph = .f then TrainUse.fast else TrainUse.full
  let s := if ph = .s then s else disarmDue p s
  let was := transmits s.ports[p]
  let t := modPort p (fun q => { q with
    link := { q.link with phase := ph }
    train := { use := use, since := s.aon.tally, begun := if ph = .q then s.aon.tally else q.train.begun
               restartAfter := if ph = .q ∨ ph = .f then 0 else q.train.restartAfter
               lockedAtReady := if ph = .e2 then q.train.lockedAtReady else none
               rxStarted := decide (ph = .s) && q.train.rxStarted
               goodRun := if ph = .s then q.train.goodRun else 0
               synced := decide (ph = .s) && q.train.synced
               partnerSynced := decide (ph = .s) && q.train.partnerSynced } }) s
  let t := if ph = .x then dspBoundary p t else t
  startIfNoSlot p (if was && transmits t.ports[p] then t else sendPeriod p t)

/-- R137: a full retrain begins at Q in the mode named; FullRetrains counts it. -/
def beginFull (p : PortId) (s : State) : State :=
  enterPhase p .q (modPort p (fun q => { q with
    dsp := zeroFilters q.dsp
    link := { q.link with relink := some .full, choosing := false, counters := bump 3 1 q.link.counters } }) s)

/-- R133: a fast relink begins with the reload of its mode's snapshot; FastRelinks counts it at the start of the reload. -/
def beginFast (p : PortId) (s : State) : State :=
  enterPhase p .f (modPort p (fun q => { q with
    dsp := { q.dsp with locked := false, adapting := false }
    link := { q.link with relink := some .fast, choosing := false, counters := bump 1 1 q.link.counters } }) s)

/-- R131, R139: the relink chosen, whether the second row of Table 5-6 gave it, and the mode it names. -/
def relinkPlan (s : State) (p : PortId) : Relink × Bool × Option EMode :=
  let q := s.ports[p]
  match etoonMode q with
  | none => (.autoneg, false, none)
  | some m0 =>
    let r := chooseRelink s p
    let m := relinkMode s p m0
    let kind := if r.1 = .fast && !hasSnapshot q m then Relink.full
      else if r.1 = .full && !r.2 && flapping s p && decide (m ≠ m0) && fastAllowed q m then Relink.fast else r.1
    (kind, r.2, some m)

/-- The relink names a mode, which becomes the port's; a pause owed and a calibration measurement follow it (R73, R180). -/
def takeRelinkMode (p : PortId) (m : EMode) (s : State) : State :=
  pfcCheck p (gapAbandoned s (modLink p (fun l => { l with mode := some (.etoon m), retrainMode := none }) s))

/-- R128, R131: the relink is chosen, LINK_DOWN raised, and the relink begun; behind CLOCK_FAILURE while a clock failure is
handled (R353), and begun only once the port's clocks are back on input 1 (R345, R354). -/
def chooseAndBegin (p : PortId) (s : State) : State :=
  if !s.ports[p].link.choosing || s.clk.failing.isSome then s
  else
    let r := relinkPlan s p
    let t := raiseDown p r.1 (modLink p (fun l => { l with bySecondRow := r.2.1 }) s)
    if !portClocked s p then t
    else
      match r.1, r.2.2 with
      | .fast, some m => beginFast p (oweBeacons p false m (takeRelinkMode p m t))
      | .full, some m => beginFull p (oweBeacons p true m (takeRelinkMode p m t))
      | _, _ => tryAutoneg p t

/-- R354: the clocks of a port are back on input 1: a relink that waits for them begins, and a port that may start auto-negotiation does. -/
def clocksBack (p : PortId) (s : State) : State :=
  let l := s.ports[p].link
  if !portClocked s p || l.upAtEntry then s
  else if l.choosing && l.downTold then chooseAndBegin p s
  else if !l.up && !l.choosing && decide (l.phase = .disabled) && autonegAllowed s p then beginAutoneg p s
  else s

/-- R126, R127, R134: a full retrain takes the place of an attempt under way, in its mode or the one a cap leaves (R211); FULL beacons first
where the port was in F. -/
def restartFull (p : PortId) (beacons : Bool) (s : State) : State :=
  match etoonMode s.ports[p] with
  | none => s
  | some m0 =>
    let m := capped s.ports[p] m0
    let s := if m = m0 then s else pfcCheck p (gapAbandoned s (modLink p (fun l => { l with mode := some (.etoon m) }) s))
    beginFull p (if beacons then oweBeacons p true m s else s)

/-- R126, R129: the fast relink under way gives way to a full retrain: it has failed, and the full retrain is the second row's. -/
def fastGivesWay (p : PortId) (beacons : Bool) (s : State) : State :=
  restartFull p beacons (modLink p (fun l => { l with
    fastFailed := true, bySecondRow := true, counters := bump 2 1 l.counters, failPhase := l.phase, failReason := .preempted }) s)

end Sys2Proof.Machine
end

