-- ==== Sys2Proof/Machine/Launch.lean ====
section
/-! DEFINITION. Launch.lean: the transmitter at a slot boundary (R170): what it launches, what the launch does to the
shingle's bookkeeping (R165, R168, R171, R175), low-power idle (R99 to R103) and the sieve's part in the slot. -/

namespace Sys2Proof.Machine

/-! ## Acknowledgements (R153, R161) -/

/-- The class with the least key, ties to the lower class, among those that have one. -/
def leastClass (key : Cls → Option Nat) : Option Cls :=
  (List.finRange 4).foldl (fun best c =>
    match key c, best with
    | none, b => b
    | some _, none => some c
    | some k, some b => if k < (key b).getD 0 then some c else some b) none

/-- R153: the class a data header reports. How long a value has gone unreported counts from its first change since its last report
(log entry 80). -/
def ackChoice (q : Port) : Cls :=
  match leastClass (fun c => q.rx[c].changedAt) with
  | some c => c
  | none => (leastClass (fun c => some q.rx[c].reportedAt)).getD 0

/-- The class's next expected number has been reported in the slot being launched. -/
def reported (now : Nat) (r : RxCls) : RxCls := { r with changedAt := none, reportedAt := now }

/-- R161: the four next expected numbers of a control shingle's ack block. -/
def ackBlockOf (q : Port) : List Seq := [q.rx[0].next, q.rx[1].next, q.rx[2].next, q.rx[3].next]

/-- An acknowledgement is owed to the partner. -/
def ackOwed (q : Port) : Bool := q.rx.toList.any (fun r => r.changedAt.isSome)

/-! ## NAKs (R164, R169) -/

/-- R169: how far the numbers reach, from next expected, of which a later one of the class has been decoded, held or not. -/
def missingSpan (r : RxCls) : Nat := max (heldSpan r) (match r.later with | some n => (n - r.next).toNat | none => 0)

/-- R169: numbers between next expected and the highest decoded that are not held. -/
def missingSeqs (r : RxCls) : List Seq :=
  ((List.range (missingSpan r)).map (fun i => r.next + BitVec.ofNat 14 i)).filter (fun n => !r.held.any (fun h => decide (h.seq = n)))

/-- Missing numbers not yet NAKed, or to be NAKed again. -/
def owedSeqs (r : RxCls) : List Seq := (missingSeqs r).filter (fun n => !r.naked.any (fun k => decide (k.1 = n)))

/-- Runs of consecutive numbers, at most 256 in each. -/
def seqRuns : List Seq → List (Seq × Nat)
  | [] => []
  | n :: rest =>
    match seqRuns rest with
    | [] => [(n, 1)]
    | (m, k) :: more => if m = n + 1 ∧ k < 256 then (n, k + 1) :: more else (n, 1) :: (m, k) :: more

/-- R164: the entries of the next NAK: by class, then in sequence order, at most 60. -/
def nakList (q : Port) : List (Cls × Seq × Nat) :=
  ((List.finRange 4).flatMap (fun c => (seqRuns (owedSeqs q.rx[c])).map (fun r => (c, r.1, r.2)))).take 60

/-- The numbers of entries of one class. -/
def entrySeqs (c : Cls) (es : List (Cls × Seq × Nat)) : List Seq :=
  es.flatMap (fun e => if e.1 = c then (List.range e.2.2).map (fun i => e.2.1 + BitVec.ofNat 14 i) else [])

/-- R169: the numbers a NAK names, with the slot that carried it. -/
def noteNaked (now : Nat) (es : List (Cls × Seq × Nat)) (c : Cls) (r : RxCls) : RxCls :=
  { r with naked := r.naked ++ (entrySeqs c es).map (fun n => (n, now)) }

/-! ## Low-power idle: when the transmitter may fall quiet -/

/-- R276: the host-side condition. -/
def hostQuiet (h : HostLane) : Bool :=
  match h.lpiPolicy.toNat % 4 with
  | 0 => h.rxLpi && h.arriving.isNone && decide (h.active ≠ some .x1000)
  | 1 => h.idleHeld
  | _ => false

/-- The class has nothing to launch and nothing unacknowledged. -/
def clsIdle (t : TxCls) : Bool :=
  t.launched.isEmpty && t.closed.isEmpty && t.gapRec.isNone && t.owedLoss.isEmpty
  && (match t.openP with | none => true | some w => w.bytes.isEmpty)

/-- R99: every condition of quiet holds but the roll call's enablement. -/
def quietReady (q : Port) : Bool :=
  q.link.up && (etoonMode q).isSome && hostQuiet q.host && q.tx.toList.all clsIdle && !ackOwed q && (nakList q).isEmpty
  && !mcBusy q && q.line.owed.isEmpty

/-- R99: the transmitter may enter quiet. -/
def lpiOk (s : State) (p : PortId) : Bool :=
  maskBit s.roll.lpiMask p && s.ports[p].link.partnerAbil.getLsbD 0 && quietReady s.ports[p]

/-- R103: a wake request, which a quiet or refreshing transmitter acts on at its next boundary. -/
def wakeRequest (p : PortId) (s : State) : State :=
  modLine p (fun l => if l.txLpi = .active then l else { l with wakeWanted := true }) s

/-- R99, R103: an acknowledgement or NAK owed while quiet is a wake request. -/
def wakeIfOwed (p : PortId) (s : State) : State :=
  if ackOwed s.ports[p] || !(nakList s.ports[p]).isEmpty then wakeRequest p s else s

/-- R100: the shingle before quiet is on the line; quiet begins at the next boundary. -/
def closeToQuiet (p : PortId) (s : State) : State := modLine p (fun l => { l with txLpi := .entering, wakeWanted := false }) s

/-- R98, R100: quiet begins at this boundary, and is counted. -/
def enterQuiet (p : PortId) (s : State) : State :=
  modPort p (fun q => { q with
    line := { q.line with txLpi := .quiet }
    cnt := { q.cnt with quietEntries := sat32 (q.cnt.quietEntries + 1) } }) s

/-- R101: a quiet slot: level 0 on the line, in the replicas and on the gutter. -/
def quietSlot (p : PortId) (s : State) : State :=
  modLine p (fun l => { l with last := none }) (release p (.quiet 720) s)

/-! ## One slot on the line -/

/-- What the slot carries. -/
structure SlotContent where
  control : Option Nat := none
  cls     : Cls := 0
  seq     : Seq := 0
  header  : List Byte := []
  payload : List Byte := []

/-- R82, R222, R223: the levels of a slot, with the sieve after its draws. -/
def slotLevels (v : SievePort) (slot : Nat) (x : SlotContent) (drop corrupt : Bool) : List Int × SievePort :=
  if silenced v then (List.replicate 720 0, v)
  else
    let ts := slotTrytes slot x.control (x.header ++ x.payload)
    if drop then (trytesLevels (dropPattern ts), v)
    else if corrupt then corruptLevels v ts
    else (trytesLevels ts, v)

/-- R87, R98: a slot is launched and consumed; a beacon goes out as if in slot 0 and takes no slot number (R128). -/
def putSlot (p : PortId) (beacon : Bool) (x : SlotContent) (drop corrupt : Bool) (s : State) : State :=
  let q := s.ports[p]
  let slot := if beacon then 0 else q.line.txSlot
  let r := slotLevels q.sieve slot x drop corrupt
  let s := release p (.levels r.1) s
  modPort p (fun q => { q with
    sieve := r.2
    cnt := { q.cnt with sent := sat64 (q.cnt.sent + 1) }
    line := { q.line with
      txSlot := if beacon then q.line.txSlot else q.line.txSlot + 1
      launches := q.line.launches + (if q.link.up then 1 else 0)
      last := some { slot := slot, control := x.control, cls := x.cls, seq := x.seq, header := x.header, payload := x.payload
                     levels := r.1, dropped := drop, corrupted := corrupt } } }) s

/-- R223: a corruption that is made is counted and is a provoked act. -/
def noteCorrupt (p : PortId) (corrupt : Bool) (s : State) : State :=
  if corrupt then provoke p (modSieve p (fun v => { v with counters := bump 1 1 v.counters }) s) else s

/-- R221 to R223: the sieve's choices for a slot: drop, then corruption, which a drop overrides (Table 8-3). -/
def slotChoices (p : PortId) (ctl : Bool) (c : Cls) (s : State) : Bool × Bool × State :=
  let d := sieveDrop p ctl c s
  let k := sieveCorrupt p ctl c d.2
  let corrupt := k.1 && !d.1
  (d.1, corrupt, noteCorrupt p corrupt k.2)

/-- R161: a control shingle is launched; its ack block reports every class. -/
def putControl (p : PortId) (k : Ctl) (s : State) : State :=
  let r := slotChoices p true 0 s
  let q := r.2.2.ports[p]
  let e := ctlArg k
  let beacon := match k with | .beacon _ _ => true | _ => false
  let x : SlotContent := { control := some e, header := ctlHead e, payload := ackBytes (ackBlockOf q) ++ ctlBody k }
  let now := q.line.launches
  let t := putSlot p beacon x r.1 r.2.1 r.2.2
  modPort p (fun q => { q with rx := q.rx.map (reported now) }) t

/-! ## Data shingles -/

/-- R175: the payload of a gap shingle. -/
def gapPayload (c : Cls) (l : TxLoss) : List Byte := lossTag c l ++ padTag c ++ List.replicate 240 0

/-- R272: the SenderResidence word for a launch at `at_`. -/
def residenceWord (at_ ingress : Nat) : List Byte := beBytes 4 (if at_ - ingress < 2 ^ 31 then at_ - ingress else 2 ^ 32 - 1)

/-- R157: every SenderResidence word of a payload rewritten for a launch. -/
def stamped (at_ : Nat) (w : Payload) : List Byte :=
  w.stamps.foldl (fun bs st => bs.take st.1 ++ residenceWord at_ st.2 ++ bs.drop (st.1 + 4)) w.bytes

/-- The payload of a launched shingle as it goes out. -/
def payloadOut (c : Cls) (at_ : Nat) (e : LaunchedSh) : List Byte :=
  if e.gap then gapPayload c ((e.pay.losses.head?.map Prod.snd).getD { cause := .withdrawn, frames := 0, bytes := 0, tally := 0 })
  else (stamped at_ e.pay ++ List.replicate 256 0).take 256

/-- R155: FirstTag of a payload. -/
def firstTagOf (e : LaunchedSh) : BitVec 7 :=
  if e.gap then 0 else match e.pay.firstTag with | some o => BitVec.ofNat 7 (o / 4) | none => 0x7F

/-- R176, R196: the losses that a shingle carries are entered at its first launch. -/
def enterLosses (p : PortId) (c : Cls) (e : LaunchedSh) (s : State) : State :=
  e.pay.losses.foldl (fun t l => ledgerAdd p false c (txEntry l.2 e.seq 1) l.2.tally t) s

/-- The bookkeeping of one launch of a numbered shingle (R169, R171, R191); one that a swap held back counts as first launched in its
intended slot (R224). -/
def launchedNow (now at_ : Nat) (again prov : Bool) (e : LaunchedSh) : LaunchedSh :=
  { e with lastLaunch := now, lastReplay := if again then some now else e.lastReplay, due := false, unsent := false, parted := false
           firstAt := if again || e.unsent then e.firstAt else at_, provoked := e.provoked || prov }

/-- R151, R171: the shingle with number n of class c is launched, `again` as a replay; it is in the class's list. -/
def putData (p : PortId) (c : Cls) (n : Seq) (again : Bool) (at_ : Nat) (s : State) : State :=
  match s.ports[p].tx[c].launched.find? (fun e => decide (e.seq = n)) with
  | none => s
  | some e =>
    let r := slotChoices p false c (if again && !e.unsent then s else enterLosses p c e s)
    let q := r.2.2.ports[p]
    let ack := ackChoice q
    let h : ShHdr := { cls := c, seq := n, replay := again, gap := e.gap, provoked := e.provoked || r.2.1
                       firstTag := firstTagOf e, ackClass := ack, ackNext := q.rx[ack].next }
    let now := q.line.launches
    let t := putSlot p false { cls := c, seq := n, header := headerBytes h, payload := payloadOut c at_ e } r.1 r.2.1 r.2.2
    let t := modRx p ack (reported now) t
    let t := modTx p c (fun x => { x with launched := x.launched.map (fun y =>
      if y.seq = n then launchedNow now at_ again r.1 y else y) }) t
    if again then modCnt p (fun k => { k with replays := bump c.val 1 k.replays }) t else t

/-- R165, R175: the next number of class c goes to its gap record or its oldest closed payload; the flag says whether the
class had one to give a number to. -/
def numberNext (p : PortId) (c : Cls) (s : State) : State × Option Seq :=
  let x := s.ports[p].tx[c]
  let now := s.ports[p].line.launches
  match x.gapRec with
  | some l =>
    let e : LaunchedSh := { seq := x.next, pay := { losses := [(0, l)] }, gap := true, slotHeld := false, lastLaunch := now, provoked := l.provoked }
    (modTx p c (fun x => { x with gapRec := none, next := x.next + 1, launched := x.launched ++ [e] }) s, some x.next)
  | none =>
    match x.closed with
    | [] => (s, none)
    | w :: rest =>
      if w.held then (s, none)
      else
        let e : LaunchedSh := { seq := x.next, pay := w, lastLaunch := now, provoked := w.provoked }
        (modTx p c (fun x => { x with closed := rest, next := x.next + 1, launched := x.launched ++ [e] }) s, some x.next)

/-! ## The choice of item (R170) -/

/-- R156: a frame has begun whose tag may lie in class c. -/
def tagReserved (q : Port) (c : Cls) : Bool :=
  match q.host.arriving with
  | some a => mayTake a c
  | none => false

/-- R156: the OPEN payload closes at this boundary if it holds something, every frame begun in it has ended, and it holds a tag: one that
began in it, or the pad tag that closes a payload with nothing but the end of a frame (log entry 82). -/
def closable (q : Port) (c : Cls) : Bool :=
  match q.tx[c].openP with
  | none => false
  | some w => !w.bytes.isEmpty && !w.held && !tagReserved q c && (w.firstTag.isSome || decide (w.bytes.length ≤ 252))

/-- R165: payloads of the class that this slot could give new numbers to, oldest first: how many. -/
def freshCount (q : Port) (c : Cls) : Nat :=
  let shut := q.tx[c].closed.takeWhile (fun w => !w.held)
  q.tx[c].gapRec.isSome.toNat + shut.length + (decide (shut.length = q.tx[c].closed.length) && closable q c).toNat

/-- R156, R168: class c has a payload to give a new number to. -/
def freshReady (q : Port) (c : Cls) : Bool := decide (q.tx[c].launched.length < 4096) && decide (0 < freshCount q c)

/-- R171: the oldest shingle of the class that is due for replay. -/
def dueOf (t : TxCls) : Option LaunchedSh := t.launched.find? LaunchedSh.due

/-- A shingle of class c that a swap holds back, to go in place of the class's next first launch (R224). -/
def swapTurn (q : Port) (c : Cls) : Option Seq :=
  match q.sieve.swapOut with
  | some (d, n, _) => if d = c then some n else none
  | none => none

/-- The class holds something for this slot. -/
def classReady (q : Port) (c : Cls) : Bool := (dueOf q.tx[c]).isSome || (swapTurn q c).isSome || freshReady q c

/-- R156: the OPEN payload closed with a pad tag, where it is the last of the `n` payloads that the slot takes. -/
def closeAtBoundary (p : PortId) (c : Cls) (n : Nat) (s : State) : State :=
  let t := s.ports[p].tx[c]
  if decide (t.gapRec.isSome.toNat + t.closed.length + 1 = n) && closable s.ports[p] c then
    modTx p c (fun x => { x with closed := x.closed ++ (x.openP.map (padOpen c)).toList, openP := none }) s
  else s

/-- R224: two payloads of the class are ready, so the older one can be held back behind the younger (log entry 56). -/
def swapPair (q : Port) (c : Cls) : Bool := decide (q.tx[c].launched.length + 2 ≤ 4096) && decide (2 ≤ freshCount q c)

/-- R224: a swap is due in this slot. -/
def swapDue (q : Port) : Bool :=
  sieveLive q kindSwap && q.link.up && decide (q.sieve.sInterval ≤ q.sieve.sCount) && q.sieve.swapOut.isNone

/-- R224: the older shingle gets its number and is held back; the younger one is launched in its slot. -/
def putSwap (p : PortId) (c : Cls) (at_ : Nat) (s : State) : State :=
  let a := numberNext p c s
  let b := numberNext p c a.1
  match a.2, b.2 with
  | some n, some m =>
    let mark := fun e : LaunchedSh =>
      if e.seq = n then { e with provoked := true, unsent := true, firstAt := at_ }
      else if e.seq = m then { e with provoked := true } else e
    let t := modTx p c (fun x => { x with launched := x.launched.map mark }) b.1
    let t := modSieve p (fun v => { v with swapOut := some (c, n, t.ports[p].line.launches), sCount := 0 }) t
    putData p c m false at_ (provoke p t)
  | _, _ => b.1

/-- R224: the held-back shingle is launched in the intended slot of the one that went before it; each counts as first launched in its own
intended slot. -/
def putSwapped (p : PortId) (c : Cls) (n : Seq) (at_ : Nat) (s : State) : State :=
  let t := modSieve p (fun v => { v with swapOut := none, counters := bump 2 1 v.counters }) s
  let t := putData p c n false at_ t
  modTx p c (fun x => { x with launched := x.launched.map (fun e => if e.seq = n + 1 then { e with firstAt := at_ } else e) }) t

/-- A first launch of class c, or a swap in its place. -/
def putFresh (p : PortId) (c : Cls) (at_ : Nat) (s : State) : State :=
  match swapTurn s.ports[p] c with
  | some n => putSwapped p c n at_ s
  | none =>
    if swapDue s.ports[p] && swapPair s.ports[p] c then putSwap p c at_ (closeAtBoundary p c 2 s)
    else
      let s := closeAtBoundary p c 1 s
      let s := if swapDue s.ports[p]
        then modSieve p (fun v => { v with sCount := 0, counters := bump 3 1 v.counters }) s else s
      let r := numberNext p c s
      match r.2 with
      | some n => putData p c n false at_ r.1
      | none => r.1

/-- R170, steps 2 and 4: the oldest due shingle of the class, or else its next payload. A shingle that a swap held back goes out for the first
time, as a replay where it was held back past a link-down (R224). -/
def putClass (p : PortId) (c : Cls) (at_ : Nat) (s : State) : State :=
  match dueOf s.ports[p].tx[c] with
  | some e => putData p c e.seq (!e.unsent || e.parted) at_ s
  | none => putFresh p c at_ s

/-- R164, R169: a NAK is launched. -/
def putNak (p : PortId) (s : State) : State :=
  let q := s.ports[p]
  let es := nakList q
  let now := q.line.launches
  let t := putControl p (.nak es) s
  forClasses (fun c u => modRx p c (noteNaked now es c) u) t

/-- R122: IDLE, with SYNCED as the receiver stands. -/
def putIdle (p : PortId) (s : State) : State := putControl p (.idle (s.ports[p].link.up || s.ports[p].train.synced)) s

/-- What a control shingle that is launched brings about: a countdown (R143), a sleep handshake (R147), quiet (R100). -/
def afterControl (p : PortId) (k : Ctl) (s : State) : State :=
  match k with
  | .accept _ _ => mcAcceptLaunched p s
  | .sleepRequest => closeToQuiet p (modLink p (fun l => { l with sleepSent := true }) s)
  | .sleepAck => fallAsleep p s
  | _ => s

/-- R170: the first item that the transmitter of an up port holds. -/
def putFirst (p : PortId) (at_ : Nat) (s : State) : State :=
  let q := s.ports[p]
  match q.mc.marks with
  | some (k + 1) => putControl p (.mark (k + 1) q.mc.epoch) (modMc p (fun m => { m with marks := some k }) s)
  | _ =>
    match q.line.owed with
    | k :: rest => afterControl p k (putControl p k (modLine p (fun l => { l with owed := rest }) s))
    | [] =>
      if classReady q 0 then putClass p 0 at_ s
      else if !(nakList q).isEmpty then putNak p s
      else if classReady q 1 then putClass p 1 at_ s
      else if classReady q 2 then putClass p 2 at_ s
      else if classReady q 3 then putClass p 3 at_ s
      else putIdle p s

/-- R103: LPI_EXIT ends the wake sequence; any shingle may follow. -/
def putExit (p : PortId) (s : State) : State :=
  putControl p .lpiExit (modLine p (fun l => { l with txLpi := .active, wakeWanted := false }) s)

/-- A quiet or refreshing transmitter has been asked to wake. -/
def wakeAsked (q : Port) : Bool := q.line.wakeWanted || !q.line.owed.isEmpty

/-- R99 to R103, Table 4-10: the slot of a transmitter that is about to be quiet, quiet, refreshing or waking. From quiet, or where
quiet would begin, a wake is 4 IDLE and LPI_EXIT; so it is where R99 no longer holds as quiet would begin. In a refresh, LPI_EXIT goes at the next boundary. After the 16th IDLE of a refresh,
quiet resumes if R99 holds; where it does not hold and no wake is asked for, LPI_EXIT follows (the manual does not say; log entry 72). -/
def putQuiet (p : PortId) (s : State) : State :=
  let set := fun v : TxLpi => modLine p (fun l => { l with txLpi := v })
  let wake := wakeAsked s.ports[p]
  match s.ports[p].line.txLpi with
  | .active => s
  | .entering => if wake || !lpiOk s p then set (.waking 3) (putIdle p s) else quietSlot p (enterQuiet p s)
  | .quiet => if wake then set (.waking 3) (putIdle p s) else quietSlot p s
  | .waking 0 => putExit p s
  | .waking (n + 1) => set (.waking n) (putIdle p s)
  | .refresh 0 => if wake || !lpiOk s p then putExit p s else quietSlot p (enterQuiet p s)
  | .refresh (n + 1) =>
    if wake then (if n = 15 then set (.waking 3) (putIdle p s) else putExit p s) else set (.refresh n) (putIdle p s)

/-! ## The slot boundary -/

/-- R224: a swap that has found no partner within MaxDistance slots, or that a quiet period parts, is given up. -/
def swapCheck (p : PortId) (s : State) : State :=
  match s.ports[p].sieve.swapOut with
  | some (_, _, k) =>
    if s.ports[p].line.launches < k + 1 + s.ports[p].sieve.sDist ∧ s.ports[p].line.txLpi = .active then s else skipSwap p false s
  | none => s

/-- What every shingle boundary of a port brings: disarms, the neighbour mask, an interruption that waited, the transmit
epoch after MARK(1), the sieve's slot count. -/
def boundary (p : PortId) (s : State) : State :=
  let s := dspBoundary p (disarmDue p s)
  let s := if s.ports[p].sieve.intWaiting then startInterruption p s else s
  let s := if s.ports[p].mc.marks = some 0 then mcTransmitEpoch p (skipSwap p false s) else s
  let s := swapCheck p s
  modSieve p (fun v => { v with sCount := v.sCount + 1 }) s

/-- R147: a sleep request that waits is sent in a slot at whose boundary R99 holds; a transmitter that is quiet wakes for it first. -/
def sleepPoll (p : PortId) (s : State) : State :=
  if s.ports[p].link.sleepWait.isSome && lpiOk s p then
    if s.ports[p].line.txLpi = .active then oweCtl p .sleepRequest (modLink p (fun l => { l with sleepWait := none }) s)
    else wakeRequest p s
  else s

/-- R147: the boundary after the drivers' last slot at level 0: they switch off. -/
def driverOff (p : PortId) (s : State) : State :=
  modLine p (fun l => { l with driver := if l.driver = .zero then .off else l.driver }) s

/-- The head of what is owed is a relink beacon. -/
def beaconOwed (q : Port) : Bool :=
  match q.line.owed with
  | .beacon _ _ :: _ => true
  | _ => false

/-- R170: the slot of port p whose symbol 0 leaves at `at_`; in phase S only IDLE (R122); a beacon before a relink. -/
def launch (p : PortId) (at_ : Nat) (s : State) : State :=
  let q := s.ports[p]
  if q.link.up && (etoonMode q).isSome then
    let s := sleepPoll p (boundary p s)
    if s.ports[p].line.txLpi = .active then putFirst p at_ (pfcCheck p (forClasses (fun c t => flushLosses p c t) s)) else putQuiet p s
  else if beaconOwed q then
    match q.line.owed with
    | k :: rest => putControl p k (modLine p (fun l => { l with owed := rest }) s)
    | [] => s
  else if slotsRun q then putIdle p (boundary p s)
  else driverOff p s

/-! ## Standard modes (R269, R275) -/

/-- R275: the correctionField of a PTP event message with a residence added, in 2^−4 ns. -/
def addResidence (bytes : List Byte) (o : Nat) (residence16 : Int) : Option (List Byte) :=
  let c := correctionOf bytes o
  let v := c + residence16
  if c = 2 ^ 63 - 1 ∨ 2 ^ 63 ≤ v ∨ v < -(2 ^ 63) then none else some (withCorrection bytes o v)

/-- What the transmit side makes of a frame: its bytes, the PtpCounters element it counts, and the residence added. -/
structure StdOut where
  bytes     : List Byte
  count     : Option Nat := none
  residence : Option Int := none

/-- R274, R275: what the transmit side does to a frame that leaves at `at_`. An update counts in element 0, Marked, as the MARK that governs it (the
model's choice, log entry 97). -/
def stdTransmit (f : StdFrame) (at_ : Nat) : StdOut :=
  match (if f.markOn && !f.errored then ptpEvent f.mask f.bytes else none) with
  | none => { bytes := f.bytes }
  | some o =>
    let wait := (at_ : Int) - f.at_
    if !fcsOk f.bytes then { bytes := f.bytes, count := some 2 }
    else match addResidence f.bytes o (wait * 4096) with
    | none => { bytes := f.bytes, count := some 3 }
    | some b => { bytes := b, count := some 0, residence := some wait }

/-- PtpCounters and LastResidence after a frame was counted and corrected (Table 10-4). -/
def notePtp (count : Option Nat) (residence : Option Int) (q : Ptp) : Ptp :=
  { q with counters := match count with | some i => bump i 1 q.counters | none => q.counters
           lastResidence := match residence with | some r => BitVec.ofInt 32 r | none => q.lastResidence }

/-- R269: the first whole frame, class 0 first, goes to the standard PCS; a driver that the sieve silences carries nothing (R219, R225). -/
def stdForward (p : PortId) (at_ : Nat) : List Cls → State → State
  | [], s => s
  | c :: rest, s =>
    match s.ports[p].tx[c].std with
    | [] => stdForward p at_ rest s
    | f :: more =>
      let r := stdTransmit f at_
      pfcCheck p (modPort p (fun q => { q with
        tx := q.tx.set c { q.tx[c] with std := more }
        line := { q.line with lastStd := if silenced q.sieve then none else some (c, r.bytes) }
        ptp := notePtp r.count r.residence q.ptp }) s)

/-! ## Commands -/

/-- R170, R269: a slot boundary; in a standard mode, the standard PCS takes its next frame. -/
def execLaunchSlot (p : PortId) (at_ : Nat) (s : State) : Host.Outcome State Fault Refusal :=
  .next (if inStd s.ports[p] then (if s.ports[p].link.up then stdForward p at_ (List.finRange 4) s else s) else launch p at_ s)

/-- R171: ReplayTimer slots have been launched since the shingle's last launch: it is due. -/
def execReplayTimer (p : PortId) (c : Cls) (seq : Seq) (s : State) : Host.Outcome State Fault Refusal :=
  .next (
    let q := s.ports[p]
    modTx p c (fun t => { t with launched := t.launched.map (fun e =>
      if e.seq = seq ∧ e.unsent = false ∧ e.lastLaunch + q.cfg.replayTimer ≤ q.line.launches then { e with due := true } else e) }) s)

/-- R169: a number still missing ReplayTimer slots after its last NAK is to be NAKed again. -/
def execNakRepeat (p : PortId) (c : Cls) (seq : Seq) (s : State) : Host.Outcome State Fault Refusal :=
  .next (
    let q := s.ports[p]
    wakeIfOwed p (modRx p c (fun r => { r with naked := r.naked.filter (fun k =>
      !(decide (k.1 = seq) && decide (k.2 + q.cfg.replayTimer ≤ q.line.launches))) }) s))

/-- R99, R100: every quiet condition holds: LPI_ENTRY goes out and quiet begins at the next boundary. -/
def execLpiEnter (p : PortId) (s : State) : Host.Outcome State Fault Refusal :=
  .next (if s.ports[p].line.txLpi = .active ∧ lpiOk s p then closeToQuiet p (putControl p .lpiEntry (boundary p s)) else s)

/-- R102: 2048 shingle times of quiet: a refresh of 16 IDLE shingles, unless a wake request is pending (Table 4-10). -/
def execLpiRefresh (p : PortId) (s : State) : Host.Outcome State Fault Refusal :=
  .next (if s.ports[p].line.txLpi = .quiet ∧ s.ports[p].line.wakeWanted = false
    then modLine p (fun l => { l with txLpi := .refresh 16 }) s else s)

end Sys2Proof.Machine
end

