-- ==== Sys2Proof/Machine/Receive.lean ====
section
/-! DEFINITION. Receive.lean: the receiver: slot outcomes (R96 to R98, R104, R144), acknowledgements (R167), sequencing and
the reorder buffer (R166, R177, R179), tags and losses (R178), and what control shingles bring about. -/

namespace Sys2Proof.Machine

/-! ## Taking a payload apart (R154, R155, R178) -/

/-- What taking one payload apart gives: the frame or body that goes on into the next payload, whether bytes are being
skipped, what is ready for the host, the bytes skipped, and whether a tag error ended it. -/
structure Parse where
  unfinished : Option Partial := none
  skipping   : Bool := false
  items      : List RxItem := []
  skipped    : Nat := 0
  err        : Bool := false

/-- What a payload's shingle says of it: class, number, PROVOKED, arrival instant and reorder slots. -/
structure PayInfo where
  cls   : Cls
  seq   : Seq
  prov  : Bool
  at_   : Nat
  slots : List Nat

/-- R178: a tag error: the rest of the payload and any unfinished frame are discarded; a PROVOKED flag received with them marks the loss
(R227). -/
def parseErr (x : PayInfo) (prov : Bool) (items : List RxItem) (bytes : Nat) : Parse :=
  { skipping := true, err := true
    items := items ++ [.loss { cause := .tagError, seqFirst := x.seq, seqCount := 1, bytes := bytes, unknown := true
                               estimated := true, provoked := x.prov || prov }] }

/-- R178: the loss of a loss body whose tag stands in the shingle numbered n. -/
def bodyLoss (n : Seq) (prov : Bool) (body : List Byte) : Option RxLoss :=
  let w0 := beVal (body.take 4)
  (lossBodyCause (w0 / 2 ^ 24)).map (fun cause =>
    { cause := cause, seqFirst := n, seqCount := 1, frames := w0 % 65536, bytes := beVal ((body.drop 4).take 4), provoked := prov })

/-- A frame handed to the re-framer. -/
def frameOf (bytes : List Byte) (errored prov : Bool) (ptp : Option (BitVec 32)) (arrived tagAt : Nat) (slots : List Nat) : RxFrame :=
  { bytes := bytes, errored := errored, provoked := prov, ptp := ptp, arrived := arrived, tagAt := tagAt, slots := slots }

/-- R154: the tags of a payload from an offset on, `fuel` tags at most. -/
def parseTags (x : PayInfo) : Nat → Nat → List Byte → List RxItem → Parse
  | 0, _, _, items => { items := items }
  | fuel + 1, off, bs, items =>
    if bs.length < 4 then { items := items }
    else
      let t := tagOf (beVal (bs.take 4))
      if !tagValid t || decide (t.cls ≠ x.cls) then parseErr x false items bs.length
      else if t.pad then { items := items }
      else if t.loss then
        let prov := x.prov || t.provoked
        if bs.length < 12 then
          { items := items, unfinished := some { lossBody := true, want := 8, got := bs.drop 4, provoked := prov, seq := x.seq, slots := x.slots } }
        else match bodyLoss x.seq prov ((bs.drop 4).take 8) with
        | none => parseErr x prov items bs.length
        | some l => parseTags x fuel (off + 12) (bs.drop 12) (items ++ [.loss l])
      else
        let head := if t.ptp then 8 else 4
        if bs.length < head then parseErr x t.provoked items bs.length
        else
          let ptp := if t.ptp then some (BitVec.ofNat 32 (beVal ((bs.drop 4).take 4))) else none
          let body := bs.drop head
          let prov := x.prov || t.provoked
          if body.length < t.length then
            { items := items
              unfinished := some { want := t.length, got := body, errored := t.errored, provoked := prov, ptp := ptp
                                   arrived := x.at_, tagAt := x.at_, seq := x.seq, slots := x.slots } }
          else
            let n := roundUp4 t.length
            parseTags x fuel (off + head + n) (body.drop n)
              (items ++ [.frame (frameOf (body.take t.length) t.errored prov ptp x.at_ x.at_ x.slots)])

/-- R155: the offset at which the first tag must begin, where `left` bytes of a frame or body continue. -/
def expectedTag (left : Nat) : Nat := if 256 ≤ roundUp4 left then 0x7F else roundUp4 left / 4

/-- R178: a data payload whose predecessor left a frame or body unfinished; where the predecessor held none of the frame's bytes, this
payload's shingle carries the first one (R191). A loss body bears the number of the shingle that holds its tag. -/
def parseCont (x : PayInfo) (u0 : Partial) (payload : List Byte) : Parse :=
  let u := if u0.got.isEmpty then { u0 with arrived := x.at_ } else u0
  let left := u.want - u.got.length
  if left ≤ 256 then
    let got := u.got ++ payload.take left
    let rest := payload.drop (roundUp4 left)
    if u.lossBody then
      match bodyLoss u.seq (u.provoked || x.prov) got with
      | none => parseErr x u.provoked [] 256
      | some l => parseTags x 64 (roundUp4 left) rest [.loss l]
    else parseTags x 64 (roundUp4 left) rest
      [.frame (frameOf got u.errored (u.provoked || x.prov) u.ptp u.arrived u.tagAt (u.slots ++ x.slots))]
  else { unfinished := some { u with got := u.got ++ payload, provoked := u.provoked || x.prov, slots := u.slots ++ x.slots } }

/-- R178: a gap shingle: one loss, to which the unfinished frame is added. A loss body left unfinished ahead of it, or ahead of a tag error, is
dropped with no entry of its own (the model's choice, log entry 95). -/
def parseGap (x : PayInfo) (u : Option Partial) (payload : List Byte) : Parse :=
  let t := tagOf (beVal (payload.take 4))
  let n := unfinishedBytes u
  let prov := unfinishedMark u
  if tagValid t && t.loss && decide (t.cls = x.cls) then
    match bodyLoss x.seq (x.prov || t.provoked || prov) ((payload.drop 4).take 8) with
    | none => parseErr x prov [] (256 + n)
    | some l => { skipping := true, items := [.loss { l with frames := l.frames + (unfinishedFrame u).isSome.toNat, bytes := l.bytes + n }] }
  else parseErr x prov [] (256 + n)

/-- R178: one payload taken in sequence order. -/
def parsePayload (x : PayInfo) (h : ShHdr) (u : Option Partial) (skipping : Bool) (payload : List Byte) : Parse :=
  let f := h.firstTag.toNat
  if h.gap then parseGap x u payload
  else if 0x40 ≤ f ∧ f ≤ 0x7E then parseErr x (unfinishedMark u) [] (256 + unfinishedBytes u)
  else if skipping then
    if f = 0x7F then { skipping := true, skipped := 256 }
    else { parseTags x 64 (4 * f) (payload.drop (4 * f)) [] with skipped := 4 * f }
  else
    match u with
    | none => if f = 0 then parseTags x 64 0 payload [] else parseErr x false [] 256
    | some w =>
      if f = expectedTag (w.want - w.got.length) then parseCont x w payload
      else parseErr x w.provoked [] (256 + unfinishedBytes u)

/-! ## The reorder buffer (R179) -/

/-- Slots that classes 1 to 3 use of the 1908 they share. -/
def reorderShared (q : Port) : Nat :=
  ((List.finRange 4).filter (fun c => decide (c ≠ 0))).foldl (fun a c =>
    a + q.rx[c].held.length + (q.rx[c].taken.length - q.rx[c].own.length)) 0

/-- A buffered shingle of class c finds a slot. -/
def reorderRoom (q : Port) (c : Cls) : Bool :=
  if c = 0 then decide (q.rx[0].held.length + q.rx[0].taken.length < 128) else decide (reorderShared q < slotsOf .reorder - 128 - 12)

/-- Reorder slots whose payload still has a frame waiting. -/
def usedSlots (r : RxCls) : List Nat :=
  r.ready.flatMap (fun i => match i with | .frame f => f.slots | .loss _ => [])
  ++ (match r.unfinished with | some u => u.slots | none => [])

/-- R179: slots are freed once every frame in them has begun its delivery or been discarded. -/
def freeSlots (r : RxCls) : RxCls :=
  let used := usedSlots r
  { r with taken := r.taken.filter (fun i => used.contains i), own := r.own.filter (fun i => used.contains i) }

/-- Skipped bytes are added to the last loss that waits. -/
def addToLastLoss (n : Nat) (items : List RxItem) : List RxItem :=
  match items with
  | [] => []
  | .loss l :: rest =>
    if rest.any (fun i => match i with | .loss _ => true | .frame _ => false) then .loss l :: addToLastLoss n rest
    else .loss { l with bytes := l.bytes + n } :: rest
  | .frame f :: rest => .frame f :: addToLastLoss n rest

/-- Frames among items. -/
def frameCount (items : List RxItem) : Nat := (items.filter (fun i => match i with | .frame _ => true | .loss _ => false)).length

/-- R177, R179: the frames of an in-order class 0 shingle can all pass on toward the host at once: the lane is up and free, none waits
ahead, and the shingle ends one frame at most and leaves none unfinished. -/
def passesAtOnce (q : Port) (h : HeldSh) : Bool :=
  let y := parsePayload { cls := 0, seq := h.seq, prov := h.hdr.provoked, at_ := h.at_, slots := [] } h.hdr q.rx[0].unfinished
    q.rx[0].skipping h.payload
  q.host.up && q.host.busy.isNone && q.rx[0].ready.isEmpty && decide (frameCount y.items ≤ 1) && (unfinishedFrame y.unfinished).isNone

/-- R178: a payload of class c is taken in order, held in the reorder slots named. -/
def takePayload (p : PortId) (c : Cls) (h : HeldSh) (slots : List Nat) (own : Bool) (s : State) : State :=
  let r := s.ports[p].rx[c]
  let x : PayInfo := { cls := c, seq := h.seq, prov := h.hdr.provoked, at_ := h.at_, slots := slots }
  let y := parsePayload x h.hdr r.unfinished r.skipping h.payload
  let s := if 0 < y.skipped ∧ r.skipEntry ≠ 0 then ledgerMore p c r.skipEntry y.skipped s else s
  let now := s.ports[p].line.launches
  let s := modRx p c (fun r => freeSlots { r with
    next := h.seq + 1
    later := r.later.filter (fun n => decide ((n - (h.seq + 1)).toNat < 4096))
    changedAt := r.changedAt <|> some now
    unfinished := y.unfinished
    ready := (if 0 < y.skipped ∧ r.skipEntry = 0 then addToLastLoss y.skipped r.ready else r.ready) ++ y.items
    skipping := y.skipping
    skipEntry := if y.err || h.hdr.gap then 0 else r.skipEntry
    taken := r.taken ++ slots
    own := if own then r.own ++ slots else r.own }) s
  modCnt p (fun n => { n with framesOut := bump64 c.val (frameCount y.items) n.framesOut
                              tagErrors := if y.err then sat32 (n.tagErrors + 1) else n.tagErrors }) s

/-- A fresh identifier of a reorder slot. -/
def freshSlot (p : PortId) (s : State) : Nat × State :=
  (s.ports[p].slotId, modPort p (fun q => { q with slotId := q.slotId + 1 }) s)

/-- R166: buffered successors of the shingle just taken, at most `fuel` of them. -/
def takeHeld (p : PortId) (c : Cls) : Nat → State → State
  | 0, s => s
  | fuel + 1, s =>
    let r := s.ports[p].rx[c]
    match r.held.find? (fun h => decide (h.seq = r.next)) with
    | none => s
    | some h =>
      let i := freshSlot p s
      takeHeld p c fuel (takePayload p c h [i.1] false
        (modRx p c (fun r => { r with held := r.held.filter (fun g => decide (g.seq ≠ h.seq)) }) i.2))

/-- R169: numbers that are no longer missing leave the NAK bookkeeping. -/
def pruneNaked (r : RxCls) : RxCls := let m := missingSeqs r; { r with naked := r.naked.filter (fun k => m.contains k.1) }

/-- R166: an in-order shingle is taken with its buffered successors. -/
def takeInOrder (p : PortId) (c : Cls) (h : HeldSh) (slots : List Nat) (own : Bool) (s : State) : State :=
  let t := takePayload p c h slots own s
  modRx p c pruneNaked (takeHeld p c t.ports[p].rx[c].held.length t)

/-- R169: the highest number decoded beyond next expected, once n is decoded. -/
def laterSeq (r : RxCls) (n : Seq) : Option Seq :=
  match r.later with
  | some m => if (m - r.next).toNat < (n - r.next).toNat then some n else some m
  | none => some n

/-- R166, R179: a data shingle of class c by its distance from next expected; the class's next expected shingle takes a shared slot, and
one of those held back where none is free (log entry 26). -/
def sequence (p : PortId) (c : Cls) (h : HeldSh) (s : State) : State :=
  let q := s.ports[p]
  let r := q.rx[c]
  let d := (h.seq - r.next).toNat
  let discard := modCnt p (fun n => { n with reorderDiscards := sat32 (n.reorderDiscards + 1) }) s
  let duplicate := modCnt p (fun n => { n with duplicates := bump c.val 1 n.duplicates }) s
  if d = 0 then
    if c = 0 ∧ passesAtOnce q h then takeInOrder p c h [] false s
    else if reorderRoom q c then let i := freshSlot p s; takeInOrder p c h [i.1] false i.2
    else if c ≠ 0 ∧ r.own.length < 4 then let i := freshSlot p s; takeInOrder p c h [i.1] true i.2
    else discard
  else if d < 4096 then
    if r.held.any (fun g => decide (g.seq = h.seq)) then duplicate
    else
      let note := modRx p c (fun r => { r with later := laterSeq r h.seq })
      if reorderRoom q c then note (modRx p c (fun r => { r with held := r.held ++ [h] }) s) else note discard
  else if 12288 ≤ d then duplicate
  else modCnt p (fun n => { n with outOfWindow := sat32 (n.outOfWindow + 1) }) s

/-! ## Acknowledgements (R167) -/

/-- R167: an acknowledgement value for class c: the shingles before it are freed, or it is ignored and counted. -/
def acceptAck (p : PortId) (c : Cls) (a : Seq) (s : State) : State :=
  let t := s.ports[p].tx[c]
  let o := match t.launched with | e :: _ => e.seq | [] => t.next
  if (a - o).toNat ≤ (t.next - o).toNat then
    grantOwed p c (modTx p c (fun t => { t with launched := t.launched.filter (fun e => !decide ((e.seq - o).toNat < (a - o).toNat)) }) s)
  else modCnt p (fun n => { n with ackInvalid := sat32 (n.ackInvalid + 1) }) s

/-- R161: the ack block of a control shingle, class 0 first. -/
def acceptBlock (p : PortId) (a : AckBlock) (s : State) : State :=
  pfcCheck p (forClasses (fun c t => acceptAck p c (ackFor a c) t) s)

/-! ## Slot outcomes -/

/-- The receiver of port p collects slots: an Etoon mode, up or in phase S, or still in the phase before it while the partner has gone on
to its slot 0 (R87, R122). -/
def collects (q : Port) : Bool :=
  slotsRun q || ((etoonMode q).isSome && !q.link.up && !q.link.choosing && (decide (q.link.phase = .x) || decide (q.link.phase = .f)))

/-- The receiver of port p decodes slots. -/
def receiving (q : Port) : Bool := collects q && !inputCut q

/-- The wake window after one more slot (R104): a refresh ends it with its 16th, a wake with the 4th. -/
def wakeStep (quiet : Bool) (w : Option Nat) : Option Nat :=
  match w with
  | none => none
  | some n => if (if quiet then 15 else 3) ≤ n then none else some (n + 1)

/-- R122: the first slot collected in an attempt is the partner's slot 0; later ones follow. -/
def nextRxSlot (q : Port) : Nat := if slotsRun q || q.train.rxStarted then q.line.rxSlot + 1 else 1

/-- R104, R144: the slot being received is exempt from the link-fail count. -/
def slotExempt (l : Line) : Bool :=
  decide (0 < l.epochExempt) || (match l.wakeWindow with | some n => decide (n < 4) | none => false)

/-- R96, R98: the counters of a codeword that passed every test. -/
def countGood (corr : Fin 9) (n : Counters) : Counters :=
  { n with received := sat64 (n.received + 1), corrected := sat64 (n.corrected + corr.val), histogram := bump corr.val 1 n.histogram }

/-- R96, R98: a slot that passed every test, with its correction count. -/
def slotGood (p : PortId) (corr : Fin 9) (s : State) : State :=
  let t := modPort p (fun q => { q with
    cnt := countGood corr q.cnt
    line := { q.line with
      rxSlot := nextRxSlot q, badRun := 0, epochExempt := q.line.epochExempt - 1
      wakeWindow := wakeStep q.line.partnerQuiet q.line.wakeWindow, wakeDecoded := true }
    train := { q.train with rxStarted := true, goodRun := q.train.goodRun + 1, synced := q.train.synced || decide (64 ≤ q.train.goodRun + 1) }
    sig := { q.sig with skip := q.sig.skip || slotExempt q.line } }) s
  noteDecode p (decide (6 < corr.val)) t

/-- R96, R98: the counters of an uncorrectable slot. -/
def countBad (r : UncReason) (n : Counters) : Counters :=
  let dec := fun (corr : Fin 9) (n : Counters) =>
    { n with histogram := bump corr.val 1 n.histogram, corrected := sat64 (n.corrected + corr.val) }
  match r with
  | .rsFail => { n with rsFailures := sat32 (n.rsFailures + 1) }
  | .lockLost => { n with rsFailures := sat32 (n.rsFailures + 1) }
  | .escape corr => { dec corr n with escapes := sat32 (n.escapes + 1) }
  | .unassigned corr => { dec corr n with escapes := sat32 (n.escapes + 1) }
  | .crc corr => { dec corr n with crcFailures := sat32 (n.crcFailures + 1) }

/-- R65: the RS decoder found the shingle uncorrectable, or corrected more than 6 trytes in it. A slot that ends with lock lost counts as
uncorrectable here; the codeword that a loss of lock cuts on a port that was up discards nothing, adaptation having stopped (the model's
choice, log entry 93). -/
def rsBad : UncReason → Bool
  | .rsFail => true
  | .lockLost => true
  | .escape corr => decide (6 < corr.val)
  | .unassigned corr => decide (6 < corr.val)
  | .crc corr => decide (6 < corr.val)

/-- R96, R97, R127: an uncorrectable slot; the 8th in a row that is not exempt takes the link down. -/
def slotBad (p : PortId) (r : UncReason) (s : State) : State :=
  let exempt := slotExempt s.ports[p].line
  let t := modPort p (fun q => { q with
    cnt := let n := countBad r q.cnt; if exempt then { n with exempt := sat32 (n.exempt + 1) } else n
    line := { q.line with
      rxSlot := nextRxSlot q, badRun := if exempt then q.line.badRun else q.line.badRun + 1
      bad100 := q.line.bad100 + 1, epochExempt := q.line.epochExempt - 1
      wakeWindow := wakeStep q.line.partnerQuiet q.line.wakeWindow }
    train := { q.train with rxStarted := true, goodRun := 0 }
    dsp := { q.dsp with winClean := false }
    sig := { q.sig with skip := true } }) s
  let t := noteDecode p (rsBad r) t
  if 8 ≤ t.ports[p].line.badRun ∧ t.ports[p].link.up then declareDown p .uncorrectableRun t else t

/-- The partner is heard again: it is no longer quiet; the first 4 slots after its quiet period stay exempt (R104). -/
def partnerAwake (p : PortId) (s : State) : State :=
  modLine p (fun l => { l with partnerQuiet := false, wakeWindow := match l.wakeWindow with | some n => if n < 4 then some n else none | none => none }) s

/-! ## Link up (R122) -/

/-- R122: link up on an Etoon port: by how it was reached. -/
def howUp (l : Link) : HowUp :=
  match l.relink with
  | some .fast => .fastRelink
  | some .full => .fullRetrain
  | _ => .fullTraining

/-- Table 13-4: the code of `how` in LINK_UP. -/
def howCode : HowUp → Nat
  | .fullTraining => 1
  | .fastRelink => 2
  | .fullRetrain => 3
  | .standard => 4

/-- R122, R132, R169, R211: the port comes up in a phase. -/
def linkUp (p : PortId) (ph : Phase) (how : HowUp) (s : State) : State :=
  let t := modPort p (fun q => { q with
    link := { q.link with
      phase := ph, up := true, lastUp := s.aon.tally, episode := none, fastFailed := false, relink := none, choosing := false
      wantFull := false, fullBeacon := false, cap := none, noCommonMode := false, failMode := none, failCount := 0
      lastMode := q.link.mode <|> q.link.lastMode }
    rx := q.rx.map (fun r => { r with naked := [] })
    line := { q.line with badRun := 0 }
    dsp := { q.dsp with winWhole := false, winClean := true, winLocked := q.dsp.locked, snapSinceUp := false }
    sig := { q.sig with interrupted := false, skip := true, wasUp := q.sig.wasUp || (etoonMode q).isSome } }) s
  raise (bayEv p 0x0001 1 [portByte p (inEpisode t p), BitVec.ofNat 8 (modeCode t.ports[p].link.mode), BitVec.ofNat 8 (howCode how)]) t

/-- R122: the receiver is synced and has decoded IDLE with SYNCED set. -/
def checkLinkUp (p : PortId) (s : State) : State :=
  let q := s.ports[p]
  if q.link.phase = .s ∧ q.link.up = false ∧ q.train.synced ∧ q.train.partnerSynced ∧ q.dsp.locked ∧ portClocked s p
  then linkUp p .up (howUp q.link) s else s

/-- R122, R225: a slot of the partner's, after which the link may come up; with the receiver's input cut, it cannot decode and is
uncorrectable. -/
def onSlot (p : PortId) (f : State → State) (s : State) : State :=
  if !collects s.ports[p] then s else if inputCut s.ports[p] then slotBad p .rsFail s else checkLinkUp p (f s)

/-! ## Commands: slots -/

/-- R96, R166, R167: a received data shingle. -/
def execDataShingle (p : PortId) (h : ShHdr) (payload : List Byte) (corr : Fin 9) (at_ : Nat) (s : State) :
    Host.Outcome State Fault Refusal :=
  .next (onSlot p (fun s =>
      let t := partnerAwake p (slotGood p corr s)
      let t := pfcCheck p (acceptAck p h.ackClass h.ackNext t)
      wakeIfOwed p (sequence p h.cls { seq := h.seq, hdr := h, payload := (payload ++ List.replicate 256 0).take 256, at_ := at_ } t)) s)

/-- R96, R104: an uncorrectable slot; while the partner is quiet and no energy was detected there is no slot to collect. The codeword that
a loss of lock on an up port cut is already counted. -/
def execUncorrectableSlot (p : PortId) (r : UncReason) (s : State) : Host.Outcome State Fault Refusal :=
  .next (if collects s.ports[p] ∧ partnerSilent s.ports[p] = false then slotBad p r s else s)

/-- A control shingle that passed every test: its slot counted and its ack block applied. -/
def controlIn (p : PortId) (a : AckBlock) (corr : Fin 9) (s : State) : State := acceptBlock p a (slotGood p corr s)

/-- What a control shingle brings about, where the receiver collects slots. -/
def onControl (p : PortId) (a : AckBlock) (corr : Fin 9) (f : State → State) (s : State) : State :=
  onSlot p (fun t => f (controlIn p a corr t)) s

/-- R122: IDLE: its ack block, and its SYNCED indication. -/
def execIdle (p : PortId) (synced : Bool) (a : AckBlock) (corr : Fin 9) (s : State) : Host.Outcome State Fault Refusal :=
  .next (onControl p a corr (modTrain p (fun x => { x with partnerSynced := x.partnerSynced || synced })) s)

/-- R171: the shingle is named by a NAK and may be replayed again. -/
def nakDue (now : Nat) (e : LaunchedSh) : Bool :=
  !e.unsent && (match e.lastReplay with | none => true | some r => decide (r + 16 ≤ now))

/-- R171, R427: one entry of a NAK; numbers that are not launched and unacknowledged are ignored. -/
def applyNak (p : PortId) (s : State) (n : Cls × Seq × Nat) : State :=
  let now := s.ports[p].line.launches
  modTx p n.1 (fun t => { t with launched := t.launched.map (fun e =>
    if (e.seq - n.2.1).toNat < n.2.2 ∧ nakDue now e then { e with due := true } else e) }) s

/-- R164, R171: NAK: the ack block first, then the entries. -/
def execNak (p : PortId) (a : AckBlock) (body : List Byte) (corr : Fin 9) (s : State) : Host.Outcome State Fault Refusal :=
  .next (onControl p a corr (fun t => wakeIfOwed p ((nakEntries body).foldl (applyNak p) (partnerAwake p t))) s)

/-- R100, R104, R277: the partner is quiet from its next boundary. -/
def partnerQuiets (p : PortId) (s : State) : State :=
  modPort p (fun q => { q with
    line := { q.line with partnerQuiet := true, wakeWindow := none, wakeDecoded := false }
    host := { q.host with mirrorOver := false } }) s

/-- R100, R104: LPI_ENTRY: the partner is quiet from its next boundary. -/
def execLpiEntry (p : PortId) (a : AckBlock) (corr : Fin 9) (s : State) : Host.Outcome State Fault Refusal :=
  .next (onControl p a corr (partnerQuiets p) s)

/-- R103: LPI_EXIT: the partner's quiet period is over. -/
def execLpiExit (p : PortId) (a : AckBlock) (corr : Fin 9) (s : State) : Host.Outcome State Fault Refusal :=
  .next (onControl p a corr (fun t => wakeIfOwed p (partnerAwake p t)) s)

/-- R146, R147: this end can sleep: TC10 is enabled and R99 holds. -/
def sleepOk (s : State) (p : PortId) : Bool := s.ports[p].link.linkPolicy.getLsbD 2 && lpiOk s p

/-- R146: the port runs 1000BASE-T1, where TC10 sleeps as it publishes. -/
def tc10Std (q : Port) : Bool := q.link.up && decide (q.link.mode = some (.std .b1g)) && q.link.linkPolicy.getLsbD 2

/-- R146, R225: what a TC10 command of the partner's in 1000BASE-T1 brings about; nothing arrives while the sieve cuts the input. -/
def onTc10 (p : PortId) (f : State → State) (s : State) : State := if inputCut s.ports[p] then s else f s

/-- R146, R147: SLEEP_REQUEST is answered with SLEEP_ACK, or with SLEEP_REJECT where R99 does not hold here; in 1000BASE-T1 TC10's request
is acknowledged and the port sleeps. -/
def execSleepRequest (p : PortId) (a : AckBlock) (corr : Fin 9) (s : State) : Host.Outcome State Fault Refusal :=
  .next (if tc10Std s.ports[p] then onTc10 p (fallAsleep p) s
    else onControl p a corr (fun t =>
    let t := partnerQuiets p t
    if !t.ports[p].link.up then t
    else oweCtl p (if sleepOk t p then .sleepAck else .sleepReject) (wakeRequest p t)) s)

/-- R146, R147: SLEEP_ACK, or TC10's acknowledgement in 1000BASE-T1, of this end's request: the link goes down with cause SLEEP. -/
def execSleepAck (p : PortId) (a : AckBlock) (corr : Fin 9) (s : State) : Host.Outcome State Fault Refusal :=
  .next (if tc10Std s.ports[p] then onTc10 p (fun t => if t.ports[p].link.sleepSent then fallAsleep p t else t) s
    else onControl p a corr (fun t => if t.ports[p].link.sleepSent then fallAsleep p t else t) s)

/-- R147: SLEEP_REJECT ends the handshake with the link up. -/
def execSleepReject (p : PortId) (a : AckBlock) (corr : Fin 9) (s : State) : Host.Outcome State Fault Refusal :=
  .next (
    let drop := modLink p (fun l => { l with sleepSent := false, sleepWait := none })
    if tc10Std s.ports[p] then onTc10 p drop s else onControl p a corr drop s)

/-- R129, R131: a beacon decoded in phase S of full training or of a full retrain: the partner has left, and this end begins the full retrain
it names, or chooses by Table 5-6, sending FULL beacons where a fast relink is forbidden. -/
def beaconInS (p : PortId) (full : Bool) (m : EMode) (s : State) : State :=
  if full then restartFull p false s
  else if fastAllowed s.ports[p] m && !s.ports[p].link.bySecondRow && !episodeOver s p && decide (capped s.ports[p] m = m) then beginFast p s
  else restartFull p true s

/-- R129, R131, Table 5-15: a beacon decoded after the own relink was chosen: FULL ends a fast relink for a full retrain; a lower mode is
taken over, in a fast relink only where it has a snapshot. -/
def beaconLate (p : PortId) (full : Bool) (m : EMode) (s : State) : State :=
  let l := s.ports[p].link
  match etoonMode s.ports[p] with
  | none => s
  | some cur =>
    let low := lowerMode cur m
    let t := if low = cur then s else pfcCheck p (gapAbandoned s (modLink p (fun l => { l with mode := some (.etoon low) }) s))
    if l.relink = some .fast then
      (if full then fastGivesWay p false t
      else if low = cur then s
      else if hasSnapshot s.ports[p] low then beginFast p t else restartFull p false t)
    else if l.phase = .s then beaconInS p full low t
    else if l.relink = some .full ∧ low ≠ cur then restartFull p false t
    else s

/-- R129: a relink beacon: link down at once, or what it adds to a link down already declared or a relink under way (Table 5-15). -/
def beaconIn (p : PortId) (full : Bool) (m : EMode) (s : State) : State :=
  let note := modLink p (fun l => { l with fullBeacon := l.fullBeacon || full, beaconMode := some m })
  if s.ports[p].link.up then note (declareDown p (if full then .beaconFull else .beaconFast) s)
  else if s.ports[p].link.choosing then note s
  else beaconLate p full m s

/-- The port trains or relinks, so its correlator expects the partner; so it does while R126 has it send its sequence out of phase S. -/
def awaiting (q : Port) : Bool :=
  !q.link.up && (match q.link.phase with
    | .q => true
    | .e1 => true
    | .e2 => true
    | .a => true
    | .x => true
    | .f => true
    | .s => decide (0 < q.train.restartAfter)
    | _ => false)

/-- A beacon reaches a port whose slots are collected, or one that decodes it as slot 0 of a relink (R128): counted (R96) and its ack block
applied (R161); nothing is decoded while the sieve cuts the input. -/
def onBeacon (p : PortId) (full : Bool) (m : EMode) (a : AckBlock) (corr : Fin 9) (s : State) : State :=
  if slotsRun s.ports[p] then onSlot p (fun t => beaconIn p full m (controlIn p a corr t)) s
  else if (etoonMode s.ports[p]).isNone || inputCut s.ports[p] || !(awaiting s.ports[p] || s.ports[p].link.choosing) then s
  else beaconIn p full m (acceptBlock p a (modCnt p (countGood corr) s))

/-- R129: a FAST beacon. -/
def execBeaconFast (p : PortId) (m : EMode) (a : AckBlock) (corr : Fin 9) (s : State) : Host.Outcome State Fault Refusal :=
  .next (onBeacon p false m a corr s)

/-- R129: a FULL beacon. -/
def execBeaconFull (p : PortId) (m : EMode) (a : AckBlock) (corr : Fin 9) (s : State) : Host.Outcome State Fault Refusal :=
  .next (onBeacon p true m a corr s)

/-- R142, R163: REQUEST. -/
def execRequest (p : PortId) (m : EMode) (ep : Byte) (a : AckBlock) (corr : Fin 9) (s : State) : Host.Outcome State Fault Refusal :=
  .next (onControl p a corr (fun t => mcRequested p m ep (partnerAwake p t)) s)

/-- R143: ACCEPT. -/
def execAccept (p : PortId) (m : EMode) (ep : Byte) (a : AckBlock) (corr : Fin 9) (s : State) : Host.Outcome State Fault Refusal :=
  .next (onControl p a corr (fun t => mcAccepted p m ep (partnerAwake p t)) s)

/-- R141: REFUSE. -/
def execRefuse (p : PortId) (_r : RefuseReason) (ep : Byte) (a : AckBlock) (corr : Fin 9) (s : State) :
    Host.Outcome State Fault Refusal :=
  .next (onControl p a corr (fun t => mcRefused p ep (partnerAwake p t)) s)

/-- R143: MARK(k), k from 1 to 8 given as 0 to 7. -/
def execMark (p : PortId) (k : Fin 8) (ep : Byte) (a : AckBlock) (corr : Fin 9) (s : State) : Host.Outcome State Fault Refusal :=
  .next (onControl p a corr (fun t => mcMark p (k.val + 1) ep (partnerAwake p t)) s)

/-! ## Commands: quiet and lock -/

/-- R104: energy on a quiet line opens the exempt window of 4 slots. -/
def execEnergyDetect (p : PortId) (s : State) : Host.Outcome State Fault Refusal :=
  .next (if s.ports[p].line.partnerQuiet then
    modLine p (fun l => { l with wakeWindow := some 0, wakeDecoded := false, wakeSlot := l.rxSlot }) s else s)

/-- R277: MIRROR signals LPI on HTXn while the partner's direction is quiet, until something is owed to the host. -/
def htxLpi (q : Port) : Bool :=
  !q.host.mirrorOver && q.host.lpiPolicy.getLsbD 2 && q.link.up && q.line.partnerQuiet && q.line.wakeWindow.isNone && q.sealing.notices.isEmpty
  && q.sealing.frames.isEmpty && q.host.pfcOwed.isEmpty && decide (q.host.active ≠ some .x1000)

/-- R104: the energy fell away within 4 slots with nothing decoded. -/
def execLpiFalseWake (p : PortId) (s : State) : Host.Outcome State Fault Refusal :=
  .next (
    let l := s.ports[p].line
    if l.partnerQuiet ∧ l.wakeDecoded = false ∧ l.wakeWindow.isSome ∧ l.wakeWindow.getD 0 ≤ 4 then
      modPort p (fun q => { q with cnt := { q.cnt with falseWakes := sat32 (q.cnt.falseWakes + 1) }
                                   line := { q.line with wakeWindow := none, rxSlot := q.line.wakeSlot } }) s
    else s)

/-- R43: LOCKED clears, adaptation stops, and the loop does not track beyond the range of R42. -/
def unlock (d : Dsp) : Dsp :=
  { d with locked := false, adapting := false, winLocked := false, loopInteg := freqHeld d, chain := { d.chain with outside := 0 } }

/-- R104: no energy by 2050 shingle times: lock is lost and the link goes down (R127). -/
def execLpiRefreshMissed (p : PortId) (s : State) : Host.Outcome State Fault Refusal :=
  .next (
    let l := s.ports[p].line
    if l.partnerQuiet ∧ l.wakeWindow.isNone then
      declareDown p .refreshMissed (modPort p (fun q => { q with
        cnt := { q.cnt with refreshMissed := sat32 (q.cnt.refreshMissed + 1) }
        dsp := unlock q.dsp }) s)
    else s)

/-- R96, Table 4-10: the codeword being collected as lock is lost on an up port is uncorrectable and counted; it cannot count toward the
link-fail criterion any more. -/
def codewordCut (p : PortId) (s : State) : State :=
  if s.ports[p].link.up && collects s.ports[p] && !partnerSilent s.ports[p] then
    modPort p (fun q => { q with
      cnt := let n := countBad .lockLost q.cnt; if slotExempt q.line then { n with exempt := sat32 (n.exempt + 1) } else n
      line := { q.line with rxSlot := nextRxSlot q, bad100 := q.line.bad100 + 1 } }) s
  else s

/-- R43, R127: lock is lost; on a port that is up, the link goes down. -/
def loseLock (p : PortId) (c : LockCriterion) (s : State) : State :=
  let t := modSig p (fun v => { v with skip := true }) (modDsp p unlock (codewordCut p s))
  declareDown p (match c with | .frequency => .lockFrequency | .snr => .lockSnr) t

/-- R43: a criterion by which lock is lost holds: 64 blocks in a row with the frequency estimate outside its range, or less than 17.8 dB over
4096 symbols in which the partner is meant to transmit. -/
def lockFails (q : Port) : LockCriterion → Bool
  | .frequency => decide (64 ≤ q.dsp.chain.outside)
  | .snr => !snrSuspended q && decide (4096 ≤ q.dsp.chain.meas.length) && !snrLocks q.dsp

/-- R43: lock is lost where the criterion holds; this command is the moment at which a bay acts on it. -/
def execLockLoss (p : PortId) (c : LockCriterion) (s : State) : Host.Outcome State Fault Refusal :=
  .next (if (etoonMode s.ports[p]).isSome ∧ lockFails s.ports[p] c then loseLock p c s else s)

/-! ## Losses toward the host (R178) -/

/-- R178: the loss at the head of what waits toward the host passes: its ledger entry and its gap leaf. -/
def passLoss (p : PortId) (c : Cls) (s : State) : State :=
  match s.ports[p].rx[c].ready with
  | .loss l0 :: rest =>
    let l := { l0 with provoked := l0.provoked || inEpisode s p }
    let last := !rest.any (fun i => match i with | .loss _ => true | .frame _ => false)
    let t := ledgerAdd p true c l s.aon.tally s
    let n := (ledgerPart t p true).newest
    gapLeaf p c l n (modRx p c (fun r => { r with
      ready := rest, skipEntry := if r.skipping && decide (r.skipEntry = 0) && last then n else r.skipEntry }) t)
  | _ => s

/-- Losses that stand at the head of one class pass, at most `fuel` of them. -/
def passLosses (p : PortId) (c : Cls) : Nat → State → State
  | 0, s => s
  | fuel + 1, s =>
    match s.ports[p].rx[c].ready with
    | .loss _ :: _ => passLosses p c fuel (passLoss p c s)
    | _ => s

/-- R178: a loss reaches its point in delivery order. -/
def execLossPasses (p : PortId) (c : Cls) (s : State) : Host.Outcome State Fault Refusal := .next (passLoss p c s)

end Sys2Proof.Machine
end

