-- ==== Sys2Proof/Machine/Signature.lean ====
section
/-! DEFINITION. Signature.lean: the cable signature of chapter 09 (R232 to R247): the comparison and its judgement, references,
captures and re-baselining. The arithmetic of samples, fit and segment levels stands in Echo.lean. -/

namespace Sys2Proof.Machine

/-! ## References (R244, R247) -/

/-- R23, R247: a copy checks: no word holds more wrong bits than the code corrects; where a word with four or more decodes wrongly, the
digest fails. -/
def copyOk (errs : List Nat) : Bool := errs.all (fun n => decide (n ≤ 2))

/-- R247: the reference in use: the active copy, or the other where the active one fails its check. -/
def refOf (r : RefCopies) : Option SigBlock :=
  if copyOk r.activeErrs then r.active else if copyOk r.otherErrs then r.other else none

/-- R232, R247: the bandwidth in MHz of the source of a signature. -/
def blockBandwidth (b : SigBlock) : Nat := if b.slot = .probe ∨ b.mode = 3 then 1800 else 4500

/-- R247: a slot whose copies both fail. -/
def refLost (r : RefCopies) : Bool := r.active.isSome && (refOf r).isNone

/-- The reference slot of a port. -/
def refSlot (g : Sig) : RefSlot → RefCopies
  | .line => g.lineRef
  | .probe => g.probeRef

/-- A reference slot replaced. -/
def setRefSlot (k : RefSlot) (r : RefCopies) (g : Sig) : Sig :=
  match k with
  | .line => { g with lineRef := r }
  | .probe => { g with probeRef := r }

/-- Codes of the two slots (Tables 9-5, 13-4). -/
def slotCode : RefSlot → Nat
  | .line => 1
  | .probe => 2

/-- R247: the copies of both references as a reading meets them. -/
def readRefs (m : RefErrors) (g : Sig) : Sig :=
  { g with
    lineRef := { g.lineRef with activeErrs := m.lineActive, otherErrs := m.lineOther }
    probeRef := { g.probeRef with activeErrs := m.probeActive, otherErrs := m.probeOther } }

/-- R247: a slot both of whose copies fail is empty, and REFERENCE_LOST is raised. -/
def dropLost (p : PortId) (k : RefSlot) (s : State) : State :=
  if refLost (refSlot s.ports[p].sig k) then
    raise (bayEv p 0x000E 7 [BitVec.ofNat 8 p.val, BitVec.ofNat 8 (slotCode k)]) (modSig p (setRefSlot k {}) s)
  else s

/-- Both slots of a port checked. -/
def checkRefs (p : PortId) (s : State) : State := dropLost p .probe (dropLost p .line s)

/-- Bytes 64 to 16 447 of a signature block. -/
def sampleBytes (b : SigBlock) : List Byte := b.samples.flatMap (leInt 4)

/-- Table 9-5: the signature block. -/
def blockBytes (b : SigBlock) : List Byte :=
  let body := sampleBytes b
  [BitVec.ofNat 8 (slotCode b.slot), b.mode] ++ leBytes 2 b.last ++ leInt 2 b.tRef ++ [0, 0] ++ leBytes 8 b.tally ++ leBytes 8 b.civil
  ++ leBytes 4 b.scale ++ [0, 0, 0, 0] ++ sha256 body ++ body

/-- RebaselinesLeft (0x3n50:0D). -/
def rebaselinesLeft (s : State) : Nat := freshCells s.fus.rebase

/-! ## Activity (Table 9-3) -/

/-- Activity (0x3n50:01). -/
def sigActivity (q : Port) : SigActivity :=
  if (refOf q.sig.lineRef).isNone then .noReference
  else if !q.link.up then .suspendedDown
  else match q.link.mode with
    | some (.std _) => .suspendedStandard
    | _ => if q.sig.interrupted then .suspendedInterrupt else if !q.dsp.snapSinceUp then .warming else .active

/-- Code of Activity. -/
def activityCode : SigActivity → Nat
  | .active => 0
  | .suspendedDown => 1
  | .suspendedStandard => 2
  | .suspendedInterrupt => 3
  | .warming => 4
  | .noReference => 5

/-- Code of Level. -/
def sigLevelCode : SigLevel → Nat
  | .normal => 0
  | .anomaly => 1
  | .tamper => 2

/-- Code of an outcome of a capture. -/
def captureCode : CapResult → Nat
  | .none => 0
  | .pending => 1
  | .storedNew => 2
  | .storedRebaseline => 3
  | .notUp => 4
  | .notQuiet => 5
  | .fusesExhausted => 6
  | .fuseFailed => 7
  | .sessionEnded => 8

/-! ## Judgement (R236 to R239) -/

/-- ANOMALY threshold in 0.01 dB. -/
def anomThreshold (t : BitVec 32) : Int := ((t >>> 16).truncate 16 : BitVec 16).toInt

/-- TAMPER threshold in 0.01 dB. -/
def tampThreshold (t : BitVec 32) : Int := (t.truncate 16 : BitVec 16).toInt

/-- R237: a Thresholds value that may be set. -/
def thresholdsOk (t : BitVec 32) : Bool :=
  decide (-3000 ≤ tampThreshold t) && decide (tampThreshold t ≤ -1000) && decide (-4000 ≤ anomThreshold t)
  && decide (anomThreshold t ≤ tampThreshold t - 300)

/-- Distance of two segments. -/
def segDist (a b : Nat) : Nat := (a - b) + (b - a)

/-- R236: the reason code of a comparison. -/
def sigReason (atLimit : Bool) (compared : Nat) (overCount : List Nat) : BitVec 8 :=
  if overCount.isEmpty then 0
  else if atLimit && decide (compared ≤ 2 * overCount.length) then 3
  else if overCount.all (fun a => overCount.all (fun b => decide (segDist a b ≤ 2))) then 1
  else 2

/-- R238: exceeding segments lie within one segment of those of the comparison before. -/
def segsFollow (prev now : List Nat) : Bool := now.all (fun a => prev.any (fun b => decide (segDist a b ≤ 1)))

/-- R238: consecutive comparisons over one threshold. -/
def runNext (run : Nat) (prev now : List Nat) : Nat :=
  if now.isEmpty then 0 else if 0 < run ∧ segsFollow prev now then run + 1 else 1

/-- R235: one learning step of b1 and g1. -/
def learnComp (m : Compared) (tRef : Int) (g : Sig) : Sig :=
  let dT := m.temp - tRef
  let step := fun (old v lo hi : Int) =>
    let num := 63 * old * dT + v
    let x := quotient (if dT < 0 then -num else num) (64 * dT).natAbs
    if x < lo then lo else if hi < x then hi else x
  if dT.natAbs < 500 then g
  else { g with b1 := step g.b1 (100 * m.fit.beta) 0 40000, g1 := step g.g1 (1000 * m.fit.gamma) (-1000) 0 }

/-- R236, R239: what a comparison reports. -/
def reportComparison (m : Compared) (scale : Int) (g : Sig) : Sig :=
  let overCount := segmentsOver (anomThreshold g.thresholds) m
  let seen := { g with
    beta := m.fit.beta, gamma := m.fit.gamma, reason := sigReason m.fit.atLimit m.energy.length overCount, overCount := overCount.length
    segLevels := m.energy.map (fun x : Nat × Nat => (x.1, segLevel x.2 m.eref)) }
  match worstSegment m.energy with
  | none => { seen with worst := 0xFF, worstLevel := -32768, location := 0xFFFFFFFF }
  | some (j, e) => { seen with
      worst := BitVec.ofNat 8 j, worstLevel := segLevel e m.eref
      location := if aroundSegment j m.energy = 0 then 0xFFFFFFFF
        else sigLocation (aroundSegment j m.moment) (aroundSegment j m.energy) m.fit.beta scale }

/-- R238: the runs after a comparison. -/
def runsAfter (m : Compared) (g : Sig) : Sig :=
  let overCount := segmentsOver (anomThreshold g.thresholds) m
  let tamp := if g.reason = 3 then [] else segmentsOver (tampThreshold g.thresholds) m
  { g with anomRun := runNext g.anomRun g.anomSegs overCount, anomSegs := overCount
           tampRun := runNext g.tampRun g.tampSegs tamp, tampSegs := tamp
           cleanRun := if overCount.isEmpty then g.cleanRun + 1 else 0 }

/-- The argument of SIGNATURE_ANOMALY and SIGNATURE_TAMPER. -/
def sigArg (p : PortId) (g : Sig) : List Byte :=
  [BitVec.ofNat 8 p.val, g.reason, g.worst, BitVec.ofNat 8 g.overCount] ++ beInt 2 g.worstLevel ++ beBytes 4 g.location.toNat

/-- R238: ANOMALY is declared. -/
def declareAnomaly (p : PortId) (s : State) : State :=
  let g := s.ports[p].sig
  if g.level = .normal ∧ 3 ≤ g.anomRun then
    raise (bayEv p 0x0009 3 (sigArg p g)) (modSig p (fun g => { g with level := .anomaly, counters := bump 4 1 g.counters }) s)
  else s

/-- R238: TAMPER is declared. -/
def declareTamper (p : PortId) (s : State) : State :=
  let g := s.ports[p].sig
  if g.level ≠ .tamper ∧ 3 ≤ g.tampRun then
    raise (bayEv p 0x000B 7 (sigArg p g)) (modSig p (fun g => { g with level := .tamper }) s)
  else s

/-- R238: ANOMALY clears. -/
def clearAnomaly (p : PortId) (s : State) : State :=
  let g := s.ports[p].sig
  if g.level = .anomaly ∧ 10 ≤ g.cleanRun then
    raise (bayEv p 0x000A 1 [BitVec.ofNat 8 p.val]) (modSig p (fun g => { g with level := .normal }) s)
  else s

/-- R235 to R239: what a comparison measured is reported and judged; tRef is the reference's temperature. -/
def judge (p : PortId) (m : Compared) (tRef : Int) (s : State) : State :=
  let t := modSig p (fun g => runsAfter m (reportComparison m s.cal.scale g)) s
  let t := clearAnomaly p (declareTamper p (declareAnomaly p t))
  if t.ports[p].sig.level = .normal then modSig p (learnComp m tRef) t else t

/-- R235, R236, R247: a signature measured against a reference; both are filtered to 1.8 GHz where their sources' bandwidths differ. -/
def measureSig (g : Sig) (b ref : SigBlock) : Compared :=
  let f := if blockBandwidth b = blockBandwidth ref then id else Config.filtered18
  compareSig (f (b.samples.take (b.last + 1))) (f (ref.samples.take (ref.last + 1))) (min b.last ref.last) g.b1 g.g1 b.tRef ref.tRef

/-- R229, R235 to R239: a signature is compared with a reference; while an interruption's samples could lie in it, nothing is judged. -/
def judgeBlock (p : PortId) (b : SigBlock) (ref : SigBlock) (s : State) : State :=
  if s.ports[p].sig.interrupted then s else judge p (measureSig s.ports[p].sig b ref) ref.tRef s

/-- R238: a latched TAMPER is cleared; how: 1 ACK_TAMPER_GO, 2 re-baseline. -/
def clearTamper (p : PortId) (how : Nat) (ch : Chan) (s : State) : State :=
  if s.ports[p].sig.level = .tamper then
    raise (bayEv p 0x000C 7 [BitVec.ofNat 8 p.val, BitVec.ofNat 8 how, BitVec.ofNat 8 ch.val])
      (modSig p (fun g => { g with level := .normal }) s)
  else s

/-! ## Captures (R244, R245) -/

/-- The outcome of a capture, which is no longer pending. -/
def setCapture (p : PortId) (k : RefSlot) (r : CapResult) (s : State) : State :=
  modSig p (fun g => match k with
    | .line => { g with lineRes := r, lineCap := none }
    | .probe => { g with probeRes := r, probeCap := none }) s

/-- The pending capture of a slot: its channel and start. -/
def captureOf (g : Sig) : RefSlot → Option (Chan × Nat)
  | .line => g.lineCap
  | .probe => g.probeCap

/-- R244: a capture begins under channel ch's session. -/
def startCapture (p : PortId) (k : RefSlot) (ch : Chan) (s : State) : State :=
  modSig p (fun g => match k with
    | .line => { g with lineRes := .pending, lineCap := some (ch, s.aon.tally) }
    | .probe => { g with probeRes := .pending, probeCap := some (ch, s.aon.tally) }) s

/-- R244: captures that run under channel ch's session end with it. -/
def endCaptures (ch : Chan) (s : State) : State :=
  let one := fun (p : PortId) (k : RefSlot) (t : State) =>
    match captureOf t.ports[p].sig k with
    | some c => if c.1 = ch then setCapture p k .sessionEnded t else t
    | none => t
  forPorts (fun p t => one p .probe (one p .line t)) s

/-- R245: Level restarts at NORMAL. -/
def restartLevel (p : PortId) (s : State) : State :=
  modSig p (fun g => { g with level := .normal, anomRun := 0, anomSegs := [], tampRun := 0, tampSegs := [], cleanRun := 0, probesLeft := 0 }) s

/-- R245: a captured signature is stored; into a filled slot it is a re-baseline, which burns one count. -/
def storeCapture (p : PortId) (k : RefSlot) (ch : Chan) (b : SigBlock) (s : State) : State :=
  let r := refSlot s.ports[p].sig k
  if r.active.isNone then setCapture p k .storedNew (modSig p (setRefSlot k { active := some b }) s)
  else if rebaselinesLeft s = 0 then setCapture p k .fusesExhausted s
  else
    let x := burnNext s.fus.rebase
    let t := { s with fus := { s.fus with rebase := x.1 } }
    if x.2 then
      let t := setCapture p k .storedRebaseline
        (modSig p (setRefSlot k { active := some b, other := r.active, activeErrs := [], otherErrs := r.activeErrs }) t)
      let arg := [BitVec.ofNat 8 p.val, BitVec.ofNat 8 (slotCode k), BitVec.ofNat 8 (rebaselinesLeft t), 0]
        ++ (sha256 (sampleBytes b)).take 16
      restartLevel p (clearTamper p 2 ch (raise (bayEv p 0x000D 6 arg) t))
    else setCapture p k .fuseFailed t

/-- The pending capture of a slot takes a signature. -/
def serveCapture (p : PortId) (k : RefSlot) (b : SigBlock) (s : State) : State :=
  match captureOf s.ports[p].sig k with
  | some c => storeCapture p k c.1 b s
  | none => s

/-! ## Line comparisons (R234) -/

/-- R234: the running window is skipped. -/
def windowSkipped (q : Port) : Bool :=
  q.sig.skip || !q.dsp.locked || q.line.wakeWindow.isSome || decide (0 < q.line.epochExempt) || q.sieve.interrupting || q.sig.interrupted
  || !q.dsp.snapSinceUp

/-- R235: the reading of the bay's own sensor. -/
def bayTemp (s : State) (p : PortId) : Int := s.heat.sensors.getD p.val (-32768)

/-- R232, R244: the block that a signature makes. -/
def sigBlock (s : State) (p : PortId) (k : RefSlot) (mode : Nat) (last : Nat) (samples : List Int) : SigBlock :=
  { slot := k, mode := BitVec.ofNat 8 mode, last := last, tRef := bayTemp s p, tally := s.aon.tally, civil := civilNow s
    scale := s.cal.scale.toNat, samples := coverSamples last samples }

/-- R232, R234, R244: the comparison of a window that is not skipped, and the LINE capture that waits for it. -/
def lineComparison (p : PortId) (e : EMode) (s : State) : State :=
  let q := s.ports[p]
  let b := sigBlock s p .line (emodeCode e) (lineLast e) (lineSamples e (readAll e q.dsp 16 q.sig).readSum)
  let t := modSig p (fun g => { g with lineCur := some b }) s
  let t := match refOf t.ports[p].sig.lineRef with
    | some r => judgeBlock p b r (modSig p (fun g => { g with counters := bump 0 1 g.counters }) t)
    | none => t
  serveCapture p .line b t

/-- R234: the next window starts, with no reading taken; it is to be skipped if no snapshot has been taken. -/
def nextWindow (p : PortId) (s : State) : State :=
  modPort p (fun q => { q with sig := { q.sig with
    skip := !q.dsp.snapSinceUp, wasUp := q.link.up && (etoonMode q).isSome, readings := 0, readSum := [] } }) s

/-- R234: a window is skipped and counted. -/
def skipWindow (p : PortId) (s : State) : State := nextWindow p (modSig p (fun g => { g with counters := bump 1 1 g.counters }) s)

/-- R234, Table 9-12: a 100 ms window ends; one in which the link went down is skipped. -/
def comparisonWindow (p : PortId) (s : State) : State :=
  let s := checkRefs p s
  let q := s.ports[p]
  match (if q.link.up then etoonMode q else none) with
  | some e => if windowSkipped q then skipWindow p s else nextWindow p (lineComparison p e s)
  | none => if q.sig.wasUp then skipWindow p s else nextWindow p s

/-! ## Probes (R241, R242) -/

/-- R241: received power below −45 dB. -/
def lineQuiet (m : ProbeIn) : Bool := decide (m.power < -4500)

/-- R241: the reference a probe is compared with. -/
def probeRefOf (g : Sig) : Option SigBlock := (refOf g.probeRef) <|> (refOf g.lineRef)

/-- R241: a probe not run. -/
def probeSkipped (p : PortId) (s : State) : State := modSig p (fun g => { g with counters := bump 3 1 g.counters }) s

/-- R240, R241: bursts launched: none where the line is not quiet; energy ends the one in which it appears. -/
def noteBursts (p : PortId) (m : ProbeIn) (s : State) : State :=
  modLine p (fun l => { l with bursts := if lineQuiet m then (if m.energy then m.bursts.length + 1 else 4) else 0 }) s

/-- R241: the four bursts, the estimate and the comparison; then the PROBE capture that waits for it. -/
def probeMeasured (p : PortId) (m : ProbeIn) (s : State) : State :=
  let b := sigBlock s p .probe 3 4095 (probeSamples m.bursts)
  let t := modSig p (fun g => { g with probeCur := some b, counters := bump 2 1 g.counters }) (noteBursts p m s)
  let t := match probeRefOf t.ports[p].sig with
    | some r => judgeBlock p b r t
    | none => t
  serveCapture p .probe b t

/-- R241: a probe not run, or abandoned. -/
def probeLost (p : PortId) (m : ProbeIn) (s : State) : State := probeSkipped p (noteBursts p m s)

/-- R242: a segment of the last comparison exceeded ANOMALY, and the count of R238 is open. -/
def probeAnomalous (s : State) (p : PortId) : Bool := decide (0 < s.ports[p].sig.anomRun)

/-- R241: a probe of port p. -/
def probe (p : PortId) (m : ProbeIn) (s : State) : State :=
  if lineQuiet m && !m.energy then probeMeasured p m (checkRefs p s) else probeLost p m s

/-- R242: two more probes of a port follow an anomalous one. -/
def oweProbes (p : PortId) (n : Nat) (s : State) : State := modSig p (fun g => { g with probesLeft := n }) s

/-- R242: a further probe in BOIL; a line that is no longer quiet, or a probe below ANOMALY, ends the probes. -/
def repeatProbe (p : PortId) (m : ProbeIn) (s : State) : State :=
  if s.ports[p].sig.probesLeft = 0 then s
  else if !lineQuiet m || m.energy then oweProbes p 0 (probeLost p m s)
  else
    let t := probeMeasured p m (checkRefs p s)
    oweProbes p (if probeAnomalous t p then s.ports[p].sig.probesLeft - 1 else 0) t

/-- R241: the next port with a reference, from n on, wrapping round. -/
def nextProbePort (s : State) (n : PortId) : Option PortId :=
  ((List.finRange 8).map (fun i => n + i)).find? (fun p => (probeRefOf s.ports[p].sig).isSome)

/-! ## Commands -/

/-- R234, R247: a 100 ms window ends; the references are read as they are met then. -/
def execSignatureComparison (p : PortId) (m : RefErrors) (s : State) : Host.Outcome State Fault Refusal :=
  .next (comparisonWindow p (modSig p (readRefs m) s))

/-- R244: a pending capture reaches 10 s. -/
def execCaptureTimeout (p : PortId) (slot : RefSlot) (s : State) : Host.Outcome State Fault Refusal :=
  .next (match captureOf s.ports[p].sig slot with
    | some c =>
      if c.2 + 10000000000 ≤ s.aon.tally then setCapture p slot (match slot with | .line => .notUp | .probe => .notQuiet) s else s
    | none => s)

/-- R242: a further probe of the port in BOIL. -/
def execProbeRepeat (p : PortId) (m : ProbeIn) (s : State) : Host.Outcome State Fault Refusal :=
  .next (if s.pwr.state = .boil then repeatProbe p m s else s)

end Sys2Proof.Machine
end

