-- ==== Sys2Proof/Machine/Sessions.lean ====
section
/-! DEFINITION. Sessions.lean: the end of a session and what ends with it (R301, R314): the Holder's sieve (R217), captures (R244)
and a calibration run (R392). -/

namespace Sys2Proof.Machine

/-- R392: the kind's code in CalibrationState. -/
def calKindCode : CalKind → Nat
  | .timebase => 1
  | .levels => 2
  | .lengthScale => 3

/-- R392: a calibration run becomes ABANDONED; it commits no record. -/
def abandonCal (s : State) : State :=
  match s.cal.run with
  | none => s
  | some r => { s with cal := { s.cal with run := none, stage := .abandoned, stageKind := calKindCode r.kind } }

/-- R392: the run started under channel ch's session is abandoned. -/
def abandonCalOf (ch : Chan) (s : State) : State :=
  match s.cal.run with
  | none => s
  | some r => if r.ch = ch then abandonCal s else s

/-- R392: the port that LEVELS and LENGTH_SCALE measure has gone out of their condition: the run is abandoned. -/
def abandonCalPort (p : PortId) (s : State) : State :=
  match s.cal.run with
  | none => s
  | some r => if r.kind ≠ .timebase ∧ s.cal.port = p then abandonCal s else s

/-- R301: the session of channel ch ends with a cause (Table 13-4), with its record. -/
def closeSession (ch : Chan) (cause : Nat) (s : State) : State :=
  match s.chans[ch].session with
  | none => s
  | some x => raise (sessionEndEv ch x.role cause) (modChan ch (fun c => { c with session := none }) s)

/-- R217: the Holder's session has ended and disarms the sieve; a life-cycle change (cause 5) does so by itself (R388). -/
def holderGone (ch : Chan) (cause : Nat) (s : State) : State :=
  if s.sieveHolder = some ch ∧ cause ≠ 5 then disarmAll 3 s else s

/-- R244, R392: captures and a calibration run under channel ch's session end with it. -/
def workGone (ch : Chan) (s : State) : State := abandonCalOf ch (endCaptures ch s)

/-- R301: the session of channel ch ends, and what ran under it. -/
def endSession (ch : Chan) (cause : Nat) (s : State) : State :=
  if s.chans[ch].session.isSome then workGone ch (holderGone ch cause (closeSession ch cause s)) else s

/-- R16, R301: every session ends in one cycle: the dictionary server's records, channels ascending, come ahead of the sieve's and the
bays'. -/
def endSessions (cause : Nat) (s : State) : State :=
  let each := fun (f : Chan → State → State) (t : State) => forChans (fun ch u => if s.chans[ch].session.isSome then f ch u else u) t
  each workGone (each (fun ch t => holderGone ch cause t) (forChans (fun ch t => closeSession ch cause t) s))

/-- R301: a session's length, 30 minutes of tally time in ns. -/
def sessionLength : Nat := 1800000000000

/-! ## Commands -/

/-- R301: the session has reached 30 minutes. -/
def execSessionExpiry (ch : Chan) (s : State) : Host.Outcome State Fault Refusal :=
  .next (match s.chans[ch].session with
    | none => s
    | some x => if x.expiry ≤ s.aon.tally then endSession ch 1 s else s)

/-- R299: a nonce is valid for 60 s. -/
def execNonceExpiry (ch : Chan) (s : State) : Host.Outcome State Fault Refusal :=
  .next (match s.chans[ch].nonce with
    | none => s
    | some n => if n.2 ≤ s.aon.tally then modChan ch (fun c => { c with nonce := none }) s else s)

/-- R300: the lockout has ended. -/
def execAuthLockoutEnd (s : State) : Host.Outcome State Fault Refusal :=
  .next (if s.aon.lockout ≤ s.aon.tally then copyToMram { s with aon := { s.aon with lockout := 0 } } else s)

end Sys2Proof.Machine
end

