-- ==== Sys2Proof/Machine/Nmt.lean ====
section
/-! DEFINITION. Nmt.lean: the CAN stack outside SDO: boot-up, NMT commands, heartbeat, bus-off, error-passive and the fall-back of
bit rates (R281 to R283, R311 to R314). -/

namespace Sys2Proof.Machine

/-- A frame the KT850 puts on the bus, where its transmitter may drive it. -/
def canSend (o : CanOut) (s : State) : State :=
  if busDriven s then { s with can := { s.can with out := s.can.out ++ [o] } } else s

/-- The frames sent by earlier commands are no longer shown. -/
def clearOut (s : State) : State := { s with can := { s.can with out := [] } }

/-- Table 11-2: the COB-IDs of a channel: client to server, server to client. -/
def cobOf (s : State) (ch : Chan) : BitVec 32 × BitVec 32 :=
  if ch = 0 then (BitVec.ofNat 32 (0x600 + s.can.node.toNat), BitVec.ofNat 32 (0x580 + s.can.node.toNat))
  else (s.can.cobsInUse.getD (2 * ch.val - 2) 0, s.can.cobsInUse.getD (2 * ch.val - 1) 0)

/-- R285: a channel is disabled while either of its COB-IDs has bit 31 set. -/
def chanDisabled (s : State) (ch : Chan) : Bool := (cobOf s ch).1.getLsbD 31 || (cobOf s ch).2.getLsbD 31

/-- A frame on the channel's server-to-client COB-ID. -/
def chanFrame (s : State) (ch : Chan) (fd : Bool) (data : List Byte) : CanOut :=
  { id := (cobOf s ch).2.truncate 11, fd := fd, data := data }

/-- The CiA 301 abort frame (R292). -/
def abortFrame (index : BitVec 16) (sub : Byte) (code : BitVec 32) : List Byte :=
  [0x80] ++ leBytes 2 index.toNat ++ [sub] ++ leBytes 4 code.toNat

/-- Index and sub-index of an open transfer. -/
def xferTarget : Xfer → Option (BitVec 16 × Byte)
  | .none => none
  | .segDown i b _ _ _ => some (i, b)
  | .segUp i b _ _ => some (i, b)
  | .blkDown i b _ _ _ _ _ => some (i, b)
  | .blkUp i b _ _ _ _ _ _ => some (i, b)
  | .wideDown i b _ _ _ => some (i, b)
  | .wideUp i b _ _ => some (i, b)

/-- R309: an abort is counted: Aborts, and GatedOrUnpowered, UnderTest and Denied by its code. -/
def countAbort (ch : Chan) (code : BitVec 32) (s : State) : State :=
  modChan ch (fun c =>
    let n := bump 1 1 c.counters
    let n := if code = 0x0A010001 ∨ code = 0x0A010002 then bump 2 1 n else n
    let n := if code = 0x0A010003 then bump 3 1 n else n
    let n := if code = 0x0A010007 ∨ code = 0x0A010008 then bump 4 1 n else n
    { c with counters := if code = 0x0A010005 then bump 5 1 n else n }) s

/-- R292: the server ends a channel's transfer with an abort frame. -/
def abortXfer (ch : Chan) (code : BitVec 32) (s : State) : State :=
  match xferTarget s.chans[ch].xfer with
  | none => s
  | some (i, b) =>
    canSend (chanFrame s ch false (abortFrame i b code))
      (countAbort ch code (modChan ch (fun c => { c with xfer := .none, resp := .abort code }) s))

/-- R313: a heartbeat or boot-up byte. -/
def heartbeatFrame (s : State) (b : Byte) : CanOut := { id := BitVec.ofNat 11 (0x700 + s.can.node.toNat), data := [b] }

/-- R313: the heartbeat byte of an NMT state. -/
def nmtByte : Nmt → Byte
  | .initialising => 0x00
  | .preOperational => 0x7F
  | .operational => 0x05
  | .stopped => 0x04

/-- R281: the stored rates come into use; a change of rates opens the 2 s of R281. -/
def takeRates (s : State) : State :=
  let new := (s.can.arbRate, s.can.dataRate)
  if s.can.inUse = new then s
  else { s with can := { s.can with before := s.can.inUse, inUse := new, ratesSince := some s.aon.tally, goodFrame := false } }

/-- R285: the stored COB-IDs come into use. -/
def takeCobs (s : State) : State := { s with can := { s.can with cobsInUse := s.can.cobs } }

/-- R313: boot-up is sent and Pre-operational entered. -/
def bootUp (s : State) : State :=
  let t := canSend (heartbeatFrame s 0x00) { s with can := { s.can with nmt := .preOperational } }
  emcyDropNotice t

/-- R306, R314: a PostedBusy flag is cleared, once its write is applied. -/
def clearBusy (s : State) : State :=
  forChans (fun ch t => if t.aon.posted.any (fun w => decide ((match w with
    | .civil c _ _ => c | .simmerPeriod c _ => c | .probeEnable c _ => c | .retention c _ => c) = ch)) then t
    else modChan ch (fun c => { c with busy := false }) t) s

/-- R314: the CAN stack starts afresh: transfers end without an abort, profiles return to 1.0, stored rates and COB-IDs come into
use. -/
def canStack (s : State) : State :=
  takeCobs (takeRates (clearBusy (forChans (fun ch t => modChan ch (fun c =>
    { c with xfer := .none, profile := 0x0100 }) t) { s with clk := { s.clk with held := [] } })))

/-- R314: an NMT command reaches the KT850. -/
def nmtForUs (s : State) (node : Byte) : Bool :=
  decide (s.can.nmt ≠ .initialising) && canClocked s && (decide (node = 0) || decide (node = s.can.node))

/-- R314: the NMT record, for a command that changes state. -/
def nmtEv (cs : Nat) : Ev := devEv .dict 0x0605 1 [BitVec.ofNat 8 cs]

/-- R281: a frame was received without error. -/
def heard (s : State) : State :=
  if s.can.nmt ≠ .initialising ∧ canClocked s then { s with can := { s.can with goodFrame := true } } else s

/-- R311, R314: a command that enters an NMT state; on leaving Stopped the drop notice is queued. -/
def nmtEnter (cs : Nat) (target : Nmt) (node : Byte) (s : State) : State :=
  let s := heard (clearOut s)
  if nmtForUs s node && decide (s.can.nmt ≠ target) then
    emcyDropNotice (raise (nmtEv cs) { s with can := { s.can with nmt := target } })
  else s

/-- R314: Reset Communication and Reset Node. -/
def nmtReset (cs : Nat) (node : Byte) (s : State) : State :=
  let s := heard (clearOut s)
  if nmtForUs s node then bootUp (canStack (endSessions 4 (raise (nmtEv cs) s))) else s

/-! ## Commands -/

/-- R314: Start. -/
def execNmtStart (node : Byte) (s : State) : Host.Outcome State Fault Refusal := .next (nmtEnter 0x01 .operational node s)

/-- R314: Pre-operational. -/
def execNmtPreOperational (node : Byte) (s : State) : Host.Outcome State Fault Refusal := .next (nmtEnter 0x80 .preOperational node s)

/-- R314: Stop; open transfers end with the silence of the SDO servers. -/
def execNmtStop (node : Byte) (s : State) : Host.Outcome State Fault Refusal := .next (nmtEnter 0x02 .stopped node s)

/-- R314: Reset Communication. -/
def execNmtResetCommunication (node : Byte) (s : State) : Host.Outcome State Fault Refusal := .next (nmtReset 0x82 node s)

/-- R314: Reset Node. -/
def execNmtResetNode (node : Byte) (s : State) : Host.Outcome State Fault Refusal := .next (nmtReset 0x81 node s)

/-- R313: the heartbeat of the running HeartbeatTime. -/
def execHeartbeat (s : State) : Host.Outcome State Fault Refusal :=
  .next (let t := clearOut s
    if s.can.nmt = .initialising ∨ s.can.heartbeat = 0 ∨ busDriven s = false then t else canSend (heartbeatFrame s (nmtByte s.can.nmt)) t)

/-- R283: the controller has recovered from bus-off. -/
def execBusOff (s : State) : Host.Outcome State Fault Refusal :=
  .next (if s.can.nmt = .initialising then s
    else
      let n := sat32 (s.can.busOffs + 1)
      raise (devEv .dict 0x0606 3 (beBytes 4 n)) { s with can := { s.can with busOffs := n } })

/-- R281: within 2 s of taking up new rates the controller reaches error-passive with no good frame received: the rates before return. -/
def revertRates (s : State) : State :=
  match s.can.ratesSince with
  | none => s
  | some t =>
    if s.aon.tally < t + 2000000000 ∧ s.can.errorPassive ∧ s.can.goodFrame = false then
      raise (devEv .dict 0x0607 3 (beBytes 2 s.can.inUse.1 ++ beBytes 2 s.can.inUse.2))
        { s with can := { s.can with inUse := s.can.before, ratesSince := none } }
    else s

/-- R281: the rates revert. -/
def execBitrateReverted (s : State) : Host.Outcome State Fault Refusal :=
  .next (if s.can.nmt = .initialising then s else revertRates s)

/-- R312: the controller enters or leaves error-passive. -/
def execErrorPassive (on : Bool) (s : State) : Host.Outcome State Fault Refusal :=
  .next { s with can := { s.can with errorPassive := on } }

end Sys2Proof.Machine
end

