-- ==== Sys2Proof/Machine/HostLane.lean ====
section
/-! DEFINITION. HostLane.lean: the host lane of a port (chapter 10): lane modes, frames from the host, the order of what goes
out on HTXn, PTP correction, and what the lane's going down does (R206). -/

namespace Sys2Proof.Machine

/-! ## Lane modes (R260 to R262) -/

/-- Table 10-1: the native lane mode of a line mode. -/
def nativeLane : LineMode → LaneMode
  | .etoon .el50 => .r50
  | .etoon .el25 => .r25
  | .etoon .el10 => .r10
  | .std .b25g => .r25
  | .std .b10g => .r10
  | .std .b5g => .r10
  | .std .b2g5 => .r10
  | .std .b1g => .x1000

/-- LaneActive and LaneSelect codes (Table 10-3). -/
def laneCode : Option LaneMode → Nat
  | none => 0
  | some .r50 => 1
  | some .r25 => 2
  | some .r10 => 3
  | some .x1000 => 4

/-- The lane mode that LaneSelect names; none for AUTO. -/
def laneOfCode : Nat → Option LaneMode
  | 1 => some .r50
  | 2 => some .r25
  | 3 => some .r10
  | 4 => some .x1000
  | _ => none

/-! ## Lane down (R206) -/

/-- A host-lane record (Table 13-4). -/
def laneEv (s : State) (p : PortId) (code sev : Nat) : Ev :=
  bayEv p code sev [BitVec.ofNat 8 p.val, BitVec.ofNat 8 (laneCode s.ports[p].host.active)]

/-- The loss of a frame cut on HTXn (R183). -/
def cutLoss (bytes : Nat) (provoked : Bool) : RxLoss :=
  { cause := .deliveryCut, seqCount := 0, frames := 1, bytes := bytes, provoked := provoked }

/-- R183, R205, R226: the frame in delivery is cut: DELIVERY_CUT with its gap leaf, and an errored termination. -/
def cutDelivery (p : PortId) (provoked : Bool) (s : State) : State :=
  match s.ports[p].host.busy with
  | none => s
  | some item =>
    let t := modHost p (fun h => { h with busy := none, busyLeaf := none, cutLast := true, counters := bump 1 1 h.counters }) s
    match item with
    | .frame c bytes _ =>
      let l := cutLoss bytes.length provoked
      let t := modHost p (fun h => { h with counters := bump 2 1 h.counters }) (ledgerAdd p true c l s.aon.tally t)
      let n := (ledgerPart t p true).newest
      let t := match s.ports[p].host.busyLeaf with | some b => cutLeaf p c l n b t | none => t
      cutAtEnd p t
    | _ => t

/-- R206, R263: the lane goes down: the arriving frame ends ERRORED. Where HTXn stops, the frame in delivery is cut, also one that ran on
after the lane had gone down. -/
def laneDown (p : PortId) (htxStops : Bool) (s : State) : State :=
  let cut := fun t => if htxStops then cutDelivery p (inEpisode t p) t else t
  if !s.ports[p].host.up then cut s
  else
    let t := cut (frameEnd p true s)
    raise (laneEv t p 0x0007 4) (modHost p (fun h => { h with
      up := false, lock := false, hiBer := false, fecAligned := false, rxLpi := false, counters := bump 0 1 h.counters }) t)

/-- R262: a resolved lane mode takes effect at a frame boundary on HTXn. -/
def applyLane (p : PortId) (s : State) : State :=
  match s.ports[p].host.pendingMode with
  | none => s
  | some m =>
    if s.ports[p].host.busy.isSome then s
    else
      pfcCheck p (modHost p (fun h => { h with active := some m, pendingMode := none, optionsInUse := h.options })
        (laneDown p false s))

/-- R261: the lane mode that an auto-negotiation resolves for a line mode. -/
def resolveLane (p : PortId) (m : LineMode) (s : State) : State :=
  let h := s.ports[p].host
  let want := (laneOfCode h.select.toNat).getD (nativeLane m)
  if h.active = some want then modHost p (fun h => { h with pendingMode := none }) s
  else applyLane p (modHost p (fun h => { h with pendingMode := some want }) s)

/-! ## PTP (R273 to R275) -/

/-- What the receive side does to a frame, with the PtpCounters element it counts and the residence it adds. -/
structure PtpOut where
  bytes     : List Byte
  count     : Option Nat := none
  residence : Option Int := none

/-- R273, R274: the correction of a frame that is to be updated at header offset `o`, by a residence in 2^−4 ns. -/
def ptpCorrect (bytes : List Byte) (o : Nat) (residence trim : Int) (saturated : Bool) : PtpOut :=
  if !fcsOk bytes then { bytes := bytes, count := some 2 }
  else if saturated then { bytes := bytes, count := some 3 }
  else match addResidence bytes o (residence * 4096 + trim) with
  | none => { bytes := bytes, count := some 3 }
  | some b => { bytes := b, count := some 1, residence := some residence }

/-- R273 to R275: a frame at its egress instant, in 2^−4 ns. Its wait counts from the launch whose SenderResidence it carries; a standard-mode
frame's from its own arrival, with no trim. -/
def ptpReceive (q : Ptp) (f : RxFrame) (egress : Nat) : PtpOut :=
  let wait := (egress : Int) - (if f.std then f.arrived else f.tagAt)
  match ptpEvent q.mask f.bytes with
  | none => if f.ptp.isSome then { bytes := f.bytes, count := some 4 } else { bytes := f.bytes }
  | some o =>
    if f.ptp.isNone && !f.std then { bytes := f.bytes }
    else if !q.enable.getLsbD 1 || f.errored then { bytes := f.bytes, count := some 4 }
    else match f.ptp with
    | some w => ptpCorrect f.bytes o ((w.toNat % 2 ^ 31 : Nat) + wait) q.trim (w.getLsbD 31)
    | none => ptpCorrect f.bytes o wait 0 false

/-! ## Deliveries (R266 to R268) -/

/-- R268: the delivered prefix of a frame of n bytes that ends with errored termination. -/
def deliveredPrefix (lane : Option LaneMode) (late : Bool) (n : Nat) : Nat :=
  match lane with
  | some .x1000 => n
  | some .r50 => 8 * ((n - 1) / 8)
  | _ => if late then 8 * ((n + 3) / 8) - 4 else 8 * ((n - 1) / 8)

/-- An item put on HTXn. -/
def putHtx (p : PortId) (x : HtxItem) (s : State) : State :=
  modHost p (fun h => { h with busy := some x, busyLeaf := none, lastOut := some x, cutLast := false, mirrorOver := true }) s

/-- R191: the receive MDI timestamp of the frame that begins its delivery. -/
def noteMdi (p : PortId) (c : Cls) (f : RxFrame) (s : State) : State :=
  modRx p c (fun r => { r with lastMdi := max r.lastMdi f.arrived }) s

/-- R183, R250, R273: the frame at the head of class c begins its delivery with egress instant `at_`. -/
def deliver (p : PortId) (c : Cls) (at_ : Nat) (s : State) : State :=
  match s.ports[p].rx[c].ready with
  | .frame f :: rest =>
    let q := s.ports[p]
    let o := ptpReceive q.ptp f at_
    let late := Config.startColumn s.free
    let n := if f.errored then deliveredPrefix q.host.active late o.bytes.length else o.bytes.length
    let s := if f.errored then afterDraw s else s
    let s := modPort p (fun q => { q with
      ptp := notePtp o.count o.residence q.ptp
      rx := q.rx.set c (freeSlots { q.rx[c] with ready := rest }) }) s
    let s := putHtx p (.frame c o.bytes f.errored) (noteMdi p c f s)
    let leaf := (openWindow s p).map (fun w => (w.start, w.leaves.length))
    frameLeaf p (o.bytes.take n) f.errored f.provoked (modHost p (fun h => { h with busyLeaf := leaf }) s)
  | _ => s

/-- Class c has a frame ready at the head of what waits. -/
def frameReady (q : Port) (c : Cls) : Bool :=
  match q.rx[c].ready with
  | .frame _ :: _ => true
  | _ => false

/-- The first owed flow control frame that satisfies a test, and the others. -/
def takePfc (f : Cls × Bool → Bool) : List (Cls × Bool) → Option (Cls × Bool) × List (Cls × Bool)
  | [] => (none, [])
  | x :: rest => if f x then (some x, rest) else let r := takePfc f rest; (r.1, x :: r.2)

/-- R181: the priorities that ClassMap maps to a class. -/
def pfcPrios (q : Port) (c : Cls) : List Bool := (List.range 8).map (fun k => decide (q.cfg.pcpClass.getD k 0 = c))

/-- R181: a flow control frame for a class, counted in PfcFramesSent. -/
def putPfc (p : PortId) (x : Cls × Bool) (rest : List (Cls × Bool)) (s : State) : State :=
  let q := s.ports[p]
  let time := if x.2 then 0 else q.cfg.pfcQuanta
  putHtx p (.pfc x.1 time (pfcFrame q.cfg.pfcSource (pfcPrios q x.1) time)) (modPort p (fun q => { q with
    host := { q.host with
      pfcOwed := rest
      pausedAt := if x.2 then q.host.pausedAt else q.host.pausedAt.set ((pfcIndex x.1).getD 0) s.aon.tally }
    cnt := { q.cnt with pfcSent := bump ((pfcIndex x.1).getD 0) 1 q.cnt.pfcSent } }) s)

/-- R267: the first item that is ready begins; flow control goes first only while the port is rate-adapted. -/
def htxNext (p : PortId) (at_ : Nat) (s : State) : State :=
  let q := s.ports[p]
  let early := takePfc (fun _ => rateAdapted q) q.host.pfcOwed
  let late := takePfc (fun x => x.2) q.host.pfcOwed
  match early.1 with
  | some x => putPfc p x early.2 s
  | none =>
    if frameReady q 0 then deliver p 0 at_ s
    else match late.1 with
    | some x => putPfc p x late.2 s
    | none =>
      match q.sealing.notices with
      | n :: rest => putHtx p (.lossNotice n) (modSeal p (fun v => { v with notices := rest }) s)
      | [] =>
        match q.sealing.frames with
        | f :: rest => putHtx p (.sealFrame f) (modSeal p (fun v => { v with frames := rest }) s)
        | [] =>
          if frameReady q 1 then deliver p 1 at_ s
          else if frameReady q 2 then deliver p 2 at_ s
          else if frameReady q 3 then deliver p 3 at_ s
          else s

/-- R183, R268: the item that was on HTXn has left whole. -/
def htxDone (p : PortId) (s : State) : State :=
  match s.ports[p].host.busy with
  | none => s
  | some x =>
    let err := match x with | .frame _ _ e => e | _ => false
    let t := modHost p (fun h => { h with busy := none, busyLeaf := none
                                          counters := if err then bump 1 1 h.counters else h.counters }) s
    cutAtEnd p t

/-- Losses that stand at the head of any class pass (R178). -/
def passAllLosses (p : PortId) (s : State) : State :=
  forClasses (fun c t => passLosses p c (t.ports[p].rx[c].ready.length + 1) t) s

/-! ## Commands -/

/-- R278, Table 14-4: the close of the lane's gate waits for the frames in delivery and arriving to end: none begins meanwhile. -/
def laneClosing (s : State) (p : PortId) : Bool := s.gate.pending.getLsbD (8 + p.val)

/-- R265: a start on HRXn. A frame that is still arriving ends before it, with ERRORED set; a beginning frame is a wake
request (R276). -/
def execHostFrameStart (p : PortId) (at_ : Nat) (s : State) : Host.Outcome State Fault Refusal :=
  .next (if s.ports[p].host.up then
    if laneClosing s p then frameEnd p true s
    else wakeRequest p (modHost p (fun h => { h with rxLpi := false }) (frameBegin p at_ (bayOpen s p) (frameEnd p true s)))
  else s)

/-- Table 10-1: the lane runs an FEC. -/
def laneFec (h : HostLane) : Bool :=
  decide (h.active = some .r50) || (decide (h.active = some .r25) && h.optionsInUse.getLsbD 0)

/-- R265: frame bytes of an invalid block stand for as many bytes of 0x00, and set ERRORED. -/
def invalidBytes (p : PortId) (bytes : List Byte) (s : State) : State :=
  frameBytes p (List.replicate bytes.length 0) (modArriving p (fun a => { a with errored := true }) s)

/-- Table 10-3: a codeword of the lane's FEC counts as corrected (element 3) or as uncorrectable (element 4). -/
def countFec (p : PortId) (i : Nat) (s : State) : State :=
  modHost p (fun h => if laneFec h then { h with counters := bump i 1 h.counters } else h) s

/-- R156, R265: frame bytes, as the lane's PCS and FEC deliver them. -/
def execHostFrameData (p : PortId) (bytes : List Byte) (b : LaneBlock) (s : State) : Host.Outcome State Fault Refusal :=
  .next (match b with
    | .clean => frameBytes p bytes s
    | .corrected => frameBytes p bytes (countFec p 3 s)
    | .invalid => invalidBytes p bytes s
    | .uncorrectable => invalidBytes p bytes (countFec p 4 s))

/-- R265: the frame ends; a new start and a loss of lock set ERRORED. -/
def execHostFrameEnd (p : PortId) (e : FrameEnd) (s : State) : Host.Outcome State Fault Refusal :=
  .next (frameEnd p (decide (e ≠ .terminate)) s)

/-- R226: HOST_OUT replaces a block on HTXn: a frame in progress is cut there. A seal frame and a loss notice are never hit: the
corruption moves to the first block after it (R231, R252). -/
def hostOutHit (p : PortId) (s : State) : State :=
  match s.ports[p].host.busy with
  | some (.sealFrame _) => modSieve p (fun v => { v with hostOutDue := true }) s
  | some (.lossNotice _) => modSieve p (fun v => { v with hostOutDue := true }) s
  | _ => cutDelivery p true (provoke p (modSieve p (fun v => { v with hostOutDue := false, counters := bump 6 1 v.counters }) s))

/-- R267: a frame boundary on HTXn; losses due pass, a resolved lane mode takes effect, and the next item begins; a corruption that a seal
frame deferred follows (R226). -/
def execHtxFrameBoundary (p : PortId) (at_ : Nat) (s : State) : Host.Outcome State Fault Refusal :=
  .next (
    let t := passAllLosses p (applyLane p (htxDone p s))
    let t := if t.ports[p].host.up && !laneClosing t p then passAllLosses p (htxNext p at_ t) else t
    if t.ports[p].sieve.hostOutDue then hostOutHit p t else t)

/-- R180: half the pause time of PfcQuanta at the lane's rate, in 10^−2 ns: a quantum is 512 bit times. -/
def halfPause (q : Port) : Nat :=
  match q.host.active with
  | some l => 256 * q.cfg.pfcQuanta * 100000 / laneRate l
  | none => 0

/-- R180: half the pause time has passed with the occupancy above PfcXonSlots. -/
def execPfcRepeat (p : PortId) (c : Cls) (s : State) : Host.Outcome State Fault Refusal :=
  .next (
    let q := s.ports[p]
    match pfcIndex c with
    | none => s
    | some i =>
      if q.host.paused.getD i false && pfcAllowed q i && decide (q.cfg.pfcXon < occupancy q.tx[c])
          && decide (halfPause q ≤ 100 * (s.aon.tally - q.host.pausedAt.getD i 0)) then
        modHost p (fun h => { h with pfcOwed := h.pfcOwed ++ [(c, false)] }) s
      else s)

/-- R263: the lane's receiver has held its lock for 10 µs. -/
def execHostLaneUp (p : PortId) (s : State) : Host.Outcome State Fault Refusal :=
  .next (if laneGateOpen s p ∧ s.ports[p].host.up = false ∧ s.ports[p].host.active.isSome ∧ s.pwr.passed = false then
    raise (laneEv s p 0x0008 1) (modHost p (fun h => { h with
      up := true, lock := true, hiBer := false, fecAligned := laneFec h })
      { s with clk := { s.clk with hostPll := s.clk.hostPll.set p.val .running } })
  else s)

/-- R206, R263: lane lock fails, by hi_ber where the blocks still lock; HTXn runs on. -/
def execHostLaneDown (e : LaneLoss) (s : State) : Host.Outcome State Fault Refusal :=
  .next (if s.ports[e.port].host.up then
    modHost e.port (fun h => { h with lock := e.hiBer, hiBer := e.hiBer, fecAligned := e.hiBer && laneFec h }) (laneDown e.port false s)
  else s)

/-- R276: the host has signalled LPI for 1 µs; 1000BASE-X recognises none. -/
def execHostLpiBegin (p : PortId) (s : State) : Host.Outcome State Fault Refusal :=
  .next (if s.ports[p].host.up ∧ s.ports[p].host.active ≠ some .x1000 then modHost p (fun h => { h with rxLpi := true }) s else s)

/-- R276: the host ends LPI: a wake request. -/
def execHostLpiEnd (p : PortId) (s : State) : Host.Outcome State Fault Refusal :=
  .next (if s.ports[p].host.rxLpi then wakeRequest p (modHost p (fun h => { h with rxLpi := false }) s) else s)

/-- R276: no frame has begun for HostIdleTime. -/
def execHostIdleTimeout (p : PortId) (s : State) : Host.Outcome State Fault Refusal :=
  .next (
    let h := s.ports[p].host
    if h.begunAt + 1000 * h.idleTime ≤ s.aon.tally then modHost p (fun h => { h with idleHeld := true }) s else s)

/-- R276: in a standard mode under FOLLOW_HOST the host's LPI is the LPI request to the clause's Energy-Efficient Ethernet, where the roll
call has LPI enabled on the port. -/
def eeeRequest (s : State) (p : PortId) : Bool :=
  let q := s.ports[p]
  q.link.up && inStd q && decide (q.host.lpiPolicy.toNat % 4 = 0) && q.host.rxLpi && maskBit s.roll.lpiMask p

/-- R226: HostInterval expires, and HOST_OUT replaces a block on HTXn. -/
def execHostOutCorruption (p : PortId) (s : State) : Host.Outcome State Fault Refusal :=
  .next (
    if sieveLive s.ports[p] kindHostOut && blocksPassed s.ports[p] s.ports[p].sieve.hOutInterval s.ports[p].sieve.hostOutAt s.aon.tally then
      hostOutHit p (modSieve p (fun v => { v with hostOutAt := s.aon.tally }) s)
    else s)

end Sys2Proof.Machine
end

