-- ==== Sys2Proof/Machine/Train.lean ====
section
/-! DEFINITION. Train.lean: auto-negotiation's outcome (R111 to R115), the training phases (R118 to R126), failures and what
follows them (R133 to R138), sleep (R146, R147), and the standard modes (R105, R208). -/

namespace Sys2Proof.Machine

/-! ## Resolution (R111) -/

/-- A version offer: major, highest minor, highest minor of the previous major (15: none). -/
abbrev Version := BitVec 4 × BitVec 4 × BitVec 4

/-- R111, shared(a, b). -/
def sharedVersion (a b : Version) : Option (BitVec 4 × BitVec 4) :=
  let least := fun x y : BitVec 4 => if x.toNat ≤ y.toNat then x else y
  if a.1 = b.1 then some (a.1, least a.2.1 b.2.1)
  else if a.1.toNat = b.1.toNat + 1 ∧ a.2.2 ≠ 15 then some (b.1, least a.2.2 b.2.1)
  else if b.1.toNat = a.1.toNat + 1 ∧ b.2.2 ≠ 15 then some (a.1, least b.2.2 a.2.1)
  else none

/-- The partner's line version offer. -/
def pagesLine (w : WenvoPages) : Version := (w.lineMajor, w.lineMinor, w.linePrev)

/-- The partner's shingle version offer. -/
def pagesShingle (w : WenvoPages) : Version := (w.shMajor, w.shMinor, w.shPrev)

/-- The highest Etoon mode of a mask. -/
def highestEtoon (m : BitVec 16) : Option EMode :=
  if m.getLsbD 0 then some .el50 else if m.getLsbD 1 then some .el25 else if m.getLsbD 2 then some .el10 else none

/-- The highest standard mode of a mask in ModeMask layout. -/
def highestStd (m : BitVec 16) : Option SMode :=
  if m.getLsbD 8 then some .b25g else if m.getLsbD 9 then some .b10g else if m.getLsbD 10 then some .b5g
  else if m.getLsbD 11 then some .b2g5 else if m.getLsbD 12 then some .b1g else none

/-- R111: the Etoon mode and versions both ends resolve, if they resolve one. -/
def resolveEtoon (q : Port) (bank : Option Bank) (pages : Option WenvoPages) :
    Option (EMode × (BitVec 4 × BitVec 4) × (BitVec 4 × BitVec 4)) :=
  match bank, pages with
  | some b, some w =>
    match sharedVersion b.line (pagesLine w), sharedVersion b.shingle (pagesShingle w) with
    | some lv, some sv => (highestEtoon (q.link.offer &&& w.modes.zeroExtend 16 &&& b.modes)).map (fun m => (m, lv, sv))
    | _, _ => none
  | _, _ => none

/-- The version word of LineVersion and ShingleVersion. -/
def versionWord (v : BitVec 4 × BitVec 4) : BitVec 16 := v.1.zeroExtend 8 ++ v.2.zeroExtend 8

/-- PartnerLine and PartnerShingle (Table 5-14). -/
def partnerWord (v : Version) : BitVec 16 := v.1 ++ v.2.1 ++ v.2.2 ++ 0#4

/-- Table 5-14: what the partner's pages offered. -/
def notePartner (pages : Option WenvoPages) (std : BitVec 5) (l : Link) : Link :=
  let stdMask : BitVec 16 := std.zeroExtend 16 <<< 8
  match pages with
  | none => { l with partnerLine := 0xFFFF, partnerSh := 0xFFFF, partnerModes := stdMask, partnerAbil := 0, partnerHint := 0 }
  | some w => { l with
      partnerLine := partnerWord (pagesLine w), partnerSh := partnerWord (pagesShingle w)
      partnerModes := w.modes.zeroExtend 16 ||| stdMask
      partnerAbil := BitVec.ofNat 8 (w.lpi.toNat + 2 * w.fastRelink.toNat + 4 * w.tc10.toNat)
      partnerHint := BitVec.ofNat 8 (w.leaderWanted.toNat + 2 * w.neighbours.toNat) }

/-! ## Frames packed before a standard mode was resolved -/

/-- What one class's payloads hold, taken apart again: whole frames, and losses not launched. Bytes ahead of the first tag continue a frame
that was withdrawn and is already counted. -/
def repack (c : Cls) (ps : List Payload) : List RxItem :=
  (ps.foldl (fun (a : (Option Partial × Bool) × List RxItem) w =>
    let x : PayInfo := { cls := c, seq := 0, prov := w.provoked, at_ := 0, slots := [] }
    let h : ShHdr := { cls := c, seq := 0, replay := false, gap := false, provoked := w.provoked
                       firstTag := match w.firstTag with | some o => BitVec.ofNat 7 (o / 4) | none => 0x7F, ackClass := 0, ackNext := 0 }
    let y := parsePayload x h a.1.1 a.1.2 ((w.bytes ++ padTag c ++ List.replicate 256 0).take 256)
    ((y.unfinished, y.skipping), a.2 ++ y.items)) ((none, true), [])).2

/-- Ingress instants paired with the frames marked as PTP event messages, in order. -/
def pairStamps (mask : BitVec 8) : List Nat → List RxItem → List StdFrame
  | _, [] => []
  | ts, .loss _ :: rest => pairStamps mask ts rest
  | ts, .frame f :: rest =>
    if f.ptp.isSome then
      { bytes := f.bytes, at_ := ts.headD 0, errored := f.errored, markOn := true, mask := mask } :: pairStamps mask (ts.drop 1) rest
    else { bytes := f.bytes, at_ := 0, errored := f.errored } :: pairStamps mask ts rest

/-- R269: frames that waited in payloads go whole into the rate-adaptation store; losses not launched are entered. -/
def toStdClass (p : PortId) (c : Cls) (s : State) : State :=
  let t := s.ports[p].tx[c]
  let items := repack c (pays t)
  let stamps := (pays t).flatMap (fun w => w.stamps.map Prod.snd)
  let s := restartOwed p c s
  modTx p c (fun _ => { std := pairStamps s.ports[p].ptp.mask stamps items }) s

/-- The port's holding store becomes the rate-adaptation store of a standard mode. -/
def toStd (p : PortId) (s : State) : State := forClasses (fun c t => toStdClass p c t) (unpack p s)

/-- R114: a master-slave configuration fault: no link; under AUTO the next attempt does not force master. -/
def msFault (p : PortId) (s : State) : State :=
  modLink p (fun l => { l with failPhase := .autoneg, failReason := .msFault, msBackOff := decide (l.leaderPolicy = 0) }) s

/-- R111, R115, R261: an Etoon mode is resolved: versions, roles, seed, lane mode; training begins at Q. -/
def resolvedEtoon (p : PortId) (m : EMode) (lv sv : BitVec 4 × BitVec 4) (leader : Bool) (partnerSeed : BitVec 12) (s : State) : State :=
  let t := modPort p (fun q =>
    let seed := if leader then q.link.ownSeed else partnerSeed
    { q with
      store := { q.store with seed := seed }
      link := { q.link with
        mode := some (.etoon m), lineVersion := versionWord lv, shVersion := versionWord sv, leader := leader, seed := seed
        epoch := 0, noCommonMode := false, msBackOff := false, mcStatus := .idle } }) s
  enterPhase p .q (pfcCheck p (resolveLane p (.etoon m) (gapAbandoned s t)))

/-- R113: a standard mode is resolved; the port comes up as its clause defines. -/
def resolvedStd (p : PortId) (m : SMode) (leader : Bool) (s : State) : State :=
  let t := modLink p (fun l => { l with
    mode := some (.std m), lineVersion := 0xFFFF, shVersion := 0xFFFF, leader := leader, noCommonMode := false, msBackOff := false
    mcStatus := .idle }) s
  pfcCheck p (resolveLane p (.std m) (toStd p (gapAbandoned s t)))

/-- The Wenvo pages of the partner, if it sent W0 to W2 (R113). -/
def wenvoOf : PartnerPages → Option WenvoPages
  | .wenvo w => some w
  | .foreign _ => none
  | .noNp => none

/-- R110: message pages that are not from Wenvo are answered with null message pages. -/
def answerForeign (pages : PartnerPages) (l : Link) : Link :=
  match pages with
  | .foreign n => if l.np then { l with pagesSent := l.pagesSent ++ List.replicate n nullPage } else { l with pagesSent := List.replicate n nullPage }
  | .wenvo _ => l
  | .noNp => l

/-- R114: the Clause 98 outcome can follow from the role this end forced: a forced master is no slave, a forced slave no master. -/
def msPossible (forced : Option Bool) (ms : MsOutcome) : Bool :=
  match forced, ms with
  | some true, .slave => false
  | some false, .master => false
  | _, _ => true

/-- R111 to R115: auto-negotiation resolves. -/
def autonegResolve (p : PortId) (sent : PartnerPages) (std : BitVec 5) (ms : MsOutcome) (s : State) : State :=
  let pages := wenvoOf sent
  if s.ports[p].link.phase ≠ .autoneg ∨ s.ports[p].link.up ∨ inputCut s.ports[p] ∨ msPossible s.ports[p].link.forced ms = false then s
  else
    let s := modLink p (fun l => answerForeign sent (notePartner pages std l)) s
    if ms = .fault then msFault p s
    else
      let leader := decide (ms = .master)
      match resolveEtoon s.ports[p] (activeBank s.rcp) pages with
      | some (m, lv, sv) =>
        resolvedEtoon p m lv sv leader (match pages with | some w => w.seed | none => 0) s
      | none =>
        match highestStd (s.ports[p].link.offer &&& (std.zeroExtend 16 <<< 8)) with
        | some m => resolvedStd p m leader s
        | none => modLink p (fun l => { l with noCommonMode := true, mode := none }) s

/-! ## Failures (R119, R134 to R138) -/

/-- R119: a failure is shown in LastFailure and recorded. -/
def noteFailure (p : PortId) (r : FailReason) (s : State) : State :=
  let ph := s.ports[p].link.phase
  raise (bayEv p 0x0003 4 [portByte p (inEpisode s p), BitVec.ofNat 8 (phaseCode ph), BitVec.ofNat 8 (failCode r)])
    (modLink p (fun l => { l with failPhase := ph, failReason := r }) s)

/-- R138: training has failed again in the same mode after an auto-negotiation: the second time withdraws the mode. -/
def noteModeFailed (p : PortId) (m : EMode) (s : State) : State :=
  let s := modLink p (fun l => { l with failedSinceAn := true }) s
  let l := s.ports[p].link
  let n := if l.failMode = some m then l.failCount + 1 else 1
  if 2 ≤ n then
    raise (bayEv p 0x0004 3 [BitVec.ofNat 8 p.val, BitVec.ofNat 8 (emodeCode m)])
      (modLink p (fun l => { l with withdrawn := l.withdrawn ||| (1#16 <<< emodeBit m), failMode := none, failCount := 0 }) s)
  else modLink p (fun l => { l with failMode := some m, failCount := n }) s

/-- R133 to R135: a fast relink has failed; a full retrain follows, unless the episode is over. -/
def fastFail (p : PortId) (r : FailReason) (beacons : Bool) (s : State) : State :=
  let t := modLink p (fun l => { l with counters := bump 2 1 l.counters, fastFailed := true, bySecondRow := true }) (noteFailure p r s)
  if episodeOver t p then tryAutoneg p t else restartFull p beacons t

/-- R119, R137, R138: training has failed; auto-negotiation follows. -/
def trainFail (p : PortId) (r : FailReason) (s : State) : State :=
  let t := modLink p (fun l => { l with counters := bump 5 1 l.counters }) (noteFailure p r s)
  let t := match s.ports[p].link.relink, etoonMode s.ports[p] with
    | some .full, _ => t
    | _, some m => noteModeFailed p m t
    | _, none => t
  tryAutoneg p t

/-! ## Confirmation of starts (R123 to R126) -/

/-- R126: the port sends its full-training sequence for 4 periods before it restarts at Q; its phase stands still meanwhile. -/
def restarting (q : Port) : Bool := decide (0 < q.train.restartAfter)

/-- The sequence is confirmed at an alignment, once in a phase; for one period a stronger one may pre-empt it (R125). -/
def noteConfirmed (p : PortId) (corr : Nat) (s : State) : State :=
  modTrain p (fun t => if t.confirmed.isSome then { t with candidate := false } else
    { t with candidate := false, confirmed := some corr, confirmedAt := s.aon.tally, preOpen := true }) s

/-- R126: a port in a full retrain confirms the partner's fast-relink sequence: it joins F, or sends 4 whole periods of its own sequence, the one
under way not counted, and restarts at Q. -/
def joinFast (p : PortId) (s : State) : State :=
  match etoonMode s.ports[p] with
  | none => s
  | some m =>
    if !s.ports[p].link.bySecondRow && fastAllowed s.ports[p] m && !episodeOver s p && decide (capped s.ports[p] m = m) then beginFast p s
    else
      let was := transmits s.ports[p]
      let t := modTrain p (fun t => { t with restartAfter := if was then 5 else 4, readySent := none }) s
      if was then t else sendPeriod p (disarmDue p t)

/-- R117, R123: the use of the sequence of training state k, if the correlator expects it: of the link's seed and the partner's role, and
in phase F the full-training sequence of either end (R126). -/
def expectedUse (q : Port) (k : BitVec 58) : Option TrainUse :=
  if k = trainState q.link.seed .full (!q.link.leader) then some .full
  else if k = trainState q.link.seed .fast (!q.link.leader) then some .fast
  else if q.link.phase = .f ∧ k = trainState q.link.seed .full q.link.leader then some .full
  else none

/-- R123, R126: a start is confirmed on a sequence of full training or of a fast relink; any other sequence never is (R117), and none is heard
while the sieve cuts the receiver's input (R225). -/
def startConfirmed (p : PortId) (k : BitVec 58) (corr : Nat) (s : State) : State :=
  let q := s.ports[p]
  if !(awaiting q || (decide (q.link.phase = .s) && !q.link.up)) || decide (corr < 500) || inputCut q || restarting q then s
  else
    match expectedUse q k with
    | none => s
    | some u =>
    match u, q.link.phase with
    | .full, .f => fastGivesWay p false s
    | .full, .s => s
    | .fast, .f => noteConfirmed p corr s
    | .fast, _ => if q.link.relink = some .full then noteConfirmed p corr (joinFast p s) else s
    | .full, .q => if q.link.leader then noteConfirmed p corr s else noteConfirmed p corr (enterPhase p .e1 s)
    | .full, .e2 => if q.link.leader then noteConfirmed p corr s else noteConfirmed p corr (enterPhase p .a s)
    | .full, _ => noteConfirmed p corr s

/-- R125: 3 dB more correlation than the confirmed one, in thousandths. -/
def exceeds3dB (corr confirmed : Nat) : Bool := decide (confirmed * 141254 ≤ corr * 100000)

/-! ## Criteria (R119, R133) -/

/-- R119, R133: the exit criterion of the port's phase holds. -/
def criterionMet (s : State) (p : PortId) (m : Criterion) : Bool :=
  let q := s.ports[p]
  let age := s.aon.tally - q.train.since
  match q.link.phase with
  | .q => q.link.leader && decide (200000 ≤ age) && decide (m.power < -4500)
  | .e1 => q.link.leader && decide (1000000 ≤ age) && decide (m.near ≤ -4500) && decide (m.far ≤ -4500)
  | .e2 => !q.link.leader && transmits q && decide (m.near ≤ -4500) && decide (m.far ≤ -4500)
  | .a => q.dsp.locked && decide (2400 ≤ m.snr) && decide (64 ≤ m.averages) && decide (m.near ≤ -4000) && decide (m.far ≤ -4000)
  | .x => m.joined && decide (2400 ≤ m.snr)
  | .f => q.train.reloaded && q.train.confirmed.isSome && q.dsp.locked && decide (2200 ≤ m.snr) && decide (16 ≤ m.averages)
          && decide (m.near ≤ -3500) && decide (m.far ≤ -3500)
  | _ => false

/-- R119: the criterion is met; the leader leaves Q at once, every other phase by its READY periods. -/
def exitCriterion (p : PortId) (m : Criterion) (s : State) : State :=
  if criterionMet s p m && !restarting s.ports[p] then
    if s.ports[p].link.phase = .q then enterPhase p .e1 s else modTrain p (fun t => { t with critMet := true }) s
  else s

/-- R87, R122: slot 0 of phase S is this end's next one; the partner's slot 0 is the first slot collected, which may have come before, so that
the link can come up at once. -/
def enterS (p : PortId) (s : State) : State :=
  checkLinkUp p (enterPhase p .s (modPort p (fun q => { q with
    line := { q.line with
      txSlot := 0, rxSlot := if q.train.rxStarted then q.line.rxSlot else 0, badRun := 0, owed := [], txLpi := .active
      partnerQuiet := false, wakeWindow := none } }) s))

/-- READY periods sent whole, after one more own boundary (R118). -/
def readyStep (t : Train) : Option Nat :=
  match t.readySent with
  | some n => some (n + 1)
  | none => if t.critMet then some 0 else none

/-- R125: a whole period has passed since the confirmation. -/
def preClosed (now : Nat) (m : EMode) (t : Train) : Bool := decide (periodThirds m ≤ 3 * (now - t.confirmedAt))

/-- R118: the partner's whole READY period counts for this phase: it began no more than half a period before the first own one; in E2 the
leader counts any that began after it entered. -/
def readyCounts (q : Port) (m : EMode) : Bool :=
  match q.train.partnerReadyAt with
  | none => false
  | some b =>
    if q.link.phase = .e2 then q.link.leader && decide (q.train.since < b)
    else match q.train.readyAt with
    | some a => decide (6 * a ≤ 6 * b + periodThirds m)
    | none => false

/-- R118: the training state at an own period boundary: READY periods sent and heard, the window of R125, LOCKED at the leader's first
READY of E1 (R120). -/
def boundaryTrain (now : Nat) (m : EMode) (phase : Phase) (locked : Bool) (partnerReady : Option Nat) (t : Train) : Train :=
  let sent := readyStep t
  { t with
    periods := t.periods + 1, readySent := sent
    readyAt := if t.readySent.isNone && sent.isSome then some now else t.readyAt
    partnerReadyAt := partnerReady <|> t.partnerReadyAt
    lockedAtReady := if phase = .e1 ∧ partnerReady.isSome then t.lockedAtReady <|> some locked else t.lockedAtReady
    preOpen := t.preOpen && !preClosed now m t }

/-- R118, R119: an end leaves its phase at an own period boundary. -/
def leavePhase (p : PortId) (m : EMode) (s : State) : State :=
  let q := s.ports[p]
  let sent := q.train.readySent.getD 0
  let heard := readyCounts q m
  match q.link.phase with
  | .e1 => if q.link.leader ∧ 2 ≤ sent then enterPhase p .e2 s else s
  | .e2 => if q.link.leader ∧ heard then enterPhase p .a s else s
  | .a => if 1 ≤ sent ∧ heard then enterPhase p .x s else s
  | .x => if (1 ≤ sent ∧ heard) ∨ q.train.limitPassed then enterS p s else s
  | .f => if 1 ≤ sent ∧ heard then enterS p s else s
  | _ => s

/-- R14, R118, R119: what an end does at its own period boundary; in phase X a neighbour's stream is taken up, and a period begins. The
partner's READY is not heard while the sieve cuts the receiver's input (R225). -/
def periodBoundary (p : PortId) (partnerReady : Option Nat) (s : State) : State :=
  let q := s.ports[p]
  match etoonMode q with
  | none => s
  | some m =>
    if q.train.restartAfter = 1 then enterPhase p .q (modTrain p (fun t => { t with restartAfter := 0 }) s)
    else if restarting q then sendPeriod p (modTrain p (fun t => { t with periods := t.periods + 1, restartAfter := t.restartAfter - 1 }) s)
    else
      let heard := if inputCut q then none else partnerReady
      let t := modTrain p (boundaryTrain s.aon.tally m q.link.phase (decide (q.dsp.locked = true)) heard) s
      let t := leavePhase p m t
      let r := t.ports[p]
      let t := if r.link.phase = .x then dspBoundary p t else t
      if r.link.phase = q.link.phase ∨ (transmits q ∧ transmits r) then sendPeriod p t else t

/-! ## Limits (Table 5-5, R135) -/

/-- Table 5-5: the limit of a phase in ns. -/
def phaseLimit (m : EMode) (leader fast : Bool) : Phase → Option Nat
  | .q => some (if leader then 1000000 else 1100000)
  | .e1 => some (match m with | .el50 => 4000000 | .el25 => 5500000 | .el10 => 10000000)
  | .e2 => some (match m with | .el50 => 4000000 | .el25 => 5500000 | .el10 => 10000000)
  | .a => some (match m with | .el50 => 10000000 | .el25 => 14000000 | .el10 => 24000000)
  | .x => some (match m with | .el50 => 4000000 | .el25 => 6000000 | .el10 => 10000000)
  | .s => if fast then some 25000
          else some ((match m with | .el50 => 2000000 | .el25 => 3000000 | .el10 => 5000000) - (if leader then 0 else 100000))
  | _ => none

/-- Table 5-5: full training in ns, at most, at either end. -/
def trainingTotal : EMode → Nat
  | .el50 => 25000000
  | .el25 => 35000000
  | .el10 => 60000000

/-- R150: the criterion that the phase's limit asks for is met, and takes no READY of the partner: the exit beats the limit. -/
def exitBeatsLimit (q : Port) : Bool :=
  q.train.critMet && (match q.link.phase with
    | .e1 => q.link.leader
    | .e2 => !q.link.leader
    | .f => true
    | _ => false)

/-- The reason that a missed criterion gives (log entry 12). -/
def missReason (q : Port) (m : Criterion) : FailReason :=
  match q.link.phase with
  | .q => if q.link.leader then .noisy else .noPartner
  | .e1 => if q.link.leader then .echoResidual else if q.dsp.locked then .limit else .noLock
  | .e2 => if q.link.leader then .noPartner else .echoResidual
  | .s => .limit
  | _ =>
    if !q.dsp.locked then .noLock
    else if m.snr < (if q.link.phase = .f then 2200 else 2400) then .snr
    else if (if q.link.phase = .f then -3500 else -4000) < max m.near m.far then .echoResidual
    else .limit

/-- R119, R121: the phase's limit expires before its criterion is met, and where the criterion takes the partner's READY, before that:
training fails; phase X ends at the next own period boundary instead (R122). An arrival is handled before the timer (R150), so an end
that has met a criterion of its own goes on to its READY periods, within the total of the whole training. -/
def phaseLimitExpiry (p : PortId) (m : Criterion) (s : State) : State :=
  let q := s.ports[p]
  match etoonMode q with
  | none => s
  | some mode =>
    let fast := decide (q.link.relink = some .fast)
    match phaseLimit mode q.link.leader fast q.link.phase with
    | none => s
    | some n =>
      if q.link.up || fast || restarting q || decide (s.aon.tally < q.train.since + n) then s
      else if q.link.phase = .x then modTrain p (fun t => { t with limitPassed := true }) s
      else if exitBeatsLimit q ∧ s.aon.tally < q.train.begun + trainingTotal mode then s
      else trainFail p (if q.train.critMet then .limit else missReason q m) s

/-- R135: phase F's 55 µs from confirmation are over with its criterion not met (R150), or phase S's 25 µs within a fast relink. Whether beacons go ahead of the full retrain
that follows is not said; the model launches none (log entry 74). -/
def fastLimit (p : PortId) (m : Criterion) (s : State) : State :=
  let q := s.ports[p]
  if q.link.up ∨ q.link.relink ≠ some .fast then s
  else if q.link.phase = .f then
    if q.train.confirmed.isSome ∧ q.train.confirmedAt + 55000 ≤ s.aon.tally ∧ exitBeatsLimit q = false
    then fastFail p (missReason q m) false s else s
  else if q.link.phase = .s ∧ q.train.since + 25000 ≤ s.aon.tally then fastFail p .limit false s
  else s

/-- R133: the snapshot reload of a fast relink completes: the filters hold it, lock has still to be found, and the fast-relink sequence
begins; where no snapshot can be read, the fast relink fails. -/
def reloadDone (p : PortId) (s : State) : State :=
  let q := s.ports[p]
  if q.link.phase ≠ .f ∨ q.train.reloaded then s
  else match etoonMode q with
  | none => s
  | some m =>
    match snapshotFor q.store m with
    | none => fastFail p .noSnapshot true s
    | some x =>
      sendPeriod p (xtalkBoundary p (modPort p (fun q => { q with
        dsp := { loadSnapshot m x q.dsp with locked := false }
        train := { q.train with reloaded := true } }) s))

/-- R134: 4 periods after confirmation an echo residual is still above −30 dB: the cable has changed. -/
def echoCheck (p : PortId) (near far : Int) (s : State) : State :=
  let q := s.ports[p]
  match etoonMode q with
  | none => s
  | some m =>
    if q.link.phase = .f ∧ q.train.confirmed.isSome ∧ 4 * periodThirds m ≤ 3 * (s.aon.tally - q.train.confirmedAt)
        ∧ (-3000 < near ∨ -3000 < far)
    then fastFail p .echoChanged true s else s

/-! ## What the host asks of a port (R127, R138, R147, Table 5-12) -/

/-- The Etoon mode of a TargetMode value. -/
def targetOf (v : BitVec 8) : Option EMode := emodeOf v.toNat

/-- R127, R145: RETRAIN_GO. -/
def retrainGo (p : PortId) (s : State) : State :=
  let q := s.ports[p]
  let set := fun t : State => if q.link.mcStatus = .noSnapshot
    then modLink p (fun l => { l with retrainMode := targetOf l.target }) t else t
  if q.link.choosing then modLink p (fun l => { l with wantFull := true }) s
  else if q.link.up then (if (etoonMode q).isSome then set (declareDown p .hostRetrain s) else s)
  else if awaiting q || decide (q.link.phase = .s) then restartFull p (decide (q.link.phase = .f)) (modLink p (fun l => { l with bySecondRow := true }) s)
  else s

/-- R126, R127: a relink still to be chosen becomes auto-negotiation, chosen at once, or behind the record of a clock failure that is being
handled (R353). -/
def chooseAutoneg (p : PortId) (s : State) : State := chooseAndBegin p (modLink p (fun l => { l with wantAn := true }) s)

/-- R127, R138: RESTART_AN_GO; on a port whose relink has still to be chosen, its LINK_DOWN record names auto-negotiation. -/
def restartAnGo (p : PortId) (s : State) : State :=
  let s := modLink p (fun l => { l with withdrawn := 0 }) s
  if s.ports[p].link.up then declareDown p .hostRestartAn s
  else if s.ports[p].link.choosing then chooseAutoneg p s
  else tryAutoneg p s

/-- R146, R147: SLEEP_GO: the request is sent in the first slot at whose boundary R99 holds; in 1000BASE-T1 TC10's low-power request goes to
the partner, and its timer runs (log entry 35); elsewhere sleep is refused. -/
def sleepGo (p : PortId) (s : State) : State :=
  let q := s.ports[p]
  if !q.link.up || !q.link.linkPolicy.getLsbD 2 then s
  else match q.link.mode with
  | some (.etoon _) => modLink p (fun l => { l with sleepWait := some s.aon.tally }) s
  | some (.std .b1g) => modLink p (fun l => { l with sleepSent := true, sleepWait := some s.aon.tally }) s
  | _ => s

/-- R146, R148: the wake pulse begins: 1.0 ms of the square wave, or of TC10's wake-up pulse on a port that slept in 1000BASE-T1 (log entry 35),
as the sieve leaves it (R53). A wake of a port whose pulse is being sent changes nothing (the model's choice, log entry 96). -/
def startPulse (p : PortId) (s : State) : State :=
  if s.ports[p].link.wakePulse.isSome then s
  else
    let t := modLine p (fun l => { l with driver := .on }) (modLink p (fun l => { l with wakePulse := some s.aon.tally }) s)
    if inStd s.ports[p] then t else release p (asLaunched s.ports[p].sieve (.wave wakePeriods)) t

/-- Table 5-15: a wake wins over a sleep handshake, in which what this end still owed is dropped and nothing more is sent (the model's choice, log
entry 96); an asleep port sends its wake pulse (R149). -/
def localWake (p : PortId) (s : State) : State :=
  let l := s.ports[p].link
  if l.up then
    modPort p (fun q => { q with
      link := { q.link with sleepWait := none, sleepSent := false }
      line := { q.line with owed := q.line.owed.filter (fun c => c ≠ .sleepRequest ∧ c ≠ .sleepAck) } }) s
  else if l.asleep then startPulse p s
  else s

/-- R149: the port is awake and starts auto-negotiation. -/
def wakePort (p : PortId) (s : State) : State :=
  tryAutoneg p (modLine p (fun l => { l with driver := .on }) (modLink p (fun l => { l with asleep := false, wakePulse := none, wakeDue := none }) s))

/-- R127: AdminState DISABLED: the port goes, or stays, down. A link-down that has another cause keeps it, and its relink is chosen by that
cause; the manual does not say (log entry 75). -/
def adminDisable (p : PortId) (s : State) : State :=
  let s := modLink p (fun l => { l with adminEnabled := false }) s
  if s.ports[p].link.up then declareDown p .hostDisable s
  else if s.ports[p].link.choosing ∨ s.ports[p].link.asleep then s
  else modLink p (fun l => { l with phase := .disabled, relink := none }) s

/-- R109: AdminState ENABLED. -/
def adminEnable (p : PortId) (s : State) : State := modLink p (fun l => { l with adminEnabled := true }) s

/-- R138: a ModeMask write is used at the next auto-negotiation and offers every withdrawn mode again. -/
def writeModeMask (p : PortId) (v : BitVec 16) (s : State) : State := modLink p (fun l => { l with modeMask := v, withdrawn := 0 }) s

/-- R138, R140: a TargetMode write starts a mode change, and offers a withdrawn mode again. -/
def writeTarget (p : PortId) (v : BitVec 8) (s : State) : State :=
  let s := modLink p (fun l => { l with target := v }) s
  match targetOf v with
  | none => s
  | some m =>
    let s := modLink p (fun l => { l with withdrawn := l.withdrawn &&& ~~~(1#16 <<< emodeBit m) }) s
    let q := s.ports[p]
    if !q.link.up then
      (if q.link.choosing then modLink p (fun l => { l with mcStatus := .abandonedLinkDown }) s else s)
    else if mcBusy q || decide (etoonMode q = some m) then s
    else mcStart p m none s

/-! ## Commands -/

/-- R109: a port that is down with no relink under way starts auto-negotiation, or starts it again. -/
def execAutonegStart (p : PortId) (s : State) : Host.Outcome State Fault Refusal :=
  .next (
    let l := s.ports[p].link
    if l.up ∨ l.choosing ∨ (l.phase ≠ .disabled ∧ l.phase ≠ .autoneg) then s
    else if autonegAllowed s p then beginAutoneg p s else s)

/-- R111: auto-negotiation resolves. -/
def execAutonegResolve (p : PortId) (pages : PartnerPages) (stdModes : BitVec 5) (ms : MsOutcome) (s : State) :
    Host.Outcome State Fault Refusal := .next (autonegResolve p pages stdModes ms s)

/-- R126, R127: Clause 98 pages from the partner. -/
def execClause98Pages (p : PortId) (s : State) : Host.Outcome State Fault Refusal :=
  .next (
    let q := s.ports[p]
    if inputCut q then s
    else if q.link.up then (if (etoonMode q).isSome then declareDown p .partnerAutoneg s else s)
    else if q.link.choosing then chooseAutoneg p s
    else if awaiting q || decide (q.link.phase = .s) then tryAutoneg p s
    else s)

/-- R123: received power above −30 dB opens a candidate. -/
def execStartCandidate (p : PortId) (power : Int) (s : State) : Host.Outcome State Fault Refusal :=
  .next (if awaiting s.ports[p] ∧ inputCut s.ports[p] = false ∧ -3000 < power then modTrain p (fun t => { t with candidate := true }) s else s)

/-- R123: a start is confirmed. -/
def execStartConfirmed (p : PortId) (k : BitVec 58) (corr : Nat) (s : State) : Host.Outcome State Fault Refusal :=
  .next (startConfirmed p k corr s)

/-- R124: a candidate was not confirmed within 4 periods. -/
def execFalseStart (p : PortId) (s : State) : Host.Outcome State Fault Refusal :=
  .next (if s.ports[p].train.candidate then
    modLink p (fun l => { l with counters := bump 6 1 l.counters }) (modTrain p (fun t => { t with candidate := false }) s) else s)

/-- R125: a stronger alignment within one period of the confirmation takes over. -/
def execPreEmption (p : PortId) (corr : Nat) (s : State) : Host.Outcome State Fault Refusal :=
  .next (
    let t := s.ports[p].train
    match t.confirmed, etoonMode s.ports[p] with
    | some c, some m =>
      if t.preOpen && !inputCut s.ports[p] && decide (3 * (s.aon.tally - t.confirmedAt) < periodThirds m) && exceeds3dB corr c then
        modLink p (fun l => { l with counters := bump 7 1 l.counters }) (modTrain p (fun t => { t with confirmed := some corr }) s)
      else s
    | _, _ => s)

/-- R119: the phase's exit criterion is met. -/
def execExitCriterionMet (p : PortId) (m : Criterion) (s : State) : Host.Outcome State Fault Refusal := .next (exitCriterion p m s)

/-- R118: an own period boundary. -/
def execPeriodBoundary (p : PortId) (partnerReady : Option Nat) (s : State) : Host.Outcome State Fault Refusal :=
  .next (if awaiting s.ports[p] then periodBoundary p partnerReady s else s)

/-- R119: a phase limit expires. -/
def execPhaseLimitExpiry (p : PortId) (m : Criterion) (s : State) : Host.Outcome State Fault Refusal := .next (phaseLimitExpiry p m s)

/-- R128, R131: the relink is chosen and begun. -/
def execRelinkChoose (p : PortId) (s : State) : Host.Outcome State Fault Refusal := .next (chooseAndBegin p s)

/-- R133: the snapshot reload is complete. -/
def execSnapshotReload (p : PortId) (s : State) : Host.Outcome State Fault Refusal := .next (reloadDone p s)

/-- R134: the echo check of a fast relink. -/
def execEchoChangeCheck (p : PortId) (near far : Int) (s : State) : Host.Outcome State Fault Refusal := .next (echoCheck p near far s)

/-- R135: the limits of a fast relink. -/
def execFastRelinkLimit (p : PortId) (m : Criterion) (s : State) : Host.Outcome State Fault Refusal := .next (fastLimit p m s)

/-- Table 5-6: 10 s since the link-down that began the episode. -/
def execEpisodeLimit (p : PortId) (s : State) : Host.Outcome State Fault Refusal :=
  .next (
    let l := s.ports[p].link
    if l.up ∨ l.choosing ∨ episodeOver s p = false ∨ l.relink = some .autoneg ∨ l.relink = none then s
    else if l.relink = some .fast then tryAutoneg p (modLink p (fun l => { l with counters := bump 2 1 l.counters }) (noteFailure p .limit s))
    else tryAutoneg p s)

/-- R146, R147: how long a sleep request waits, in ns: 10 ms for R99 in an Etoon mode, 16 ms for TC10's acknowledgement in 1000BASE-T1 (log
entry 35). -/
def sleepLimit (q : Port) : Nat := if inStd q then 16000000 else 10000000

/-- R146, R147: the sleep request has waited its time and is refused, or has failed. -/
def execSleepWaitTimeout (p : PortId) (s : State) : Host.Outcome State Fault Refusal :=
  .next (match s.ports[p].link.sleepWait with
    | some t => if t + sleepLimit s.ports[p] ≤ s.aon.tally then modLink p (fun l => { l with
        sleepWait := none, sleepSent := l.sleepSent && !inStd s.ports[p] }) s else s
    | none => s)

/-- R148, R149: the wake pulse has been sent for 1.0 ms; the port starts auto-negotiation. -/
def execWakePulseDone (p : PortId) (s : State) : Host.Outcome State Fault Refusal :=
  .next (match s.ports[p].link.wakePulse with
    | some t => if t + 1000000 ≤ s.aon.tally then wakePort p s else s
    | none => s)

/-- R119, R120: the follower detects the leader's silence; it was LOCKED at the leader's first READY period, or as it stands now where none
was heard. -/
def leaderSilent (p : PortId) (s : State) : State :=
  let q := s.ports[p]
  if q.link.phase = .e1 ∧ q.link.leader = false ∧ restarting q = false then
    enterPhase p .e2 (modTrain p (fun t => { t with lockedAtReady := t.lockedAtReady <|> some q.dsp.locked }) s)
  else s

/-- R119: the follower detects the leader's silence. -/
def execLeaderSilence (p : PortId) (s : State) : Host.Outcome State Fault Refusal := .next (leaderSilent p s)

/-- R105, R122: a standard mode comes up, with FAB, which carries its data, on input 1 (R345). -/
def execStandardUp (p : PortId) (s : State) : Host.Outcome State Fault Refusal :=
  .next (if inStd s.ports[p] ∧ s.ports[p].link.up = false ∧ s.ports[p].link.phase = .autoneg ∧ inputCut s.ports[p] = false
      ∧ s.clk.onInput1.contains .fab
    then linkUp p .standardUp .standard s else s)

/-- R208: the link of a port in a standard mode fails; a frame cut on the line is lost, in its place in delivery order. -/
def stdFail (p : PortId) (cut : Option (Cls × Nat)) (s : State) : State :=
  if inStd s.ports[p] ∧ s.ports[p].link.up then
    let t := match cut with
      | some (c, n) => modRx p c (fun r => { r with ready := r.ready ++
          [.loss { cause := .standardLine, seqCount := 0, frames := 1, bytes := n, provoked := inEpisode s p }] }) s
      | none => s
    declareDown p .standardLinkFail t
  else s

/-- R208: a standard link fails. -/
def execStandardLinkFail (p : PortId) (cut : Option (Cls × Nat)) (s : State) : Host.Outcome State Fault Refusal := .next (stdFail p cut s)

/-- R107: a frame received whole through the standard PCS; none is where the sieve cuts the receiver's input (R219, R225). -/
def execStandardPcsFrame (p : PortId) (c : Cls) (bytes : List Byte) (errored : Bool) (at_ : Nat) (s : State) :
    Host.Outcome State Fault Refusal :=
  .next (if inStd s.ports[p] ∧ s.ports[p].link.up ∧ inputCut s.ports[p] = false then
    modCnt p (fun n => { n with framesOut := bump64 c.val 1 n.framesOut })
      (modRx p c (fun r => { r with ready := r.ready ++
        [.frame { bytes := bytes, errored := errored, std := true, arrived := at_ }] }) s)
  else s)

/-- R112, R211: the next mode below a mode, for a port that is down; the lowest of its kind stays (log entry 85). -/
def modeBelow : LineMode → LineMode
  | .etoon m => .etoon ((nextLower m).getD m)
  | .std .b25g => .std .b10g
  | .std .b10g => .std .b5g
  | .std .b5g => .std .b2g5
  | .std .b2g5 => .std .b1g
  | .std .b1g => .std .b1g

/-- R211: a named bay applies the order in progress, or reports why not. -/
def rollApply (p : PortId) (s : State) : State :=
  let q := s.ports[p]
  let r := s.roll
  if !rollPending r p then s
  else if bayInTest s p then rollReport p resRefused 0x93 s
  else if !bayOpen s p then rollReport p resRefused 0x92 s
  else if orderKind r.order = 3 then rollReport p resApplied 0 { s with roll := { r with lpiMask := r.lpiMask ||| (1#8 <<< p.val) } }
  else if orderKind r.order = 4 then
    wakeRequest p (rollReport p resApplied 0 { s with roll := { r with lpiMask := r.lpiMask &&& ~~~(1#8 <<< p.val) } })
  else
    let down := orderKind r.order = 1
    if q.link.up then
      match q.link.mode with
      | some (.etoon m) =>
        if mcBusy q then s
        else
          match (if down then nextLower m else emodeOf (orderArg r.order)) with
          | none => rollReport p resRefused 0x91 s
          | some target => if target = m then rollReport p resAlready 0 s else mcStart p target (some r.epoch) s
      | _ => rollReport p resRefused 0x90 s
    else
      let target := if down then q.link.lastMode.map modeBelow else (emodeOf (orderArg r.order)).map LineMode.etoon
      rollReport p resCapped 0 (modLink p (fun l => { l with cap := target <|> l.cap }) s)

/-- R211: a named bay applies the order. -/
def execRollCallApply (p : PortId) (s : State) : Host.Outcome State Fault Refusal := .next (rollApply p s)

end Sys2Proof.Machine
end

