-- ==== Sys2Proof/Machine/Clocks.lean ====
section
/-! DEFINITION. Clocks.lean: clock sources, the monitor, warm and cold switches (R344 to R356). A device reset that a cold switch
asks for (R355) stands in Reset.lean. -/

namespace Sys2Proof.Machine

/-! ## EVT16 (R303) -/

/-- The distance d(a, b). -/
def evtDist (a b : BitVec 16) : Nat := (b - a).toNat

/-- R303: event bits set in one cycle. -/
def evtSet (e : BitVec 16) (v : Evt16) : Evt16 :=
  let ctr := v.ctr + 1
  let bits := v.bits ||| e
  { ctr := ctr, bits := bits
    last := v.last.mapIdx (fun i l =>
      let l := if e.getLsbD i then ctr else l
      if bits.getLsbD i && decide (32768 ≤ evtDist l ctr) then ctr - 32767 else l) }

/-- R303: a write of sequence and mask; none: the sequence is ahead of the counter. -/
def evtClear (w : BitVec 32) (v : Evt16) : Option Evt16 :=
  let q : BitVec 16 := (w >>> 16).truncate 16
  let mask : BitVec 16 := w.truncate 16
  let d := evtDist v.ctr q
  if 1 ≤ d ∧ d ≤ 32767 then none
  else
    some { v with bits := v.bits &&& ~~~(BitVec.ofNat 16 ((List.range 16).foldl (fun a i =>
      if mask.getLsbD i && decide (evtDist (v.last.getD i 0) q ≤ 32767) then a + 2 ^ i else a) 0)) }

/-- R303: the field as read. -/
def evtRead (v : Evt16) : BitVec 32 := v.ctr ++ v.bits

/-! ## Clock state -/

/-- The clocks changed. -/
def modClk (f : Clocks → Clocks) (s : State) : State := { s with clk := f s.clk }

/-- Bits of ClockEvents set. -/
def clkEvent (e : BitVec 16) (s : State) : State := modClk (fun k => { k with events := evtSet e k.events }) s

/-- SourceState codes. -/
def srcCode : SrcState → Nat
  | .off => 0
  | .starting => 1
  | .running => 2
  | .failed => 3

/-- The one state that SourceState shows for the eight host-lane PLLs: the most advanced among them. -/
def hostPllState (l : List SrcState) : SrcState :=
  if l.any (fun x => decide (x = .running)) then .running
  else if l.any (fun x => decide (x = .failed)) then .failed
  else if l.any (fun x => decide (x = .starting)) then .starting
  else .off

/-- SourceState (0x2100:01). -/
def sourceState (k : Clocks) : Nat := srcCode k.rc + 4 * srcCode k.ref + 16 * srcCode k.pll + 64 * srcCode (hostPllState k.hostPll)

/-- MonitorState (0x2102:01). -/
def monitorState (k : Clocks) : Nat :=
  (k.onInput1.contains .ctl).toNat + 2 * (k.onInput1.contains .slow).toNat + 4 * k.armed.toNat + 8 * (!k.pending.isEmpty).toNat

/-- The domain runs on input 1. -/
def onInput1 (s : State) (d : Domain) : Bool := s.clk.onInput1.contains d

/-- The domains that the main PLL feeds. -/
def pllDomains : List Domain := [.ctl, .eng, .fab] ++ (List.finRange 8).map Domain.sym

/-- R354: the input a domain asks for. -/
def wantsInput1 (k : Clocks) (d : Domain) : Bool :=
  match d with
  | .ctl => decide (k.ctlSource = 1)
  | .slow => decide (k.slowSource = 1)
  | _ => true

/-- R350: the source of input 1 runs. -/
def input1Runs (k : Clocks) (d : Domain) : Bool :=
  match d with
  | .slow => decide (k.ref = .running)
  | _ => decide (k.pll = .running)

/-- R346, R358: the clock of a domain is stopped: SYM of a bay that is not open, or in a standard mode. -/
def domainStopped (s : State) : Domain → Bool
  | .sym p => !bayOpen s p || inStd s.ports[p]
  | _ => false

/-- R344, R348: a domain's clock runs: from its source on input 1, or from RC, which runs at all times but while a re-trim stops it. -/
def domainRuns (s : State) (d : Domain) : Bool :=
  !domainStopped s d && (if s.clk.onInput1.contains d then input1Runs s.clk d else decide (s.clk.rc = .running))

/-! ## Frequencies (Tables 14-1, 14-2) -/

/-- Table 14-1: RC, REF and the main PLL, which is 720 × REF, in kHz. -/
def rcKHz : Nat := 32000
/-- REF. -/
def refKHz : Nat := 50000
/-- The main PLL. -/
def pllKHz : Nat := 720 * refKHz

/-- Table 14-2: the divider of SYM by the bay's Etoon mode. -/
def symDivider : EMode → Nat
  | .el50 => 2
  | .el25 => 4
  | .el10 => 10

/-- Table 14-2: what input 1 of a domain divides its source by; none for SYM of a bay in no Etoon mode. -/
def domainDivider (s : State) : Domain → Option Nat
  | .sym p => (etoonMode s.ports[p]).map symDivider
  | .eng => some 32
  | .fab => some 64
  | .ctl => some 180
  | .slow => some 50

/-- R345, R346: the frequency of a domain in kHz, where its clock is not stopped; on RC it is that of RC, or RC ÷ 32 for SLOW. -/
def domainKHz (s : State) (d : Domain) : Option Nat :=
  if domainStopped s d then none
  else if !s.clk.onInput1.contains d then some (if d = .slow then rcKHz / 32 else rcKHz)
  else (domainDivider s d).map (fun n => (if d = .slow then refKHz else pllKHz) / n)

/-! ## Answers held for a switch (R352) -/

/-- R352: the responses that wait for a switch of a domain are sent. -/
def answerHeld (d : Domain) (s : State) : State :=
  let xs := s.clk.held.filter (fun x => decide (x.dom = d))
  if xs.isEmpty then s
  else xs.foldl (fun t x => canSend x.frame t) (clearOut (modClk (fun k => { k with held := k.held.filter (fun x => decide (x.dom ≠ d)) }) s))

/-- R205: the transfers whose responses wait end with CLOCK_FAULT_ABORT. -/
def abortHeld (s : State) : State :=
  s.clk.held.foldl (fun t x =>
    canSend (chanFrame t x.ch false (abortFrame x.index x.sub 0x0A010009))
      (countAbort x.ch 0x0A010009 (modChan x.ch (fun c => { c with resp := .abort 0x0A010009 }) t)))
    (modClk (fun k => { k with held := [] }) s)

/-! ## Taking a domain over -/

/-- R335, R353: the tally moves to RC, or back to REF; open seal windows note RC (Table 9-10). -/
def setOnRc (on : Bool) (s : State) : State :=
  let s := { s with aon := { s.aon with onRc := on } }
  if on then forPorts (fun p t => modWindow p (fun w => { w with onRc := true }) t) s else s

/-- R205: an Etoon port whose data-path clock stops goes down. -/
def clockLost (p : PortId) (s : State) : State :=
  if (etoonMode s.ports[p]).isSome then loseLock p .frequency s else s

/-- R205: FAB, which clocks the packer, the memories and the shingle layer, stops: the arriving frame ends ERRORED, and an Etoon port goes
down. SYM and ENG stop the line alone (log entry 84). -/
def fabricLost (p : PortId) (s : State) : State := clockLost p (frameEnd p true s)

/-- R205: the ports that a domain serves. -/
def domainLost (d : Domain) (s : State) : State :=
  match d with
  | .sym p => clockLost p s
  | .eng => forPorts clockLost s
  | .fab => forPorts fabricLost s
  | .ctl => s
  | .slow => s

/-- A domain runs on input 1 from now on; ports that wait for it relink (R354). -/
def toInput1 (d : Domain) (s : State) : State :=
  let s := modClk (fun k => { k with
    onInput1 := if k.onInput1.contains d then k.onInput1 else k.onInput1 ++ [d], pending := k.pending.filter (fun x => x.1 ≠ d) }) s
  match d with
  | .slow => setOnRc false s
  | .sym p => clocksBack p s
  | .eng => forPorts clocksBack s
  | .fab => forPorts clocksBack s
  | .ctl => s

/-- A domain runs on RC from now on. -/
def toRc (d : Domain) (s : State) : State :=
  let s := modClk (fun k => { k with
    onInput1 := k.onInput1.filter (fun x => x ≠ d), pending := k.pending.filter (fun x => x.1 ≠ d) }) s
  let s := if d = .slow then setOnRc true s else s
  domainLost d s

/-- Table 13-4: the bit of a domain in CLOCK_FAILURE. -/
def domainBit : Domain → BitVec 8
  | .sym _ => 1
  | .eng => 2
  | .fab => 4
  | .ctl => 8
  | .slow => 16

/-- R194, R205: where FAB has stopped, the frames in delivery are cut, with their LOSS records behind CLOCK_FAILURE. -/
def cutOnClocks (s : State) : State :=
  if s.clk.onInput1.contains .fab then s else forPorts (fun p t => cutDelivery p (inEpisode t p) t) s

/-- R353: CLOCK_FAILURE once every affected domain runs on RC. -/
def failureDone (s : State) : State :=
  match s.clk.failing with
  | none => s
  | some src =>
    if s.clk.pending.any (fun x => !x.2) then s
    else
      cutOnClocks (raise (devEv .clocks 0x0100 5 ([BitVec.ofNat 8 src, s.clk.coldMask] ++ beBytes 2 (if s.clk.coldMask = 0 then 0 else s.clk.coldLength)))
        (modClk (fun k => { k with failing := none, coldMask := 0, coldLength := 0 }) s))

/-- R353: a failure of a source: a switch to RC is requested in every domain that runs from it, or was about to. -/
def sourceFailed (src : Nat) (ds : List Domain) (s : State) : State :=
  failureDone (modClk (fun k => { k with
    failing := some (k.failing.getD src), recovering := true
    pending := k.pending.filter (fun x => !ds.contains x.1)
      ++ (ds.filter (fun d => !domainStopped s d && (k.onInput1.contains d || k.pending.any (fun x => decide (x.1 = d))))).map
        (fun d => (d, false)) }) s)

/-! ## Start-up (R348, R349) -/

/-- R348: the crystal is stable, also while RESET_N holds the device (Table 14-8); at a start SLOW moves to REF at once, after a failure by
R354. -/
def crystalStable (s : State) : State :=
  if s.clk.ref ≠ .starting ∨ s.pwr.shutdown ∨ s.pwr.on = false then s
  else
    let t := modClk (fun k => { k with
      ref := .running, stableAt := if k.stableAt = 0 then s.aon.tally else k.stableAt, pll := .starting, armed := true }) s
    if s.clk.recovering = false ∧ s.clk.slowSource = 1 then toInput1 .slow t else t

/-- R349, R356, Table 14-7: boot-up is sent at a start, once the bus can be driven. -/
def bootIfDue (s : State) : State :=
  if s.can.nmt = .initialising ∧ s.pwr.transition = none ∧ busDriven s ∧ (s.clk.pll = .running ∨ s.clk.ref = .failed) then bootUp (clearOut s)
  else s

/-- R348, Table 14-7: the main PLL locks; at a start the domains it feeds move to it, and boot-up is sent. -/
def pllLock (s : State) : State :=
  if deviceHeld s ∨ s.clk.ref ≠ .running ∨ (s.clk.pll ≠ .starting ∧ s.clk.pll ≠ .failed) then s
  else
    let t := modClk (fun k => { k with pll := .running }) s
    let t := if s.clk.recovering then t
      else (pllDomains.filter (wantsInput1 s.clk)).foldl (fun u d => toInput1 d u) t
    bootIfDue t

/-- R349: the crystal is not stable 50 ms after it started: the device stays on RC, where boot-up is sent. -/
def crystalTimeout (s : State) : State :=
  if deviceHeld s ∨ s.clk.ref ≠ .starting then s
  else bootIfDue (raise (devEv .clocks 0x0101 5 []) (clkEvent 8 (modClk (fun k => { k with ref := .failed }) s)))

/-! ## Switches requested through the dictionary (R352) -/

/-- A source of a domain's two inputs runs: RC, or what input 1 needs. -/
def switchRuns (k : Clocks) (d : Domain) : Bool := decide (k.rc = .running) && input1Runs k d

/-- The warm switch of a domain is requested. -/
def requestSwitch (d : Domain) (input1 : Bool) (s : State) : State := modClk (fun k => { k with pending := k.pending ++ [(d, input1)] }) s

/-! ## CLKOUT (R361) -/

/-- Table 14-5: the smallest divider of a selection; none for a code the table does not list. -/
def clkOutDivider (sel : Nat) : Option Nat :=
  if sel ≤ 3 then some 1
  else if sel = 4 then some 3
  else if sel = 5 then some 5
  else if 0x10 ≤ sel ∧ sel ≤ 0x17 then some 72
  else if 0x20 ≤ sel ∧ sel ≤ 0x27 then some 2
  else if 0x30 ≤ sel ∧ sel ≤ 0x37 then some 2
  else none

/-- R361: a pair of ClkOutSelect and ClkOutDivide that may be set. -/
def clkOutOk (sel div : Nat) : Bool :=
  match clkOutDivider sel with
  | none => false
  | some d => decide (d ≤ div) && decide (1 ≤ div) && decide (div ≤ 4096)

/-- Table 14-5: the domain that a selection of ClkOutSelect names. -/
def clkOutDomain (sel : Nat) : Option Domain :=
  if sel = 2 then some .slow
  else if sel = 3 then some .ctl
  else if sel = 4 then some .fab
  else if sel = 5 then some .eng
  else if 0x10 ≤ sel ∧ sel ≤ 0x17 then some (.sym (Fin.ofNat 8 (sel % 8)))
  else none

/-- R360: the clock that ClkOutSelect names runs. -/
def clkOutRuns (s : State) : Bool :=
  let sel := s.clk.clkSelect.toNat
  let p : PortId := Fin.ofNat 8 (sel % 8)
  match clkOutDomain sel with
  | some d => domainRuns s d && (domainKHz s d).isSome
  | none =>
    if sel = 0 then decide (s.clk.ref = .running)
    else if sel = 1 then decide (s.clk.rc = .running)
    else if sel < 0x30 then decide (s.clk.hostPll.getD p.val .off = .running) && s.ports[p].host.active.isSome
    else s.ports[p].dsp.locked

/-- R360: CLKOUT carries a clock; otherwise the pad is low, as it is for 4 RC cycles after a change of its selection or divider. -/
def clkOutDriven (s : State) : Bool := s.gate.isOpen.getLsbD 18 && clkOutRuns s && !s.clk.clkHold

/-- R360: of a period of d source cycles, those for which the output is high; a divider of 1 passes the source. -/
def clkOutHigh (d : Nat) : Nat := if d % 2 = 0 then d / 2 else (d + 1) / 2

/-! ## Commands -/

/-- R348: the crystal is declared stable. -/
def execCrystalStable (s : State) : Host.Outcome State Fault Refusal := .next (crystalStable s)

/-- R348: the main PLL locks. -/
def execPllLock (s : State) : Host.Outcome State Fault Refusal := .next (pllLock s)

/-- R348: the main PLL has not locked within 1 ms; it restarts. -/
def execPllLockTimeout (s : State) : Host.Outcome State Fault Refusal :=
  .next (if s.clk.pll = .starting then clkEvent 2 s else s)

/-- R349: the 50 ms of a crystal start are over. -/
def execCrystalTimeout (s : State) : Host.Outcome State Fault Refusal := .next (crystalTimeout s)

/-- R349, R354: the crystal oscillator is restarted. -/
def execCrystalRestart (s : State) : Host.Outcome State Fault Refusal :=
  .next (if s.clk.ref = .failed then modClk (fun k => { k with ref := .starting }) s else s)

/-- R350, R353: REF has failed; before the monitor arms a crystal fault only restarts the 2 ms of R348. -/
def execRefFailed (s : State) : Host.Outcome State Fault Refusal :=
  .next (if s.clk.armed = false ∨ s.clk.ref ≠ .running then s
    else
      let pll := decide (s.clk.pll ≠ .off)
      sourceFailed 1 ([.slow] ++ pllDomains)
        (clkEvent (if pll then 3 else 1) (modClk (fun k => { k with ref := .failed, pll := if pll then .failed else .off }) s)))

/-- R350, R353: the main PLL's lock detector drops. -/
def execPllUnlocked (s : State) : Host.Outcome State Fault Refusal :=
  .next (if s.clk.armed = false ∨ s.clk.pll ≠ .running then s
    else sourceFailed 2 pllDomains (clkEvent 2 (modClk (fun k => { k with pll := .failed }) s)))

/-- R208, R350: a host-lane PLL loses lock: the lane goes down, and in a standard mode the port with it, cutting the frame that was being
received; no domain switches. -/
def execHostLanePllFailed (e : LanePllLoss) (s : State) : Host.Outcome State Fault Refusal :=
  .next (if s.clk.armed = false ∨ s.clk.hostPll.getD e.port.val .off ≠ .running then s
    else
      let t := raise (devEv .clocks 0x0100 5 [3, 0, 0, 0]) (modClk (fun k => { k with hostPll := k.hostPll.set e.port.val .failed }) s)
      stdFail e.port e.cut (laneDown e.port true t))

/-- R351: the clocks that a pending switch waits for run: RC, which it leaves or takes, and the source of input 1 where it takes that. -/
def switchCompletes (s : State) (x : Domain × Bool) : Bool :=
  decide (s.clk.rc = .running) && (!x.2 || input1Runs s.clk x.1)

/-- R351: a warm switch completes, where the clocks it waits for run; the response of a write that asked for it is sent on the new clock (R352). -/
def execWarmSwitchDone (d : Domain) (s : State) : Host.Outcome State Fault Refusal :=
  .next (match s.clk.pending.find? (fun x => decide (x.1 = d)) with
    | none => s
    | some x =>
      if switchCompletes s x then bootIfDue (answerHeld d (failureDone (if x.2 then toInput1 d s else toRc d s))) else s)

/-- R354: the source of input 1 has run for 1 ms; a domain on RC that asks for it switches back. -/
def execClockReturn (d : Domain) (s : State) : Host.Outcome State Fault Refusal :=
  .next (if onInput1 s d || s.clk.pending.any (fun x => decide (x.1 = d)) || !wantsInput1 s.clk d || !input1Runs s.clk d then s
    else requestSwitch d true s)

/-- R355: RC is re-trimmed while the monitor is armed and no domain runs on RC; RC stops meanwhile. -/
def execRcRetrim (s : State) : Host.Outcome State Fault Refusal :=
  .next (if s.clk.armed && (Domain.slow :: pllDomains).all (onInput1 s) then
    modClk (fun k => { k with retrim := true, rc := .starting }) s else s)

end Sys2Proof.Machine
end

