-- ==== Sys2Proof/Machine/Bay.lean ====
section
/-! DEFINITION. Bay.lean: what a bay holds and loses (Table 14-4, R359, R398), and the self-test runs of chapter 16 (R397 to R399). -/

namespace Sys2Proof.Machine

/-! ## What a bay loses -/

/-- Frames that wait toward the host in one class, as frames and bytes. -/
def readyTotals (r : RxCls) : Nat × Nat :=
  r.ready.foldl (fun a i => match i with | .frame f => (a.1 + 1, a.2 + f.bytes.length) | .loss _ => a) (0, 0)

/-- OP-4: frames still in the reorder buffer when it loses power are entered, with their gap leaf. -/
def readyLost (p : PortId) (c : Cls) (s : State) : State :=
  let n := readyTotals s.ports[p].rx[c]
  if n.1 = 0 then s
  else
    let l : RxLoss := { cause := .restartMissing, seqFirst := s.ports[p].rx[c].next, seqCount := 0, frames := n.1, bytes := n.2
                        provoked := inEpisode s p }
    let t := ledgerAdd p true c l s.aon.tally s
    gapLeaf p c l (ledgerPart t p true).newest t

/-- R359, steps 2 and 3: the entries of R204 and their LOSS records; losses that wait to pass are entered too. -/
def bayEntries (p : PortId) (s : State) : State :=
  forClasses (fun c t => readyLost p c t) (restartEntries p (passAllLosses p s))

/-- Table 14-4: the DSP after the bay's SRAM is cleared; HarnessGroup is held in CTL. -/
def dspCleared (d : Dsp) : Dsp := { neighbours := d.neighbours, neighboursInUse := d.neighboursInUse, couplings := d.couplings, nearest := d.nearest }

/-- What the bay's SRAM holds is gone; the objects held in CTL and MRAM keep their values. -/
def bayCleared (keepStore : Bool) (q : Port) : Port :=
  { q with
    train := {}, mc := {}, line := {}, cnt := {}, slotId := 0, led := {}
    tx := Vector.replicate 4 {}, rx := Vector.replicate 4 {}
    dsp := dspCleared q.dsp
    store := if keepStore then q.store else {}
    gutter := []
    sig := { q.sig with lineCur := none, probeCur := none, segLevels := [], readings := 0, readSum := [] }
    host := { q.host with arriving := q.host.arriving.map (fun a => if 0 < a.total then { a with cut := true, cls := none, bytes := [], ahead := [] } else a) } }

/-- Table 14-4: LineModeActive reads its defaults, except TargetMode; StartupPhase reads DISABLED. -/
def modeDefaults (l : Link) : Link :=
  { l with phase := .disabled, up := false, mode := none, lineVersion := 0xFFFF, shVersion := 0xFFFF, mcStatus := .idle, epoch := 0, seed := 0
           choosing := false, relink := none, episode := none, sleepWait := none, sleepSent := false, wakePulse := none, wakeDue := none, mcOwed := none }

/-- R359: the bay's port goes down, or a relink still to be chosen becomes auto-negotiation, with its record (R127); its entries are made, and power
is removed. -/
def closeBay (p : PortId) (s : State) : State :=
  let t := declareDownAt p .hostDisable .autoneg s
  let t := bayEntries p (if t.ports[p].link.choosing then raiseDown p .autoneg t else t)
  pfcCheck p (modPort p (fun q => let q := bayCleared false q; { q with link := modeDefaults q.link }) t)

/-! ## Self-test -/

/-- Codes of BayResult. -/
def bayResultCode : BayResult → Nat
  | .none => 0
  | .pass => 1
  | .fail => 2
  | .incomplete => 3
  | .running => 4
  | .waiting => 5

/-- PowerOnCheck codes. -/
def pocCode : PocResult → Nat
  | .none => 0
  | .pass => 1
  | .failHolding => 2
  | .failMram => 3

/-- The self-test objects changed. -/
def modBist (f : Bist → Bist) (s : State) : State := { s with bist := f s.bist }

/-- The result of one bay. -/
def setBayResult (p : PortId) (r : BayResult) (s : State) : State := modBist (fun b => { b with results := b.results.set p.val r }) s

/-- The SELF_TEST record; `passed` says that every bay passed. -/
def selfTestEv (s : State) (mask : BitVec 8) (passed : Bool) : Ev :=
  devEv .bist 0x0800 (if passed then 1 else 3)
    ([mask] ++ s.bist.results.map (fun r => BitVec.ofNat 8 (bayResultCode r)) ++ [BitVec.ofNat 8 (pocCode s.bist.poc)])

/-- R399: once every named bay has left RUNNING and WAITING, GO clears and SELF_TEST is committed. -/
def selfTestDone (s : State) : State :=
  match s.bist.run with
  | none => s
  | some (mask, _) =>
    if s.bist.results.any (fun r => decide (r = .running) || decide (r = .waiting)) then s
    else
      raise (selfTestEv s mask ((maskPorts mask).all (fun p => decide (s.bist.results.getD p.val .none = .pass))))
        (modBist (fun b => { b with run := none }) s)

/-- R398: a bay's test begins with the entries of R359. -/
def startBayTest (p : PortId) (s : State) : State :=
  bayEntries p (modBist (fun b => { b with since := b.since.set p.val s.aon.tally }) (setBayResult p .running s))

/-- R398: the test of one bay, in µs. -/
def bayTestTime : Nat := 25000

/-- A time joins others that ascend. -/
def insertTime (x : Nat) : List Nat → List Nat
  | [] => [x]
  | y :: rest => if x ≤ y then x :: y :: rest else y :: insertTime x rest

/-- R398: n waiting bays start one after another, each when the first of the running ones ends; `con` may run at once. -/
def runAfter (con : Nat) : Nat → List Nat → List Nat
  | 0, ends => ends
  | n + 1, ends =>
    if ends.length < con then runAfter con n (insertTime bayTestTime ends)
    else runAfter con n (insertTime (ends.headD 0 + bayTestTime) (ends.drop 1))

/-- R398: µs left in the run, as long as no throttle stage holds a bay back. -/
def runRemaining (s : State) (con : Nat) : Nat :=
  let running := (List.finRange 8).filter (fun p => decide (s.bist.results.getD p.val .none = .running))
  let left := running.map (fun p => bayTestTime - (s.aon.tally - s.bist.since.getD p.val 0) / 1000)
  (runAfter con (s.bist.results.filter (fun r => decide (r = .waiting))).length (left.foldl (fun a x => insertTime x a) [])).foldl max 0

/-- R398: waiting bays start in ascending order while fewer than MaxConcurrent run and no throttle stage holds. -/
def startBays (s : State) : State :=
  match s.bist.run with
  | none => s
  | some (_, con) =>
    (List.finRange 8).foldl (fun t p =>
      if decide (t.heat.stage = 0) && decide (t.bist.results.getD p.val .none = .waiting)
          && decide ((t.bist.results.filter (fun r => decide (r = .running))).length < con)
      then startBayTest p t else t) s

/-- R399: the test of a bay ends; its SRAM is cleared, and its coefficient store holds no snapshot (R398). -/
def endBayTest (p : PortId) (r : BayResult) (s : State) : State :=
  let t := setBayResult p r (modPort p (fun q => let q := bayCleared false q; { q with link := { q.link with phase := .disabled } }) s)
  startBays (selfTestDone t)

/-- R399: a test that is cut short, or never begins, reads INCOMPLETE. -/
def cutBayTest (p : PortId) (s : State) : State :=
  match s.bist.results.getD p.val .none with
  | .running => endBayTest p .incomplete s
  | .waiting => startBays (selfTestDone (setBayResult p .incomplete s))
  | _ => s

/-- R399, Table 14-4: the run is stopped; bays under test or waiting read INCOMPLETE. -/
def stopSelfTest (s : State) : State :=
  if s.bist.run.isNone then s
  else
    let cleared := (List.finRange 8).filter (fun p => decide (s.bist.results.getD p.val .none = .running))
    let t := cleared.foldl (fun t p => modPort p (fun q => let q := bayCleared false q; { q with link := { q.link with phase := .disabled } }) t) s
    selfTestDone (modBist (fun b => { b with results := b.results.map (fun r => match r with
      | .running => .incomplete
      | .waiting => .incomplete
      | r => r) }) t)

/-- R399: the result of a bay's test. -/
def bayVerdict (expected found : BitVec 64) (want done : BitVec 32) : BayResult :=
  if done ≠ want then .incomplete else if found = expected then .pass else .fail

/-- R397: what a write of GO is checked for after R308; none: accepted. -/
def selfTestCheck (s : State) : Option (BitVec 32) :=
  let named := maskPorts s.bist.mask
  if s.bist.mask = 0 then some 0x06090030
  else if s.bist.run.isSome ∨ s.bist.checking then some 0x0A010006
  else if named.any (fun p => decide (s.ports[p].sieve.live ≠ 0) || decide (s.ports[p].sieve.arm ≠ 0)) then some 0x0A010004
  else if named.any (fun p => !bayOpen s p) then some 0x0A010001
  else if named.any (fun p => s.ports[p].link.adminEnabled) then some 0x08000000
  else none

/-- R397, R398: a run over the bays of BayMask begins. -/
def startSelfTest (s : State) : State :=
  let m := s.bist.mask
  startBays (modBist (fun b => { b with
    run := some (m, b.maxCon)
    results := b.results.mapIdx (fun i r => if m.getLsbD i then .waiting else r) }) s)

/-- R399: a bay's test ends. -/
def execBayTestDone (p : PortId) (expected found : BitVec 64) (want done : BitVec 32) (s : State) : Host.Outcome State Fault Refusal :=
  .next (if bayTesting s p then
    endBayTest p (bayVerdict expected found want done) (modBist (fun b => { b with
      lastSig := leBytes 8 expected.toNat ++ leBytes 8 found.toNat ++ leBytes 4 want.toNat ++ leBytes 4 done.toNat }) s)
  else s)

end Sys2Proof.Machine
end

