-- ==== Sys2Proof/Machine/Gates.lean ====
section
/-! DEFINITION. Gates.lean: opening and closing gates (R17, R318, R357, R358, R390) and what each block does at it (Table 14-4). -/

namespace Sys2Proof.Machine

/-! ## Layout -/

/-- Bits 19 to 0 of the gate layout. -/
def gateLayout : BitVec 32 := 0x000FFFFF

/-- The port that a gate controls, if it controls one. -/
def gatePort (g : Nat) : Option PortId := if g < 16 then some (Fin.ofNat 8 (g % 8)) else none

/-- Bit g of the gate layout. -/
def gateBit (g : Nat) : BitVec 32 := 1#32 <<< g

/-- The gate objects changed. -/
def modGate (f : Gates → Gates) (s : State) : State := { s with gate := f s.gate }

/-! ## Who may (R318) -/

/-- R318: the channel may set one bit. -/
def mayGate (s : State) (ch : Chan) (g : Nat) : Bool :=
  hasSession s ch || (match gatePort g with | some p => owns s ch p | none => ownsAny s ch)

/-- R318: the bits of a mask, ascending. -/
def gateBits (v : BitVec 32) : List Nat := (List.range 20).filter (fun g => v.getLsbD g)

/-- R319: bit n of any ConfigLock. -/
def portLocked (s : State) (p : PortId) : Bool :=
  s.chans.toList.any (fun c => match c.configLock with | some m => maskBit m p | none => false)

/-- R17: the seal unit may not close while a bound port has its seal enabled. -/
def sealHeldOpen (s : State) : Bool := isBound s && s.ports.toList.any (fun q => q.sealing.enable)

/-! ## Test access (R417) -/

/-- R417, Table 16-2: every bay and host-lane gate is closed in GateOpen. -/
def portGatesClosed (s : State) : Bool := decide (s.gate.isOpen &&& 0xFFFF = 0)

/-- R417: the life-cycle states in which test access may drive the balls. -/
def tapLife (s : State) : Bool := decide (life s = .manufacture) || decide (life s = .sealedUnbound) || decide (life s = .returned)

/-- R417: the instructions that drive balls take effect. -/
def tapMayDrive (s : State) : Bool := tapLife s && portGatesClosed s

/-- R417, R424: an instruction that drives the balls is in effect. -/
def tapDrives (s : State) : Bool := !s.env.trstLow && (match s.tap with | .driving _ => true | _ => false) && tapMayDrive s

/-! ## Opening (R357) -/

/-- R318: an open takes effect in the cycle of completion: the block is requested, and a deferred close of it is undone. -/
def gateSetBits (v : BitVec 32) (s : State) : State :=
  let again := v.getLsbD 17 && s.gate.pending.getLsbD 17
  let s := modGate (fun g => { g with gates := g.gates ||| v, pending := g.pending &&& ~~~v }) s
  if again then forPorts armChain s else s

/-- R357: the block can be powered: the power-on check is over, the crystal stable, and its clock runs; a bay whose holding store
failed cannot (R396), nor in ENDED any block but CLKOUT (R390); a bay or lane waits until the TAP leaves what drives the balls (R424). -/
def gateReady (s : State) (g : Nat) : Bool :=
  (decide (life s ≠ .ended) || decide (g = 18)) && (decide (16 ≤ g) || !tapDrives s)
  && decide (s.pwr.state = .boil) && decide (s.pwr.transition = none) && !s.bist.checking && decide (s.clk.ref = .running)
  && (if g < 8 then decide (s.clk.pll = .running) && !s.env.badSram.getLsbD g else true)

/-- R345, R357: SYM of a bay that opens runs on the main PLL. -/
def symOpened (p : PortId) (s : State) : State := if onInput1 s (.sym p) then s else toInput1 (.sym p) s

/-- Table 14-4: what opening does beside powering the block. -/
def gateOpened (g : Nat) (s : State) : State :=
  if g = 17 then forPorts armChain s
  else if g < 8 then symOpened (Fin.ofNat 8 g) s
  else if 8 ≤ g ∧ g < 16 then modClk (fun k => { k with hostPll := k.hostPll.set (g - 8) .running }) s
  else s

/-- R357: the block is usable. -/
def gateOpenComplete (g : Nat) (s : State) : State :=
  if s.gate.gates.getLsbD g && !s.gate.isOpen.getLsbD g && gateReady s g then
    gateOpened g (modGate (fun k => { k with isOpen := k.isOpen ||| gateBit g }) s)
  else s

/-! ## Closing (R358) -/

/-- R315: objects held in the block of a gate, a bay, the sieve or the BIST engine, are being accessed by an open transfer. -/
def blockAccessed (s : State) (g : Nat) : Bool :=
  let idx := fun i : BitVec 16 =>
    if g < 8 then decide (i.toNat / 256 = 0x30 + g) && [0x30, 0x40, 0x52, 0x70].contains (i.toNat % 256)
    else if g = 16 then decide (0x2500 ≤ i.toNat) && decide (i.toNat < 0x2518)
    else decide (g = 19) && decide (i.toNat = 0x2400)
  s.chans.toList.any (fun c => match c.xfer with
    | .none => false
    | .segDown i _ _ _ _ => idx i
    | .segUp i _ _ _ => idx i
    | .blkDown i _ _ _ _ _ _ => idx i
    | .blkUp i _ _ _ _ _ _ _ => idx i
    | .wideDown i _ _ _ _ => idx i
    | .wideUp i _ _ _ => idx i)

/-- Table 14-8: a frame of port p is in flight: in delivery on HTXn, or arriving on HRXn. -/
def framesInFlight (q : Port) : Bool :=
  (match q.host.busy with | some (.frame _ _ _) => true | _ => false) || q.host.arriving.isSome

/-- Table 14-4: the close of a block need no longer be deferred. -/
def closeReady (s : State) (g : Nat) : Bool :=
  if blockAccessed s g then false
  else if g < 8 then !framesInFlight s.ports[(Fin.ofNat 8 g : PortId)]
  else if g < 16 then
    let q := s.ports[(Fin.ofNat 8 (g % 8) : PortId)]
    q.host.busy.isNone && q.host.arriving.isNone
  else if g = 16 then !sieveBusy s
  else if g = 17 then s.ports.toList.all (fun q => q.sealing.ended.isEmpty && q.sealing.window.isNone)
  else true

/-- Table 14-4: what closing does; a switch of SYM that was pending in a bay goes with its clock. -/
def gateClosed (g : Nat) (s : State) : State :=
  if g < 8 then
    let p : PortId := Fin.ofNat 8 g
    failureDone (modClk (fun k => { k with pending := k.pending.filter (fun x => x.1 ≠ .sym p) }) (abandonCalPort p (closeBay p (cutBayTest p s))))
  else if g < 16 then
    let p : PortId := Fin.ofNat 8 (g % 8)
    modClk (fun k => { k with hostPll := k.hostPll.set p.val .off }) (laneDown p true s)
  else if g = 19 then stopSelfTest s
  else s

/-- R358: the block's clocks stop and its power is removed. -/
def gateCloseComplete (g : Nat) (s : State) : State :=
  if s.gate.pending.getLsbD g && closeReady s g then
    modGate (fun k => { k with isOpen := k.isOpen &&& ~~~gateBit g, pending := k.pending &&& ~~~gateBit g }) (gateClosed g s)
  else s

/-- R249: the seal of a port ends: a frame in delivery belongs to the window that is cut, at its end (Table 9-12). -/
def cutOrWait (p : PortId) (s : State) : State :=
  match s.ports[p].host.busy, openWindow s p with
  | some (.frame _ _ _), some _ => modSeal p (fun q => { q with cutDue := true, t0 := none }) s
  | _, _ => cutChain p s

/-- R217, R249, R318: an accepted close: a bay under test has its test cut, and the close follows (Table 16-8); a host lane that was not open yet
stops its PLL; chains end in the cycle in which the close of the seal unit is accepted, and the sieve disarms. -/
def gateClearBits (v : BitVec 32) (s : State) : State :=
  let s := modGate (fun g => { g with gates := g.gates &&& ~~~v, pending := g.pending ||| (v &&& g.isOpen) }) s
  let s := forPorts (fun p t =>
    let t := if v.getLsbD p.val then cutBayTest p t else t
    if v.getLsbD (8 + p.val) && !t.gate.isOpen.getLsbD (8 + p.val) then modClk (fun k => { k with hostPll := k.hostPll.set p.val .off }) t else t) s
  let s := if v.getLsbD 17 then forPorts cutChain s else s
  if v.getLsbD 16 then disarmAll 5 s else s

/-! ## Commands -/

/-- R357: a block becomes usable. -/
def execGateOpenComplete (g : GateId) (s : State) : Host.Outcome State Fault Refusal := .next (gateOpenComplete g.val s)

/-- R358: a deferred close completes. -/
def execGateCloseComplete (g : GateId) (s : State) : Host.Outcome State Fault Refusal := .next (gateCloseComplete g.val s)

end Sys2Proof.Machine
end

