-- ==== Sys2Proof/Machine/Reset.lean ====
section
/-! DEFINITION. Reset.lean: device resets and what they keep (R362 to R365, R379, R383), the cold switch that may ask for one
(R353, R355), and the recipe and calibration values taken at a start (R394, R402). -/

namespace Sys2Proof.Machine

/-! ## What a start takes from MRAM and the fuses -/

/-- R402: a bank's words pass the BCH check and its digest matches. -/
def bankChecks (b : Bank) : Bool := b.present && wordsDecode b.errs && b.digestOk

/-- R402: a bank that may be taken. -/
def bankQualifies (f : Fuses) (b : Bank) : Bool := bankChecks b && decide (spentCells f.rollback ≤ b.rollback)

/-- R402: the bank taken at a start. -/
def chooseBank (f : Fuses) (r : Recipes) : Option Bool :=
  let first := if r.preferred then r.bank1 else r.bank0
  let second := if r.preferred then r.bank0 else r.bank1
  if bankQualifies f first then some r.preferred else if bankQualifies f second then some (!r.preferred) else none

/-- R394: the value of the newest slot of a kind that reads good. -/
def calValue (f : Fuses) (k : CalKind) (uncal : Int) : Int :=
  match f.calib.reverse.find? (fun x => isBurned x.cell && decide (x.kind = k)) with
  | some x => x.value
  | none => uncal

/-- R393, R394: the calibration objects at a start; provisional values stay in MANUFACTURE. -/
def calAtStart (s : State) : Calib :=
  let keep := decide (life s = .manufacture)
  { counts := s.cal.counts, lastTally := s.cal.lastTally, lastCivil := s.cal.lastCivil, lastKind := s.cal.lastKind
    timebase := if keep then s.cal.timebase else calValue s.fus .timebase 0
    level := if keep then s.cal.level else calValue s.fus .levels 0
    scale := if keep then s.cal.scale else calValue s.fus .lengthScale 500000 }

/-- The crock's part that MRAM holds; the index is rebuilt by the scan (R338). -/
def crockInMram (k : Crock) : Crock :=
  { recs := k.recs, bad := k.bad, full7 := k.full7, full7Tally := k.full7Tally, dropTally := k.dropTally, newest := k.newest
    headTag := k.headTag, checkpoint := k.checkpoint, spare := k.spare, secondActive := k.secondActive, startCheckpoint := k.checkpoint }

/-- The CAN stack at a start: stored COB-IDs, the node ID of the straps (R282, R285); after a power-on the stored rates, otherwise those in use
before, until the start takes the stored ones up (R281). -/
def canAtStart (s : State) (powerOn : Bool) : Can :=
  let new := (s.can.arbRate, s.can.dataRate)
  { node := 0x40 + s.env.straps.zeroExtend 8, cobs := s.can.cobs, cobsInUse := s.can.cobs, arbRate := s.can.arbRate, dataRate := s.can.dataRate
    inUse := if powerOn then new else s.can.inUse, before := if powerOn then new else s.can.before
    ratesSince := if powerOn then none else s.can.ratesSince, goodFrame := !powerOn && s.can.goodFrame
    owners := s.can.owners, bindingCount := s.can.bindingCount, lastBinding := s.can.lastBinding }

/-- A port at a start: defaults, and the references that MRAM holds. -/
def portAtStart (s : State) (p : PortId) : Port :=
  { Port.reset p.val with sig := { lineRef := s.ports[p].sig.lineRef, probeRef := s.ports[p].sig.probeRef } }

/-- The sessions open at a reset, channels ascending (R301). -/
def sessionsOpen (s : State) : List (Chan × Role) :=
  (List.finRange 4).filterMap (fun c => s.chans[c].session.map (fun x => (c, x.role)))

/-- Events that a loss of power takes from the commit queue. -/
def queueLost (s : State) : List QEvent := s.crock.owed ++ s.crock.queue

/-- R332: the lost events are counted in DropTally. -/
def countLost (s : State) : State := (queueLost s).foldl (fun t q => dropEv q.ev t) s

/-! ## Clocks at a start (Table 14-7) -/

/-- A warm start keeps RC, the crystal and the armed monitor; a cold start begins with the crystal's start. -/
def clocksAtStart (cold : Bool) (k : Clocks) : Clocks :=
  if cold ∨ k.ref ≠ .running then {}
  else { ref := .running, pll := .starting, armed := k.armed, onInput1 := k.onInput1.filter (fun d => d = .slow) }

/-! ## Device resets -/

/-- R364: the always-on state that a device reset other than power-on keeps. -/
def aonAtReset (cold : Bool) (s : State) : Aon :=
  { tally := s.aon.tally, frac := s.aon.frac, onRc := s.aon.onRc || cold || decide (s.clk.ref ≠ .running), offset := s.aon.offset
    civilStale := s.aon.civilStale, allowance := s.aon.allowance, allowanceHeld := s.aon.allowance
    dayWindow := s.aon.dayWindow
    lockout := s.aon.lockout, authRun := s.aon.authRun, restarts := s.aon.restarts
    lostEvents := sat16 (s.aon.lostEvents + (queueLost s).length), lostUnknown := s.aon.lostUnknown
    openAtReset := s.aon.openAtReset ++ sessionsOpen s
    witnessLost := s.aon.witnessLost, lastAttempt := s.aon.lastAttempt, dropAtEntry := s.aon.dropAtEntry }

/-- R362, R364: everything but the always-on state given, MRAM, the fuses, the queue of commands and the device's surroundings takes its
default (R317); the TAP, which a device reset does not reach, starts in Test-Logic-Reset at a power-on (IEEE 1149.1). -/
def restart (aon : Aon) (powerOn cold : Bool) (cause : StartCause) (s : State) : State :=
  takeShadow
  { pending := s.pending, free := s.free, env := s.env, tap := if powerOn then .reset else s.tap, fus := s.fus, aon := aon, copies := s.copies
    clk := clocksAtStart cold s.clk
    pwr := if powerOn then { startCause := cause } else { startCause := cause, shutReading := s.pwr.shutReading, shutSensor := s.pwr.shutSensor }
    cal := calAtStart s
    rcp := { s.rcp with active := chooseBank s.fus s.rcp }
    crock := crockInMram s.crock
    can := canAtStart s powerOn
    anchorInterval := s.anchorInterval
    ports := Vector.ofFn (portAtStart s) }

/-- R362: a device reset other than power-on. -/
def deviceReset (cold : Bool) (cause : StartCause) (s : State) : State :=
  let t := countLost s
  restart (aonAtReset cold s) false cold cause t

/-- R355: the hard reset: the tally is advanced by 100 µs, and HARD_RESET_ON_RC set after it. -/
def hardReset (s : State) : State :=
  let t := takeRates (deviceReset true .hardResetOnRc s)
  clkEvent 32 { t with aon := { t.aon with tally := t.aon.tally + 100000 } }

/-- R320: the requested reset; the answer to the write was sent before. -/
def requestedReset (ch : Chan) (s : State) : State :=
  let t := takeRates (deviceReset false .resetRequest s)
  modChan ch (fun c => { c with resp := s.chans[ch].resp }) { t with can := { t.can with out := s.can.out } }

/-! ## Power-on (R337, R379) -/

/-- Tally of the newest record held. -/
def newestTally (k : Crock) : Nat :=
  match k.recs.getLast? with
  | some r => leVal ((r.bytes.drop 8).take 8)
  | none => 0

/-- R337: tally time resumes 1 s beyond the checkpoint and the newest record's Tally. -/
def tallyAtPowerOn (k : Crock) : Nat := max k.checkpoint (newestTally k) + 1000000000

/-- R332, R337, R364: the always-on state after VIN was lost: MRAM's copies, and a count of lost events that is unknown. -/
def aonAtPowerOn (s : State) : Aon :=
  let t := tallyAtPowerOn (crockRead s.env s.crock)
  { tally := t, offset := s.copies.offset, authRun := s.copies.authRun
    lockout := if s.copies.lockSecs = 0 then 0 else t + s.copies.lockSecs * 1000000000, lostUnknown := true
    dayWindow := t / 86400000000000 }

/-- R379: the ramp-only power-on reset releases. -/
def powerOn (s : State) : State := restart (aonAtPowerOn s) true true .powerOn s

/-- R332, R379: VIN is below 1.0 V: everything but MRAM and the fuses is lost, and the power-on reset is armed. -/
def powerLost (s : State) : State :=
  let t := restart {} true true .powerOn s
  { t with pwr := { t.pwr with on := false, vinUp := false, inReset := s.pwr.inReset, inhDriven := false } }

/-- The first unburned cell of a fuse was being burned. -/
def cutCell : List Cell → List Cell
  | [] => []
  | c :: rest => if isFresh c then { c with st := .unverified } :: rest else c :: cutCell rest

/-- The first free calibration slot was being burned; what it holds is not known. -/
def cutSlot (kind : CalKind) (v : Int) (t c : Nat) : List CalSlot → List CalSlot
  | [] => []
  | x :: rest =>
    if isFresh x.cell then { cell := { x.cell with st := .unverified }, kind := kind, value := v, tally := t, civil := c } :: rest
    else x :: cutSlot kind v t c rest

/-- R380: a burn of a fuse group is cut short. -/
def cutBurn (g : FuseGroup) (s : State) : State :=
  let f := s.fus
  match g with
  | .sealed => { s with fus := { f with sealed := cutCell f.sealed } }
  | .bound => { s with fus := { f with bound := cutCell f.bound } }
  | .returned => { s with fus := { f with returned := cutCell f.returned } }
  | .ended => { s with fus := { f with ended := cutCell f.ended } }
  | .rebaseline => { s with fus := { f with rebase := cutCell f.rebase } }
  | .rollback => { s with fus := { f with rollback := cutCell f.rollback } }
  | .witness => { s with fus := { f with witness := cutCell f.witness } }
  | .calibration =>
    let kind := match s.cal.run with | some r => r.kind | none => .timebase
    afterDraw { s with fus := { f with calib := cutSlot kind (measuredNow s) s.aon.tally (civilNow s) f.calib } }

/-- R23, R380: an MRAM word cut short fails its check, as three wrong bits do. -/
def cutWord (w : MramWord) (s : State) : State :=
  let ref := fun r : RefCopies => { r with otherErrs := r.otherErrs ++ [3] }
  match w with
  | .lineRef p => modSig p (fun g => { g with lineRef := ref g.lineRef }) s
  | .probeRef p => modSig p (fun g => { g with probeRef := ref g.probeRef }) s
  | .bank false => { s with rcp := { s.rcp with bank0 := { s.rcp.bank0 with errs := s.rcp.bank0.errs ++ [3] } } }
  | .bank true => { s with rcp := { s.rcp with bank1 := { s.rcp.bank1 with errs := s.rcp.bank1.errs ++ [3] } } }

/-- R380: a fall of VIN cuts short the commit, the fuse burn and the write of an MRAM word that are in progress. -/
def vinFalls (cut : Option FuseGroup) (s : State) : State :=
  let s := match cut with | some g => cutBurn g s | none => s
  let w := Config.wordCut s.free
  let s := afterDraw (cutCommit s)
  match w with | some x => cutWord x s | none => s

/-! ## Cold switch (R353, R355) -/

/-- R205: a cold switch of CTL ends every transfer in flight. -/
def clockFaultAborts (s : State) : State := abortHeld (forChans (fun ch t => abortXfer ch 0x0A010009 t) (clearOut s))

/-- R353: the domain is reset onto RC. -/
def coldSwitch (d : Domain) (s : State) : State :=
  let len := if s.clk.retrim then 16 + (measuredNow s).toNat % 1280 else 16
  let s := if s.clk.retrim then afterDraw s else s
  let t := clkEvent 4 (modClk (fun k => { k with
    coldSwitches := sat32 (k.coldSwitches + 1), coldMask := k.coldMask ||| domainBit d, coldLength := len, retrim := false, rc := .running }) s)
  let t := toRc d t
  failureDone (if d = .ctl then clockFaultAborts t else answerHeld d t)

/-! ## Commands -/

/-- R353, R355: a switch to RC is still pending after 64 RC cycles; RC not ready 40 µs into a re-trim is a hard reset. -/
def execColdSwitch (d : Domain) (rcReady : Bool) (s : State) : Host.Outcome State Fault Refusal :=
  .next (if !s.clk.pending.contains (d, false) then s
    else if s.clk.retrim && !rcReady then hardReset s
    else coldSwitch d s)

/-- R363, R379, R408: a VIN ramp, from below 1.0 V. A qualifying one releases the power-on reset, and the device starts, held by a low RESET_N;
another leaves it unreleased, until RESET_N has been low. -/
def execPowerOnReset (qualifies : Bool) (s : State) : Host.Outcome State Fault Refusal :=
  .next (if s.pwr.on || s.pwr.vinUp then s
    else if qualifies then
      let t := powerOn s
      { t with pwr := { t.pwr with inReset := s.pwr.inReset } }
    else { s with pwr := { s.pwr with vinUp := true } })

/-- R380: the state after VIN fell below 4.2 V and rose again: MRAM and the fuses keep what they hold, with what the device held of the levels
at its balls, and every other value is that of an undefined state `u`. -/
def afterDip (u s : State) : State :=
      let prov := decide (life s = .manufacture)
      { u with
        pending := s.pending, free := s.free, env := s.env, fus := s.fus, anchorInterval := s.anchorInterval, copies := s.copies
        rcp := { u.rcp with preferred := s.rcp.preferred, bank0 := s.rcp.bank0, bank1 := s.rcp.bank1, loadResult := s.rcp.loadResult }
        cal := { u.cal with
          counts := s.cal.counts, lastTally := s.cal.lastTally, lastCivil := s.cal.lastCivil, lastKind := s.cal.lastKind
          timebase := if prov then s.cal.timebase else u.cal.timebase, level := if prov then s.cal.level else u.cal.level
          scale := if prov then s.cal.scale else u.cal.scale }
        crock := { u.crock with
          recs := s.crock.recs, bad := s.crock.bad, full7 := s.crock.full7, full7Tally := s.crock.full7Tally, dropTally := s.crock.dropTally
          newest := s.crock.newest, headTag := s.crock.headTag, checkpoint := s.crock.checkpoint, spare := s.crock.spare
          secondActive := s.crock.secondActive }
        can := { u.can with
          cobs := s.can.cobs, arbRate := s.can.arbRate, dataRate := s.can.dataRate, owners := s.can.owners
          bindingCount := s.can.bindingCount, lastBinding := s.can.lastBinding, out := [] }
        pwr := { u.pwr with on := true, vinUp := true, inReset := s.pwr.inReset, shutdown := false }
        ports := Vector.ofFn (fun p => { u.ports[p] with sig := { u.ports[p].sig with
          lineRef := s.ports[p].sig.lineRef, probeRef := s.ports[p].sig.probeRef } }) }

/-- R363: RESET_N resets the device and holds it. -/
def holdInReset (s : State) : State :=
  let t := deviceReset false .resetN s
  { t with pwr := { t.pwr with inReset := true } }

/-- R379, R380: VIN has dipped below 4.2 V and is back: every value is undefined but what MRAM and the fuses hold, until RESET_N (log entry 6);
a RESET_N that is low all along resets the device. -/
def execVinDip (s : State) : Host.Outcome State Fault Refusal :=
  .next (if !s.pwr.on then s
    else
      let t := afterDip (Config.undefinedState s.free) (vinFalls (Config.dipCuts s.free) s)
      if s.pwr.inReset then holdInReset t else t)

/-- R332, R379, R380: VIN falls below 1.0 V; a fuse burn may be cut short. -/
def execVinFails (cut : Option FuseGroup) (s : State) : Host.Outcome State Fault Refusal :=
  .next (if !s.pwr.on then { s with pwr := { s.pwr with vinUp := false } } else powerLost (vinFalls cut s))

/-- R363: RESET_N low for 1 µs or more resets the device and holds it. A commit in flight leaves its record whole or absent (Table 14-8). -/
def execResetNAssert (s : State) : Host.Outcome State Fault Refusal :=
  .next (if s.pwr.inReset then s
    else if !s.pwr.on || s.pwr.shutdown then { s with pwr := { s.pwr with inReset := true } }
    else holdInReset (cutCommit s))

/-- R408, Table 14-8: a device whose power-on reset a ramp left unreleased starts when RESET_N rises: a cold start, whose START names RESET_N, with
what MRAM and the fuses hold. -/
def startUnreleased (s : State) : State := restart (aonAtPowerOn s) true true .resetN s

/-- R282, R363, R408: RESET_N rises; the balls are sampled and the start begins, once VIN supplies the device. -/
def execResetNRelease (s : State) : Host.Outcome State Fault Refusal :=
  .next (if !s.pwr.inReset then s
    else if !s.pwr.on then (if s.pwr.vinUp then startUnreleased s else { s with pwr := { s.pwr with inReset := false } })
    else
      takeRates { s with pwr := { s.pwr with inReset := false }, can := { s.can with node := 0x40 + s.env.straps.zeroExtend 8 } })

/-- R383: a sensor reaches 135 °C: power is removed from everything but the always-on domain. -/
def execThermalShutdown (sensor : Fin 9) (reading : Int) (s : State) : Host.Outcome State Fault Refusal :=
  .next (if !s.pwr.on || s.pwr.shutdown || decide (reading < 13500) then s
    else
      let t := deviceReset true .thermalRestart s
      { t with
        pwr := { t.pwr with shutdown := true, shutReading := reading, shutSensor := sensor.val, inReset := s.pwr.inReset }
        heat := { t.heat with coolSince := none } })

/-- R383: RecentRestarts: thermal restarts in the last 10 minutes of tally time. -/
def recentRestarts (s : State) : List Nat := s.aon.restarts.filter (fun t => decide (s.aon.tally < t + 600000000000))

/-- R383: every sensor has read below 115 °C for 100 ms. -/
def cooledDown (s : State) : Bool :=
  match s.heat.coolSince with
  | some t => decide (t + 100000000 ≤ s.aon.tally)
  | none => false

/-- R383: the device restarts; the third restart in 10 minutes ends in REST once the start is complete. -/
def execThermalRestart (s : State) : Host.Outcome State Fault Refusal :=
  .next (if !s.pwr.shutdown || s.pwr.inReset || !s.pwr.on || !cooledDown s then s
    else
      let h := recentRestarts s ++ [s.aon.tally]
      let t := takeRates (deviceReset true .thermalRestart s)
      { t with
        aon := { t.aon with restarts := h }
        pwr := { t.pwr with thermalRest := decide (3 ≤ h.length) }
        heat := { t.heat with events := evtSet 24 t.heat.events } })

end Sys2Proof.Machine
end

