-- ==== Sys2Proof/Machine/Power.lean ====
section
/-! DEFINITION. Power.lean: the power states of chapter 15: requests and refusers (R368, R369), entry (R370 to R372), wake and
return (R148, R149, R373 to R376), and the SIMMER probe (R241, R242). -/

namespace Sys2Proof.Machine

/-! ## Codes -/

/-- State (0x2200:01). -/
def pstateCode : PState → Nat
  | .boil => 0
  | .simmer => 1
  | .rest => 2

/-- Transition (0x2200:02): 1 to BOIL, 2 to SIMMER, 3 to REST; bit 7 BOIL latched. -/
def transitionCode (w : Power) : Nat :=
  (match w.transition with | none => 0 | some t => pstateCode t + 1) + (if w.latched then 128 else 0)

/-- R373: the wake source in POWER_STATE. -/
def wakeCode : Wake → Nat
  | .can => 0x01
  | .wakeIn => 0x02
  | .line p => 0x10 + p.val
  | .probe p => 0x20 + p.val

/-- The power objects changed. -/
def modPwr (f : Power → Power) (s : State) : State := { s with pwr := f s.pwr }

/-- The POWER_STATE record. -/
def powerStateEv (fromSt target : PState) (cause src : Nat) : Ev :=
  devEv .power 0x0200 1 [BitVec.ofNat 8 (pstateCode fromSt), BitVec.ofNat 8 (pstateCode target), BitVec.ofNat 8 cause, BitVec.ofNat 8 src]

/-! ## Refusers (Table 15-2) -/

/-- A fast relink or full retrain of the port is under way, or its relink is not yet chosen. -/
def relinking (l : Link) : Bool := l.choosing || (!l.up && (decide (l.relink = some .fast) || decide (l.relink = some .full)))

/-- Table 15-2: the holding store or the reorder buffer holds a payload. -/
def storesHold (q : Port) : Bool :=
  q.tx.toList.any (fun t => decide (0 < occupancy t)) || q.rx.toList.any (fun r => !r.held.isEmpty || !r.ready.isEmpty || r.unfinished.isSome)

/-- Table 15-2: a frame, loss notice or seal frame is in flight or waiting on the host lane. -/
def laneBusy (q : Port) : Bool :=
  q.host.busy.isSome || q.host.arriving.isSome
  || !q.sealing.notices.isEmpty || !q.sealing.frames.isEmpty

/-- Table 15-2: bay n refuses. -/
def bayRefuses (s : State) (p : PortId) : Bool :=
  bayOpen s p && (storesHold s.ports[p] || laneBusy s.ports[p] || mcBusy s.ports[p] || relinking s.ports[p].link)

/-- Table 15-2, in check order: element of RefuserCounts, code of LastRefuser, and whether the refuser holds. -/
def refusers (s : State) : List (Nat × Nat × Bool) :=
  (List.finRange 4).map (fun c => (c.val, 0x01 + c.val, s.chans[c].keepAwake.getLsbD 0))
  ++ (List.finRange 8).map (fun p => (4 + p.val, 0x10 + p.val, bayRefuses s p))
  ++ [(12, 0x20, !s.crock.queue.isEmpty || !s.crock.owed.isEmpty || s.crock.scanning),
      (13, 0x21, s.bist.run.isSome || s.bist.checking),
      (14, 0x22, decide (s.cal.stage = .firstTaken)),
      (15, 0x23, sieveBusy s)]

/-- The refusers that hold. -/
def refusing (s : State) : List (Nat × Nat) := (refusers s).filterMap (fun r => if r.2.2 then some (r.1, r.2.1) else none)

/-! ## Refusal records (R309, R369) -/

/-- R309: the refusal records of a channel in the 1 s of tally time that ends now. -/
def recentRefusals (s : State) (ch : Chan) : List Nat := s.chans[ch].refTimes.filter (fun t => decide (s.aon.tally < t + 1000000000))

/-- R309: room for one more refusal record of the channel in every window of 1 s that holds the present. -/
def refusalRoom (s : State) (ch : Chan) : Bool := decide ((recentRefusals s ch).length < 16)

/-- R330: an event raised now enters the commit queue. -/
def queueTakes (s : State) : Bool :=
  s.aon.witnessLost.isNone && !s.crock.recovering && decide (s.crock.queue.length < queueCap)

/-- R309: one more refusal record of the channel, if the commit queue takes it. -/
def refusalCounted (ch : Chan) (s : State) : State :=
  if queueTakes s then modChan ch (fun c => { c with refTimes := recentRefusals s ch ++ [s.aon.tally] }) s else s

/-- R309: a refusal record that is suppressed. -/
def refusalSuppressed (ch : Chan) (s : State) : State :=
  modChan ch (fun c => { c with counters := bump 6 1 c.counters, refCarried := c.refCarried + 1 }) s

/-- R369: ENTRY_REFUSED, within the channel's limit. -/
def entryRefusedRecord (target : PState) (refuser : Nat) (ch : Option Chan) (s : State) : State :=
  let ev := devEv .power 0x0201 2
    [BitVec.ofNat 8 (pstateCode target), BitVec.ofNat 8 refuser, match ch with | some c => BitVec.ofNat 8 c.val | none => 0xFF]
  match ch with
  | none => raise ev s
  | some c => if refusalRoom s c then raise ev (refusalCounted c s) else refusalSuppressed c s

/-- R369: a refusal by the refusers given. -/
def refuseEntry (target : PState) (ch : Option Chan) (rs : List (Nat × Nat)) (s : State) : State :=
  let first := (rs.head?.map Prod.snd).getD 0
  entryRefusedRecord target first ch (modPwr (fun w => { w with
    refusals := sat32 (w.refusals + 1), refuserCounts := rs.foldl (fun l r => bump r.1 1 l) w.refuserCounts
    lastRefuser := BitVec.ofNat 8 first, lastRefusalAt := s.aon.tally }) s)

/-! ## Requests (R368) -/

/-- R249, R370: an entry begins: Transition is set and the seal chains are cut; a calibration run before its first measurement is
abandoned (R392). -/
def beginEntry (target : PState) (ch : Option Chan) (s : State) : State :=
  let s := forPorts cutOrWait (modPwr (fun w => { w with transition := some target, passed := false, askedBy := ch }) s)
  match s.cal.run with
  | some r => if r.first.isNone then abandonCal s else s
  | none => s

/-- R368: a Request write after the checks of R308: the abort code and the state it leaves, or the state. -/
def powerRequest (target : PState) (ch : Chan) (s : State) : Except (BitVec 32 × State) State :=
  let written := modPwr (fun w => { w with request := BitVec.ofNat 8 (pstateCode target) })
  if s.pwr.transition.isSome then
    if target = .boil then .ok (modPwr (fun w => { w with latched := true }) (written s)) else .error (0x0A010006, s)
  else if target = s.pwr.state then .ok (written s)
  else if target = .boil then .ok (modPwr (fun w => { w with transition := some .boil }) (written s))
  else
    match refusing s with
    | [] => .ok (beginEntry target (some ch) (written s))
    | rs => .error (0x0A01000C, refuseEntry target (some ch) rs s)

/-! ## Point of no return (R370 to R372) -/

/-- R370: every seal frame and loss notice of the port has been delivered, and no frame is arriving on an open lane. -/
def portQuiet (s : State) (p : PortId) : Bool :=
  let q := s.ports[p]
  q.sealing.notices.isEmpty && q.sealing.frames.isEmpty && q.sealing.ended.isEmpty && q.sealing.window.isNone
  && (match q.host.busy with | some (.sealFrame _) => false | some (.lossNotice _) => false | _ => true)
  && (!laneGateOpen s p || q.host.arriving.isNone)

/-- R370: what keeps the point of no return from being taken in this cycle, as element and code: the refusers in check order, then the bays whose
seal frames or loss notices wait. -/
def holdingPoint (s : State) : List (Nat × Nat) :=
  refusing s ++ ((List.finRange 8).filter (fun p => !portQuiet s p)).map (fun p => (4 + p.val, 0x10 + p.val))

/-- R370: the point of no return may be taken in this cycle. -/
def pointReached (s : State) : Bool := (holdingPoint s).isEmpty

/-- R371, R372: a port that is up goes down at entry: FAST beacons where its store is retained and Table 5-6 gives a fast relink,
LINK_DOWN at once with the relink that Table 5-6 gives (R127; log entry 89), in the mode of R139, and the retained store takes its seed and
sequence state. -/
def portEntry (p : PortId) (s : State) : State :=
  if !s.ports[p].link.up then s
  else
    let t := declareDown p .powerEntry s
    let r := relinkPlan t p
    let t := match r.2.2 with
      | some m => if r.1 = .fast && maskBit s.pwr.maskAtPoint p then oweBeacons p false m t else t
      | none => t
    let t := raiseDown p r.1 t
    modPort p (fun q => { q with
      link := { q.link with choosing := false, upAtEntry := true, mode := (r.2.2.map LineMode.etoon) <|> q.link.mode }
      store := if maskBit s.pwr.maskAtPoint p then
          { q.store with seed := q.link.seed, savedTx := q.tx.toList.map TxCls.next, savedRx := q.rx.toList.map RxCls.next }
        else q.store }) t

/-- R370 to R372: the point of no return: POWER_STATE; every session ends; then, bay by bay, the port goes down and its lane with it (R16).
RetentionMask as it stands decides. -/
def takePoint (target : PState) (s : State) : State :=
  let cause := if s.pwr.thermalRest then 3 else 1
  let t := raise (powerStateEv .boil target cause 0) (modPwr (fun w => { w with passed := true, maskAtPoint := w.retention }) s)
  forPorts (fun p u => laneDown p true (portEntry p u)) (endSessions 6 t)

/-- R370: the entry is abandoned, also one that the thermal restart limit asked for; new seal chains start. -/
def abandonEntry (s : State) : State :=
  forPorts armChain (modPwr (fun w => { w with transition := none, passed := false, latched := false, askedBy := none, thermalRest := false }) s)

/-! ## Loss of power at entry (R371) -/

/-- R371: what of a port outlives the entry: CTRL fields held in CTL, references, a retained store, and what relinks it on return. -/
def portAsleep (retain : Bool) (q : Port) : Port :=
  let l := q.link
  let q' := bayCleared retain q
  { q' with
    link := { adminEnabled := l.adminEnabled, wakeForward := l.wakeForward, linkPolicy := l.linkPolicy, modeMask := l.modeMask
              leaderPolicy := l.leaderPolicy, target := l.target, asleep := l.asleep, upAtEntry := l.upAtEntry, wakeDue := l.wakeDue
              mode := if l.upAtEntry then l.mode else none, leader := l.leader, seed := l.seed, offer := l.offer
              partnerModes := l.partnerModes, partnerAbil := l.partnerAbil, lastMode := l.lastMode, episode := l.episode
              sigBadAtDown := l.sigBadAtDown, lineVersion := l.lineVersion, shVersion := l.shVersion }
    tx := if retain && l.upAtEntry then Vector.ofFn (fun c : Cls => { next := q.store.savedTx.getD c.val 0 }) else Vector.replicate 4 {}
    rx := if retain && l.upAtEntry then Vector.ofFn (fun c : Cls => { next := q.store.savedRx.getD c.val 0 }) else Vector.replicate 4 {}
    dsp := { neighbours := q.dsp.neighbours, neighboursInUse := q.dsp.neighboursInUse, nearest := q.dsp.nearest }
    host := { select := q.host.select, options := q.host.options, optionsInUse := q.host.options, lpiPolicy := q.host.lpiPolicy
              idleTime := q.host.idleTime, active := q.host.active }
    ptp := { enable := q.ptp.enable, mask := q.ptp.mask, trim := q.ptp.trim }
    sig := { thresholds := q.sig.thresholds, lineRef := q.sig.lineRef, probeRef := q.sig.probeRef, b1 := q.sig.b1, g1 := q.sig.g1 }
    sealing := { enable := q.sealing.enable, length := q.sealing.length, dest := q.sealing.dest, source := q.sealing.source } }

/-- R371: what of a channel outlives the entry. -/
def chanAsleep (c : Channel) : Channel :=
  { emcyThreshold := c.emcyThreshold, recordSelect := c.recordSelect, configLock := c.configLock, keepAwake := c.keepAwake }

/-- R376: the SimmerPeriod window of tally time under way starts here. -/
def simmerWindow (s : State) : Nat := s.aon.tally / (s.pwr.simmerPeriod * 1000000) * (s.pwr.simmerPeriod * 1000000)

/-- R367, R371: power is removed from the gated blocks, the control domain and the core; EMCY messages left are dropped. -/
def entryDone (target : PState) (s : State) : State :=
  { s with
    pwr := { s.pwr with state := target, transition := none, passed := false, askedBy := none, inhDriven := false, probeTick := simmerWindow s }
    gate := { s.gate with isOpen := 0, pending := 0 }
    clk := { s.clk with
      ref := if target = .simmer then .running else .off, pll := .off, hostPll := List.replicate 8 .off, onInput1 := [], pending := [], held := []
      armed := false, recovering := false, failing := none, retrim := false, rc := .running, simmerFail := false }
    aon := { s.aon with onRc := true }
    can := { s.can with nmt := .initialising, emcy := [], dropped := 0, droppedMask := 0, emcySent := 0, emcyDropped := 0
                        busOffs := 0 }
    chans := s.chans.map chanAsleep
    roll := { order := s.roll.order }
    hashWork := []
    lastAnchor := List.replicate 8 0
    bayLoads := List.replicate 8 0, battenLoads := List.replicate 64 0, peakLoad := 0
    bist := { s.bist with results := List.replicate 8 .none, poc := .none, lastSig := List.replicate 24 0 }
    cal := { s.cal with stage := .idle, stageKind := 0, run := none }
    ports := Vector.ofFn (fun p => portAsleep (maskBit s.pwr.maskAtPoint p) s.ports[p]) }

/-! ## Wake (R373, R384) -/

/-- R374: the return begins: the crystal starts, or goes to full drive. INH is driven from here on: a wake raises BOIL, and the manual does
not say what INH does between the wake and BOIL (log entry 79). -/
def beginReturn (s : State) : State :=
  modClk (fun k => { k with ref := .starting }) (modPwr (fun w => { w with transition := some .boil, inhDriven := true }) s)

/-- R373: whether a wake event may act: in the REST of the thermal restart limit only CAN and WAKE_IN (R383). -/
def wakeAllowed (s : State) (w : Wake) : Bool :=
  !s.pwr.thermalRest || (match w with | .can => true | .wakeIn => true | _ => false)

/-- R149, R373: the ports that a wake event wakes once the device is in BOIL: remotely by the line, all locally by WAKE_IN. -/
def noteWake (w : Wake) (s : State) : State :=
  match w with
  | .line p => modLink p (fun l => { l with wakeDue := some true }) s
  | .wakeIn => forPorts (fun p t => modLink p (fun l => { l with wakeDue := l.wakeDue <|> some false }) t) s
  | .probe p => modPwr (fun x => { x with probeDue := x.probeDue ++ [p] }) s
  | .can => s

/-- R373, R384: a wake event as the power states see it. -/
def wakeEvent (w : Wake) (s : State) : State :=
  match s.pwr.transition with
  | some .boil => noteWake w s
  | some _ =>
    if s.pwr.passed then noteWake w (modPwr (fun x => { x with latched := true, wake := x.wake <|> some w }) s)
    else abandonEntry (modPwr (fun x => { x with wakeAborts := sat32 (x.wakeAborts + 1) }) s)
  | none =>
    if s.pwr.state = .boil ∨ !wakeAllowed s w then s
    else beginReturn (noteWake w (modPwr (fun x => { x with wake := some w }) s))

/-- R149: a remote wake of port p is forwarded to each sleeping port of its mask, and the port starts auto-negotiation. -/
def remoteWake (p : PortId) (s : State) : State :=
  let t := (maskPorts s.ports[p].link.wakeForward).foldl (fun u m =>
    if m ≠ p ∧ u.ports[m].link.asleep then startPulse m u else u) s
  if s.ports[p].link.asleep then wakePort p t else localWake p t

/-- R149: WAKE_IN is a local wake of every port. -/
def wakeInPorts (s : State) : State := forPorts localWake s

/-- R149: the wake of port p that waited for BOIL. -/
def dueWake (p : PortId) (s : State) : State :=
  let t := modLink p (fun l => { l with wakeDue := none }) s
  match s.ports[p].link.wakeDue with
  | some true => remoteWake p t
  | some false => localWake p t
  | none => s

/-- R149, R242: what follows the wake events once the device is in BOIL. -/
def portWakes (s : State) : State :=
  s.pwr.probeDue.foldl (fun t p => oweProbes p 2 t) (modPwr (fun x => { x with probeDue := [] }) (forPorts dueWake s))

/-! ## Return (R372, R374) -/

/-- R131, R139, R372: how a port that was up at entry relinks: by Table 5-6 where its store was retained. -/
def returnRelink (p : PortId) (s : State) : State :=
  let q := s.ports[p]
  if !q.link.upAtEntry then s
  else
    let s := modLink p (fun l => { l with upAtEntry := false }) s
    if !bayOpen s p ∨ !q.link.adminEnabled ∨ !maskBit s.pwr.maskAtPoint p then tryAutoneg p s
    else
      let r := relinkPlan s p
      let s := modLink p (fun l => { l with bySecondRow := r.2.1 }) s
      match r.1, r.2.2 with
      | .fast, some m => beginFast p (takeRelinkMode p m s)
      | .full, some m => beginFull p (takeRelinkMode p m s)
      | _, _ => tryAutoneg p s

/-- R374: gates that were requested reopen. -/
def reopenGates (s : State) : State :=
  (List.range 20).foldl (fun t g => gateOpenComplete g t) s

/-- R374, Table 15-4: CTL reaches the PLL: the dictionary is served, with the return still in progress. -/
def returnDone (s : State) : State :=
  let left := s.pwr.state
  let w := s.pwr.wake
  let t := modPwr (fun x => { x with state := .boil, latched := false, thermalRest := false }) s
  let t := modClk (fun k => { k with onInput1 := k.onInput1 ++ (pllDomains.filter (fun d => wantsInput1 k d && !k.onInput1.contains d)) }) t
  let t := bootUp (canStack (clearOut t))
  let t := raise (powerStateEv left .boil (if w.isSome then 2 else 1) (match w with | some x => wakeCode x | none => 0)) t
  takeShadow (modPwr (fun x => { x with wake := none }) t)

/-- R374, Table 15-4: the return ends: gates reopen, ports relink, and what the wake events asked of the ports follows (log entry 99). -/
def finishReturn (s : State) : State :=
  if s.pwr.state = .boil ∧ s.pwr.transition = some .boil then
    portWakes (forPorts returnRelink (reopenGates (modPwr (fun x => { x with transition := none, latched := false }) s)))
  else s

/-! ## Probes (R241, R242) -/

/-- R241, R242: the probe of one port in SIMMER; a port whose line is not quiet is left for the next wake; a segment over ANOMALY raises
BOIL. -/
def simmerProbe (p : PortId) (m : ProbeIn) (s : State) : State :=
  let t := modPwr (fun w => { w with nextProbe := if lineQuiet m then p + 1 else p }) (probe p m s)
  if lineQuiet m && !m.energy && probeAnomalous t p then wakeEvent (.probe p) t else t

/-- R242, R244: a probe that a capture asks for in BOIL. -/
def captureProbe (p : PortId) (m : ProbeIn) (s : State) : State :=
  if s.ports[p].sig.probeCap.isNone || !lineQuiet m then s
  else if m.energy then probeLost p m s
  else
    let t := probeMeasured p m (checkRefs p s)
    if probeAnomalous t p then oweProbes p 2 t else t

/-! ## Commands -/

/-- R370: the point of no return is reached. -/
def execPointOfNoReturn (s : State) : Host.Outcome State Fault Refusal :=
  .next (match s.pwr.transition with
    | some .simmer => if !s.pwr.passed && pointReached s then takePoint .simmer s else s
    | some .rest => if !s.pwr.passed && pointReached s then takePoint .rest s else s
    | _ => s)

/-- R370: 1.0 ms without a point of no return: the entry is abandoned as a refusal. A point that can be taken in that cycle is taken first
(Table 15-9). -/
def execEntryTimeout (s : State) : Host.Outcome State Fault Refusal :=
  .next (match s.pwr.transition with
    | some .boil => s
    | some t =>
      if s.pwr.passed then s
      else
        match holdingPoint s with
        | [] => takePoint t s
        | r :: _ => abandonEntry (refuseEntry t s.pwr.askedBy [r] s)
    | none => s)

/-- R370: the commit queue has drained: one heartbeat with state 0x04, and power is removed; a latched BOIL follows. -/
def execEntryComplete (s : State) : Host.Outcome State Fault Refusal :=
  .next (if !s.pwr.passed || !s.crock.queue.isEmpty || !s.crock.owed.isEmpty then s
    else
      match s.pwr.transition with
      | none => s
      | some t =>
        let u := entryDone t (canSend (heartbeatFrame s 0x04) (clearOut s))
        if u.pwr.latched then beginReturn (modPwr (fun w => { w with latched := false }) u) else u)

/-- R373: a wake-up pattern on the CAN bus. -/
def execCanWakePattern (s : State) : Host.Outcome State Fault Refusal := .next (wakeEvent .can s)

/-- R149, R373: WAKE_IN high for 50 µs. -/
def execWakeIn (s : State) : Host.Outcome State Fault Refusal :=
  .next (let t := wakeEvent .wakeIn s
    if t.pwr.state = .boil ∧ t.pwr.passed = false then wakeInPorts t else t)

/-- R148: the line wake detector reports a tone of mv millivolts that lasts us microseconds: above 40 mV for 0.5 ms or more, never for less
than 0.3 ms; what it makes of a tone between is open (log entry 64). -/
def toneReported (mv us : Nat) : Bool := decide (40 < mv) && (decide (500 ≤ us) || (decide (300 ≤ us) && Config.wakeReported mv us))

/-- R148, R149, R373: a tone at the line wake detector of a port. -/
def execLineWake (w : WakeTone) (s : State) : Host.Outcome State Fault Refusal :=
  .next (if !toneReported w.mv w.us || !wakeAllowed s (.line w.port) then s
    else
      let t := wakeEvent (.line w.port) s
      if t.pwr.state = .boil ∧ t.pwr.passed = false then remoteWake w.port t else t)

/-- R374: CTL has reached the PLL on return. -/
def execPowerReturnDone (s : State) : Host.Outcome State Fault Refusal :=
  .next (if s.pwr.transition = some .boil ∧ s.pwr.state ≠ .boil ∧ s.clk.pll = .running then returnDone s else s)

/-- R375: the crystal's frequency check fails in SIMMER. -/
def execCrystalFrequencyCheckFail (s : State) : Host.Outcome State Fault Refusal :=
  .next (if s.pwr.state = .simmer ∧ s.pwr.transition = none then
    modClk (fun k => { k with ref := .off, simmerFail := true }) s else s)

/-- R376: a tick of SimmerPeriod has come in SIMMER and its probe has not been run. -/
def tickDue (s : State) : Bool :=
  decide (s.pwr.state = .simmer) && s.pwr.probeEnable && decide (s.pwr.probeTick < simmerWindow s)

/-- R376: the tick's probe is taken. -/
def takeTick (s : State) : State := modPwr (fun x => { x with probeTick := simmerWindow s }) s

/-- R376: a SimmerPeriod tick wakes SIMMER to probe the next port with a reference. -/
def execSimmerProbeWake (m : ProbeIn) (s : State) : Host.Outcome State Fault Refusal :=
  .next (if tickDue s ∧ s.pwr.transition = none then
    match nextProbePort s s.pwr.nextProbe with
    | some p => simmerProbe p m (takeTick s)
    | none => takeTick s
  else s)

/-- R241, R244: a probe of one port: for a capture in BOIL, or as the probe of a SIMMER tick, also where a wake event has meanwhile begun the
return (Table 9-12). -/
def execProbeRun (p : PortId) (m : ProbeIn) (s : State) : Host.Outcome State Fault Refusal :=
  .next (if s.pwr.state = .boil then captureProbe p m s
    else if tickDue s ∧ nextProbePort s s.pwr.nextProbe = some p then simmerProbe p m (takeTick s)
    else s)

end Sys2Proof.Machine
end

