-- ==== Sys2Proof/Machine/Thermal.lean ====
section
/-! DEFINITION. Thermal.lean: the nine sensors, WARN and the two throttle stages (R381, R382). Shutdown and restart stand in Reset.lean. -/

namespace Sys2Proof.Machine

/-- The thermal objects changed. -/
def modHeat (f : Heat → Heat) (s : State) : State := { s with heat := f s.heat }

/-- Bits of ThermalEvents set. -/
def heatEvent (e : BitVec 16) (s : State) : State := modHeat (fun h => { h with events := evtSet e h.events }) s

/-- The highest of the readings from sensor n on, with its sensor; the lowest number among equals. -/
def highestFrom : Nat → List Int → Nat × Int
  | n, [] => (n, -32768)
  | n, [x] => (n, x)
  | n, x :: rest => let r := highestFrom (n + 1) rest; if x < r.2 then r else (n, x)

/-- R381: the highest reading of the nine and its sensor. -/
def highest (h : Heat) : Nat × Int := highestFrom 0 h.sensors

/-- R381: the readings of one conversion, and PeakTemperature. -/
def storeReadings (rs : List Int) (s : State) : State :=
  modHeat (fun h =>
    let h := { h with sensors := (rs ++ h.sensors.drop rs.length).take 9 }
    { h with peak := max h.peak (highest h).2 }) s

/-- Table 15-7: WARN sets and clears. -/
def warnStep (s : State) : State :=
  let r := highest s.heat
  if s.heat.warn = false ∧ s.heat.warnSet ≤ r.2 then
    raise (devEv .thermal 0x0300 3 (BitVec.ofNat 8 r.1 :: beInt 2 r.2)) (heatEvent 1 (modHeat (fun h => { h with warn := true }) s))
  else if s.heat.warn ∧ r.2 < s.heat.warnClear then modHeat (fun h => { h with warn := false }) s
  else s

/-- The THROTTLE record of a stage. -/
def throttleEv (stage : Nat) (r : Nat × Int) : Ev := devEv .thermal 0x0301 5 ([BitVec.ofNat 8 stage, BitVec.ofNat 8 r.1] ++ beInt 2 r.2)

/-- R61, R382: stage 1 begins, with each bay's nearest neighbour chosen, or the stage is cleared; bays that waited for their test may start (R398). -/
def throttleStep (s : State) : State :=
  let r := highest s.heat
  if s.pwr.state ≠ .boil then s
  else if s.heat.stage = 0 ∧ 12000 ≤ r.2 then
    let t := heatEvent 2 (modHeat (fun h => { h with stage := 1, lastSecond := r.2 }) s)
    raise (throttleEv 1 r) (forPorts chooseNearest t)
  else if 0 < s.heat.stage ∧ r.2 < 11400 then
    startBays (raise (throttleEv 0 r) (modHeat (fun h => { h with stage := 0 }) s))
  else s

/-- R382: stage 2 at a whole second after stage 1 began: a rise of 0.25 °C or more in that second issues a DOWNSHIFT_ONE order, in BOIL and
outside a transition. -/
def stageTwo (s : State) : State :=
  let r := highest s.heat
  if s.heat.stage = 0 then s
  else
    let t := modHeat (fun h => { h with lastSecond := r.2 }) s
    if s.pwr.state ≠ .boil ∨ s.pwr.transition.isSome ∨ r.2 < s.heat.lastSecond + 25 then t
    else
      let t := if s.heat.stage = 1 then raise (throttleEv 2 r) (heatEvent 4 (modHeat (fun h => { h with stage := 2 }) t)) else t
      issueThermal t

/-! ## Commands -/

/-- R383: since when every reading has been below 115 °C, while the device waits for its restart; a reading that is not starts it afresh. -/
def coolStep (s : State) : State :=
  if s.pwr.shutdown then
    modHeat (fun h => { h with coolSince := if (highest h).2 < 11500 then some (h.coolSince.getD s.aon.tally) else none }) s
  else s

/-- R367, Table 15-4: the control domain, which holds the WARN rule and the commit queue, has power: in BOIL, and in a return. -/
def controlPowered (s : State) : Bool := decide (s.pwr.state = .boil) || decide (s.pwr.transition = some .boil)

/-- R381: one conversion of the sensors, where VIN supplies them. -/
def execSensorConversion (readings : List Int) (s : State) : Host.Outcome State Fault Refusal :=
  .next (if s.pwr.on then
    let t := coolStep (storeReadings readings s)
    if s.pwr.shutdown || s.pwr.inReset || !controlPowered s then t else throttleStep (warnStep t)
  else s)

/-- R382: a whole second after stage 1 began. -/
def execThrottleStage2Check (s : State) : Host.Outcome State Fault Refusal := .next (stageTwo s)

end Sys2Proof.Machine
end

