-- ==== Sys2Proof/Machine/Abort.lean ====
section
/-! DEFINITION. Abort.lean: the abort codes of Table 11-7, the outcome of a dictionary request and the records of refused ones
(R309). -/

namespace Sys2Proof.Machine

/-! ## Abort codes (Table 11-7) -/

/-- An abort code. -/
abbrev Code := BitVec 32

/-- Unsupported access. -/
def abUnsupported : Code := 0x06010000
/-- Read of a write-only object. -/
def abWriteOnly : Code := 0x06010001
/-- Write of a read-only object. -/
def abReadOnly : Code := 0x06010002
/-- Object does not exist. -/
def abNoObject : Code := 0x06020000
/-- Length does not match. -/
def abLength : Code := 0x06070010
/-- Sub-index does not exist. -/
def abNoSub : Code := 0x06090011
/-- Value range exceeded. -/
def abRange : Code := 0x06090030
/-- General error. -/
def abGeneral : Code := 0x08000000
/-- BLOCK_GATED. -/
def abGated : Code := 0x0A010001
/-- BLOCK_UNPOWERED. -/
def abUnpowered : Code := 0x0A010002
/-- UNDER_TEST. -/
def abUnderTest : Code := 0x0A010003
/-- LOCKED. -/
def abLocked : Code := 0x0A010004
/-- ALREADY_WRITTEN. -/
def abWritten : Code := 0x0A010005
/-- TRANSITION_BUSY. -/
def abBusy : Code := 0x0A010006
/-- ROLE_DENIED. -/
def abRole : Code := 0x0A010007
/-- LIFECYCLE_DENIED. -/
def abLife : Code := 0x0A010008
/-- POSTED_BUSY. -/
def abPosted : Code := 0x0A01000A
/-- SEQUENCE_OUT_OF_WINDOW. -/
def abWindow : Code := 0x0A01000B
/-- FUSES_EXHAUSTED. -/
def abFuses : Code := 0x0A01000D
/-- CALIBRATION_DISAGREES. -/
def abCalibration : Code := 0x0A01000E
/-- AUTH_FAILED. -/
def abAuth : Code := 0x0A01000F

/-! ## Outcomes -/

/-- What a write does: the state it leaves, or an abort code with the state that the refusal leaves. -/
abbrev Wr := Except (Code × State) State

/-- An abort that changes nothing (R308). -/
def deny (c : Code) (s : State) : Wr := .error (c, s)

/-- f, unless the condition fails with a code. -/
def guardWr (ok : Bool) (c : Code) (s : State) (f : Wr) : Wr := if ok then f else deny c s

/-! ## Records of refused writes (R309) -/

/-- R309: the codes whose refused writes commit REFUSED_WRITE. -/
def refusedCode (c : Code) : Bool := [abRole, abLife, abLocked, abWritten, abFuses, abCalibration].contains c

/-- R309: the REFUSED_WRITE record of a channel, within its limit of 16 in 1 s; the number carried stands until a record takes it. -/
def refusedWrite (ch : Chan) (index : BitVec 16) (sub : Byte) (c : Code) (s : State) : State :=
  if !refusedCode c then s
  else if refusalRoom s ch then
    raise (devEv .dict 0x0600 2 ([BitVec.ofNat 8 ch.val] ++ beBytes 2 index.toNat ++ [sub] ++ beBytes 4 c.toNat
        ++ beBytes 2 (sat16 s.chans[ch].refCarried)))
      (modChan ch (fun x => { x with refCarried := if queueTakes s then 0 else x.refCarried }) (refusalCounted ch s))
  else refusalSuppressed ch s

/-- R288, R309: the answer to a request that aborts. -/
def answerAbort (ch : Chan) (c : Code) (s : State) : State := modChan ch (fun x => { x with resp := .abort c }) (countAbort ch c s)

/-- R309: a request counts in ChannelCounters. -/
def countRequest (ch : Chan) (s : State) : State := modChan ch (fun x => { x with counters := bump 0 1 x.counters }) s

/-- The answer to a write: the response, or the abort with its counts and its record. -/
def answerWrite (ch : Chan) (index : BitVec 16) (sub : Byte) (r : Wr) : State :=
  match r with
  | .ok t => modChan ch (fun x => { x with resp := .ok }) t
  | .error (c, t) => answerAbort ch c (refusedWrite ch index sub c t)

/-- An integer's bytes read as an unsigned value of a field. -/
def fieldVal (data : List Byte) : Nat := leVal data

end Sys2Proof.Machine
end

