-- ==== Sys2Proof/Machine/Auth.lean ====
section
/-! DEFINITION. Auth.lean: the challenge by which a channel gains a session (R299 to R301). -/

namespace Sys2Proof.Machine

/-- A slice of bytes. -/
def slice (data : List Byte) (start len : Nat) : List Byte := (data.drop start).take len

/-- R300: AuthLockout is not 0. -/
def lockedOut (s : State) : Bool := decide (s.aon.tally < s.aon.lockout)

/-- R300: AuthLockout in whole seconds, rounded up. -/
def lockoutSeconds (s : State) : Nat := lockoutLeft s

/-- R300: an AUTH_FAILED outcome: its record, its counts and the lockout after 5 in a row. -/
def authFailed (ch : Chan) (check role : Nat) (s : State) : State :=
  let t := raise (devEv .dict 0x0601 3 [BitVec.ofNat 8 ch.val, BitVec.ofNat 8 check, BitVec.ofNat 8 role])
    (modChan ch (fun c => { c with counters := bump 7 1 c.counters }) s)
  copyToMram { t with aon :=
      if t.aon.authRun + 1 = 5 then { t.aon with authRun := 0, lockout := t.aon.tally + 60000000000 }
      else { t.aon with authRun := t.aon.authRun + 1 } }

/-- R299: the fused hash of a role's trust anchor. -/
def anchorHash (f : Fuses) (role : Nat) : Option (List Byte) :=
  if role = 1 then f.workshopHash else if role = 2 then f.makerHash else none

/-- R299: the channel's nonce, while it is valid. -/
def validNonce (s : State) (ch : Chan) : Option (List Byte) :=
  match s.chans[ch].nonce with
  | some n => if s.aon.tally < n.2 then some n.1 else none
  | none => none

/-- R300, step 4: the first check that fails, as AUTH_FAILED numbers them. -/
def authCheck (s : State) (ch : Chan) (d : List Byte) : Option Nat :=
  let anchor := slice d 4 64
  let answer := fun n : List Byte => sha256 (n ++ [s.can.node, BitVec.ofNat 8 ch.val] ++ d.take 208)
  if d.getD 0 0 ≠ 1 then some 1
  else match validNonce s ch with
  | none => some 2
  | some n =>
    if anchorHash s.fus (d.getD 1 0).toNat ≠ some (sha256 anchor) then some 3
    else if !ecdsaVerify anchor (sha256 (d.take 144)) (slice d 144 64) then some 4
    else if !ecdsaVerify (slice d 68 64) (answer n) (slice d 208 64) then some 5
    else if beVal (slice d 132 8) * 1000000000 < civilNow s then some 6
    else if beVal (slice d 140 4) ≠ 0 ∧ beVal (slice d 140 4) ≠ Config.serialNumber.toNat then some 7
    else none

/-- R300: the nonce is used up. -/
def useNonce (ch : Chan) (s : State) : State := modChan ch (fun c => { c with nonce := none }) s

/-- R16, R301: the session opens; a session it replaces ends first, and what ran under that one ends behind the dictionary server's records. -/
def openSession (ch : Chan) (role : Role) (key : List Byte) (s : State) : State :=
  let t := closeSession ch 7 s
  let id := (sha256 key).take 4
  let gone := fun u : State => if s.chans[ch].session.isSome then workGone ch (holderGone ch 7 u) else u
  gone <| raise (devEv .dict 0x0602 6 ([BitVec.ofNat 8 ch.val, BitVec.ofNat 8 (roleCode role)] ++ id))
    (modChan ch (fun c => { c with session := some { role := role, expiry := s.aon.tally + sessionLength, keyId := id } })
      (copyToMram { t with aon := { t.aon with authRun := 0 } }))

/-- R300: MAKER outside MANUFACTURE and RETURNED, or any role in ENDED, is denied. -/
def authLifeDenied (s : State) (role : Nat) : Bool :=
  decide (life s = .ended) || (decide (role = 2) && decide (life s ≠ .manufacture) && decide (life s ≠ .returned))

/-- R300: AuthResponse, checked in its own order. -/
def authResponse (ch : Chan) (d : List Byte) (s : State) : Wr :=
  let role := (d.getD 1 0).toNat
  let t := useNonce ch s
  if d.length ≠ 272 then .error (abLength, t)
  else if authLifeDenied s role then .error (abLife, t)
  else if lockedOut s then .error (abLocked, t)
  else match authCheck s ch d with
  | some k => .error (abAuth, authFailed ch k role t)
  | none => .ok (openSession ch (if role = 1 then .workshop else .maker) (slice d 68 64) t)

/-- R299, R300: a read of AuthNonce draws a fresh nonce for the reading channel, unless a lockout runs. -/
def readNonce (ch : Chan) (s : State) : Except (Code × State) (List Byte × State) :=
  if lockedOut s then .error (abLocked, s)
  else
    let n := beBytes 16 (drawn s % 2 ^ 128)
    .ok (n, afterDraw (modChan ch (fun c => { c with nonce := some (n, s.aon.tally + 60000000000) }) s))

end Sys2Proof.Machine
end

