-- ==== Sys2Proof/Machine/LifeCycle.lean ====
section
/-! DEFINITION. LifeCycle.lean: life-cycle transitions, the return token and binding (R246, R297, R385 to R389), the power-on check
(R396), rollback steps (R403) and burns verified late (R380). -/

namespace Sys2Proof.Machine

/-! ## Burning a life-cycle fuse -/

/-- The four life-cycle fuses. -/
inductive LifeFuse where
  | sealed | bound | returned | ended
  deriving DecidableEq, Repr, Inhabited

/-- The cells of a life-cycle fuse. -/
def fuseCells (f : Fuses) : LifeFuse → List Cell
  | .sealed => f.sealed
  | .bound => f.bound
  | .returned => f.returned
  | .ended => f.ended

/-- The cells of a life-cycle fuse replaced. -/
def setCells (k : LifeFuse) (c : List Cell) (f : Fuses) : Fuses :=
  match k with
  | .sealed => { f with sealed := c }
  | .bound => { f with bound := c }
  | .returned => { f with returned := c }
  | .ended => { f with ended := c }

/-- R385: the fuse array after the burn of a life-cycle fuse, and whether a cell verified. -/
def burnLife (k : LifeFuse) (f : Fuses) : Fuses × Bool :=
  let r := burnFuse (fuseCells f k)
  (setCells k r.1 f, r.2)

/-- R388: the role byte of LIFE_CYCLE: 2 for WORKSHOP, 3 for MAKER. -/
def lifeRole (s : State) (ch : Chan) : Nat := if hasMaker s ch then 3 else 2

/-- The LIFE_CYCLE record. -/
def lifeEv (old new : LifeState) (ch : Chan) (role : Nat) : Ev :=
  devEv .fuses 0x0400 7 [BitVec.ofNat 8 (lifeCode old), BitVec.ofNat 8 (lifeCode new), BitVec.ofNat 8 ch.val, BitVec.ofNat 8 role]

/-- R317, R388: the recipe objects at their defaults, ActiveBank 0 and BankValid 0x01: bank 0, where it checks, stands alone; a device whose one
valid image is in bank 1 keeps it (log entry 100). -/
def recipeDefaults (r : Recipes) : Recipes :=
  if bankChecks r.bank0 then { r with active := some false, preferred := false, bank1 := { present := false, version := Config.bank1Version }, loadResult := 0 }
  else { r with loadResult := 0 }

/-- R388, R393: what leaving MANUFACTURE discards: provisional calibrations; what MRAM holds takes its defaults (R317). -/
def leaveManufacture (s : State) : State :=
  emptyCrock (forPorts (fun p => modSig p (fun g => { g with lineRef := {}, probeRef := {} })) { s with
    cal := { s.cal with timebase := 0, level := 0, scale := 500000 }
    can := { s.can with cobs := defaultCobs s.env.straps, arbRate := 500, dataRate := 2000, owners := 0, bindingCount := 0, lastBinding := 0 }
    anchorInterval := 60
    rcp := recipeDefaults s.rcp })

/-- R385, R388: a transition that has passed its checks. -/
def transition (k : LifeFuse) (ch : Chan) (s : State) : State :=
  let old := life s
  let role := lifeRole s ch
  let b := burnLife k s.fus
  let t := { s with fus := b.1 }
  if !b.2 then raise (lifeEv old old ch role) t
  else
    let t := if old = .manufacture then leaveManufacture t else t
    let t := disarmAll 6 (endSessions 5 (raise (lifeEv old (life t) ch role) t))
    if k = .ended then stopSelfTest t else t

/-! ## Requests (R387, R389) -/

/-- R387: SEALED needs both anchor hashes, the device key and certificate, and BankValid not 0. -/
def sealConditions (s : State) : Bool :=
  s.fus.makerHash.isSome && s.fus.workshopHash.isSome && s.fus.keyPresent && (bankChecks s.rcp.bank0 || bankChecks s.rcp.bank1)

/-- R387: a request for SEALED, after the checks of R308. -/
def requestSealed (ch : Chan) (s : State) : Wr :=
  if life s ≠ .manufacture then deny abLife s
  else if !hasSession s ch then deny abRole s
  else if !sealConditions s then deny abGeneral s
  else .ok (transition .sealed ch s)

/-- R389: the held token passes its checks. -/
def tokenOk (s : State) (d : List Byte) : Bool :=
  decide (d.length = 168) && decide (d.getD 0 0 = 1) && decide (d.getD 1 0 = 4)
  && decide (beVal (slice d 4 4) = Config.serialNumber.toNat)
  && decide (slice d 8 16 = (sha256 devicePublicKey).take 16)
  && decide (s.fus.makerHash = some (sha256 (slice d 40 64)))
  && ecdsaVerify (slice d 40 64) (sha256 (d.take 104)) (slice d 104 64)
  && decide (civilNow s ≤ beVal (slice d 24 8) * 1000000000)

/-- R387, R389: a request for RETURNED; it consumes the token, whether it passes or fails. -/
def requestReturned (ch : Chan) (s : State) : Wr :=
  let t := { s with life := { s.life with token := none } }
  if life s ≠ .sealedUnbound ∧ life s ≠ .sealedBound then .error (abLife, t)
  else if !hasWorkshop s ch then .error (abRole, t)
  else if (match s.life.token with | some d => tokenOk s d | none => false) then .ok (transition .returned ch t)
  else .error (abAuth, authFailed ch 8 2 t)

/-- R387: a request for ENDED. -/
def requestEnded (ch : Chan) (s : State) : Wr :=
  if life s = .ended then deny abLife s
  else if !hasSession s ch then deny abRole s
  else if !portGatesClosed s then deny abGeneral s
  else .ok (transition .ended ch s)

/-- R387: a LifeCycleRequest value. -/
def lifeRequest (ch : Chan) (v : Nat) (s : State) : Wr :=
  if v = 2 then requestSealed ch s
  else if v = 4 then requestReturned ch s
  else if v = 5 then requestEnded ch s
  else deny abRange s

/-! ## Binding (R246, R297) -/

/-- R246: ports with an empty slot start its capture, under the session that binds. -/
def bindCaptures (ch : Chan) (s : State) : State :=
  let one := fun (p : PortId) (k : RefSlot) (t : State) =>
    if (refOf (refSlot t.ports[p].sig k)).isNone && (captureOf t.ports[p].sig k).isNone then startCapture p k ch t else t
  forPorts (fun p t => one p .probe (one p .line t)) s

/-- R297: the ownership of all eight ports changes, with its record. -/
def bind (ch : Chan) (v : BitVec 16) (s : State) : State :=
  bindCaptures ch (raise (devEv .dict 0x0604 6 ([BitVec.ofNat 8 ch.val] ++ beBytes 2 s.can.owners.toNat ++ beBytes 2 v.toNat))
    { s with can := { s.can with owners := v, bindingCount := sat16 (s.can.bindingCount + 1), lastBinding := s.aon.tally } })

/-- R297, R388: a write of Owners in SEALED; the first one burns the BOUND fuse. -/
def writeOwners (ch : Chan) (v : BitVec 16) (s : State) : State :=
  if life s = .sealedBound then bind ch v s
  else
    let b := burnLife .bound s.fus
    let t := { s with fus := b.1 }
    let role := lifeRole s ch
    if b.2 then bind ch v (raise (lifeEv .sealedUnbound .sealedBound ch role) t)
    else raise (lifeEv .sealedUnbound .sealedUnbound ch role) t

/-! ## Fuses verified late, and rollback steps -/

/-- A cell whose burn was cut short is verified. -/
def verifyCell (c : Cell) : Cell :=
  match c.st with
  | .unverified => { c with st := if c.good then .burned else .bad }
  | _ => c

/-- The calibration slot whose burn was cut short and now verifies. -/
def slotToVerify (f : Fuses) : Option CalSlot := f.calib.find? (fun x => decide (x.cell.st = .unverified))

/-- The value in force of a calibration kind. -/
def setCalValue (k : CalKind) (v : Int) (c : Calib) : Calib :=
  match k with
  | .timebase => { c with timebase := v }
  | .levels => { c with level := v }
  | .lengthScale => { c with scale := v }

/-- R394: an accepted calibration takes force: its value, its count and LastCalibration. -/
def calibrated (k : CalKind) (v : Int) (tally civil : Nat) (c : Calib) : Calib :=
  { setCalValue k v c with
    counts := c.counts.modify (calKindCode k - 1) (fun n => min (n + 1) 255), lastTally := tally, lastCivil := civil
    lastKind := calKindCode k }

/-- R380, R388: a life-cycle fuse verified late has changed the life-cycle state from `old`: what a transition does follows. The channel and the
role that asked for it went with the power, and the manual does not say what LIFE_CYCLE names (log entry 100). -/
def lateTransition (old : LifeState) (s : State) : State :=
  if life s = old then s
  else
    let asked := (measuredNow s).toNat
    let t := afterDraw (if old = .manufacture then leaveManufacture s else s)
    let t := raise (devEv .fuses 0x0400 7 [BitVec.ofNat 8 (lifeCode old), BitVec.ofNat 8 (lifeCode (life s)), BitVec.ofNat 8 asked,
      BitVec.ofNat 8 (asked / 256)]) t
    if life s = .sealedBound then t
    else
      let t := disarmAll 6 (endSessions 5 t)
      if life s = .ended then stopSelfTest t else t

/-- R380: the burns of one group that were cut short are verified. -/
def verifyGroup (g : FuseGroup) (s : State) : State :=
  let f := s.fus
  let late := lateTransition (life s)
  match g with
  | .sealed => late { s with fus := { f with sealed := f.sealed.map verifyCell } }
  | .bound => late { s with fus := { f with bound := f.bound.map verifyCell } }
  | .returned => late { s with fus := { f with returned := f.returned.map verifyCell } }
  | .ended => late { s with fus := { f with ended := f.ended.map verifyCell } }
  | .rebaseline => { s with fus := { f with rebase := f.rebase.map verifyCell } }
  | .rollback => { s with fus := { f with rollback := f.rollback.map verifyCell } }
  | .witness => { s with fus := { f with witness := f.witness.map verifyCell } }
  | .calibration =>
    let t := { s with fus := { f with calib := f.calib.map (fun x => { x with cell := verifyCell x.cell }) } }
    match slotToVerify f with
    | some x => if x.cell.good then { t with cal := calibrated x.kind x.value x.tally x.civil t.cal } else t
    | none => t

/-- The active image's RollbackLevel. -/
def activeLevel (r : Recipes) : Nat := match activeBank r with | some b => b.rollback | none => 0

/-- Burns n rollback steps, each spent whether or not it verifies (R403). -/
def burnSteps : Nat → List Cell → List Cell
  | 0, cs => cs
  | n + 1, cs => burnSteps n (burnNext cs).1

/-- R403: rollback steps are burned up to the active image's level. -/
def burnRollback (s : State) : State :=
  if life s = .manufacture ∨ s.crock.startCommitted = false then s
  else { s with fus := { s.fus with rollback := burnSteps (activeLevel s.rcp - spentCells s.fus.rollback) s.fus.rollback } }

/-! ## The power-on check (R396) -/

/-- R396: the result of the power-on check. -/
def checkResult (s : State) : PocResult :=
  if s.bist.mramFailed then .failMram else if s.env.badSram ≠ 0 then .failHolding else .pass

/-- R383: after the third thermal restart in 10 minutes, the device enters REST. -/
def restartLimit (s : State) : State :=
  if s.pwr.thermalRest then
    beginEntry .rest none (raise (devEv .thermal 0x0302 5 [BitVec.ofNat 8 (recentRestarts s).length]) (heatEvent 32 s))
  else s

/-- R396: the power-on check ends. -/
def checkEnd (s : State) : State :=
  if !s.bist.checking || s.crock.scanning then s
  else
    let t := modBist (fun b => { b with
      poc := checkResult s, checking := false
      results := b.results.mapIdx (fun i r => if s.env.badSram.getLsbD i then .fail else r) }) s
    restartLimit (raise (selfTestEv t 0 (decide (checkResult s = .pass))) t)

/-! ## Commands -/

/-- R380: a burn that VIN cut short is verified when power returns. -/
def execFuseBurnVerify (g : FuseGroup) (s : State) : Host.Outcome State Fault Refusal :=
  .next (if s.pwr.on then verifyGroup g s else s)

/-- R403: after START, rollback steps are burned. -/
def execRollbackBurn (s : State) : Host.Outcome State Fault Refusal := .next (burnRollback s)

/-- R396: the power-on check ends. -/
def execPowerOnCheckEnd (s : State) : Host.Outcome State Fault Refusal :=
  .next (if deviceHeld s then s else checkEnd s)

end Sys2Proof.Machine
end

