-- ==== Sys2Proof/Machine/Calibrate.lean ====
section
/-! DEFINITION. Calibrate.lean: calibration runs (R391 to R394), recipe images (R400, R401) and test access (R386, R416, R417). -/

namespace Sys2Proof.Machine

/-! ## Starting a run (R391) -/

/-- FuseSlotsFree (0x2304). -/
def calSlotsFree (s : State) : Nat := (s.fus.calib.filter (fun x => isFresh x.cell)).length

/-- R391: REFIN between 9.995 MHz and 10.005 MHz, in mHz. -/
def refinOk (s : State) : Bool := decide (9995000000 ≤ s.env.refin) && decide (s.env.refin ≤ 10005000000)

/-- R391: the round-trip delay in ps that ReferenceCableLength predicts at the LengthScale in force, times 50 000. -/
def predictedDelay (s : State) : Int := s.cal.cable * s.cal.scale

/-- R391: the pre-check of a kind. -/
def preCheck (k : CalKind) (s : State) : Bool :=
  match k with
  | .timebase => refinOk s
  | .levels =>
    let r := s.env.term.getD s.cal.port.val 0
    decide (90000 ≤ r) && decide (r ≤ 110000)
  | .lengthScale =>
    let t : Int := s.env.reflect.getD s.cal.port.val 0
    let p := predictedDelay s
    decide (0 < t) && decide (9 * p ≤ 10 * 50000 * t) && decide (10 * 50000 * t ≤ 11 * p) && decide (t ≤ 400000)

/-- R391: the checks of a GO write of one kind, in order; none: accepted. -/
def calCheck (k : CalKind) (s : State) : Option Code :=
  let onPort := decide (k ≠ .timebase)
  if s.cal.run.isSome then some abBusy
  else if life s ≠ .manufacture ∧ calSlotsFree s = 0 then some abFuses
  else if !s.clk.armed then some abGeneral
  else if onPort && !bayOpen s s.cal.port then some abGated
  else if onPort && s.ports[s.cal.port].link.adminEnabled then some abGeneral
  else if k = .lengthScale ∧ s.cal.cable = 0 then some abRange
  else if !preCheck k s then some abCalibration
  else none

/-- R391, R392: a GO bit of CalibrationGo starts a run. -/
def startCal (k : CalKind) (ch : Chan) (s : State) : Wr :=
  match calCheck k s with
  | some c => deny c s
  | none => .ok { s with cal := { s.cal with
      run := some { kind := k, ch := ch, started := s.aon.tally, since := s.aon.tally }, stage := .idle, stageKind := calKindCode k } }

/-- R391: a write of CalibrationGo. -/
def writeCalGo (ch : Chan) (v : Nat) (s : State) : Wr :=
  if v = 0 then .ok s
  else if v = 1 then startCal .timebase ch s
  else if v = 2 then startCal .levels ch s
  else if v = 4 then startCal .lengthScale ch s
  else deny abRange s

/-! ## Measurements (R392, R394) -/

/-- Table 16-4: the two results agree: ±0.05 ppm; ±0.2 % of the mean level; ±0.1 % of the mean scale. -/
def calAgrees (k : CalKind) (a b : Int) : Bool :=
  let d : Int := (a - b).natAbs
  match k with
  | .timebase => decide (d ≤ 50)
  | .levels => decide (1000 * d ≤ 20000 + a + b)
  | .lengthScale => decide (2000 * d ≤ a + b)

/-- The value in force of a kind. -/
def calInForce (k : CalKind) (c : Calib) : Int :=
  match k with
  | .timebase => c.timebase
  | .levels => c.level
  | .lengthScale => c.scale

/-- The CALIBRATION record. -/
def calEv (s : State) (k : CalKind) (result : Nat) : Ev :=
  devEv .fuses 0x0401 6 ([BitVec.ofNat 8 (calKindCode k), BitVec.ofNat 8 result, BitVec.ofNat 8 (calSlotsFree s), 0]
    ++ beInt 4 (calInForce k s.cal))

/-- The run ends in a stage, with its record. -/
def endCal (k : CalKind) (st : CalStage) (result : Nat) (s : State) : State :=
  let t := { s with cal := { s.cal with run := none, stage := st, stageKind := calKindCode k } }
  raise (calEv t k result) t

/-- R394: the next free slot is burned with a result; the flag says whether it verified. -/
def burnSlot (k : CalKind) (v : Int) (tally civil : Nat) : List CalSlot → List CalSlot × Bool
  | [] => ([], false)
  | x :: rest =>
    if isFresh x.cell then
      ({ cell := burnCell x.cell, kind := k, value := v, tally := tally, civil := civil } :: rest, x.cell.good)
    else let r := burnSlot k v tally civil rest; (x :: r.1, r.2)

/-- R393, R394: an accepted result. -/
def acceptCal (k : CalKind) (v : Int) (s : State) : State :=
  if life s = .manufacture then endCal k .accepted 1 { s with cal := setCalValue k v s.cal }
  else
    let b := burnSlot k v s.aon.tally (civilNow s) s.fus.calib
    let t := { s with fus := { s.fus with calib := b.1 } }
    if b.2 then endCal k .accepted 1 { t with cal := calibrated k v s.aon.tally (civilNow s) t.cal }
    else endCal k .fuseFailed 3 t

/-- Table 16-5: how long a measurement lasts in ns, where the table says it. -/
def calDuration : CalKind → Nat
  | .timebase => 1000000000
  | .levels => 100000
  | .lengthScale => 0

/-- R241, R392: the line that LEVELS and LENGTH_SCALE measure is quiet. -/
def calQuiet (k : CalKind) (s : State) : Bool := decide (k = .timebase) || decide (s.env.linePower.getD s.cal.port.val 0 < -4500)

/-- R73, R392: the measurement that is due can have completed: its gap is there, with a quiet line, and has lasted. -/
def calReady (r : CalRun) (s : State) : Bool :=
  (calBatten s).isSome && calQuiet r.kind s && decide (r.since + calDuration r.kind ≤ s.aon.tally) && (decide (r.kind ≠ .timebase) || refinOk s)

/-- R241, R392: τ from the four probe bursts: the centroid of the square of their echo over its strongest segment and the two neighbours, as a
numerator and a denominator in steps of 100 ps (log entry 51). -/
def echoCentroid (samples : List Int) : Nat × Nat :=
  let sums := fun f : Nat → Nat => (comparedSegments 4095).map (fun j => (j, (segmentSamples j).foldl (fun a k => a + f k) 0))
  let sq := fun k => ((samples.getD k 0) ^ 2).toNat
  match worstSegment (sums sq) with
  | none => (0, 0)
  | some (j, _) => (aroundSegment j (sums (fun k => k * sq k)), aroundSegment j (sums sq))

/-- Table 16-5: the result of a measurement of a kind, in the unit of its object; none: it is lost, or is no measurement of that kind. -/
def calResult (k : CalKind) (m : CalIn) (s : State) : Option Int :=
  match k, m with
  | .timebase, .refCount n => some (quotient (100000000000 - n) 100)
  | .levels, .amplitude v => some (quotient (10000000000 - 10000 * v) v)
  | .lengthScale, .bursts b =>
    if !lineQuiet b || b.energy then none
    else let c := echoCentroid (probeSamples b.bursts); some (quotient (10000000 * c.1) (2 * s.cal.cable * c.2))
  | _, _ => none

/-- R392: a measurement of the run completes in a gap; one that the gap loses is taken again in a later gap. -/
def calMeasured (m : CalIn) (s : State) : State :=
  match s.cal.run with
  | none => s
  | some r =>
    if !calReady r s then s
    else match calResult r.kind m s with
    | none => s
    | some v =>
    match r.first with
    | none => { s with cal := { s.cal with
        run := some { r with first := some (v, s.aon.tally), since := s.aon.tally + 1000000000 }, stage := .firstTaken
        stageKind := calKindCode r.kind } }
    | some f =>
      if calAgrees r.kind f.1 v then acceptCal r.kind (quotient (f.1 + v) 2) s
      else endCal r.kind .disagreed 2 s

/-- R392: 10 s without a first measurement, or 30 s from the first without a second begun: one in whose gap the 30 s ended has begun. -/
def calExpired (s : State) : Bool :=
  match s.cal.run with
  | none => false
  | some r =>
    match r.first with
    | none => decide (r.started + 10000000000 ≤ s.aon.tally)
    | some f => decide (f.2 + 30000000000 ≤ s.aon.tally)
      && ((calBatten s).isNone || !calQuiet r.kind s || decide (f.2 + 30000000000 ≤ r.since) || (decide (r.kind = .timebase) && !refinOk s))

/-! ## Recipe images (R400, R401) -/

/-- Bytes of a recipe header. -/
def imageHeader : Nat := 184

/-- R401, step 1: the image's signature, digest and fixed fields check. -/
def imageSigned (s : State) (d : List Byte) : Bool :=
  decide (imageHeader ≤ d.length) && decide (d.length = imageHeader + beVal (slice d 20 4))
  && decide (beVal (slice d 0 4) = 0x4B545243) && decide (d.getD 4 0 = 1) && decide (beVal (slice d 8 2) = 0x0850)
  && decide (s.fus.makerHash = some (sha256 (slice d 56 64)))
  && ecdsaVerify (slice d 56 64) (sha256 (d.take 120)) (slice d 120 64)
  && decide (slice d 24 32 = sha256 (d.drop imageHeader))

/-- A version field of the header, a byte that holds 4 bits. -/
def imageNibble (d : List Byte) (i : Nat) : BitVec 4 := (d.getD i 0).truncate 4

/-- The version word of an image (0x2700:02 layout). -/
def imageVersion (d : List Byte) : BitVec 32 :=
  BitVec.ofNat 16 (beVal (slice d 6 2)) ++ (imageNibble d 10 ++ (imageNibble d 11 ++ (imageNibble d 13 ++ imageNibble d 14)))

/-- The bank that an image fills. -/
def imageBank (d : List Byte) : Bank :=
  { present := true, rollback := (d.getD 5 0).toNat, version := imageVersion d
    line := (imageNibble d 10, imageNibble d 11, imageNibble d 12)
    shingle := (imageNibble d 13, imageNibble d 14, imageNibble d 15)
    modes := BitVec.ofNat 16 (beVal (slice d 16 2)), errs := [], digestOk := true }

/-- The bank that is not active. -/
def inactiveBank (r : Recipes) : Bool := match r.active with | some b => !b | none => !r.preferred

/-- A bank replaced. -/
def setBank (b : Bool) (f : Bank → Bank) (r : Recipes) : Recipes :=
  if b then { r with bank1 := f r.bank1 } else { r with bank0 := f r.bank0 }

/-- R401: the result of a completed image, with its record. -/
def imageResult (d : List Byte) (result : BitVec 8) (r : Recipes) (s : State) : State :=
  raise (devEv .fuses 0x0402 6 ([BitVec.ofNat 8 (inactiveBank s.rcp).toNat, result] ++ beBytes 4 (imageVersion d).toNat))
    { s with rcp := { r with loadResult := result } }

/-- R401: an image is judged and stored. -/
def storeImage (d : List Byte) (s : State) : State :=
  let b := inactiveBank s.rcp
  if !imageSigned s d then imageResult d 2 s.rcp s
  else if (d.getD 5 0).toNat < spentCells s.fus.rollback then imageResult d 3 s.rcp s
  else if s.env.bankOk then imageResult d 1 { setBank b (fun _ => imageBank d) s.rcp with preferred := b } s
  else imageResult d 4 (setBank b (fun x => { x with present := false }) s.rcp) s

/-! ## Test access -/

/-- R386: a production instruction burns a hash, in MANUFACTURE and once. -/
def burnHash (maker : Bool) (h : List Byte) (s : State) : State :=
  let t := { s with tap := .bypass }
  if life s ≠ .manufacture ∨ h.length ≠ 32 then t
  else if maker then (if s.fus.makerHash.isNone then { t with fus := { t.fus with makerHash := some h } } else t)
  else if s.fus.workshopHash.isNone then { t with fus := { t.fus with workshopHash := some h } } else t

/-- R416: the TAP's instruction register is 8 bits long. -/
def tapIrWidth : Nat := 8

/-- R416, R417: an instruction is loaded. TRST_N low holds the test logic in Test-Logic-Reset. -/
def loadTap (i : TapInstr) (s : State) : State :=
  if s.env.trstLow then { s with tap := .reset } else
  match i with
  | .bypass => { s with tap := .bypass }
  | .idcode => { s with tap := .idcode }
  | .samplePreload => { s with tap := .sample }
  | .burnMakerHash h => burnHash true h s
  | .burnWorkshopHash h => burnHash false h s
  | .extest => { s with tap := if tapMayDrive s then .driving i else .bypass }
  | .extestPulse => { s with tap := if tapMayDrive s then .driving i else .bypass }
  | .extestTrain => { s with tap := if tapMayDrive s then .driving i else .bypass }
  | .clamp => { s with tap := if tapMayDrive s then .driving i else .bypass }
  | .highz => { s with tap := if tapMayDrive s then .driving i else .bypass }

/-- R416: the identification that IDCODE reads: version 0x1, part 0x0850, vendor field 0xE3B. -/
def idcode : BitVec 32 := 0x10850E3B

/-- R416: the data register that the TAP shows: IDCODE after it was loaded or in Test-Logic-Reset; none: a register of other kind. -/
def tapIdentity (s : State) : Option (BitVec 32) :=
  match s.tap with
  | .reset => some idcode
  | .idcode => some idcode
  | _ => none

/-! ## Commands -/

/-- R392: a measurement of the run in progress. -/
def execCalibrationMeasurement (m : CalIn) (s : State) : Host.Outcome State Fault Refusal := .next (calMeasured m s)

/-- R392: the run's time limit. -/
def execCalibrationTimeout (s : State) : Host.Outcome State Fault Refusal :=
  .next (if calExpired s then abandonCal s else s)

/-- R386, R417: an instruction is loaded through the TAP. -/
def execTapInstructionLoad (i : TapInstr) (s : State) : Host.Outcome State Fault Refusal := .next (loadTap i s)

/-- R416: TRST_N goes low, and high again before an instruction can be loaded (log entry 101). -/
def execTrstNLow (s : State) : Host.Outcome State Fault Refusal := .next { s with tap := .reset }

end Sys2Proof.Machine
end

