-- ==== Sys2Proof/Machine/Objects.lean ====
section
/-! DEFINITION. Objects.lean: the object dictionary of chapters 11 and 12: every object, its sub-indices, lengths, access, classes and
blocks (R295, R316, R317), as the object tables list them. -/

namespace Sys2Proof.Machine

/-- Field classes (Table 11-6). -/
inductive FieldClass where
  | ctrl | stat | evt16 | cnt | shadow | posted | w1
  deriving DecidableEq, Repr, Inhabited

/-- Length of a field in bytes: fixed, or a DOMAIN of at most n bytes. -/
inductive FieldLen where
  | fixed (n : Nat)
  | upTo (n : Nat)
  deriving DecidableEq, Repr, Inhabited

/-- Who may write a field (the W part of the Access column). -/
structure Writers where
  owner    : Bool := false
  workshop : Bool := false
  maker    : Bool := false
  all      : Bool := false
  /-- Only the writer's own sub-index. -/
  own      : Bool := false
  /-- A channel that owns all eight ports. -/
  ownsAll  : Bool := false
  deriving DecidableEq, Repr, Inhabited

/-- The block that holds an object, as far as its gate matters (R316). -/
inductive Holder where
  | always | bay | sieve | bist
  deriving DecidableEq, Repr, Inhabited

/-- One row of an object table: a run of sub-indices that share a type. -/
structure Field where
  lo   : Nat
  hi   : Nat
  len  : FieldLen
  cls  : FieldClass := .stat
  rd   : Bool := true
  w    : Option Writers := none
  /-- First held in profile 1.1 (Table 12-10). -/
  p11  : Bool := false
  deriving DecidableEq, Repr, Inhabited

/-- One object. Per-port objects stand under port 0's index. -/
structure Obj where
  index   : Nat
  holder  : Holder := .always
  perPort : Bool := false
  p11     : Bool := false
  fields  : List Field
  deriving DecidableEq, Repr, Inhabited

/-! ## Kinds of writers -/

/-- OWNER, WORKSHOP. -/
def wOW : Writers := { owner := true, workshop := true }
/-- OWNER, WORKSHOP, MAKER. -/
def wOWM : Writers := { owner := true, workshop := true, maker := true }
/-- WORKSHOP, MAKER. -/
def wWM : Writers := { workshop := true, maker := true }
/-- All, own channel. -/
def wOwn : Writers := { all := true, own := true }

/-! ## Kinds of fields -/

/-- A status field of n bytes at one sub-index. -/
def stat (sub n : Nat) : Field := { lo := sub, hi := sub, len := .fixed n }
/-- Status fields of n bytes at sub-indices lo to hi. -/
def stats (lo hi n : Nat) : Field := { lo := lo, hi := hi, len := .fixed n }
/-- HighestSubIndex. -/
def highestSub : Field := stat 0 1
/-- A SHADOW field. -/
def shad (sub n : Nat) : Field := { lo := sub, hi := sub, len := .fixed n, cls := .shadow }
/-- A CTRL field. -/
def ctrl (sub n : Nat) (w : Writers) : Field := { lo := sub, hi := sub, len := .fixed n, cls := .ctrl, w := some w }
/-- CTRL fields at sub-indices lo to hi. -/
def ctrls (lo hi n : Nat) (w : Writers) : Field := { lo := lo, hi := hi, len := .fixed n, cls := .ctrl, w := some w }
/-- A counter that may be zeroed. -/
def cntz (sub n : Nat) (w : Writers) : Field := { lo := sub, hi := sub, len := .fixed n, cls := .cnt, w := some w }
/-- A counter without zeroing. -/
def cnt (sub n : Nat) : Field := { lo := sub, hi := sub, len := .fixed n, cls := .cnt }
/-- A DOMAIN that is only read. -/
def dom (sub n : Nat) : Field := { lo := sub, hi := sub, len := .upTo n }

/-! ## The tables -/

/-- Tables 11-8 and 11-9. -/
def commObjects : List Obj :=
  [{ index := 0x1000, fields := [stat 0 4] },
   { index := 0x1001, fields := [stat 0 1] },
   { index := 0x1014, fields := [stat 0 4] },
   { index := 0x1017, fields := [ctrl 0 2 wOW] },
   { index := 0x1018, fields := [highestSub, stats 1 4 4] },
   { index := 0x1200, fields := [highestSub, stats 1 2 4] },
   { index := 0x1201, fields := [highestSub, ctrls 1 2 4 wWM] },
   { index := 0x1202, fields := [highestSub, ctrls 1 2 4 wWM] },
   { index := 0x1203, fields := [highestSub, ctrls 1 2 4 wWM] },
   { index := 0x2000, fields := [highestSub, stats 1 2 2] },
   { index := 0x2001, fields := [highestSub, ctrls 1 4 2 wOwn] },
   { index := 0x2003, fields := [highestSub, ctrls 1 4 8 wOwn, stat 5 2] },
   { index := 0x2004, fields := [highestSub, { lo := 1, hi := 1, len := .fixed 16 }] },
   { index := 0x2005, fields := [highestSub, { lo := 1, hi := 1, len := .fixed 272, cls := .ctrl, rd := false, w := some { all := true } }] },
   { index := 0x2006, fields := [highestSub, ctrl 1 2 wWM, stat 2 2, stat 3 8] },
   { index := 0x2010, fields := [highestSub, ctrls 1 2 2 wWM, stat 3 4] },
   { index := 0x2020, fields := [highestSub, stats 1 4 1] },
   { index := 0x2021, fields := [highestSub, { lo := 1, hi := 4, len := .fixed 32, cls := .cnt }, cnt 5 8, cnt 6 4] }]

/-- Tables 12-2 to 12-7 and 7-9. -/
def deviceObjects : List Obj :=
  [{ index := 0x2002, fields := [highestSub, stat 1 1, ctrl 2 1 wWM,
      { lo := 3, hi := 3, len := .upTo 512, cls := .ctrl, rd := false, w := some wWM }] },
   { index := 0x2007, p11 := true, fields := [highestSub,
      { lo := 1, hi := 4, len := .fixed 1, cls := .w1, w := some { owner := true, own := true } }] },
   { index := 0x2008, fields := [highestSub, shad 1 8, shad 2 1] },
   { index := 0x2009, fields := [highestSub, shad 1 8, { lo := 2, hi := 2, len := .fixed 8, cls := .posted, rd := false, w := some wOWM },
      shad 3 4, shad 4 8] },
   { index := 0x2030, fields := [ctrl 0 4 { workshop := true, maker := true, ownsAll := true }] },
   { index := 0x2100, fields := [highestSub, shad 1 2, stat 2 8] },
   { index := 0x2101, fields := [highestSub, ctrls 1 2 1 wOWM] },
   { index := 0x2102, fields := [highestSub, shad 1 1, { lo := 2, hi := 2, len := .fixed 4, cls := .evt16, w := some wOWM }, cnt 3 4] },
   { index := 0x2103, fields := [highestSub, { lo := 1, hi := 2, len := .fixed 4, cls := .ctrl, rd := false, w := some wOWM }, stat 3 4] },
   { index := 0x2104, fields := [highestSub, stats 1 2 4] },
   { index := 0x2105, fields := [ctrl 0 1 wOWM] },
   { index := 0x2106, fields := [ctrl 0 2 wOWM] },
   { index := 0x2200, fields := [highestSub, shad 1 1, shad 2 1] },
   { index := 0x2201, fields := [highestSub, ctrl 1 1 wOWM, ctrls 2 5 1 { wOWM with own := true }] },
   { index := 0x2202, fields := [highestSub, cntz 1 4 wOW, cntz 2 4 wOW, stat 3 1, cntz 4 64 wOW, stat 5 8] },
   { index := 0x2203, fields := [highestSub, { lo := 1, hi := 1, len := .fixed 2, cls := .posted, w := some wOWM },
      { lo := 2, hi := 2, len := .fixed 1, cls := .posted, w := some wWM }] },
   { index := 0x2204, fields := [{ lo := 0, hi := 0, len := .fixed 1, cls := .posted, w := some wOWM }] },
   { index := 0x2210, fields := [highestSub, { lo := 1, hi := 9, len := .fixed 2, cls := .shadow }, cntz 10 2 wOW] },
   { index := 0x2211, fields := [highestSub, ctrls 1 2 2 wOW, stats 3 6 2] },
   { index := 0x2212, fields := [highestSub, { lo := 1, hi := 1, len := .fixed 4, cls := .evt16, w := some wOWM }, shad 2 1, shad 3 1] },
   { index := 0x2300, fields := [highestSub, stats 1 3 1] },
   { index := 0x2301, fields := [highestSub, stats 1 2 8, stat 3 1] },
   { index := 0x2302, fields := [highestSub, ctrl 1 1 wWM, ctrl 2 4 wWM, ctrl 3 1 wWM] },
   { index := 0x2303, fields := [highestSub, stat 1 2, stat 2 4, stat 3 2, stat 4 4] },
   { index := 0x2304, fields := [stat 0 1] },
   { index := 0x2400, holder := .bist, fields := [highestSub, ctrls 1 3 1 wWM] },
   { index := 0x2401, fields := [highestSub, stats 1 9 1, { lo := 10, hi := 10, len := .fixed 24 }] },
   { index := 0x2402, fields := [stat 0 4] },
   { index := 0x2600, fields := [highestSub, ctrl 1 8 wOW, stat 2 1, stat 3 8] },
   { index := 0x2601, fields := [highestSub, stats 1 8 4, stat 9 1, stat 10 2, stat 11 1] },
   { index := 0x2700, fields := [highestSub, stat 1 1, stats 2 3 4, stat 4 1, stat 5 1] },
   { index := 0x2701, fields := [{ lo := 0, hi := 0, len := .upTo 1048576, cls := .ctrl, rd := false, w := some wWM }] },
   { index := 0x2702, fields := [stat 0 1] },
   { index := 0x3800, fields := [highestSub, stats 1 64 2] },
   { index := 0x3801, fields := [highestSub, stats 1 72 2, cntz 73 2 wOW] },
   { index := 0x4000, fields := [highestSub, stats 1 2 2, stat 3 4, stat 4 1] },
   { index := 0x4001, fields := [highestSub, stats 1 3 4] },
   { index := 0x4002, fields := [highestSub, ctrls 1 4 4 wOwn] },
   { index := 0x4003, fields := [{ lo := 0, hi := 0, len := .fixed 64 }] },
   { index := 0x4004, fields := [highestSub, ctrls 1 4 1 { wOWM with own := true }] },
   { index := 0x4005, fields := [cnt 0 32] },
   { index := 0x4006, fields := [ctrl 0 1 { maker := true }] },
   { index := 0x4007, p11 := true, fields := [dom 0 960] },
   { index := 0x5000, fields := [highestSub, { lo := 1, hi := 1, len := .fixed 64 }] },
   { index := 0x5001, fields := [highestSub, dom 1 2048] },
   { index := 0x5002, fields := [ctrl 0 2 wWM] },
   { index := 0x5003, fields := [highestSub, stats 1 8 8] }]

/-- Table 8-2. -/
def sieveObjects : List Obj :=
  [{ index := 0x2500, holder := .sieve, fields := [highestSub, stat 1 2, stat 2 1, ctrl 3 1 wWM] },
   { index := 0x2510, holder := .sieve, perPort := true, fields :=
      [highestSub, ctrls 1 3 1 wWM, ctrl 4 4 wWM, ctrl 5 1 wWM, ctrl 6 2 wWM, ctrl 7 1 wWM, ctrl 8 2 wWM, ctrl 9 4 wWM, ctrl 10 1 wWM,
       ctrls 11 12 4 wWM, cntz 13 28 wWM] }]

/-- Table 12-8: the objects of a port. -/
def portObjects : List Obj :=
  [{ index := 0x3000, perPort := true, fields := [highestSub, stat 1 2, stats 2 3 1, stat 4 2, stats 5 6 8, cntz 7 40 wOW] },
   { index := 0x3001, perPort := true, fields := [highestSub, ctrls 1 4 1 wOW] },
   { index := 0x3010, perPort := true, fields := [highestSub, ctrl 1 2 wOW, ctrl 2 1 wOW, stat 3 2] },
   { index := 0x3011, perPort := true, fields := [highestSub, stat 1 1, stats 2 3 2, ctrl 4 1 wOW, stats 5 6 1, stat 7 2] },
   { index := 0x3012, perPort := true, fields := [highestSub, stats 1 3 2, stats 4 5 1] },
   { index := 0x3020, perPort := true, fields := [highestSub, ctrls 1 2 2 wOW, ctrl 3 1 wOW, ctrls 4 6 2 wOW, ctrl 7 8 wOW] },
   { index := 0x3021, perPort := true, fields := [highestSub, ctrls 1 9 1 wOW] },
   { index := 0x3022, perPort := true, fields := [highestSub, ctrls 1 4 1 wOW, ctrls 5 8 2 wOW, stats 9 12 2] },
   { index := 0x3030, holder := .bay, perPort := true, fields :=
      [highestSub, stats 1 2 4, ctrls 3 6 4 wOwn, { lo := 7, hi := 7, len := .fixed 32 }, cnt 8 64, cnt 9 64, cnt 10 8] },
   { index := 0x3040, holder := .bay, perPort := true, fields :=
      [highestSub, stats 1 2 4, stats 3 10 2, cntz 11 8 wOW, stat 12 4, ctrl 13 1 wOW,
       { lo := 14, hi := 14, len := .fixed 64, p11 := true }, { lo := 15, hi := 15, len := .fixed 384, p11 := true }] },
   { index := 0x3041, perPort := true, fields := [highestSub, ctrls 1 2 1 wOW, stats 3 10 2] },
   { index := 0x3050, perPort := true, fields :=
      [highestSub, stats 1 4 1, stat 5 2, stat 6 4, stat 7 1, ctrl 8 4 wWM, stat 9 16, ctrl 10 1 wWM, stat 11 2, cnt 12 20, stat 13 1] },
   { index := 0x3051, perPort := true, fields := [highestSub, { lo := 1, hi := 2, len := .fixed 16448 }] },
   { index := 0x3052, holder := .bay, perPort := true, fields :=
      [highestSub, { lo := 1, hi := 2, len := .fixed 16448 }, { lo := 3, hi := 3, len := .fixed 164, p11 := true }] },
   { index := 0x3060, perPort := true, fields := [highestSub, ctrls 1 2 1 wOW, stat 3 1, stat 4 2, ctrl 5 1 wOW, ctrl 6 2 wOW, cntz 7 24 wOW] },
   { index := 0x3070, holder := .bay, perPort := true, fields :=
      [highestSub, cntz 1 8 wOW, cntz 2 8 wOW, cntz 3 8 wOW, cntz 4 4 wOW, cntz 5 4 wOW, cntz 6 4 wOW, cntz 7 36 wOW, cntz 8 4 wOW,
       cntz 9 4 wOW, cntz 10 4 wOW, cntz 11 4 wOW, cntz 12 32 wOW, cntz 13 32 wOW, cntz 14 16 wOW, cntz 15 16 wOW, cntz 16 8 wOW,
       cntz 17 16 wOW, cntz 18 4 wOW, cntz 19 4 wOW, cntz 20 4 wOW, cntz 21 4 wOW, cntz 22 4 wOW] },
   { index := 0x3080, perPort := true, fields := [highestSub, ctrls 1 2 1 wOW, ctrl 3 4 wOW, cntz 4 20 wOW, stat 5 4] },
   { index := 0x3090, perPort := true, fields :=
      [highestSub, ctrl 1 1 wOWM, ctrl 2 2 wOWM, ctrls 3 4 8 wOWM, stat 5 1, cnt 6 24, stat 7 8] }]

/-- The whole dictionary (R317). -/
def dictionary : List Obj := commObjects ++ deviceObjects ++ sieveObjects ++ portObjects

/-! ## Looking up -/

/-- The index of port 0's object and the port, of any index: 0x3nxx and 0x251n are per-port. -/
def splitIndex (i : BitVec 16) : Nat × PortId :=
  let n := i.toNat
  if 0x2510 ≤ n ∧ n ≤ 0x2517 then (0x2510, Fin.ofNat 8 (n % 16))
  else if 0x3000 ≤ n ∧ n ≤ 0x37FF then (0x3000 + n % 256, Fin.ofNat 8 (n / 256 % 16))
  else (n, 0)

/-- The index of a port's object from port 0's. -/
def portIndex (base : Nat) (p : PortId) : BitVec 16 := BitVec.ofNat 16 (if base = 0x2510 then base + p.val else base + 256 * p.val)

/-- The field at a sub-index. -/
def fieldAt (o : Obj) (sub : Nat) : Option Field := o.fields.find? (fun f => decide (f.lo ≤ sub) && decide (sub ≤ f.hi))

/-- The channel uses profile 1.1. -/
def newProfile (s : State) (ch : Chan) : Bool := decide (s.chans[ch].profile = 0x0101)

/-- R295: the object and field that a channel reaches, or the abort of step 1 of R308. -/
def findField (new : Bool) (base sub : Nat) : Except Code (Obj × Field) :=
  match dictionary.find? (fun o => o.index == base) with
  | none => .error abNoObject
  | some o =>
    if o.p11 && !new then .error abNoObject
    else match fieldAt o sub with
    | none => .error abNoSub
    | some f => if f.p11 && !new then .error abNoSub else .ok (o, f)

/-- R317: HighestSubIndex as the channel's profile holds it. -/
def highestSubOf (new : Bool) (o : Obj) : Nat := (o.fields.filter (fun f => new || !f.p11)).foldl (fun a f => max a f.hi) 0

/-- The length of a field fits. -/
def lengthOk (l : FieldLen) (n : Nat) : Bool :=
  match l with
  | .fixed k => decide (n = k)
  | .upTo k => decide (1 ≤ n) && decide (n ≤ k)

end Sys2Proof.Machine
end

