-- ==== Sys2Proof/Machine/Flags.lean ====
section
/-! DEFINITION. Flags.lean: the status words that software reads bit by bit, each computed from the state behind it. -/

namespace Sys2Proof.Machine

/-- A word from its bits, bit 0 first. -/
def flagBits (l : List Bool) : Nat := l.foldr (fun b a => b.toNat + 2 * a) 0

/-- Ports that satisfy a test, as a mask. -/
def portMask (f : PortId → Bool) : Nat := flagBits ((List.finRange 8).map f)

/-! ## Ports (Tables 5-10 and 5-12) -/

/-- LinkFlags (0x3n00:01). -/
def linkFlags (q : Port) : Nat :=
  flagBits [q.link.up, q.link.up && (etoonMode q).isSome, q.line.wakeWindow.isSome || decide (0 < q.line.epochExempt), mcBusy q,
    q.link.asleep, q.link.noCommonMode]

/-- LastFailure (0x3n00:04). -/
def lastFailure (l : Link) : Nat := phaseCode l.failPhase * 256 + failCode l.failReason

/-- PortCommand (0x3n01:02): a GO bit reads 1 until its action completes. -/
def portCommandRead (l : Link) : Nat := flagBits [l.choosing && l.wantFull, false, l.sleepWait.isSome || l.sleepSent, l.wakePulse.isSome]

/-- R57: the port's role is settled and is follower, in training or up. -/
def isFollower (q : Port) : Bool :=
  (etoonMode q).isSome && !q.link.leader && (match q.link.phase with
    | .q => true
    | .e1 => true
    | .e2 => true
    | .a => true
    | .x => true
    | .s => true
    | .f => true
    | .up => true
    | _ => false)

/-- R56: port m is declared a neighbour of port n, by the mask as written, and another condition fails. -/
def streamMissing (s : State) (n m : PortId) : Bool :=
  maskBit s.ports[n].dsp.neighbours m && !crosstalkKnown s n m

/-- DspFlags (Table 3-12). -/
def dspFlags (s : State) (p : PortId) : Nat :=
  let q := s.ports[p]
  let join := fun m : PortId => q.dsp.joins.getD m.val .none
  flagBits [q.dsp.adapting, holdInEffect q, q.link.leader, q.dsp.locked, q.dsp.xtalkReduced,
    isFollower q, q.link.up && inStd q, q.dsp.tapAtLimit]
  + 256 * portMask (fun m => decide (join m ≠ .none))
  + 65536 * portMask (streamMissing s p)
  + 16777216 * q.dsp.snapRefused.toNat

/-- AdaptControl (0x3n40:0D). -/
def adaptControlRead (d : Dsp) : Nat := flagBits [d.hold, d.snapGo]

/-- LaneStatus (0x3n60:04). -/
def laneStatus (s : State) (p : PortId) : Nat :=
  let h := s.ports[p].host
  flagBits [h.up, h.lock, h.hiBer, h.fecAligned, h.rxLpi, htxLpi s.ports[p], rateAdapted s.ports[p], s.gate.pending.getLsbD (8 + p.val)]

/-- SealStatus (0x3n90:05). -/
def sealStatus (s : State) (p : PortId) : Nat :=
  let q := s.ports[p]
  flagBits [q.sealing.window.isSome, !stagingFits s p q.cfg.maxFrame, !q.sealing.frames.isEmpty]

/-- SignatureControl (0x3n50:0A): a capture's GO bit reads 1 while it is pending. -/
def signatureControlRead (g : Sig) : Nat := flagBits [g.lineCap.isSome, g.probeCap.isSome, false]

/-- CaptureResult (0x3n50:0B). -/
def captureResult (g : Sig) : Nat := captureCode g.lineRes * 256 + captureCode g.probeRes

/-! ## Device -/

/-- SieveStatus (0x2500:01). -/
def sieveStatus (s : State) : Nat :=
  portMask (fun p => decide (s.ports[p].sieve.arm ≠ 0)) + 256 * portMask (fun p => s.ports[p].sieve.interrupting)

/-- RecorderFlags (0x4000:01). -/
def recorderFlags (s : State) : Nat :=
  flagBits [s.aon.witnessLost.isSome, s.crock.full7, !s.crock.bad.isEmpty, s.aon.onRc]

/-- A channel, or 0xFF if none. -/
def chanOrNone (c : Option Chan) : Nat := match c with | some c => c.val | none => 0xFF

/-- Sessions 0x2003:01 to :04. -/
def sessionWord (s : State) (ch : Chan) : Nat :=
  match s.chans[ch].session with
  | none => 0
  | some x => roleCode x.role * 2 ^ 56 + (x.expiry - s.aon.tally + 999999999) / 1000000000 * 2 ^ 40 + beVal x.keyId

/-- RatesInUse (0x2010:03). -/
def ratesWord (s : State) : Nat := s.can.inUse.1 * 65536 + s.can.inUse.2

/-- CalibrationState (0x2303:01). -/
def calibrationState (c : Calib) : Nat :=
  c.stageKind * 256 + (match c.stage with
    | .idle => 0 | .firstTaken => 1 | .accepted => 2 | .disagreed => 3 | .abandoned => 4 | .fuseFailed => 5)

/-- CalibrationGo (0x2302:01): the bit of the run in progress. -/
def calibrationGoRead (c : Calib) : Nat :=
  match c.run with
  | none => 0
  | some r => (match r.kind with | .timebase => 1 | .levels => 2 | .lengthScale => 4)

/-- BankValid (0x2700:04). -/
def bankValid (r : Recipes) : Nat := flagBits [bankChecks r.bank0, bankChecks r.bank1]

/-- ActiveBank (0x2700:01). -/
def activeBankRead (r : Recipes) : Nat := match r.active with | some b => b.toNat | none => 0

/-- BattenAllocation (0x3800) of batten b. -/
def battenCode (s : State) (b : Nat) : Nat := (battenCodes s (Fin.ofNat 8 (b / 8))).getD (b % 8) 0

/-- SnapshotAge (0x3n40:0C): µs since the newest valid snapshot of the active mode. -/
def snapshotAge (s : State) (p : PortId) : Int :=
  let q := s.ports[p]
  match (etoonMode q).bind (fun m => (snapSlots q.store m).find? Snapshot.valid) with
  | none => 0xFFFFFFFF
  | some x => quotient (s.aon.tally - x.tally) 1000

end Sys2Proof.Machine
end

