-- ==== Sys2Proof/Machine/DictRead.lean ====
section
/-! DEFINITION. DictRead.lean: what a read of each object returns (R295, R305, R308, R317, R321). -/

namespace Sys2Proof.Machine

/-! ## Recorder (R321) -/

/-- OldestSeq: records stand in commit order. -/
def oldestSeq (l : List Rec) : Nat := match l with | r :: _ => r.seq | [] => 0

/-- NewestSeq. -/
def newestSeq (k : Crock) : Nat := if k.recs.isEmpty then 0 else k.newest

/-- The records from a selection on, oldest first; 0 names the oldest held. -/
def recordsFrom (l : List Rec) (sel : Nat) : List Rec :=
  if sel = 0 then l else l.dropWhile (fun r => decide (r.seq ≠ sel))

/-- The selection behind n records read: the next existing number, or the number of the next record to be committed. -/
def selectBehind (k : Crock) (rest : List Rec) : Nat := match rest with | r :: _ => r.seq | [] => nextSeq k.newest

/-- R321: up to n records from the channel's selection, which advances past them. -/
def readRecords (ch : Chan) (n : Nat) (s : State) : Except (Code × State) (List Byte × State) :=
  let from_ := recordsFrom (recordsSeen s) s.chans[ch].recordSelect.toNat
  if from_.isEmpty then .error (abGeneral, s)
  else .ok ((from_.take n).flatMap Rec.bytes,
    modChan ch (fun c => { c with recordSelect := BitVec.ofNat 32 (selectBehind s.crock (from_.drop n)) }) s)

/-! ## Ledger (R202) -/

/-- R202: the entry that the reading channel's EntrySelect names; the selection advances within its part. -/
def readEntry (ch : Chan) (p : PortId) (s : State) : Except (Code × State) (List Byte × State) :=
  let sel := s.ports[p].led.select.getD ch.val 1
  match selectedEntry s p sel with
  | none => .error (abGeneral, s)
  | some e =>
    let next : BitVec 32 := (sel &&& 0x80000000) ||| (BitVec.ofNat 32 (sel.toNat % 2 ^ 31 + 1) &&& 0x7FFFFFFF)
    .ok (entryBytes e, modPort p (fun q => { q with led := { q.led with select := q.led.select.set ch.val next } }) s)

/-! ## Plain values -/

/-- What a plain read yields: bytes, or general error where the object has nothing to show. -/
abbrev Shown := Option (List Byte)

/-- A number of n bytes. -/
def num (n v : Nat) : Shown := some (leBytes n v)

/-- An integer of n bytes. -/
def int (n : Nat) (v : Int) : Shown := some (leInt n v)

/-- An array of numbers of n bytes each. -/
def nums (n : Nat) (l : List Nat) : Shown := some (l.flatMap (leBytes n))

/-- A bit vector of n bytes. -/
def bits {w : Nat} (n : Nat) (v : BitVec w) : Shown := some (leBytes n v.toNat)

/-- A signature block, or general error while the slot is empty. -/
def blockShown (b : Option SigBlock) : Shown := b.map blockBytes

/-- The channel whose sub-index is lo + c. -/
def chanAt (lo sub : Nat) : Chan := Fin.ofNat 4 (sub - lo)

/-- Tables 11-8 and 11-9, but for AuthNonce. -/
def showComm (base sub : Nat) (s : State) : Shown :=
  match base with
  | 0x1000 => num 4 0
  | 0x1001 => bits 1 (errorRegister s)
  | 0x1014 => num 4 (0x080 + s.can.node.toNat)
  | 0x1017 => num 2 s.can.heartbeat
  | 0x1018 =>
    if sub = 1 then num 4 0x00000E3B else if sub = 2 then num 4 0x00000850 else if sub = 3 then num 4 0x00004201
    else bits 4 Config.serialNumber
  | 0x1200 => num 4 ((if sub = 1 then 0x600 else 0x580) + s.can.node.toNat)
  | 0x1201 => bits 4 (s.can.cobs.getD (sub - 1) 0)
  | 0x1202 => bits 4 (s.can.cobs.getD (sub + 1) 0)
  | 0x1203 => bits 4 (s.can.cobs.getD (sub + 3) 0)
  | 0x2000 => num 2 (if sub = 1 then 0x0100 else 0x0101)
  | 0x2001 => bits 2 s.chans[chanAt 1 sub].profile
  | 0x2003 => if sub = 5 then num 2 (lockoutSeconds s) else num 8 (sessionWord s (chanAt 1 sub))
  | 0x2006 => if sub = 1 then bits 2 s.can.owners else if sub = 2 then num 2 s.can.bindingCount else num 8 s.can.lastBinding
  | 0x2010 => if sub = 1 then num 2 s.can.arbRate else if sub = 2 then num 2 s.can.dataRate else num 4 (ratesWord s)
  | 0x2020 => num 1 s.chans[chanAt 1 sub].busy.toNat
  | 0x2021 =>
    if sub = 5 then nums 4 [s.can.emcySent, s.can.emcyDropped] else if sub = 6 then num 4 s.can.busOffs
    else nums 4 s.chans[chanAt 1 sub].counters
  | _ => none

/-- Tables 12-2 and 12-3; SHADOW fields show the copies of the last SLOW edge (R305). -/
def showControl (base sub : Nat) (s : State) : Shown :=
  match base with
  | 0x2002 => if sub = 1 then num 1 (lifeCode (life s)) else num 1 0
  | 0x2007 => num 1 (match s.chans[chanAt 1 sub].configLock with | some m => m.toNat | none => 0)
  | 0x2008 => if sub = 1 then num 8 s.shadow.aon.tally else num 1 s.shadow.aon.onRc.toNat
  | 0x2009 => if sub = 1 then num 8 (civilNow (shadowed s)) else if sub = 3 then num 4 s.shadow.aon.allowance else num 8 s.shadow.aon.lastStep
  | 0x2030 => num 4 0
  | 0x2100 => if sub = 1 then num 2 (sourceState s.shadow.clk) else num 8 s.clk.stableAt
  | 0x2101 => if sub = 1 then bits 1 s.clk.ctlSource else bits 1 s.clk.slowSource
  | 0x2102 => if sub = 1 then num 1 (monitorState s.shadow.clk) else if sub = 2 then bits 4 (evtRead s.clk.events) else num 4 s.clk.coldSwitches
  | 0x2103 => bits 4 s.gate.gates
  | 0x2104 => if sub = 1 then bits 4 s.gate.isOpen else bits 4 s.gate.pending
  | 0x2105 => bits 1 s.clk.clkSelect
  | 0x2106 => num 2 s.clk.clkDivide
  | _ => none

/-- Table 12-4; SHADOW fields show the copies of the last SLOW edge (R305). -/
def showPower (base sub : Nat) (s : State) : Shown :=
  match base with
  | 0x2200 => num 1 (if sub = 1 then pstateCode s.shadow.pwr.state else transitionCode s.shadow.pwr)
  | 0x2201 => if sub = 1 then bits 1 s.pwr.request else bits 1 s.chans[chanAt 2 sub].keepAwake
  | 0x2202 =>
    if sub = 1 then num 4 s.pwr.refusals else if sub = 2 then num 4 s.pwr.wakeAborts else if sub = 3 then bits 1 s.pwr.lastRefuser
    else if sub = 4 then nums 4 s.pwr.refuserCounts else num 8 s.pwr.lastRefusalAt
  | 0x2203 => if sub = 1 then num 2 s.pwr.simmerPeriod else num 1 s.pwr.probeEnable.toNat
  | 0x2204 => bits 1 s.pwr.retention
  | 0x2210 => int 2 (if sub = 10 then s.heat.peak else s.shadow.heat.sensors.getD (sub - 1) (-32768))
  | 0x2211 => int 2 (if sub = 1 then s.heat.warnSet else if sub = 2 then s.heat.warnClear else [12000, 11400, 13500, 11500].getD (sub - 3) 0)
  | 0x2212 =>
    if sub = 1 then bits 4 (evtRead s.heat.events) else if sub = 2 then num 1 s.shadow.heat.stage else num 1 (recentRestarts (shadowed s)).length
  | _ => none

/-- TestRemaining (0x2402): 0 without a run, the time that is left while one runs; that of the start's own check is not stated (log entry 7). -/
def testRemaining (s : State) : Nat :=
  match s.bist.run with
  | some (_, con) => runRemaining s con
  | none => if !s.crock.started || s.bist.checking then (measuredNow s).toNat else 0

/-- Tables 12-5 and 12-6. -/
def showService (base sub : Nat) (s : State) : Shown :=
  match base with
  | 0x2300 => num 1 (s.cal.counts.getD (sub - 1) 0)
  | 0x2301 => if sub = 1 then num 8 s.cal.lastTally else if sub = 2 then num 8 s.cal.lastCivil else num 1 s.cal.lastKind
  | 0x2302 => if sub = 1 then num 1 (calibrationGoRead s.cal) else if sub = 2 then num 4 s.cal.cable else num 1 s.cal.port.val
  | 0x2303 =>
    if sub = 1 then num 2 (calibrationState s.cal) else if sub = 2 then int 4 s.cal.timebase else if sub = 3 then int 2 s.cal.level
    else int 4 s.cal.scale
  | 0x2304 => num 1 (calSlotsFree s)
  | 0x2400 => if sub = 1 then num 1 s.bist.run.isSome.toNat else if sub = 2 then bits 1 s.bist.mask else num 1 s.bist.maxCon
  | 0x2401 =>
    if sub = 10 then some s.bist.lastSig else if sub = 9 then num 1 (pocCode s.bist.poc)
    else num 1 (bayResultCode (s.bist.results.getD (sub - 1) .none))
  | 0x2402 => num 4 (testRemaining s)
  | 0x2700 =>
    if sub = 1 then num 1 (activeBankRead s.rcp) else if sub = 2 then bits 4 s.rcp.bank0.version
    else if sub = 3 then bits 4 s.rcp.bank1.version else if sub = 4 then num 1 (bankValid s.rcp) else num 1 (spentCells s.fus.rollback)
  | 0x2702 => bits 1 s.rcp.loadResult
  | _ => none

/-- Tables 7-9, 8-2 (device), 3-14, 12-7 and 9-11 (device), but for RecordData and RecordBatch. -/
def showEvidence (base sub : Nat) (s : State) : Shown :=
  match base with
  | 0x2500 => if sub = 1 then num 2 (sieveStatus s) else if sub = 2 then num 1 (chanOrNone s.sieveHolder) else num 1 0
  | 0x2600 => if sub = 1 then bits 8 s.roll.order else if sub = 2 then bits 1 s.roll.issuer else num 8 s.roll.issuedAt
  | 0x2601 =>
    if sub = 9 then bits 1 s.roll.status else if sub = 10 then bits 2 s.roll.epoch else if sub = 11 then bits 1 s.roll.lpiMask
    else bits 4 (s.roll.bays.getD (sub - 1) 0)
  | 0x3800 => num 2 (battenCode s (sub - 1))
  | 0x3801 =>
    if sub = 73 then num 2 s.peakLoad else if sub ≤ 8 then num 2 (s.bayLoads.getD (sub - 1) 0) else num 2 (s.battenLoads.getD (sub - 9) 0)
  | 0x4000 =>
    if sub = 1 then num 2 (recorderFlags s) else if sub = 2 then num 2 s.crock.bad.length else if sub = 3 then num 4 s.crock.full7Tally
    else num 1 (spentCells s.fus.witness)
  | 0x4001 => num 4 (if sub = 1 then newestSeq s.crock else if sub = 2 then oldestSeq (recordsSeen s) else (recordsSeen s).length)
  | 0x4002 => bits 4 s.chans[chanAt 1 sub].recordSelect
  | 0x4004 => bits 1 s.chans[chanAt 1 sub].emcyThreshold
  | 0x4005 => nums 4 s.crock.dropTally
  | 0x4006 => num 1 0
  | 0x5000 => some devicePublicKey
  | 0x5001 => some Config.deviceCertificate
  | 0x5002 => num 2 s.anchorInterval
  | 0x5003 => bits 8 (s.lastAnchor.getD (sub - 1) 0)
  | _ => none

/-- Table 8-2: SievePort. -/
def showSieve (sub : Nat) (v : SievePort) : Shown :=
  match sub with
  | 1 => bits 1 v.arm
  | 2 => bits 1 v.lineSelect
  | 3 => bits 1 v.dropMode
  | 4 => bits 4 v.dropArg
  | 5 => bits 1 v.corruptMode
  | 6 => bits 2 v.corruptArg
  | 7 => num 1 v.maxDistance
  | 8 => num 2 v.swapInterval
  | 9 => num 4 v.intLength
  | 10 => bits 1 v.intSides
  | 11 => num 4 v.hostInterval
  | 12 => bits 4 v.seed
  | 13 => nums 4 v.counters
  | _ => none

/-- Tables 5-10 to 5-14. -/
def showLink (base sub : Nat) (q : Port) : Shown :=
  let l := q.link
  match base with
  | 0x3000 =>
    if sub = 1 then num 2 (linkFlags q) else if sub = 2 then num 1 (phaseCode l.phase) else if sub = 3 then bits 1 (downCauseByte l)
    else if sub = 4 then num 2 (lastFailure l) else if sub = 5 then num 8 l.lastUp else if sub = 6 then num 8 l.lastDown
    else nums 4 l.counters
  | 0x3001 =>
    if sub = 1 then num 1 l.adminEnabled.toNat else if sub = 2 then num 1 (portCommandRead l) else if sub = 3 then bits 1 l.wakeForward
    else bits 1 l.linkPolicy
  | 0x3010 => if sub = 1 then bits 2 l.modeMask else if sub = 2 then bits 1 l.leaderPolicy else bits 2 l.withdrawn
  | 0x3011 =>
    if sub = 1 then num 1 (modeCode l.mode) else if sub = 2 then bits 2 l.lineVersion else if sub = 3 then bits 2 l.shVersion
    else if sub = 4 then bits 1 l.target else if sub = 5 then num 1 (mcCode l.mcStatus) else if sub = 6 then bits 1 l.epoch
    else bits 2 l.seed
  | 0x3012 =>
    if sub = 1 then bits 2 l.partnerLine else if sub = 2 then bits 2 l.partnerSh else if sub = 3 then bits 2 l.partnerModes
    else if sub = 4 then bits 1 l.partnerAbil else bits 1 l.partnerHint
  | _ => none

/-- Tables 6-8 to 6-10. -/
def showShingle (base sub : Nat) (q : Port) : Shown :=
  let c := q.cfg
  match base with
  | 0x3020 =>
    if sub = 1 then num 2 c.maxFrame else if sub = 2 then num 2 c.replayTimer else if sub = 3 then bits 1 c.pfcEnable
    else if sub = 4 then num 2 c.pfcXoff else if sub = 5 then num 2 c.pfcXon else if sub = 6 then num 2 c.pfcQuanta else bits 8 c.pfcSource
  | 0x3021 => num 1 (if sub = 9 then c.defaultClass.val else (c.pcpClass.getD (sub - 1) 0).val)
  | 0x3022 =>
    if sub ≤ 4 then num 1 (c.policy.getD (sub - 1) false).toNat else if sub ≤ 8 then num 2 (c.quota.getD (sub - 5) 0)
    else num 2 (occupancy q.tx[(Fin.ofNat 4 (sub - 9) : Cls)])
  | _ => none

/-- Table 7-3, but for Entry. -/
def showLedger (sub : Nat) (d : Ledger) : Shown :=
  match sub with
  | 1 => num 4 d.tx.newest
  | 2 => num 4 d.rx.newest
  | 8 => nums 8 (d.tx.frames ++ d.rx.frames)
  | 9 => nums 8 (d.tx.bytes ++ d.rx.bytes)
  | 10 => nums 4 [d.tx.overwritten, d.rx.overwritten]
  | _ => bits 4 (d.select.getD (sub - 3) 1)

/-- Table 3-11. -/
def showDsp (p : PortId) (sub : Nat) (s : State) : Shown :=
  let d := s.ports[p].dsp
  match sub with
  | 1 => num 4 (dspFlags s p)
  | 2 => int 4 d.freq
  | 3 => num 2 d.snr
  | 4 => int 2 d.near
  | 5 => int 2 d.far
  | 6 => int 2 (if d.joins.any (fun j => decide (j = .cancelling)) then d.xtalk else -32768)
  | 10 => int 2 (quotient (64 * d.d) adcLsb)
  | 11 => nums 4 [d.freezeCount, d.joinRetries]
  | 12 => int 4 (snapshotAge s p)
  | 13 => num 1 (adaptControlRead d)
  | 14 => some (d.ffe.flatMap (fun v => leInt 2 (nearest16 256 v)))
  | 15 => some (d.ne.flatMap (fun v => leInt 2 (nearest16 64 v)))
  | _ => int 2 (nearest16 64 (d.dfe.getD (sub - 7) 0))

/-- Table 3-13. -/
def showHarness (sub : Nat) (q : Port) : Shown :=
  match sub with
  | 1 => bits 1 q.dsp.neighbours
  | 2 => bits 1 q.dsp.nearest
  | _ => int 2 (couplingShown q (Fin.ofNat 8 (sub - 3)))

/-- SegmentLevels (0x3n52:03): 82 segments, 0x8000 where not compared. -/
def segmentBytes (g : Sig) : List Byte :=
  (List.range 82).flatMap (fun i => leInt 2 (match g.segLevels.find? (fun x => x.1 == i) with | some x => x.2 | none => -32768))

/-- Tables 9-3 and 9-4. -/
def showSignature (base : Nat) (p : PortId) (sub : Nat) (s : State) : Shown :=
  let q := s.ports[p]
  let g := q.sig
  match base, sub with
  | 0x3050, 1 => num 1 (activityCode (sigActivity q))
  | 0x3050, 2 => num 1 (sigLevelCode g.level)
  | 0x3050, 3 => bits 1 g.reason
  | 0x3050, 4 => bits 1 g.worst
  | 0x3050, 5 => int 2 g.worstLevel
  | 0x3050, 6 => bits 4 g.location
  | 0x3050, 7 => num 1 g.overCount
  | 0x3050, 8 => bits 4 g.thresholds
  | 0x3050, 9 => some ([g.beta, g.gamma, g.b1, g.g1].flatMap (leInt 4))
  | 0x3050, 10 => num 1 (signatureControlRead g)
  | 0x3050, 11 => num 2 (captureResult g)
  | 0x3050, 12 => nums 4 g.counters
  | 0x3050, _ => num 1 (rebaselinesLeft s)
  | 0x3051, 1 => blockShown (refOf g.lineRef)
  | 0x3051, _ => blockShown (refOf g.probeRef)
  | 0x3052, 1 => blockShown g.lineCur
  | 0x3052, 2 => blockShown g.probeCur
  | 0x3052, _ => some (segmentBytes g)
  | _, _ => none

/-- Tables 4-7 and 6-11. -/
def showCounters (sub : Nat) (c : Counters) : Shown :=
  match sub with
  | 1 => num 8 c.sent
  | 2 => num 8 c.received
  | 3 => num 8 c.corrected
  | 4 => num 4 c.rsFailures
  | 5 => num 4 c.escapes
  | 6 => num 4 c.crcFailures
  | 7 => nums 4 c.histogram
  | 8 => num 4 c.quietEntries
  | 9 => num 4 c.falseWakes
  | 10 => num 4 c.refreshMissed
  | 11 => num 4 c.exempt
  | 12 => nums 8 c.framesIn
  | 13 => nums 8 c.framesOut
  | 14 => nums 4 c.replays
  | 15 => nums 4 c.withdrawals
  | 16 => nums 4 c.pfcSent
  | 17 => nums 4 c.duplicates
  | 18 => num 4 c.outOfWindow
  | 19 => num 4 c.reorderDiscards
  | 20 => num 4 c.ackInvalid
  | 21 => num 4 c.tagErrors
  | 22 => num 4 c.erroredIn
  | _ => none

/-- Tables 10-4 and 10-5, and 9-11. -/
def showHost (base : Nat) (p : PortId) (sub : Nat) (s : State) : Shown :=
  let q := s.ports[p]
  match base with
  | 0x3060 =>
    if sub = 1 then bits 1 q.host.select else if sub = 2 then bits 1 q.host.options else if sub = 3 then num 1 (laneCode q.host.active)
    else if sub = 4 then num 2 (laneStatus s p) else if sub = 5 then bits 1 q.host.lpiPolicy else if sub = 6 then num 2 q.host.idleTime
    else nums 4 q.host.counters
  | 0x3080 =>
    if sub = 1 then bits 1 q.ptp.enable else if sub = 2 then bits 1 q.ptp.mask else if sub = 3 then int 4 q.ptp.trim
    else if sub = 4 then nums 4 q.ptp.counters else bits 4 q.ptp.lastResidence
  | 0x3090 =>
    if sub = 1 then num 1 q.sealing.enable.toNat else if sub = 2 then num 2 q.sealing.length else if sub = 3 then bits 8 q.sealing.dest
    else if sub = 4 then bits 8 q.sealing.source else if sub = 5 then num 1 (sealStatus s p) else if sub = 6 then nums 4 q.sealing.counters
    else num 8 q.sealing.current
  | _ => none

/-- The value of a field whose read changes nothing; 0 for HighestSubIndex stands in dictRead. -/
def showField (base : Nat) (p : PortId) (sub : Nat) (s : State) : Shown :=
  let q := s.ports[p]
  if base = 0x2510 then showSieve sub q.sieve
  else if base < 0x2002 ∨ base = 0x2003 ∨ base = 0x2006 ∨ base = 0x2010 ∨ base = 0x2020 ∨ base = 0x2021 then showComm base sub s
  else if base < 0x2200 then showControl base sub s
  else if base < 0x2300 then showPower base sub s
  else if base < 0x2500 ∨ base = 0x2700 ∨ base = 0x2702 then showService base sub s
  else if base < 0x3000 ∨ 0x3800 ≤ base then showEvidence base sub s
  else if base < 0x3020 then showLink base sub q
  else if base < 0x3030 then showShingle base sub q
  else if base = 0x3030 then showLedger sub q.led
  else if base = 0x3040 then showDsp p sub s
  else if base = 0x3041 then showHarness sub q
  else if base < 0x3060 then showSignature base p sub s
  else if base = 0x3070 then showCounters sub q.cnt
  else showHost base p sub s

/-! ## A read (R308) -/

/-- R308, steps 3 and 6, as far as a read or a write of any field meets them: the block that holds the object. -/
def holderGate (o : Obj) (p : PortId) (s : State) : Option Code :=
  let g := fun n => if gateOpen s n then none else if s.gate.gates.getLsbD n then some abUnpowered else some abGated
  match o.holder with
  | .always => none
  | .bay => g p.val
  | .sieve => if s.gate.gates.getLsbD 16 then g 16 else some abGated
  | .bist => g 19

/-- R365, R398: the object's block is under test. -/
def underTest (o : Obj) (p : PortId) (s : State) : Bool :=
  (decide (o.holder = .bay) && bayTesting s p) || (decide (0x4000 ≤ o.index) && decide (o.index ≤ 0x4007) && !s.crock.started)

/-- What the channel reads, once the checks are passed. -/
def readValue (ch : Chan) (o : Obj) (p : PortId) (sub : Nat) (s : State) : Except (Code × State) (List Byte × State) :=
  if o.index = 0x2004 ∧ sub = 1 then readNonce ch s
  else if o.index = 0x3030 ∧ sub = 7 then readEntry ch p s
  else if o.index = 0x4003 then readRecords ch 1 s
  else if o.index = 0x4007 then readRecords ch 15 s
  else if sub = 0 ∧ (fieldAt o 0) = some highestSub ∧ 1 < o.fields.length then .ok (leBytes 1 (highestSubOf (newProfile s ch) o), s)
  else match showField o.index p sub s with
  | some d => .ok (d, if o.index = 0x2402 then afterDraw s else s)
  | none => .error (abGeneral, s)

/-- R308: a read request of channel ch, as it is answered at its initiate. -/
def dictRead (ch : Chan) (index : BitVec 16) (sub : Byte) (s : State) : Except (Code × State) (List Byte × State) :=
  let ip := splitIndex index
  match findField (newProfile s ch) ip.1 sub.toNat with
  | .error c => .error (c, s)
  | .ok (o, f) =>
    if !f.rd then .error (abWriteOnly, s)
    else match holderGate o ip.2 s with
    | some c => .error (c, s)
    | none => if underTest o ip.2 s then .error (abUnderTest, s) else readValue ch o ip.2 sub.toNat s

end Sys2Proof.Machine
end

