-- ==== Sys2Proof/Machine/Permit.lean ====
section
/-! DEFINITION. Permit.lean: the checks of a write before its effect (R308, with R210, R215, R296, R318, R319 and R390 where a chapter
gives its own): life cycle, role and ownership, test, length, value and locks. -/

namespace Sys2Proof.Machine

/-! ## Step 4: life cycle -/

/-- R390: the writes that ENDED accepts. -/
def endedAccepts (base sub v : Nat) : Bool :=
  match base with
  | 0x1017 => true
  | 0x2001 => true
  | 0x2003 => true
  | 0x2005 => true
  | 0x2030 => true
  | 0x2103 => decide (sub = 2) || decide (v / 2 ^ 19 = 0 ∧ v % 2 ^ 18 = 0)
  | 0x2105 => true
  | 0x2106 => true
  | 0x2201 => true
  | 0x3030 => true
  | 0x4002 => true
  | _ => false

/-- R297, R334, R390: the life-cycle state forbids the write. -/
def lifeForbids (base sub v : Nat) (s : State) : Bool :=
  (decide (life s = .ended) && !endedAccepts base sub v)
  || (decide (base = 0x2006) && decide (life s ≠ .sealedUnbound) && decide (life s ≠ .sealedBound))
  || (decide (base = 0x4006) && decide (life s ≠ .manufacture))

/-! ## Step 5: role and ownership -/

/-- R20, R296: OWNER of the object: of port p for a port's object, of any port for the others. -/
def ownerOf (o : Obj) (p : PortId) (ch : Chan) (s : State) : Bool := if o.perPort then owns s ch p else ownsAny s ch

/-- R296: some role that the channel holds is in the Access column. -/
def accessGrants (o : Obj) (w : Writers) (p : PortId) (ch : Chan) (s : State) : Bool :=
  w.all || (w.owner && ownerOf o p ch s) || (w.workshop && hasWorkshop s ch) || (w.maker && hasMaker s ch)
  || (w.ownsAll && ownsAll s ch)

/-- R215.3: a session that may write the sieve. -/
def sieveRole (ch : Chan) (s : State) : Bool :=
  (hasMaker s ch && (decide (life s = .manufacture) || decide (life s = .returned)))
  || (hasWorkshop s ch && decide (life s ≠ .ended))

/-- R20, R306: RetentionMask as the posted writes accepted so far leave it. -/
def maskPending (s : State) : BitVec 8 :=
  s.aon.posted.foldl (fun m w => match w with | .retention _ v => v | _ => m) s.pwr.retention

/-- R20, R318, R319, R248: what a role must satisfy beyond the Access column. -/
def roleExtra (base sub v : Nat) (ch : Chan) (s : State) : Bool :=
  match base with
  | 0x2007 => (maskPorts (BitVec.ofNat 8 v)).all (owns s ch)
  | 0x2103 => (gateBits (BitVec.ofNat 32 v)).all (mayGate s ch)
  | 0x2204 => hasSession s ch || (maskPorts (BitVec.ofNat 8 v ^^^ maskPending s)).all (owns s ch)
  | 0x3090 => decide (sub ≠ 1) || decide (v % 2 = 1) || hasSession s ch
      || !isBound s
  | _ => true

/-- R308, step 5. The order word is judged by R210, the sieve by R215. -/
def roleGrants (o : Obj) (f : Field) (w : Writers) (p : PortId) (sub v : Nat) (ch : Chan) (s : State) : Bool :=
  if o.index = 0x2600 then true
  else if o.holder = .sieve then sieveRole ch s
  else accessGrants o w p ch s && (!w.own || decide (sub = f.lo + ch.val)) && roleExtra o.index sub v ch s

/-! ## Step 6: blocks under test -/

/-- R215.5: the write arms a kind on a bay under self-test. -/
def armsTested (base : Nat) (p : PortId) (sub v : Nat) (s : State) : Bool :=
  decide (base = 0x2510) && decide (sub = 1) && bayInTest s p
  && decide (BitVec.ofNat 8 v &&& ~~~s.ports[p].sieve.arm ≠ 0)

/-- R308, step 6: a GO bit asks a bay under self-test for a calibration or a capture (log entry 90). -/
def asksUnderTest (base : Nat) (p : PortId) (sub v : Nat) (s : State) : Bool :=
  (decide (base = 0x2302) && decide (sub = 1) && decide (v / 2 % 4 ≠ 0) && bayTesting s s.cal.port)
  || (decide (base = 0x3050) && decide (sub = 10) && decide (v % 4 ≠ 0) && bayTesting s p)

/-- R308, step 6: the write requests a service of a bay under self-test. -/
def serviceUnderTest (base : Nat) (p : PortId) (sub v : Nat) (s : State) : Bool := armsTested base p sub v s || asksUnderTest base p sub v s

/-- R215.4: another channel is Holder. -/
def otherHolder (ch : Chan) (s : State) : Bool := match s.sieveHolder with | some h => decide (h ≠ ch) | none => false

/-! ## Step 8: values -/

/-- R285: identifiers that CiA 301 restricts. -/
def cobRestricted (i : Nat) : Bool :=
  decide (i ≤ 0x07F) || (decide (0x101 ≤ i) && decide (i ≤ 0x180)) || (decide (0x581 ≤ i) && decide (i ≤ 0x5FF))
  || (decide (0x601 ≤ i) && decide (i ≤ 0x67F)) || (decide (0x6E0 ≤ i) && decide (i ≤ 0x6FF)) || decide (0x701 ≤ i)

/-- R285: the identifiers of Table 11-2 but for the COB-ID numbered k of the stored ones. -/
def otherCobs (k : Nat) (s : State) : List Nat :=
  let n := s.can.node.toNat
  [0x600 + n, 0x580 + n, 0x000, 0x080 + n, 0x700 + n]
  ++ (List.range 6).filterMap (fun i =>
    let c := s.can.cobs.getD i 0
    if i = k ∨ c.getLsbD 31 then none else some (c.toNat % 2048))

/-- R285: a COB-ID that may be stored. -/
def cobOk (k v : Nat) (s : State) : Bool :=
  decide (v / 2 ^ 11 % 2 ^ 20 = 0)
  && (decide (2 ^ 31 ≤ v) || (!cobRestricted (v % 2048) && !(otherCobs k s).contains (v % 2048)))

/-- Where the stored COB-ID of an object's sub-index stands. -/
def cobPlace (base sub : Nat) : Nat := 2 * (base - 0x1201) + (sub - 1)

/-- A MAC address in bits 47 to 0. -/
def macOk (v : Nat) : Bool := decide (v < 2 ^ 48)

/-- A MAC address that is not a multicast address. -/
def sourceOk (v : Nat) : Bool := macOk v && !macMulticast (BitVec.ofNat 64 v)

/-- Values of device-wide CTRL fields. -/
def deviceValueOk (base sub : Nat) (d : List Byte) (s : State) : Bool :=
  let v := leVal d
  match base with
  | 0x1017 => decide (v = 0) || decide (10 ≤ v)
  | 0x1201 => cobOk (cobPlace base sub) v s
  | 0x1202 => cobOk (cobPlace base sub) v s
  | 0x1203 => cobOk (cobPlace base sub) v s
  | 0x2001 => decide (v = 0x0100) || decide (v = 0x0101)
  | 0x2002 => decide (sub = 3) || decide (v = 2) || decide (v = 4) || decide (v = 5)
  | 0x2003 => decide (v = 0)
  | 0x2010 =>
    if sub = 1 then [125, 250, 500, 1000].contains v && decide (v ≤ s.can.dataRate)
    else [500, 1000, 2000, 4000, 5000].contains v && decide (s.can.arbRate ≤ v)
  | 0x2030 => decide (v = 0x6B740850)
  | 0x2101 => decide (v ≤ 1)
  | 0x2103 => decide (v < 2 ^ 20)
  | 0x2105 => clkOutOk v s.clk.clkDivide
  | 0x2106 => clkOutOk s.clk.clkSelect.toNat v
  | 0x2201 => if sub = 1 then decide (v ≤ 2) else decide (v ≤ 1)
  | 0x2211 =>
    if sub = 1 then decide (8000 ≤ leIntVal d) && decide (leIntVal d ≤ 11000) else decide (leIntVal d ≤ s.heat.warnSet - 200)
  | 0x2302 => if sub = 1 then true else if sub = 2 then decide (1000 ≤ v) && decide (v ≤ 40000) else decide (v ≤ 7)
  | 0x2400 => if sub = 1 then decide (v ≤ 1) else if sub = 2 then true else decide (v = 1) || decide (v = 2)
  | 0x2500 => decide (v ≤ 1)
  | 0x4004 => decide (v ≤ 8)
  | 0x4006 => decide (v ≤ 1)
  | 0x5002 => decide (1 ≤ v) && decide (v ≤ 60)
  | _ => true

/-- R222: DropArgument by DropMode. -/
def dropArgOk (mode : BitVec 8) (v : Nat) : Bool :=
  if mode = 0 then decide (1 ≤ v) && decide (v ≤ 65535) else if mode = 1 then decide (2 ≤ v) && decide (v ≤ 16777216) else true

/-- R223: CorruptArgument by CorruptMode. -/
def corruptArgOk (mode : BitVec 8) (v : Nat) : Bool :=
  decide (1 ≤ v / 256) && decide (1 ≤ v % 256) && decide (v % 256 ≤ (if mode = 0 then 48 else 22))

/-- R222, R223: a kind that a write of Arm arms anew finds its argument within the range of its mode; the manual does not say what becomes of
an argument that a later write of the mode left outside it, and the model refuses the arming (log entry 83). -/
def armArgsOk (v : Nat) (x : SievePort) : Bool :=
  let fresh := BitVec.ofNat 8 v &&& ~~~x.arm
  (!fresh.getLsbD kindDrop || dropArgOk x.dropMode x.dropArg.toNat)
  && (!fresh.getLsbD kindCorrupt || corruptArgOk x.corruptMode x.corruptArg.toNat)

/-- Values of SievePort (Table 8-2). -/
def sieveValueOk (sub v : Nat) (x : SievePort) : Bool :=
  match sub with
  | 1 => decide (v ≤ 0x3F) && armArgsOk v x
  | 2 => decide (v ≤ 0x1F)
  | 3 => decide (v ≤ 2)
  | 4 => dropArgOk x.dropMode v
  | 5 => decide (v ≤ 1)
  | 6 => corruptArgOk x.corruptMode v
  | 7 => decide (1 ≤ v) && decide (v ≤ 15)
  | 8 => decide (16 ≤ v)
  | 9 => decide (1000 ≤ v) && decide (v ≤ 10000000)
  | 10 => decide (1 ≤ v) && decide (v ≤ 3)
  | 11 => decide (1 ≤ v) && decide (v ≤ 16777216)
  | 12 => decide (v ≠ 0)
  | _ => true

/-- Values of ShingleConfig, ClassMap and HoldPolicy (Tables 6-8 to 6-10). -/
def shingleValueOk (base sub v : Nat) (c : ShCfg) : Bool :=
  match base, sub with
  | 0x3020, 1 => decide (64 ≤ v) && decide (v ≤ 16000)
  | 0x3020, 2 => decide (16 ≤ v) && decide (v ≤ 1024)
  | 0x3020, 3 => decide (v ≤ 3) && (decide (v = 0) || decide (c.pfcSource ≠ 0))
  | 0x3020, 4 => decide (c.pfcXon < v)
  | 0x3020, 5 => decide (v < c.pfcXoff)
  | 0x3020, 6 => decide (1 ≤ v)
  | 0x3020, _ => sourceOk v
  | 0x3021, _ => decide (v ≤ 3)
  | _, _ => if sub ≤ 4 then decide (v ≤ 1) else decide (64 ≤ v) && decide (v ≤ 4096)

/-- Values of a port's CTRL fields. -/
def portValueOk (base : Nat) (p : PortId) (sub : Nat) (d : List Byte) (q : Port) : Bool :=
  let v := leVal d
  match base, sub with
  | 0x3001, 1 => decide (v ≤ 1)
  | 0x3001, 2 => decide (v ≤ 0x0F)
  | 0x3001, 4 => decide (v ≤ 7)
  | 0x3010, 1 => decide (BitVec.ofNat 16 v &&& ~~~0x1F07#16 = 0)
  | 0x3010, 2 => decide (v ≤ 3)
  | 0x3011, _ => decide (1 ≤ v) && decide (v ≤ 3)
  | 0x3020, _ => shingleValueOk base sub v q.cfg
  | 0x3021, _ => shingleValueOk base sub v q.cfg
  | 0x3022, _ => shingleValueOk base sub v q.cfg
  | 0x3040, _ => decide (v ≤ 3)
  | 0x3041, 1 => !(BitVec.ofNat 8 v).getLsbD p.val
  | 0x3041, 2 => decide (v = 0xFF) || (decide (v ≤ 7) && q.dsp.neighbours.getLsbD v)
  | 0x3050, 8 => thresholdsOk (BitVec.ofNat 32 v)
  | 0x3050, _ => decide (v ≤ 7)
  | 0x3060, 1 => decide (v ≤ 4)
  | 0x3060, 2 => decide (v ≤ 0x0F)
  | 0x3060, 5 => decide (v ≤ 7) && decide (v % 4 ≠ 3)
  | 0x3060, 6 => decide (1 ≤ v)
  | 0x3080, 1 => decide (v ≤ 3)
  | 0x3080, 2 => decide (v ≤ 0x0F)
  | 0x3080, 3 => decide (-16777216 ≤ leIntVal d) && decide (leIntVal d ≤ 16777216)
  | 0x3090, 1 => decide (v ≤ 1)
  | 0x3090, 2 => decide (1 ≤ v) && decide (v ≤ 1000)
  | 0x3090, 3 => macOk v
  | 0x3090, 4 => sourceOk v
  | _, _ => true

/-- R339: civil time after the steps accepted and not yet applied. -/
def civilAhead (s : State) : Int :=
  s.aon.posted.foldl (fun a w => match w with | .civil _ _ x => a + x | _ => a) ((s.aon.tally : Int) + s.aon.offset)

/-- Values of POSTED fields. -/
def postedValueOk (base sub : Nat) (d : List Byte) (s : State) : Bool :=
  let v := leVal d
  match base with
  | 0x2009 => decide (leIntVal d ≠ 0) && decide (0 ≤ civilAhead s + leIntVal d) && decide (civilAhead s + leIntVal d < 2 ^ 64)
  | 0x2203 => if sub = 1 then decide (10 ≤ v) && decide (v ≤ 10000) else decide (v ≤ 1)
  | _ => true

/-- R304: the elements of a counter that is zeroed: 0 zeroes, all ones leave; any other value is out of range. -/
def zeroed (n : Nat) (d : List Byte) (old : List Nat) : Option (List Nat) :=
  (List.range old.length).mapM (fun i =>
    let e := slice d (i * n) n
    if e.all (fun b => b == 0) then some 0 else if e.all (fun b => b == 0xFF) then some (old.getD i 0) else none)

/-- R308, step 8. -/
def valueOk (o : Obj) (f : Field) (p : PortId) (sub : Nat) (d : List Byte) (s : State) : Bool :=
  match f.cls with
  | .ctrl =>
    if o.index = 0x2510 then sieveValueOk sub (leVal d) s.ports[p].sieve
    else if o.perPort then portValueOk o.index p sub d s.ports[p]
    else deviceValueOk o.index sub d s
  | .posted => postedValueOk o.index sub d s
  | _ => true

/-! ## Step 9: locks (R17, R319) -/

/-- R319: the CTRL fields that ConfigLock covers. -/
def lockCovers (base sub : Nat) : Bool :=
  (decide (base = 0x3001) && decide (sub ≠ 2))
  || [0x3010, 0x3020, 0x3021, 0x3022, 0x3041, 0x3060, 0x3080, 0x3090].contains base

/-- R319: gates of locked ports that a GateClear names. -/
def clearsLocked (v : BitVec 32) (s : State) : Bool :=
  (List.finRange 8).any (fun p => portLocked s p && (v.getLsbD p.val || v.getLsbD (8 + p.val)))

/-- R17, R319: the write is locked. -/
def lockForbids (o : Obj) (f : Field) (p : PortId) (sub v : Nat) (ch : Chan) (s : State) : Bool :=
  (decide (f.cls = .ctrl) && lockCovers o.index sub && portLocked s p && !hasSession s ch)
  || (decide (o.index = 0x2103) && decide (sub = 2)
      && (((BitVec.ofNat 32 v).getLsbD 17 && sealHeldOpen s) || (clearsLocked (BitVec.ofNat 32 v) s && !hasSession s ch)))

/-- R308, steps 4 to 9 as far as they are common to all fields; none: the write goes on to its object's own conditions. -/
def writeForbidden (o : Obj) (f : Field) (w : Writers) (p : PortId) (sub : Nat) (d : List Byte) (ch : Chan) (s : State) : Option Code :=
  let v := leVal d
  if lifeForbids o.index sub v s then some abLife
  else if !roleGrants o f w p sub v ch s then some abRole
  else if decide (o.holder = .sieve) && otherHolder ch s then some abLocked
  else if underTest o p s || serviceUnderTest o.index p sub v s then some abUnderTest
  else if !lengthOk f.len d.length then some abLength
  else if !valueOk o f p sub d s then some abRange
  else if lockForbids o f p sub v ch s then some abLocked
  else none

end Sys2Proof.Machine
end

