-- ==== Sys2Proof/Machine/DictWrite.lean ====
section
/-! DEFINITION. DictWrite.lean: what an accepted write does to each object, with the object's own conditions (R302 to R308). -/

namespace Sys2Proof.Machine

/-- The CAN objects changed. -/
def modCan (f : Can → Can) (s : State) : State := { s with can := f s.can }

/-- A number as a byte. -/
def byteOf (v : Nat) : BitVec 8 := BitVec.ofNat 8 v

/-! ## Counters (R304) -/

/-- A counter of a port's 0x3n70 zeroed. -/
def zeroCounter (sub : Nat) (d : List Byte) (c : Counters) : Option Counters :=
  let one := fun (n old : Nat) (f : Nat → Counters) => (zeroed n d [old]).map (fun l => f (l.getD 0 0))
  let many := fun (n : Nat) (old : List Nat) (f : List Nat → Counters) => (zeroed n d old).map f
  match sub with
  | 1 => one 8 c.sent (fun v => { c with sent := v })
  | 2 => one 8 c.received (fun v => { c with received := v })
  | 3 => one 8 c.corrected (fun v => { c with corrected := v })
  | 4 => one 4 c.rsFailures (fun v => { c with rsFailures := v })
  | 5 => one 4 c.escapes (fun v => { c with escapes := v })
  | 6 => one 4 c.crcFailures (fun v => { c with crcFailures := v })
  | 7 => many 4 c.histogram (fun v => { c with histogram := v })
  | 8 => one 4 c.quietEntries (fun v => { c with quietEntries := v })
  | 9 => one 4 c.falseWakes (fun v => { c with falseWakes := v })
  | 10 => one 4 c.refreshMissed (fun v => { c with refreshMissed := v })
  | 11 => one 4 c.exempt (fun v => { c with exempt := v })
  | 12 => many 8 c.framesIn (fun v => { c with framesIn := v })
  | 13 => many 8 c.framesOut (fun v => { c with framesOut := v })
  | 14 => many 4 c.replays (fun v => { c with replays := v })
  | 15 => many 4 c.withdrawals (fun v => { c with withdrawals := v })
  | 16 => many 4 c.pfcSent (fun v => { c with pfcSent := v })
  | 17 => many 4 c.duplicates (fun v => { c with duplicates := v })
  | 18 => one 4 c.outOfWindow (fun v => { c with outOfWindow := v })
  | 19 => one 4 c.reorderDiscards (fun v => { c with reorderDiscards := v })
  | 20 => one 4 c.ackInvalid (fun v => { c with ackInvalid := v })
  | 21 => one 4 c.tagErrors (fun v => { c with tagErrors := v })
  | 22 => one 4 c.erroredIn (fun v => { c with erroredIn := v })
  | _ => none

/-- R304: PeakTemperature takes its reset value 0x8000 when 0 is written. -/
def zeroPeak (d : List Byte) (s : State) : Option State :=
  (zeroed 2 d [1]).map (fun l => if l.getD 0 0 = 0 then modHeat (fun h => { h with peak := -32768 }) s else s)

/-- The counters of a port zeroed. -/
def zeroPort (base sub : Nat) (d : List Byte) (q : Port) : Option Port :=
  match base with
  | 0x2510 => (zeroed 4 d q.sieve.counters).map (fun l => { q with sieve := { q.sieve with counters := l } })
  | 0x3000 => (zeroed 4 d q.link.counters).map (fun l => { q with link := { q.link with counters := l } })
  | 0x3040 => (zeroed 4 d [q.dsp.freezeCount, q.dsp.joinRetries]).map (fun l =>
      { q with dsp := { q.dsp with freezeCount := l.getD 0 0, joinRetries := l.getD 1 0 } })
  | 0x3060 => (zeroed 4 d q.host.counters).map (fun l => { q with host := { q.host with counters := l } })
  | 0x3070 => (zeroCounter sub d q.cnt).map (fun c => { q with cnt := c })
  | 0x3080 => (zeroed 4 d q.ptp.counters).map (fun l => { q with ptp := { q.ptp with counters := l } })
  | _ => none

/-- The device-wide counters zeroed. -/
def zeroDevice (base sub : Nat) (d : List Byte) (s : State) : Option State :=
  match base, sub with
  | 0x2202, 1 => (zeroed 4 d [s.pwr.refusals]).map (fun l => modPwr (fun w => { w with refusals := l.getD 0 0 }) s)
  | 0x2202, 2 => (zeroed 4 d [s.pwr.wakeAborts]).map (fun l => modPwr (fun w => { w with wakeAborts := l.getD 0 0 }) s)
  | 0x2202, 4 => (zeroed 4 d s.pwr.refuserCounts).map (fun l => modPwr (fun w => { w with refuserCounts := l }) s)
  | 0x2210, _ => zeroPeak d s
  | 0x3801, _ => (zeroed 2 d [s.peakLoad]).map (fun l => { s with peakLoad := l.getD 0 0 })
  | _, _ => none

/-- R304: a write of a counter. -/
def writeCnt (o : Obj) (p : PortId) (sub : Nat) (d : List Byte) (s : State) : Wr :=
  match (if o.perPort then (zeroPort o.index sub d s.ports[p]).map (fun q => modPort p (fun _ => q) s) else zeroDevice o.index sub d s) with
  | some t => .ok t
  | none => deny abRange s

/-! ## EVT16, W1 and POSTED fields (R303, R306, R307) -/

/-- R303: a write of an event field. -/
def writeEvt (base : Nat) (w : BitVec 32) (s : State) : Wr :=
  if base = 0x2102 then
    match evtClear w s.clk.events with
    | some e => .ok (modClk (fun k => { k with events := e }) s)
    | none => deny abWindow s
  else
    match evtClear w s.heat.events with
    | some e => .ok (modHeat (fun h => { h with events := e }) s)
    | none => deny abWindow s

/-- R307, R319: the first write of ConfigLock stands. -/
def writeLock (ch : Chan) (v : Nat) (s : State) : Wr :=
  if s.chans[ch].configLock.isSome then deny abWritten s else .ok (modChan ch (fun c => { c with configLock := some (byteOf v) }) s)

/-- R306: a posted write is accepted: BUSY is set and the always-on domain will apply it. -/
def accept (ch : Chan) (w : Posted) (s : State) : State :=
  modChan ch (fun c => { c with busy := true }) { s with aon := { s.aon with posted := s.aon.posted ++ [w] } }

/-- R339: the 24 h window of an instant of tally time. -/
def dayOf (t : Nat) : Nat := t / 86400000000000

/-- R339: a new window of 24 h begins with the whole allowance; `t` is an instant that lies in it. -/
def newDay (t : Nat) (s : State) : State :=
  if s.aon.dayWindow < dayOf t then { s with aon := { s.aon with dayWindow := dayOf t, allowance := 2000000, allowanceHeld := 2000000 } }
  else s

/-- R339: µs of allowance that a step needs. -/
def stepNeed (x : Int) : Nat := (x.natAbs + 999) / 1000

/-- R339: the role byte of TIME_STEP. -/
def stepRole (ch : Chan) (s : State) : Byte := if hasMaker s ch then 3 else if hasWorkshop s ch then 2 else 1

/-- R339: a civil time step; the OWNER's stays within its allowance, which it uses up at once. A step accepted in the cycle in which a window
ends is judged against that window (Table 13-7). -/
def writeCivil (ch : Chan) (x : Int) (s : State) : Wr :=
  let s := newDay (s.aon.tally - 1) s
  if hasSession s ch then .ok (accept ch (.civil ch (stepRole ch s) x) s)
  else if s.aon.allowanceHeld < stepNeed x then deny abRole s
  else .ok (accept ch (.civil ch 1 x) { s with aon := { s.aon with allowanceHeld := s.aon.allowanceHeld - stepNeed x } })

/-- R306: a write of a POSTED field. -/
def writePosted (ch : Chan) (base sub : Nat) (d : List Byte) (s : State) : Wr :=
  let v := leVal d
  if s.chans[ch].busy then deny abPosted s
  else if base = 0x2009 then writeCivil ch (leIntVal d) s
  else if base = 0x2204 then .ok (accept ch (.retention ch (byteOf v)) s)
  else if sub = 1 then .ok (accept ch (.simmerPeriod ch v) s)
  else .ok (accept ch (.probeEnable ch (decide (v = 1))) s)

/-! ## CTRL fields of the device -/

/-- R210: an order word. -/
def writeOrder (ch : Chan) (d : List Byte) (s : State) : Wr :=
  let o : BitVec 64 := BitVec.ofNat 64 (leVal d)
  let k := orderKind o
  let a := orderArg o
  let dist := (orderEpoch o - s.roll.epoch).toNat
  if k = 0 ∨ 4 < k ∨ (k = 2 ∧ (a < 1 ∨ 3 < a)) ∨ (k ≠ 2 ∧ a ≠ 0) ∨ o.toNat % 2 ^ 24 ≠ 0 ∨ orderMask o = 0 then deny abRange s
  else if !hasSession s ch && !(maskPorts (orderMask o)).all (owns s ch) then deny abRole s
  else if s.roll.status = 1 then deny abBusy s
  else if dist < 1 ∨ 32767 < dist then deny abWindow s
  else .ok (rollIssue (byteOf ch.val) o s)

/-- R352: a requested source of CTL or SLOW. -/
def writeSource (dom : Domain) (v : BitVec 8) (s : State) : Wr :=
  let cur := match dom with | .ctl => s.clk.ctlSource | _ => s.clk.slowSource
  if v = cur then .ok s
  else if !switchRuns s.clk dom then .error (abGeneral, clkEvent 16 s)
  else if s.clk.pending.any (fun x => decide (x.1 = dom)) then deny abBusy s
  else .ok (requestSwitch dom (decide (v = 1))
    (modClk (fun k => match dom with | .ctl => { k with ctlSource := v } | _ => { k with slowSource := v }) s))

/-- R397: SelfTestGo. -/
def writeSelfTest (v : Nat) (s : State) : Wr :=
  if v = 0 then .ok s
  else match selfTestCheck s with
  | some c => deny c s
  | none => .ok (startSelfTest s)

/-- R368: Request. -/
def writeRequest (ch : Chan) (v : Nat) (s : State) : Wr :=
  powerRequest (if v = 0 then .boil else if v = 1 then .simmer else .rest) ch s

/-- R334: CLEAR_GO empties the crock; RECORDER_CLEARED begins the new chain. -/
def writeRecorder (ch : Chan) (v : Nat) (s : State) : State :=
  if v = 1 then raise (devEv .crock 0x0905 7 [byteOf ch.val]) (emptyCrock s) else s

/-- A device-wide CTRL field takes a value. -/
def writeDevice (ch : Chan) (base sub : Nat) (d : List Byte) (s : State) : Wr :=
  let v := leVal d
  match base with
  | 0x1017 => .ok (modCan (fun c => { c with heartbeat := v }) s)
  | 0x1201 => .ok (modCan (fun c => { c with cobs := c.cobs.set (cobPlace base sub) (BitVec.ofNat 32 v) }) s)
  | 0x1202 => .ok (modCan (fun c => { c with cobs := c.cobs.set (cobPlace base sub) (BitVec.ofNat 32 v) }) s)
  | 0x1203 => .ok (modCan (fun c => { c with cobs := c.cobs.set (cobPlace base sub) (BitVec.ofNat 32 v) }) s)
  | 0x2001 => .ok (modChan ch (fun c => { c with profile := BitVec.ofNat 16 v }) s)
  | 0x2002 => if sub = 2 then lifeRequest ch v s else .ok { s with life := { s.life with token := some d } }
  | 0x2003 => .ok (endSession ch 2 s)
  | 0x2006 => .ok (writeOwners ch (BitVec.ofNat 16 v) s)
  | 0x2010 => .ok (modCan (fun c => if sub = 1 then { c with arbRate := v } else { c with dataRate := v }) s)
  | 0x2030 => .ok (requestedReset ch s)
  | 0x2101 => writeSource (if sub = 1 then .ctl else .slow) (byteOf v) s
  | 0x2103 => .ok (if sub = 1 then gateSetBits (BitVec.ofNat 32 v) s else gateClearBits (BitVec.ofNat 32 v) s)
  | 0x2105 => .ok (modClk (fun k => { k with clkSelect := byteOf v, clkHold := k.clkHold || decide (byteOf v ≠ k.clkSelect) }) s)
  | 0x2106 => .ok (modClk (fun k => { k with clkDivide := v, clkHold := k.clkHold || decide (v ≠ k.clkDivide) }) s)
  | 0x2201 => if sub = 1 then writeRequest ch v s else .ok (modChan ch (fun c => { c with keepAwake := byteOf v }) s)
  | 0x2211 => .ok (modHeat (fun h => if sub = 1 then { h with warnSet := leIntVal d } else { h with warnClear := leIntVal d }) s)
  | 0x2302 =>
    if sub = 1 then writeCalGo ch v s
    else .ok { s with cal := if sub = 2 then { s.cal with cable := v } else { s.cal with port := Fin.ofNat 8 v } }
  | 0x2400 =>
    if sub = 1 then writeSelfTest v s
    else .ok (modBist (fun b => if sub = 2 then { b with mask := byteOf v } else { b with maxCon := v }) s)
  | 0x2500 => .ok (if v = 1 then disarmAll 4 s else s)
  | 0x2600 => writeOrder ch d s
  | 0x2701 => .ok (storeImage d s)
  | 0x4002 => .ok (modChan ch (fun c => { c with recordSelect := BitVec.ofNat 32 v }) s)
  | 0x4004 => .ok (modChan ch (fun c => { c with emcyThreshold := byteOf v }) s)
  | 0x4006 => .ok (writeRecorder ch v s)
  | 0x5002 => .ok { s with anchorInterval := v }
  | _ => deny abReadOnly s

/-! ## CTRL fields of a port -/

/-- R127, R146: PortCommand's GO bits, in bit order; RESTART_AN_GO governs where RETRAIN_GO stands beside it. -/
def writeCommand (p : PortId) (v : BitVec 8) (s : State) : State :=
  let s := if v.getLsbD 1 then restartAnGo p s else if v.getLsbD 0 then retrainGo p s else s
  let s := if v.getLsbD 2 then sleepGo p s else s
  if v.getLsbD 3 then localWake p s else s

/-- R109, R392: AdminState. -/
def writeAdmin (p : PortId) (v : Nat) (s : State) : State :=
  if v = 0 then adminDisable p s else abandonCalPort p (adminEnable p s)

/-- R210, R140: TargetMode; a roll call in progress that names the port holds it. -/
def writeTargetMode (p : PortId) (v : BitVec 8) (s : State) : Wr :=
  if s.roll.status = 1 ∧ maskBit (orderMask s.roll.order) p then deny abBusy s else .ok (writeTarget p v s)

/-- R67, R75: AdaptControl: HOLD as written, SNAPSHOT_GO where it is set. -/
def writeAdapt (p : PortId) (v : BitVec 8) (s : State) : State :=
  modDsp p (fun d => { d with hold := v.getLsbD 0, snapGo := d.snapGo || v.getLsbD 1 }) s

/-- R55, R76: NeighbourMask, which returns a nearest neighbour that it drops to 0xFF. -/
def writeNeighbours (p : PortId) (v : BitVec 8) (s : State) : State :=
  modDsp p (fun d => { d with
    neighbours := v, nearest := if d.nearest ≠ 0xFF ∧ v.getLsbD d.nearest.toNat = false then 0xFF else d.nearest }) s

/-- R237: Thresholds, with their record. -/
def writeThresholds (ch : Chan) (p : PortId) (v : BitVec 32) (s : State) : State :=
  raise (bayEv p 0x000F 6 ([byteOf p.val, byteOf ch.val] ++ beBytes 4 v.toNat)) (modSig p (fun g => { g with thresholds := v }) s)

/-- R245: a GO bit asks to re-baseline a filled slot with no fuse count left. -/
def capturesExhausted (p : PortId) (v : BitVec 8) (s : State) : Bool :=
  let g := s.ports[p].sig
  decide (rebaselinesLeft s = 0)
  && ((v.getLsbD 0 && (refOf g.lineRef).isSome) || (v.getLsbD 1 && (refOf g.probeRef).isSome))

/-- R244: a capture's GO bit; one that is pending goes on. -/
def captureGo (ch : Chan) (p : PortId) (k : RefSlot) (go : Bool) (s : State) : State :=
  if go && (captureOf s.ports[p].sig k).isNone then startCapture p k ch s else s

/-- R238, R244, R245: SignatureControl. -/
def writeSignature (ch : Chan) (p : PortId) (v : BitVec 8) (s : State) : Wr :=
  if capturesExhausted p v s then deny abFuses s
  else
    let t := captureGo ch p .probe (v.getLsbD 1) (captureGo ch p .line (v.getLsbD 0) s)
    .ok (if v.getLsbD 2 then clearTamper p 1 ch t else t)

/-- R248, R249: SealEnable. -/
def writeSeal (p : PortId) (v : Nat) (s : State) : State :=
  let old := s.ports[p].sealing.enable
  if v = 1 then (if old then s else armChain p (modSeal p (fun q => { q with enable := true }) s))
  else if old then cutOrWait p (modSeal p (fun q => { q with enable := false }) s)
  else s

/-- A field of SievePort other than Arm. -/
def setSieve (sub v : Nat) (x : SievePort) : SievePort :=
  match sub with
  | 2 => { x with lineSelect := byteOf v }
  | 3 => { x with dropMode := byteOf v }
  | 4 => { x with dropArg := BitVec.ofNat 32 v }
  | 5 => { x with corruptMode := byteOf v }
  | 6 => { x with corruptArg := BitVec.ofNat 16 v }
  | 7 => { x with maxDistance := v }
  | 8 => { x with swapInterval := v }
  | 9 => { x with intLength := v }
  | 10 => { x with intSides := byteOf v }
  | 11 => { x with hostInterval := v }
  | 12 => { x with seed := BitVec.ofNat 32 v }
  | _ => x

/-- A field of ShingleConfig, ClassMap or HoldPolicy. -/
def setShingle (base sub v : Nat) (c : ShCfg) : ShCfg :=
  match base, sub with
  | 0x3020, 1 => { c with maxFrame := v }
  | 0x3020, 2 => { c with replayTimer := v }
  | 0x3020, 3 => { c with pfcEnable := byteOf v }
  | 0x3020, 4 => { c with pfcXoff := v }
  | 0x3020, 5 => { c with pfcXon := v }
  | 0x3020, 6 => { c with pfcQuanta := v }
  | 0x3020, _ => { c with pfcSource := BitVec.ofNat 64 v }
  | 0x3021, 9 => { c with defaultClass := Fin.ofNat 4 v }
  | 0x3021, _ => { c with pcpClass := c.pcpClass.set (sub - 1) (Fin.ofNat 4 v) }
  | _, _ => if sub ≤ 4 then { c with policy := c.policy.set (sub - 1) (decide (v = 1)) } else { c with quota := c.quota.set (sub - 5) v }

/-- A field of HostLaneMode; IDLE_TIME's condition is judged again by a HostIdleTime written at `now` (R276). -/
def setHost (now sub v : Nat) (h : HostLane) : HostLane :=
  match sub with
  | 1 => { h with select := byteOf v }
  | 2 => { h with options := byteOf v }
  | 5 => { h with lpiPolicy := byteOf v }
  | _ => { h with idleTime := v, idleHeld := h.idleHeld && decide (h.begunAt + 1000 * v ≤ now) }

/-- A field of PtpConfig. -/
def setPtp (sub : Nat) (d : List Byte) (x : Ptp) : Ptp :=
  match sub with
  | 1 => { x with enable := byteOf (leVal d) }
  | 2 => { x with mask := byteOf (leVal d) }
  | _ => { x with trim := leIntVal d }

/-- A field of SealConfig other than SealEnable. -/
def setSeal (sub v : Nat) (x : Seal) : Seal :=
  match sub with
  | 2 => { x with length := v }
  | 3 => { x with dest := BitVec.ofNat 64 v }
  | _ => { x with source := BitVec.ofNat 64 v }

/-- A field of PortState, LineModeOffer or the like that is only stored. -/
def setLink (base sub v : Nat) (l : Link) : Link :=
  match base, sub with
  | 0x3001, 3 => { l with wakeForward := byteOf v }
  | 0x3001, _ => { l with linkPolicy := byteOf v }
  | _, _ => { l with leaderPolicy := byteOf v }

/-- A port's CTRL field takes a value. -/
def writePort (ch : Chan) (base : Nat) (p : PortId) (sub : Nat) (d : List Byte) (s : State) : Wr :=
  let v := leVal d
  match base, sub with
  | 0x2510, 1 => .ok (writeArm ch p (byteOf v) s)
  | 0x2510, _ => .ok (modSieve p (setSieve sub v) s)
  | 0x3001, 1 => .ok (writeAdmin p v s)
  | 0x3001, 2 => .ok (writeCommand p (byteOf v) s)
  | 0x3001, _ => .ok (modLink p (setLink base sub v) s)
  | 0x3010, 1 => .ok (writeModeMask p (BitVec.ofNat 16 v) s)
  | 0x3010, _ => .ok (modLink p (setLink base sub v) s)
  | 0x3011, _ => writeTargetMode p (byteOf v) s
  | 0x3020, _ => .ok (pfcCheck p (modPort p (fun q => { q with cfg := setShingle base sub v q.cfg }) s))
  | 0x3021, _ => .ok (modPort p (fun q => { q with cfg := setShingle base sub v q.cfg }) s)
  | 0x3022, _ => .ok (modPort p (fun q => { q with cfg := setShingle base sub v q.cfg }) s)
  | 0x3030, _ => .ok (modPort p (fun q => { q with led := { q.led with select := q.led.select.set ch.val (BitVec.ofNat 32 v) } }) s)
  | 0x3040, _ => .ok (writeAdapt p (byteOf v) s)
  | 0x3041, 1 => .ok (writeNeighbours p (byteOf v) s)
  | 0x3041, _ => .ok (modDsp p (fun x => { x with nearest := byteOf v }) s)
  | 0x3050, 8 => .ok (writeThresholds ch p (BitVec.ofNat 32 v) s)
  | 0x3050, _ => writeSignature ch p (byteOf v) s
  | 0x3060, _ => .ok (modHost p (setHost s.aon.tally sub v) s)
  | 0x3080, _ => .ok (modPort p (fun q => { q with ptp := setPtp sub d q.ptp }) s)
  | 0x3090, 1 => .ok (writeSeal p v s)
  | 0x3090, _ => .ok (modSeal p (setSeal sub v) s)
  | _, _ => deny abReadOnly s

/-! ## A write (R308) -/

/-- The effect of a write that has passed the common checks, by the field's class. -/
def writeField (ch : Chan) (o : Obj) (f : Field) (p : PortId) (sub : Nat) (d : List Byte) (s : State) : Wr :=
  match f.cls with
  | .ctrl => if o.perPort then writePort ch o.index p sub d s else writeDevice ch o.index sub d s
  | .evt16 => writeEvt o.index (BitVec.ofNat 32 (leVal d)) s
  | .cnt => writeCnt o p sub d s
  | .w1 => writeLock ch (leVal d) s
  | .posted => writePosted ch o.index sub d s
  | .stat => deny abReadOnly s
  | .shadow => deny abReadOnly s

/-- R308: a write request of channel ch, judged and applied at its completion. -/
def dictWrite (ch : Chan) (index : BitVec 16) (sub : Byte) (d : List Byte) (s : State) : Wr :=
  let ip := splitIndex index
  match findField (newProfile s ch) ip.1 sub.toNat with
  | .error c => deny c s
  | .ok (o, f) =>
    match f.w with
    | none => deny abReadOnly s
    | some w =>
      match holderGate o ip.2 s with
      | some c => deny c s
      | none =>
        if o.index = 0x2005 then authResponse ch d s
        else match writeForbidden o f w ip.2 sub.toNat d ch s with
        | some c => deny c s
        | none => writeField ch o f ip.2 sub.toNat d s

/-! ## Requests as a whole -/

/-- The dictionary server answers channel ch: the device runs in BOIL, the CAN stack is up and not stopped, and the channel is
enabled (R285, R314, R356). -/
def served (s : State) (ch : Chan) : Bool :=
  s.pwr.on && !s.pwr.inReset && !s.pwr.shutdown && decide (s.pwr.state = .boil) && canClocked s && !chanDisabled s ch
  && (decide (s.can.nmt = .preOperational) || decide (s.can.nmt = .operational))

/-- R281, R288, R309: a request's last frame completes: a transfer that it replaces has ended, and it counts. -/
def beginRequest (ch : Chan) (s : State) : State :=
  countRequest ch (modChan ch (fun c => { c with xfer := .none }) (heard s))

/-- A write of channel ch, whatever the transfer that carried it. -/
def dictCommand (ch : Chan) (index : BitVec 16) (sub : Byte) (d : List Byte) (s : State) : State :=
  if served s ch then
    let t := beginRequest ch s
    answerWrite ch index sub (dictWrite ch index sub d t)
  else s

/-- The answer to a read. -/
def answerRead (ch : Chan) (r : Except (Code × State) (List Byte × State)) : State :=
  match r with
  | .ok (d, t) => modChan ch (fun c => { c with resp := .data d }) t
  | .error (c, t) => answerAbort ch c t

/-- A read of channel ch, whatever the transfer that carried it. -/
def readCommand (ch : Chan) (index : BitVec 16) (sub : Byte) (s : State) : State :=
  if served s ch then answerRead ch (dictRead ch index sub (beginRequest ch s)) else s

end Sys2Proof.Machine
end

