-- ==== Sys2Proof/Machine/DictRows.lean ====
section
/-! DEFINITION. DictRows.lean: the commands of the table that are one request to the dictionary, each carried by whatever transfer;
and the always-on domain's share of them (R306, R339). -/

namespace Sys2Proof.Machine

/-! ## Posted writes applied (R306, R339) -/

/-- R306: BUSY of a channel clears. -/
def clearPosted (ch : Chan) (s : State) : State := modChan ch (fun c => { c with busy := false }) s

/-- R339: the TIME_STEP record of a step that has been applied. -/
def timeStepEv (ch : Chan) (role : Byte) (x : Int) (before : Nat) (s : State) : Ev :=
  devEv .crock 0x0901 6 ([byteOf ch.val, role] ++ beBytes 2 (sat16 (quotient s.aon.allowance 1000).toNat) ++ beInt 8 x ++ beBytes 8 before)

/-- R339: a civil time step is applied. -/
def applyCivil (ch : Chan) (role : Byte) (x : Int) (s : State) : State :=
  let left := if role = 1 then max (s.aon.allowance - stepNeed x) s.aon.allowanceHeld else s.aon.allowance
  let t := copyToMram { s with aon := { s.aon with
    offset := s.aon.offset + x, civilStale := false, lastStep := s.aon.tally, allowance := left } }
  raise (timeStepEv ch role x (civilNow s) t) t

/-- R306: the oldest accepted posted write is applied. -/
def applyPosted (s : State) : State :=
  match s.aon.posted with
  | [] => s
  | w :: rest =>
    let t := { s with aon := { s.aon with posted := rest } }
    match w with
    | .civil ch role x => clearPosted ch (applyCivil ch role x t)
    | .simmerPeriod ch v => clearPosted ch (modPwr (fun q => { q with simmerPeriod := v }) t)
    | .probeEnable ch v => clearPosted ch (modPwr (fun q => { q with probeEnable := v }) t)
    | .retention ch v => clearPosted ch (modPwr (fun q => { q with retention := v }) t)

/-- R306: the always-on domain applies a posted write. -/
def execPostedApply (s : State) : Host.Outcome State Fault Refusal := .next (if s.pwr.on then applyPosted s else s)

/-- R339: the allowance window turns. -/
def execAllowanceWindow (s : State) : Host.Outcome State Fault Refusal := .next (if s.pwr.on then newDay s.aon.tally s else s)

/-! ## Ports (chapters 03, 05, 07) -/

/-- R75: SNAPSHOT_GO, with HOLD as it stands. -/
def execSnapshotGo (ch : Chan) (p : PortId) (s : State) : Host.Outcome State Fault Refusal :=
  .next (dictCommand ch (portIndex 0x3040 p) 0x0D [byteOf (2 + s.ports[p].dsp.hold.toNat)] s)

/-- R55, R76: NeighbourMask. -/
def execNeighbourMaskWrite (ch : Chan) (p : PortId) (v : Byte) (s : State) : Host.Outcome State Fault Refusal :=
  .next (dictCommand ch (portIndex 0x3041 p) 1 [v] s)

/-- R127: RETRAIN_GO. -/
def execRetrainGo (ch : Chan) (p : PortId) (s : State) : Host.Outcome State Fault Refusal :=
  .next (dictCommand ch (portIndex 0x3001 p) 2 [0x01] s)

/-- R127: RESTART_AN_GO. -/
def execRestartAnGo (ch : Chan) (p : PortId) (s : State) : Host.Outcome State Fault Refusal :=
  .next (dictCommand ch (portIndex 0x3001 p) 2 [0x02] s)

/-- R146: SLEEP_GO. -/
def execSleepGo (ch : Chan) (p : PortId) (s : State) : Host.Outcome State Fault Refusal :=
  .next (dictCommand ch (portIndex 0x3001 p) 2 [0x04] s)

/-- R149: WAKE_GO. -/
def execWakeGo (ch : Chan) (p : PortId) (s : State) : Host.Outcome State Fault Refusal :=
  .next (dictCommand ch (portIndex 0x3001 p) 2 [0x08] s)

/-- R127: AdminState DISABLED. -/
def execAdminDisable (ch : Chan) (p : PortId) (s : State) : Host.Outcome State Fault Refusal :=
  .next (dictCommand ch (portIndex 0x3001 p) 1 [0x00] s)

/-- R109: AdminState ENABLED. -/
def execAdminEnable (ch : Chan) (p : PortId) (s : State) : Host.Outcome State Fault Refusal :=
  .next (dictCommand ch (portIndex 0x3001 p) 1 [0x01] s)

/-- R138: ModeMask. -/
def execModeMaskWrite (ch : Chan) (p : PortId) (v : BitVec 16) (s : State) : Host.Outcome State Fault Refusal :=
  .next (dictCommand ch (portIndex 0x3010 p) 1 (leBytes 2 v.toNat) s)

/-- R140: TargetMode. -/
def execTargetModeWrite (ch : Chan) (p : PortId) (v : Byte) (s : State) : Host.Outcome State Fault Refusal :=
  .next (dictCommand ch (portIndex 0x3011 p) 4 [v] s)

/-- R202: a read of Entry. -/
def execLedgerEntryRead (ch : Chan) (p : PortId) (s : State) : Host.Outcome State Fault Refusal :=
  .next (readCommand ch (portIndex 0x3030 p) 7 s)

/-! ## Roll calls (R209, R210) -/

/-- R209: an Order word is written. -/
def orderCommand (ch : Chan) (epoch : BitVec 16) (kind arg mask : Byte) (low : BitVec 24) (s : State) : State :=
  dictCommand ch 0x2600 1 (leBytes 8 (orderWord epoch kind arg mask low).toNat) s

/-- R209: kind 0x01, DOWNSHIFT_ONE. -/
def execRollCallDownshiftOne (ch : Chan) (epoch : BitVec 16) (arg mask : Byte) (low : BitVec 24) (s : State) :
    Host.Outcome State Fault Refusal := .next (orderCommand ch epoch 0x01 arg mask low s)

/-- R209: kind 0x02, SET_MODE. -/
def execRollCallSetMode (ch : Chan) (epoch : BitVec 16) (arg mask : Byte) (low : BitVec 24) (s : State) :
    Host.Outcome State Fault Refusal := .next (orderCommand ch epoch 0x02 arg mask low s)

/-- R209: kind 0x03, LPI_ENABLE. -/
def execRollCallLpiEnable (ch : Chan) (epoch : BitVec 16) (arg mask : Byte) (low : BitVec 24) (s : State) :
    Host.Outcome State Fault Refusal := .next (orderCommand ch epoch 0x03 arg mask low s)

/-- R209: kind 0x04, LPI_DISABLE. -/
def execRollCallLpiDisable (ch : Chan) (epoch : BitVec 16) (arg mask : Byte) (low : BitVec 24) (s : State) :
    Host.Outcome State Fault Refusal := .next (orderCommand ch epoch 0x04 arg mask low s)

/-! ## Sieve (R215 to R226) -/

/-- One more kind set in Arm. -/
def armCommand (ch : Chan) (p : PortId) (kind : Nat) (s : State) : State :=
  dictCommand ch (portIndex 0x2510 p) 1 [s.ports[p].sieve.arm ||| (1#8 <<< kind)] s

/-- R222: DROP is armed. -/
def execArmDrop (ch : Chan) (p : PortId) (s : State) : Host.Outcome State Fault Refusal := .next (armCommand ch p kindDrop s)

/-- R223: CORRUPT is armed. -/
def execArmCorrupt (ch : Chan) (p : PortId) (s : State) : Host.Outcome State Fault Refusal := .next (armCommand ch p kindCorrupt s)

/-- R224: SWAP is armed. -/
def execArmSwap (ch : Chan) (p : PortId) (s : State) : Host.Outcome State Fault Refusal := .next (armCommand ch p kindSwap s)

/-- R225: INTERRUPT is armed. -/
def execArmInterrupt (ch : Chan) (p : PortId) (s : State) : Host.Outcome State Fault Refusal := .next (armCommand ch p kindInterrupt s)

/-- R226: HOST_IN is armed. -/
def execArmHostIn (ch : Chan) (p : PortId) (s : State) : Host.Outcome State Fault Refusal := .next (armCommand ch p kindHostIn s)

/-- R226: HOST_OUT is armed. -/
def execArmHostOut (ch : Chan) (p : PortId) (s : State) : Host.Outcome State Fault Refusal := .next (armCommand ch p kindHostOut s)

/-- R217: DISARM_ALL_GO. -/
def execDisarmAllGo (ch : Chan) (s : State) : Host.Outcome State Fault Refusal := .next (dictCommand ch 0x2500 3 [0x01] s)

/-! ## Signature and seal (chapter 09) -/

/-- R237: Thresholds. -/
def execThresholdsWrite (ch : Chan) (p : PortId) (v : BitVec 32) (s : State) : Host.Outcome State Fault Refusal :=
  .next (dictCommand ch (portIndex 0x3050 p) 8 (leBytes 4 v.toNat) s)

/-- R244: CAPTURE_LINE_GO. -/
def execCaptureLineGo (ch : Chan) (p : PortId) (s : State) : Host.Outcome State Fault Refusal :=
  .next (dictCommand ch (portIndex 0x3050 p) 0x0A [0x01] s)

/-- R244: CAPTURE_PROBE_GO. -/
def execCaptureProbeGo (ch : Chan) (p : PortId) (s : State) : Host.Outcome State Fault Refusal :=
  .next (dictCommand ch (portIndex 0x3050 p) 0x0A [0x02] s)

/-- R238: ACK_TAMPER_GO. -/
def execAckTamperGo (ch : Chan) (p : PortId) (s : State) : Host.Outcome State Fault Refusal :=
  .next (dictCommand ch (portIndex 0x3050 p) 0x0A [0x04] s)

/-- R248: SealEnable set. -/
def execSealEnable (ch : Chan) (p : PortId) (s : State) : Host.Outcome State Fault Refusal :=
  .next (dictCommand ch (portIndex 0x3090 p) 1 [0x01] s)

/-- R249: SealEnable cleared. -/
def execSealDisable (ch : Chan) (p : PortId) (s : State) : Host.Outcome State Fault Refusal :=
  .next (dictCommand ch (portIndex 0x3090 p) 1 [0x00] s)

/-! ## The dictionary's own classes (chapter 11) -/

/-- R302: a write of any field. -/
def execGenericWrite (ch : Chan) (index : BitVec 16) (sub : Byte) (data : List Byte) (s : State) : Host.Outcome State Fault Refusal :=
  .next (dictCommand ch index sub data s)

/-- R303: a write of sequence and mask to an EVT16 field. -/
def execEventClear (ch : Chan) (index : BitVec 16) (v : BitVec 32) (s : State) : Host.Outcome State Fault Refusal :=
  .next (dictCommand ch index (if index = 0x2212 then 1 else 2) (leBytes 4 v.toNat) s)

/-- R304: a write of a counter. -/
def execCounterZero (ch : Chan) (index : BitVec 16) (sub : Byte) (data : List Byte) (s : State) : Host.Outcome State Fault Refusal :=
  .next (dictCommand ch index sub data s)

/-- R306: a write of a POSTED field. -/
def execPostedWrite (ch : Chan) (index : BitVec 16) (sub : Byte) (data : List Byte) (s : State) : Host.Outcome State Fault Refusal :=
  .next (dictCommand ch index sub data s)

/-- R339: CivilStep. -/
def execCivilStep (ch : Chan) (v : BitVec 64) (s : State) : Host.Outcome State Fault Refusal :=
  .next (dictCommand ch 0x2009 2 (leBytes 8 v.toNat) s)

/-- R281: CanBitRate. -/
def execCanBitRateWrite (ch : Chan) (sub : Byte) (v : BitVec 16) (s : State) : Host.Outcome State Fault Refusal :=
  .next (dictCommand ch 0x2010 sub (leBytes 2 v.toNat) s)

/-- R285: the COB-IDs of channel k + 1. -/
def execCobIdWrite (ch : Chan) (k : Fin 3) (sub : Byte) (v : BitVec 32) (s : State) : Host.Outcome State Fault Refusal :=
  .next (dictCommand ch (BitVec.ofNat 16 (0x1201 + k.val)) sub (leBytes 4 v.toNat) s)

/-- R294: ProfileSelect. -/
def execProfileSelect (ch : Chan) (sub : Byte) (v : BitVec 16) (s : State) : Host.Outcome State Fault Refusal :=
  .next (dictCommand ch 0x2001 sub (leBytes 2 v.toNat) s)

/-- R299: a read of AuthNonce. -/
def execAuthNonceRead (ch : Chan) (s : State) : Host.Outcome State Fault Refusal := .next (readCommand ch 0x2004 1 s)

/-- R300: AuthResponse. -/
def execAuthResponse (ch : Chan) (data : List Byte) (s : State) : Host.Outcome State Fault Refusal :=
  .next (dictCommand ch 0x2005 1 data s)

/-- R301: a write to RoleSession. -/
def execSessionEndWrite (ch : Chan) (sub : Byte) (v : BitVec 64) (s : State) : Host.Outcome State Fault Refusal :=
  .next (dictCommand ch 0x2003 sub (leBytes 8 v.toNat) s)

/-- R297: Owners. -/
def execOwnersWrite (ch : Chan) (v : BitVec 16) (s : State) : Host.Outcome State Fault Refusal :=
  .next (dictCommand ch 0x2006 1 (leBytes 2 v.toNat) s)

/-! ## Locks, gates and reset (chapters 12 and 14) -/

/-- R318: GateSet. -/
def execGateSet (ch : Chan) (v : BitVec 32) (s : State) : Host.Outcome State Fault Refusal :=
  .next (dictCommand ch 0x2103 1 (leBytes 4 v.toNat) s)

/-- R318: GateClear. -/
def execGateClear (ch : Chan) (v : BitVec 32) (s : State) : Host.Outcome State Fault Refusal :=
  .next (dictCommand ch 0x2103 2 (leBytes 4 v.toNat) s)

/-- R307, R319: ConfigLock. -/
def execConfigLock (ch : Chan) (sub v : Byte) (s : State) : Host.Outcome State Fault Refusal := .next (dictCommand ch 0x2007 sub [v] s)

/-- R320: ResetRequest. -/
def execResetRequest (ch : Chan) (v : BitVec 32) (s : State) : Host.Outcome State Fault Refusal :=
  .next (dictCommand ch 0x2030 0 (leBytes 4 v.toNat) s)

/-- R352: CtlSource. -/
def execCtlSourceWrite (ch : Chan) (v : Byte) (s : State) : Host.Outcome State Fault Refusal := .next (dictCommand ch 0x2101 1 [v] s)

/-- R352: SlowSource. -/
def execSlowSourceWrite (ch : Chan) (v : Byte) (s : State) : Host.Outcome State Fault Refusal := .next (dictCommand ch 0x2101 2 [v] s)

/-- R361: ClkOutSelect. -/
def execClkoutSelectWrite (ch : Chan) (v : Byte) (s : State) : Host.Outcome State Fault Refusal := .next (dictCommand ch 0x2105 0 [v] s)

/-- R361: ClkOutDivide. -/
def execClkoutDivideWrite (ch : Chan) (v : BitVec 16) (s : State) : Host.Outcome State Fault Refusal :=
  .next (dictCommand ch 0x2106 0 (leBytes 2 v.toNat) s)

/-! ## Recorder (R321, R334) -/

/-- R321: a read of RecordData. -/
def execRecordDataRead (ch : Chan) (s : State) : Host.Outcome State Fault Refusal := .next (readCommand ch 0x4003 0 s)

/-- R321: a read of RecordBatch. -/
def execRecordBatchRead (ch : Chan) (s : State) : Host.Outcome State Fault Refusal := .next (readCommand ch 0x4007 0 s)

/-- R334: CLEAR_GO. -/
def execClearGo (ch : Chan) (s : State) : Host.Outcome State Fault Refusal := .next (dictCommand ch 0x4006 0 [0x01] s)

/-! ## Power (R368) -/

/-- R368: Request BOIL. -/
def execPowerRequestBoil (ch : Chan) (s : State) : Host.Outcome State Fault Refusal := .next (dictCommand ch 0x2201 1 [0x00] s)

/-- R368: Request SIMMER. -/
def execPowerRequestSimmer (ch : Chan) (s : State) : Host.Outcome State Fault Refusal := .next (dictCommand ch 0x2201 1 [0x01] s)

/-- R368: Request REST. -/
def execPowerRequestRest (ch : Chan) (s : State) : Host.Outcome State Fault Refusal := .next (dictCommand ch 0x2201 1 [0x02] s)

/-! ## Life cycle, calibration, self-test, recipes (chapter 16) -/

/-- R387: LifeCycleRequest SEALED. -/
def execLifecycleRequestSealed (ch : Chan) (s : State) : Host.Outcome State Fault Refusal := .next (dictCommand ch 0x2002 2 [0x02] s)

/-- R387: LifeCycleRequest RETURNED. -/
def execLifecycleRequestReturned (ch : Chan) (s : State) : Host.Outcome State Fault Refusal := .next (dictCommand ch 0x2002 2 [0x04] s)

/-- R387: LifeCycleRequest ENDED. -/
def execLifecycleRequestEnded (ch : Chan) (s : State) : Host.Outcome State Fault Refusal := .next (dictCommand ch 0x2002 2 [0x05] s)

/-- R389: ReturnToken. -/
def execReturnTokenWrite (ch : Chan) (data : List Byte) (s : State) : Host.Outcome State Fault Refusal :=
  .next (dictCommand ch 0x2002 3 data s)

/-- R391: TIMEBASE_GO. -/
def execTimebaseGo (ch : Chan) (s : State) : Host.Outcome State Fault Refusal := .next (dictCommand ch 0x2302 1 [0x01] s)

/-- R391: LEVELS_GO. -/
def execLevelsGo (ch : Chan) (s : State) : Host.Outcome State Fault Refusal := .next (dictCommand ch 0x2302 1 [0x02] s)

/-- R391: LENGTH_GO. -/
def execLengthGo (ch : Chan) (s : State) : Host.Outcome State Fault Refusal := .next (dictCommand ch 0x2302 1 [0x04] s)

/-- R397: GO of SelfTestGo. -/
def execSelfTestGo (ch : Chan) (s : State) : Host.Outcome State Fault Refusal := .next (dictCommand ch 0x2400 1 [0x01] s)

/-- R401: RecipeImage. -/
def execRecipeImageWrite (ch : Chan) (image : List Byte) (s : State) : Host.Outcome State Fault Refusal :=
  .next (dictCommand ch 0x2701 0 image s)

end Sys2Proof.Machine
end

