-- ==== Sys2Proof/Machine/Sdo.lean ====
section
/-! DEFINITION. Sdo.lean: SDO transfers (R286 to R293): the CiA 301 expedited, segmented and block transfers, and wide segments. The
layout of the classical frames is that of CiA 301, which the manual cites and does not print (PRESUMED, log entry 13). -/

namespace Sys2Proof.Machine

/-! ## Frames -/

/-- A field of a command byte. -/
def bitsAt (b : Byte) (lo width : Nat) : Nat := b.toNat / 2 ^ lo % 2 ^ width

/-- A byte padded with zeros to n bytes. -/
def padTo (n : Nat) (d : List Byte) : List Byte := (d ++ List.replicate n 0).take n

/-- Index of an initiate frame. -/
def frameIndex (d : List Byte) : BitVec 16 := BitVec.ofNat 16 (leVal (slice d 1 2))

/-- Sub-index of an initiate frame. -/
def frameSub (d : List Byte) : Byte := d.getD 3 0

/-- The multiplexer bytes of a frame. -/
def muxBytes (index : BitVec 16) (sub : Byte) : List Byte := leBytes 2 index.toNat ++ [sub]

/-- A classical frame of 8 bytes from the server. -/
def reply (ch : Chan) (d : List Byte) (s : State) : State := canSend (chanFrame s ch false (padTo 8 d)) s

/-- A wide frame of n bytes from the server. -/
def replyWide (ch : Chan) (n : Nat) (d : List Byte) (s : State) : State := canSend (chanFrame s ch true (padTo n d)) s

/-- A channel's transfer replaced. -/
def setXfer (ch : Chan) (x : Xfer) (s : State) : State := modChan ch (fun c => { c with xfer := x }) s

/-- The transfer ends with an abort frame for an object. -/
def sdoFail (ch : Chan) (index : BitVec 16) (sub : Byte) (code : Code) (s : State) : State :=
  reply ch (abortFrame index sub code) (answerAbort ch code (setXfer ch .none s))

/-- R289, R293: a frame that is no command here: invalid command specifier, index and sub-index 0. -/
def badFrame (ch : Chan) (s : State) : State := sdoFail ch 0 0 0x05040001 s

/-! ## CRC of block transfers -/

/-- CRC-CCITT, polynomial x^16 + x^12 + x^5 + 1, start value 0: one bit. -/
def ccittBit (c : BitVec 16) : BitVec 16 := if c.getLsbD 15 then (c <<< 1) ^^^ 0x1021 else c <<< 1

/-- CRC-CCITT of bytes. -/
def ccitt (d : List Byte) : BitVec 16 :=
  d.foldl (fun c b => ccittBit (ccittBit (ccittBit (ccittBit (ccittBit (ccittBit (ccittBit (ccittBit
    (c ^^^ ((BitVec.zeroExtend 16 b) <<< (8 : Nat))))))))))) 0

/-! ## Completion (R287) -/

/-- R352: a write that asked for a switch of a clock domain holds its response for the new clock. -/
def sendOrHold (ch : Chan) (index : BitVec 16) (sub : Byte) (frame : CanOut) (before t : State) : State :=
  match (t.clk.pending.drop before.clk.pending.length).head? with
  | some x => modClk (fun k => { k with held := k.held ++ [{ dom := x.1, ch := ch, index := index, sub := sub, frame := frame }] }) t
  | none => canSend frame t

/-- A download is complete: the write is judged and applied; its response, on the COB-ID in use before, follows it. -/
def finishDown (ch : Chan) (index : BitVec 16) (sub : Byte) (d : List Byte) (wide : Bool) (ok : List Byte) (s : State) : State :=
  let s := setXfer ch .none s
  let r := dictWrite ch index sub d s
  let t := answerWrite ch index sub r
  match r with
  | .ok _ => sendOrHold ch index sub (chanFrame s ch wide (padTo 8 ok)) s t
  | .error (c, _) => canSend (chanFrame s ch false (abortFrame index sub c)) t

/-- R308, R287: a download whose size was announced and whose data is of another length aborts. -/
def finishSized (ch : Chan) (index : BitVec 16) (sub : Byte) (size : Option Nat) (d : List Byte) (ok : List Byte) (s : State) : State :=
  if (match size with | some n => decide (n ≠ d.length) | none => false) then sdoFail ch index sub abLength s
  else finishDown ch index sub d false ok s

/-- What a read leaves and sends, as far as it did not abort; a response of `k` builds the frame. -/
def withRead (ch : Chan) (index : BitVec 16) (sub : Byte) (k : List Byte → State → State) (s : State) : State :=
  match dictRead ch index sub s with
  | .error (c, t) => sdoFail ch index sub c t
  | .ok (d, t) => k d (modChan ch (fun c => { c with resp := .data d }) t)

/-! ## Expedited and segmented transfers -/

/-- Initiate download: expedited, or the start of a segmented download. Of an expedited one without a size (e = 1, s = 0) CiA 301 leaves the
number of bytes open, and the manual does not say; the model takes all 4 (log entry 77). -/
def initiateDown (ch : Chan) (d : List Byte) (s : State) : State :=
  let b := d.getD 0 0
  let i := frameIndex d
  let sub := frameSub d
  let ok := [0x60] ++ muxBytes i sub
  if bitsAt b 1 1 = 1 then
    finishDown ch i sub (slice d 4 (if bitsAt b 0 1 = 1 then 4 - bitsAt b 2 2 else 4)) false ok s
  else
    reply ch ok (setXfer ch (.segDown i sub (if bitsAt b 0 1 = 1 then some (leVal (slice d 4 4)) else none) [] false) s)

/-- Download segment. -/
def segmentDown (ch : Chan) (d : List Byte) (s : State) : State :=
  match s.chans[ch].xfer with
  | .segDown i sub size got toggle =>
    let b := d.getD 0 0
    if decide (bitsAt b 4 1 = 1) ≠ toggle then sdoFail ch i sub 0x05030000 s
    else
      let all := got ++ slice d 1 (7 - bitsAt b 1 3)
      let ok : List Byte := [0x20 + BitVec.ofNat 8 (16 * toggle.toNat)]
      if bitsAt b 0 1 = 1 then finishSized ch i sub size all ok s
      else reply ch ok (setXfer ch (.segDown i sub size all (!toggle)) s)
  | _ => badFrame ch s

/-- The answer to an initiate upload: expedited for 1 to 4 bytes, otherwise the start of a segmented upload. -/
def startUp (ch : Chan) (i : BitVec 16) (sub : Byte) (d : List Byte) (s : State) : State :=
  if 1 ≤ d.length ∧ d.length ≤ 4 then reply ch ([BitVec.ofNat 8 (0x43 + 4 * (4 - d.length))] ++ muxBytes i sub ++ d) s
  else reply ch ([0x41] ++ muxBytes i sub ++ leBytes 4 d.length) (setXfer ch (.segUp i sub d false) s)

/-- Initiate upload. -/
def initiateUp (ch : Chan) (d : List Byte) (s : State) : State :=
  withRead ch (frameIndex d) (frameSub d) (startUp ch (frameIndex d) (frameSub d)) s

/-- Upload segment. -/
def segmentUp (ch : Chan) (d : List Byte) (s : State) : State :=
  match s.chans[ch].xfer with
  | .segUp i sub left toggle =>
    if decide (bitsAt (d.getD 0 0) 4 1 = 1) ≠ toggle then sdoFail ch i sub 0x05030000 s
    else
      let n := min 7 left.length
      let last := decide (left.length ≤ 7)
      let head : Byte := BitVec.ofNat 8 (16 * toggle.toNat + 2 * (7 - n) + last.toNat)
      reply ch (head :: left.take 7) (setXfer ch (if last then .none else .segUp i sub (left.drop 7) (!toggle)) s)
  | _ => badFrame ch s

/-! ## Block transfers (R289) -/

/-- R289: the block size that the server offers. -/
def blockSize : Nat := 127

/-- R289: a block size of a client. -/
def blockSizeOk (n : Nat) : Bool := decide (1 ≤ n) && decide (n ≤ 127)

/-- Table 11-7: the field has a fixed length of 4 bytes or less. -/
def tooShort (s : State) (ch : Chan) (i : BitVec 16) (sub : Byte) : Bool :=
  match findField (newProfile s ch) (splitIndex i).1 sub.toNat with
  | .ok (_, f) => (match f.len with | .fixed n => decide (n ≤ 4) | .upTo _ => false)
  | .error _ => false

/-- Initiate block download. -/
def initiateBlockDown (ch : Chan) (d : List Byte) (s : State) : State :=
  let b := d.getD 0 0
  let i := frameIndex d
  let sub := frameSub d
  if tooShort s ch i sub then sdoFail ch i sub abUnsupported s
  else
    reply ch ([0xA4] ++ muxBytes i sub ++ [BitVec.ofNat 8 blockSize])
      (setXfer ch (.blkDown i sub (if bitsAt b 1 1 = 1 then some (leVal (slice d 4 4)) else none) (decide (bitsAt b 2 1 = 1)) [] 1 false) s)

/-- A segment of a block download. -/
def blockSegment (ch : Chan) (d : List Byte) (s : State) : State :=
  match s.chans[ch].xfer with
  | .blkDown i sub size crc got next _ =>
    let b := d.getD 0 0
    let n := bitsAt b 0 7
    let last := decide (bitsAt b 7 1 = 1)
    let all := got ++ slice d 1 7
    if n ≠ next then sdoFail ch i sub 0x05040003 s
    else if last || decide (n = blockSize) then
      reply ch [0xA2, BitVec.ofNat 8 n, BitVec.ofNat 8 blockSize] (setXfer ch (.blkDown i sub size crc all 1 last) s)
    else setXfer ch (.blkDown i sub size crc all (next + 1) false) s
  | _ => badFrame ch s

/-- End of a block download. -/
def endBlockDown (ch : Chan) (d : List Byte) (s : State) : State :=
  match s.chans[ch].xfer with
  | .blkDown i sub size crc got _ true =>
    let data := got.take (got.length - bitsAt (d.getD 0 0) 2 3)
    if crc && decide (ccitt data ≠ BitVec.ofNat 16 (leVal (slice d 1 2))) then sdoFail ch i sub 0x05040004 s
    else finishSized ch i sub size data [0xA1] s
  | _ => badFrame ch s

/-- Initiate block upload; at or below the protocol switch threshold the upload is not a block transfer. -/
def initiateBlockUp (ch : Chan) (d : List Byte) (s : State) : State :=
  let i := frameIndex d
  let sub := frameSub d
  let blk := (d.getD 4 0).toNat
  let pst := (d.getD 5 0).toNat
  if !blockSizeOk blk then sdoFail ch i sub 0x05040002 s
  else if pst = 0 && tooShort s ch i sub then sdoFail ch i sub abUnsupported s
  else withRead ch i sub (fun data t =>
    if 0 < pst ∧ data.length ≤ pst then startUp ch i sub data t
    else if tooShort s ch i sub then sdoFail ch i sub abUnsupported s
    else reply ch ([0xC6] ++ muxBytes i sub ++ leBytes 4 data.length)
      (setXfer ch (.blkUp i sub data 0 blk false 0 (decide (bitsAt (d.getD 0 0) 2 1 = 1))) t)) s

/-- The segments of a sub-block: numbered from `k`, at most `fuel`, from the data left. -/
def blockFrames : Nat → Nat → List Byte → List (List Byte)
  | 0, _, _ => []
  | fuel + 1, k, left =>
    if left.isEmpty then []
    else
      let last := decide (left.length ≤ 7)
      (BitVec.ofNat 8 (k + 128 * last.toNat) :: left.take 7) :: blockFrames fuel (k + 1) (left.drop 7)

/-- A sub-block of an upload is sent, or the end frame when everything has been confirmed. -/
def sendBlock (ch : Chan) (i : BitVec 16) (sub : Byte) (all : List Byte) (sent blk : Nat) (crc : Bool) (s : State) : State :=
  if all.length ≤ sent then
    let n := (7 - all.length % 7) % 7
    reply ch ([BitVec.ofNat 8 (0xC1 + 4 * n)] ++ leBytes 2 (if crc then (ccitt all).toNat else 0))
      (setXfer ch (.blkUp i sub all sent blk true 0 crc) s)
  else
    let fs := blockFrames blk 1 (all.drop sent)
    fs.foldl (fun t f => reply ch f t) (setXfer ch (.blkUp i sub all sent blk true fs.length crc) s)

/-- Start of a block upload, or the confirmation of a sub-block, or of the end. -/
def blockUpNext (ch : Chan) (d : List Byte) (s : State) : State :=
  let k := bitsAt (d.getD 0 0) 0 2
  match s.chans[ch].xfer with
  | .blkUp i sub all sent blk started inFlight crc =>
    if k = 3 ∧ started = false then sendBlock ch i sub all sent blk crc s
    else if k = 2 ∧ started ∧ 0 < inFlight then
      let ack := (d.getD 1 0).toNat
      let next := (d.getD 2 0).toNat
      if inFlight < ack then sdoFail ch i sub 0x05040003 s
      else if !blockSizeOk next then sdoFail ch i sub 0x05040002 s
      else sendBlock ch i sub all (sent + 7 * ack) next crc s
    else if k = 1 ∧ started ∧ all.length ≤ sent then setXfer ch .none s
    else badFrame ch s
  | _ => badFrame ch s

/-! ## Wide segments (R290 to R292) -/

/-- R291: data bytes of an initiate frame, and of a segment. -/
def wideFirst : Nat := 56
/-- Data bytes of a segment. -/
def wideMore : Nat := 63

/-- A confirmation that echoes D, C and T. -/
def wideConfirmOf (b : Byte) (i : BitVec 16) (sub : Byte) : List Byte := [0xF0 + BitVec.ofNat 8 (bitsAt b 0 3)] ++ muxBytes i sub

/-- Wide initiate download; an initiate frame has T at 0 (Table 11-3), and another toggle is wrong (R292). -/
def wideInitDown (ch : Chan) (d : List Byte) (s : State) : State :=
  let b := d.getD 0 0
  let i := frameIndex d
  let sub := frameSub d
  let size := leVal (slice d 4 4)
  let c := decide (bitsAt b 1 1 = 1)
  if bitsAt b 0 1 = 1 then sdoFail ch i sub 0x05030000 s
  else if size < 1 ∨ 1048576 < size ∨ c ≠ decide (size ≤ wideFirst) then sdoFail ch i sub abLength s
  else if c then finishDown ch i sub (slice d 8 size) true (wideConfirmOf b i sub) s
  else replyWide ch 8 (wideConfirmOf b i sub) (setXfer ch (.wideDown i sub size (slice d 8 wideFirst) false) s)

/-- Wide segment of a download. -/
def wideSegDown (ch : Chan) (d : List Byte) (s : State) : State :=
  match s.chans[ch].xfer with
  | .wideDown i sub size got toggle =>
    let b := d.getD 0 0
    let c := decide (bitsAt b 1 1 = 1)
    let all := got ++ slice d 1 (min wideMore (size - got.length))
    if decide (bitsAt b 0 1 = 1) ≠ toggle then sdoFail ch i sub 0x05030000 s
    else if c ≠ decide (all.length = size) then sdoFail ch i sub abLength s
    else if c then finishDown ch i sub all true (wideConfirmOf b i sub) s
    else replyWide ch 8 (wideConfirmOf b i sub) (setXfer ch (.wideDown i sub size all (!toggle)) s)
  | _ => badFrame ch s

/-- Wide initiate upload; an initiate frame has T at 0 (Table 11-3), and another toggle is wrong (R292). -/
def wideInitUp (ch : Chan) (d : List Byte) (s : State) : State :=
  let i := frameIndex d
  let sub := frameSub d
  if bitsAt (d.getD 0 0) 0 1 = 1 then sdoFail ch i sub 0x05030000 s
  else withRead ch i sub (fun data t =>
    let c := decide (data.length ≤ wideFirst)
    replyWide ch 64 ([0xE4 + BitVec.ofNat 8 (2 * c.toNat)] ++ muxBytes i sub ++ leBytes 4 data.length ++ data.take wideFirst)
      (setXfer ch (if c then .none else .wideUp i sub (data.drop wideFirst) none) t)) s

/-- The client's confirmation: the next wide segment is sent. R292 has the server echo D, C and T, and does not say what the client's CONFIRM
carries in C: on an open upload it is not looked at; on none, a CONFIRM with C set, as of a last segment, has no effect, and one with C clear answers
0x0504_0001 (the model's choice, log entry 98). -/
def wideConfirmed (ch : Chan) (d : List Byte) (s : State) : State :=
  let b := d.getD 0 0
  match s.chans[ch].xfer with
  | .wideUp i sub left last =>
    if decide (bitsAt b 0 1 = 1) ≠ last.getD false then sdoFail ch i sub 0x05030000 s
    else
      let t : Bool := match last with | some x => !x | none => false
      let c := decide (left.length ≤ wideMore)
      replyWide ch 64 (BitVec.ofNat 8 (0xEC + 2 * c.toNat + t.toNat) :: left.take wideMore)
        (setXfer ch (if c then .none else .wideUp i sub (left.drop wideMore) (some t)) s)
  | _ => if bitsAt b 1 1 = 1 then s else badFrame ch s

/-- R290: a wide frame, by its command byte and length. -/
def wideFrame (ch : Chan) (d : List Byte) (s : State) : State :=
  let b := d.getD 0 0
  let kind := bitsAt b 3 2
  let up := decide (bitsAt b 2 1 = 1)
  if bitsAt b 5 3 ≠ 7 ∨ newProfile s ch = false then badFrame ch s
  else if kind = 0 ∧ up = false ∧ d.length = 64 then wideInitDown ch d (countRequest ch (setXfer ch .none s))
  else if kind = 0 ∧ up ∧ d.length = 8 then wideInitUp ch d (countRequest ch (setXfer ch .none s))
  else if kind = 1 ∧ up = false ∧ d.length = 64 then wideSegDown ch d s
  else if kind = 2 ∧ up ∧ d.length = 8 then wideConfirmed ch d s
  else badFrame ch s

/-! ## Every frame -/

/-- Segments of a block download are awaited: every frame but an abort is one. -/
def inBlock (x : Xfer) : Bool := match x with | .blkDown _ _ _ _ _ _ last => !last | _ => false

/-- A classical frame, by its command byte; an initiate ends the open transfer without an abort frame (R288). -/
def classicFrame (ch : Chan) (d : List Byte) (s : State) : State :=
  let b := d.getD 0 0
  let fresh := countRequest ch (setXfer ch .none s)
  if d.length ≠ 8 then badFrame ch s
  else if b = 0x80 then setXfer ch .none s
  else if inBlock s.chans[ch].xfer then blockSegment ch d s
  else match bitsAt b 5 3 with
  | 0 => segmentDown ch d s
  | 1 => initiateDown ch d fresh
  | 2 => initiateUp ch d fresh
  | 3 => segmentUp ch d s
  | 5 => if bitsAt b 0 2 = 0 then initiateBlockUp ch d fresh else blockUpNext ch d s
  | 6 => if bitsAt b 0 1 = 0 then initiateBlockDown ch d fresh else endBlockDown ch d s
  | _ => badFrame ch s

/-- R288: 1000 ms without a frame of the open transfer. -/
def xferTimeout : Nat := 1000000000

/-- R288: a transfer whose 1000 ms ended before the cycle of a frame has timed out; in the cycle in which they end the frame comes first. -/
def timedOutBefore (ch : Chan) (s : State) : State :=
  if s.chans[ch].heardAt + xferTimeout < s.aon.tally then abortXfer ch 0x05040000 s else s

/-- R286: a frame on the channel's client-to-server COB-ID. -/
def sdoFrame (ch : Chan) (f : CanFrame) (s : State) : State :=
  if served s ch then
    let t := modChan ch (fun c => { c with heardAt := s.aon.tally }) (timedOutBefore ch (heard (clearOut s)))
    if f.fd then wideFrame ch f.data t else classicFrame ch f.data t
  else s

/-! ## Commands -/

/-- Initiate download (R287, R289). -/
def execSdoInitiateDownload (ch : Chan) (f : CanFrame) (s : State) : Host.Outcome State Fault Refusal := .next (sdoFrame ch f s)

/-- Download segment (R287, R289). -/
def execSdoDownloadSegment (ch : Chan) (f : CanFrame) (s : State) : Host.Outcome State Fault Refusal := .next (sdoFrame ch f s)

/-- Initiate upload (R289). -/
def execSdoInitiateUpload (ch : Chan) (f : CanFrame) (s : State) : Host.Outcome State Fault Refusal := .next (sdoFrame ch f s)

/-- Upload segment (R289). -/
def execSdoUploadSegment (ch : Chan) (f : CanFrame) (s : State) : Host.Outcome State Fault Refusal := .next (sdoFrame ch f s)

/-- A frame of a block download (R289). -/
def execSdoBlockDownload (ch : Chan) (f : CanFrame) (s : State) : Host.Outcome State Fault Refusal := .next (sdoFrame ch f s)

/-- A frame of a block upload (R289). -/
def execSdoBlockUpload (ch : Chan) (f : CanFrame) (s : State) : Host.Outcome State Fault Refusal := .next (sdoFrame ch f s)

/-- The client's abort (R292). -/
def execSdoAbort (ch : Chan) (f : CanFrame) (s : State) : Host.Outcome State Fault Refusal := .next (sdoFrame ch f s)

/-- Wide initiate download (R291). -/
def execWideInitiateDownload (ch : Chan) (f : CanFrame) (s : State) : Host.Outcome State Fault Refusal := .next (sdoFrame ch f s)

/-- Wide initiate upload (R291). -/
def execWideInitiateUpload (ch : Chan) (f : CanFrame) (s : State) : Host.Outcome State Fault Refusal := .next (sdoFrame ch f s)

/-- Wide segment (R292). -/
def execWideSegment (ch : Chan) (f : CanFrame) (s : State) : Host.Outcome State Fault Refusal := .next (sdoFrame ch f s)

/-- The client's confirmation (R292). -/
def execWideConfirm (ch : Chan) (f : CanFrame) (s : State) : Host.Outcome State Fault Refusal := .next (sdoFrame ch f s)

/-- R288: no expected frame within 1000 ms. NMT Stopped silences the abort frame, and the transfer ends all the same (R314). -/
def execSdoTimeout (ch : Chan) (s : State) : Host.Outcome State Fault Refusal :=
  .next (if s.aon.tally < s.chans[ch].heardAt + xferTimeout then s
    else if served s ch then abortXfer ch 0x05040000 (clearOut s)
    else if (xferTarget s.chans[ch].xfer).isSome then
      countAbort ch 0x05040000 (modChan ch (fun c => { c with xfer := .none, resp := .abort 0x05040000 }) s)
    else s)

end Sys2Proof.Machine
end

