-- ==== Sys2Proof/Machine/Dispatch.lean ====
section
/-! DEFINITION. Dispatch.lean: one arm per command. -/

namespace Sys2Proof.Machine

/-- A command's effect on everything but the queue. -/
def exec (i : Instr) (s : State) : Host.Outcome State Fault Refusal :=
  match i with
  | .launchSlot p at_ => Sys2Proof.Machine.execLaunchSlot p at_ s
  | .dataShingle p h payload corr at_ => Sys2Proof.Machine.execDataShingle p h payload corr at_ s
  | .uncorrectableSlot p r => Sys2Proof.Machine.execUncorrectableSlot p r s
  | .idle p synced ack corr => Sys2Proof.Machine.execIdle p synced ack corr s
  | .nak p ack body corr => Sys2Proof.Machine.execNak p ack body corr s
  | .lpiEntry p ack corr => Sys2Proof.Machine.execLpiEntry p ack corr s
  | .lpiExit p ack corr => Sys2Proof.Machine.execLpiExit p ack corr s
  | .sleepRequest p ack corr => Sys2Proof.Machine.execSleepRequest p ack corr s
  | .sleepAck p ack corr => Sys2Proof.Machine.execSleepAck p ack corr s
  | .sleepReject p ack corr => Sys2Proof.Machine.execSleepReject p ack corr s
  | .beaconFast p m ack corr => Sys2Proof.Machine.execBeaconFast p m ack corr s
  | .beaconFull p m ack corr => Sys2Proof.Machine.execBeaconFull p m ack corr s
  | .request p m epoch ack corr => Sys2Proof.Machine.execRequest p m epoch ack corr s
  | .accept p m epoch ack corr => Sys2Proof.Machine.execAccept p m epoch ack corr s
  | .refuse p r epoch ack corr => Sys2Proof.Machine.execRefuse p r epoch ack corr s
  | .mark p k epoch ack corr => Sys2Proof.Machine.execMark p k epoch ack corr s
  | .receiveEpoch p => Sys2Proof.Machine.execReceiveEpoch p s
  | .epochExemptionEnd p => Sys2Proof.Machine.execEpochExemptionEnd p s
  | .modeRequestRetry p => Sys2Proof.Machine.execModeRequestRetry p s
  | .modePrepareDone p => Sys2Proof.Machine.execModePrepareDone p s
  | .autoDownshiftWindow p meanSnr => Sys2Proof.Machine.execAutoDownshiftWindow p meanSnr s
  | .replayTimer p c seq => Sys2Proof.Machine.execReplayTimer p c seq s
  | .nakRepeat p c seq => Sys2Proof.Machine.execNakRepeat p c seq s
  | .lossPasses p c => Sys2Proof.Machine.execLossPasses p c s
  | .hostFrameStart p at_ => Sys2Proof.Machine.execHostFrameStart p at_ s
  | .hostFrameData p bytes b => Sys2Proof.Machine.execHostFrameData p bytes b s
  | .hostFrameEnd p e => Sys2Proof.Machine.execHostFrameEnd p e s
  | .htxFrameBoundary p at_ => Sys2Proof.Machine.execHtxFrameBoundary p at_ s
  | .pfcRepeat p c => Sys2Proof.Machine.execPfcRepeat p c s
  | .hostLaneUp p => Sys2Proof.Machine.execHostLaneUp p s
  | .hostLaneDown e => Sys2Proof.Machine.execHostLaneDown e s
  | .hostLpiBegin p => Sys2Proof.Machine.execHostLpiBegin p s
  | .hostLpiEnd p => Sys2Proof.Machine.execHostLpiEnd p s
  | .hostIdleTimeout p => Sys2Proof.Machine.execHostIdleTimeout p s
  | .lpiEnter p => Sys2Proof.Machine.execLpiEnter p s
  | .lpiRefresh p => Sys2Proof.Machine.execLpiRefresh p s
  | .energyDetect p => Sys2Proof.Machine.execEnergyDetect p s
  | .lpiFalseWake p => Sys2Proof.Machine.execLpiFalseWake p s
  | .lpiRefreshMissed p => Sys2Proof.Machine.execLpiRefreshMissed p s
  | .lockLoss p c => Sys2Proof.Machine.execLockLoss p c s
  | .adaptUpdate p u => Sys2Proof.Machine.execAdaptUpdate p u s
  | .snapshotWindowEnd p => Sys2Proof.Machine.execSnapshotWindowEnd p s
  | .snapshotGo ch p => Sys2Proof.Machine.execSnapshotGo ch p s
  | .snapshotServe p => Sys2Proof.Machine.execSnapshotServe p s
  | .xtalkJoinDone p m centiDb => Sys2Proof.Machine.execXtalkJoinDone p m centiDb s
  | .xtalkJoinRetry p m => Sys2Proof.Machine.execXtalkJoinRetry p m s
  | .neighbourMaskWrite ch p v => Sys2Proof.Machine.execNeighbourMaskWrite ch p v s
  | .autonegStart p => Sys2Proof.Machine.execAutonegStart p s
  | .autonegResolve p pages stdModes ms => Sys2Proof.Machine.execAutonegResolve p pages stdModes ms s
  | .clause98Pages p => Sys2Proof.Machine.execClause98Pages p s
  | .startCandidate p power => Sys2Proof.Machine.execStartCandidate p power s
  | .startConfirmed p u corr => Sys2Proof.Machine.execStartConfirmed p u corr s
  | .falseStart p => Sys2Proof.Machine.execFalseStart p s
  | .preEmption p corr => Sys2Proof.Machine.execPreEmption p corr s
  | .exitCriterionMet p m => Sys2Proof.Machine.execExitCriterionMet p m s
  | .periodBoundary p partnerReady => Sys2Proof.Machine.execPeriodBoundary p partnerReady s
  | .phaseLimitExpiry p m => Sys2Proof.Machine.execPhaseLimitExpiry p m s
  | .relinkChoose p => Sys2Proof.Machine.execRelinkChoose p s
  | .snapshotReload p => Sys2Proof.Machine.execSnapshotReload p s
  | .echoChangeCheck p near far => Sys2Proof.Machine.execEchoChangeCheck p near far s
  | .fastRelinkLimit p m => Sys2Proof.Machine.execFastRelinkLimit p m s
  | .episodeLimit p => Sys2Proof.Machine.execEpisodeLimit p s
  | .retrainGo ch p => Sys2Proof.Machine.execRetrainGo ch p s
  | .restartAnGo ch p => Sys2Proof.Machine.execRestartAnGo ch p s
  | .sleepGo ch p => Sys2Proof.Machine.execSleepGo ch p s
  | .sleepWaitTimeout p => Sys2Proof.Machine.execSleepWaitTimeout p s
  | .wakeGo ch p => Sys2Proof.Machine.execWakeGo ch p s
  | .wakePulseDone p => Sys2Proof.Machine.execWakePulseDone p s
  | .lineWake w => Sys2Proof.Machine.execLineWake w s
  | .adminDisable ch p => Sys2Proof.Machine.execAdminDisable ch p s
  | .adminEnable ch p => Sys2Proof.Machine.execAdminEnable ch p s
  | .modeMaskWrite ch p v => Sys2Proof.Machine.execModeMaskWrite ch p v s
  | .targetModeWrite ch p v => Sys2Proof.Machine.execTargetModeWrite ch p v s
  | .ledgerEntryRead ch p => Sys2Proof.Machine.execLedgerEntryRead ch p s
  | .rollCallDownshiftOne ch epoch arg mask low => Sys2Proof.Machine.execRollCallDownshiftOne ch epoch arg mask low s
  | .rollCallSetMode ch epoch arg mask low => Sys2Proof.Machine.execRollCallSetMode ch epoch arg mask low s
  | .rollCallLpiEnable ch epoch arg mask low => Sys2Proof.Machine.execRollCallLpiEnable ch epoch arg mask low s
  | .rollCallLpiDisable ch epoch arg mask low => Sys2Proof.Machine.execRollCallLpiDisable ch epoch arg mask low s
  | .rollCallApply p => Sys2Proof.Machine.execRollCallApply p s
  | .armDrop ch p => Sys2Proof.Machine.execArmDrop ch p s
  | .armCorrupt ch p => Sys2Proof.Machine.execArmCorrupt ch p s
  | .armSwap ch p => Sys2Proof.Machine.execArmSwap ch p s
  | .armInterrupt ch p => Sys2Proof.Machine.execArmInterrupt ch p s
  | .armHostIn ch p => Sys2Proof.Machine.execArmHostIn ch p s
  | .armHostOut ch p => Sys2Proof.Machine.execArmHostOut ch p s
  | .disarmAllGo ch => Sys2Proof.Machine.execDisarmAllGo ch s
  | .interruptionEnd p => Sys2Proof.Machine.execInterruptionEnd p s
  | .hostInCorruption p => Sys2Proof.Machine.execHostInCorruption p s
  | .hostOutCorruption p => Sys2Proof.Machine.execHostOutCorruption p s
  | .provocationEpisodeEnd p => Sys2Proof.Machine.execProvocationEpisodeEnd p s
  | .signatureComparison p m => Sys2Proof.Machine.execSignatureComparison p m s
  | .thresholdsWrite ch p v => Sys2Proof.Machine.execThresholdsWrite ch p v s
  | .captureLineGo ch p => Sys2Proof.Machine.execCaptureLineGo ch p s
  | .captureProbeGo ch p => Sys2Proof.Machine.execCaptureProbeGo ch p s
  | .ackTamperGo ch p => Sys2Proof.Machine.execAckTamperGo ch p s
  | .captureTimeout p slot => Sys2Proof.Machine.execCaptureTimeout p slot s
  | .probeRun p m => Sys2Proof.Machine.execProbeRun p m s
  | .probeRepeat p m => Sys2Proof.Machine.execProbeRepeat p m s
  | .simmerProbeWake m => Sys2Proof.Machine.execSimmerProbeWake m s
  | .sealEnable ch p => Sys2Proof.Machine.execSealEnable ch p s
  | .sealDisable ch p => Sys2Proof.Machine.execSealDisable ch p s
  | .chainStart p => Sys2Proof.Machine.execChainStart p s
  | .sealWindowEnd p => Sys2Proof.Machine.execSealWindowEnd p s
  | .sealRoot p => Sys2Proof.Machine.execSealRoot p s
  | .sdoInitiateDownload ch f => Sys2Proof.Machine.execSdoInitiateDownload ch f s
  | .sdoDownloadSegment ch f => Sys2Proof.Machine.execSdoDownloadSegment ch f s
  | .sdoInitiateUpload ch f => Sys2Proof.Machine.execSdoInitiateUpload ch f s
  | .sdoUploadSegment ch f => Sys2Proof.Machine.execSdoUploadSegment ch f s
  | .sdoBlockDownload ch f => Sys2Proof.Machine.execSdoBlockDownload ch f s
  | .sdoBlockUpload ch f => Sys2Proof.Machine.execSdoBlockUpload ch f s
  | .sdoAbort ch f => Sys2Proof.Machine.execSdoAbort ch f s
  | .wideInitiateDownload ch f => Sys2Proof.Machine.execWideInitiateDownload ch f s
  | .wideInitiateUpload ch f => Sys2Proof.Machine.execWideInitiateUpload ch f s
  | .wideSegment ch f => Sys2Proof.Machine.execWideSegment ch f s
  | .wideConfirm ch f => Sys2Proof.Machine.execWideConfirm ch f s
  | .sdoTimeout ch => Sys2Proof.Machine.execSdoTimeout ch s
  | .genericWrite ch index sub data => Sys2Proof.Machine.execGenericWrite ch index sub data s
  | .eventClear ch index v => Sys2Proof.Machine.execEventClear ch index v s
  | .counterZero ch index sub data => Sys2Proof.Machine.execCounterZero ch index sub data s
  | .postedWrite ch index sub data => Sys2Proof.Machine.execPostedWrite ch index sub data s
  | .postedApply => Sys2Proof.Machine.execPostedApply s
  | .civilStep ch v => Sys2Proof.Machine.execCivilStep ch v s
  | .allowanceWindow => Sys2Proof.Machine.execAllowanceWindow s
  | .canBitRateWrite ch sub v => Sys2Proof.Machine.execCanBitRateWrite ch sub v s
  | .bitrateReverted => Sys2Proof.Machine.execBitrateReverted s
  | .cobIdWrite ch k sub v => Sys2Proof.Machine.execCobIdWrite ch k sub v s
  | .profileSelect ch sub v => Sys2Proof.Machine.execProfileSelect ch sub v s
  | .authNonceRead ch => Sys2Proof.Machine.execAuthNonceRead ch s
  | .authResponse ch data => Sys2Proof.Machine.execAuthResponse ch data s
  | .nonceExpiry ch => Sys2Proof.Machine.execNonceExpiry ch s
  | .authLockoutEnd => Sys2Proof.Machine.execAuthLockoutEnd s
  | .sessionEndWrite ch sub v => Sys2Proof.Machine.execSessionEndWrite ch sub v s
  | .sessionExpiry ch => Sys2Proof.Machine.execSessionExpiry ch s
  | .ownersWrite ch v => Sys2Proof.Machine.execOwnersWrite ch v s
  | .nmtStart node => Sys2Proof.Machine.execNmtStart node s
  | .nmtPreOperational node => Sys2Proof.Machine.execNmtPreOperational node s
  | .nmtStop node => Sys2Proof.Machine.execNmtStop node s
  | .nmtResetCommunication node => Sys2Proof.Machine.execNmtResetCommunication node s
  | .nmtResetNode node => Sys2Proof.Machine.execNmtResetNode node s
  | .heartbeat => Sys2Proof.Machine.execHeartbeat s
  | .emcySend => Sys2Proof.Machine.execEmcySend s
  | .busOff => Sys2Proof.Machine.execBusOff s
  | .gateSet ch v => Sys2Proof.Machine.execGateSet ch v s
  | .gateClear ch v => Sys2Proof.Machine.execGateClear ch v s
  | .gateOpenComplete g => Sys2Proof.Machine.execGateOpenComplete g s
  | .gateCloseComplete g => Sys2Proof.Machine.execGateCloseComplete g s
  | .configLock ch sub v => Sys2Proof.Machine.execConfigLock ch sub v s
  | .resetRequest ch v => Sys2Proof.Machine.execResetRequest ch v s
  | .recordDataRead ch => Sys2Proof.Machine.execRecordDataRead ch s
  | .recordBatchRead ch => Sys2Proof.Machine.execRecordBatchRead ch s
  | .clearGo ch => Sys2Proof.Machine.execClearGo ch s
  | .eventRaise evs => Sys2Proof.Machine.execEventRaise evs s
  | .recordCommit => Sys2Proof.Machine.execRecordCommit s
  | .recorderRecovered => Sys2Proof.Machine.execRecorderRecovered s
  | .tallyCheckpoint => Sys2Proof.Machine.execTallyCheckpoint s
  | .crockScanEnd mramFail => Sys2Proof.Machine.execCrockScanEnd mramFail s
  | .crystalStable => Sys2Proof.Machine.execCrystalStable s
  | .pllLock => Sys2Proof.Machine.execPllLock s
  | .pllLockTimeout => Sys2Proof.Machine.execPllLockTimeout s
  | .crystalTimeout => Sys2Proof.Machine.execCrystalTimeout s
  | .crystalRestart => Sys2Proof.Machine.execCrystalRestart s
  | .refFailed => Sys2Proof.Machine.execRefFailed s
  | .pllUnlocked => Sys2Proof.Machine.execPllUnlocked s
  | .hostLanePllFailed e => Sys2Proof.Machine.execHostLanePllFailed e s
  | .coldSwitch d rcReady => Sys2Proof.Machine.execColdSwitch d rcReady s
  | .warmSwitchDone d => Sys2Proof.Machine.execWarmSwitchDone d s
  | .clockReturn d => Sys2Proof.Machine.execClockReturn d s
  | .rcRetrim => Sys2Proof.Machine.execRcRetrim s
  | .ctlSourceWrite ch v => Sys2Proof.Machine.execCtlSourceWrite ch v s
  | .slowSourceWrite ch v => Sys2Proof.Machine.execSlowSourceWrite ch v s
  | .clkoutSelectWrite ch v => Sys2Proof.Machine.execClkoutSelectWrite ch v s
  | .clkoutDivideWrite ch v => Sys2Proof.Machine.execClkoutDivideWrite ch v s
  | .powerOnReset qualifies => Sys2Proof.Machine.execPowerOnReset qualifies s
  | .vinDip => Sys2Proof.Machine.execVinDip s
  | .resetNAssert => Sys2Proof.Machine.execResetNAssert s
  | .resetNRelease => Sys2Proof.Machine.execResetNRelease s
  | .powerOnCheckEnd => Sys2Proof.Machine.execPowerOnCheckEnd s
  | .rollbackBurn => Sys2Proof.Machine.execRollbackBurn s
  | .fuseBurnVerify g => Sys2Proof.Machine.execFuseBurnVerify g s
  | .powerRequestBoil ch => Sys2Proof.Machine.execPowerRequestBoil ch s
  | .powerRequestSimmer ch => Sys2Proof.Machine.execPowerRequestSimmer ch s
  | .powerRequestRest ch => Sys2Proof.Machine.execPowerRequestRest ch s
  | .pointOfNoReturn => Sys2Proof.Machine.execPointOfNoReturn s
  | .entryTimeout => Sys2Proof.Machine.execEntryTimeout s
  | .entryComplete => Sys2Proof.Machine.execEntryComplete s
  | .canWakePattern => Sys2Proof.Machine.execCanWakePattern s
  | .wakeIn => Sys2Proof.Machine.execWakeIn s
  | .powerReturnDone => Sys2Proof.Machine.execPowerReturnDone s
  | .sensorConversion readings => Sys2Proof.Machine.execSensorConversion readings s
  | .throttleStage2Check => Sys2Proof.Machine.execThrottleStage2Check s
  | .thermalShutdown sensor reading => Sys2Proof.Machine.execThermalShutdown sensor reading s
  | .thermalRestart => Sys2Proof.Machine.execThermalRestart s
  | .lifecycleRequestSealed ch => Sys2Proof.Machine.execLifecycleRequestSealed ch s
  | .lifecycleRequestReturned ch => Sys2Proof.Machine.execLifecycleRequestReturned ch s
  | .lifecycleRequestEnded ch => Sys2Proof.Machine.execLifecycleRequestEnded ch s
  | .returnTokenWrite ch data => Sys2Proof.Machine.execReturnTokenWrite ch data s
  | .timebaseGo ch => Sys2Proof.Machine.execTimebaseGo ch s
  | .levelsGo ch => Sys2Proof.Machine.execLevelsGo ch s
  | .lengthGo ch => Sys2Proof.Machine.execLengthGo ch s
  | .calibrationMeasurement m => Sys2Proof.Machine.execCalibrationMeasurement m s
  | .calibrationTimeout => Sys2Proof.Machine.execCalibrationTimeout s
  | .selfTestGo ch => Sys2Proof.Machine.execSelfTestGo ch s
  | .bayTestDone p expected found want done => Sys2Proof.Machine.execBayTestDone p expected found want done s
  | .recipeImageWrite ch image => Sys2Proof.Machine.execRecipeImageWrite ch image s
  | .standardUp p => Sys2Proof.Machine.execStandardUp p s
  | .standardLinkFail p cut => Sys2Proof.Machine.execStandardLinkFail p cut s
  | .standardPcsFrame p c bytes errored at_ => Sys2Proof.Machine.execStandardPcsFrame p c bytes errored at_ s
  | .leaderSilence p => Sys2Proof.Machine.execLeaderSilence p s
  | .errorPassive on => Sys2Proof.Machine.execErrorPassive on s
  | .vinFails cut => Sys2Proof.Machine.execVinFails cut s
  | .crystalFrequencyCheckFail => Sys2Proof.Machine.execCrystalFrequencyCheckFail s
  | .tapInstructionLoad instr => Sys2Proof.Machine.execTapInstructionLoad instr s
  | .trstNLow => Sys2Proof.Machine.execTrstNLow s

end Sys2Proof.Machine
end

