-- ==== Sys2Proof/Machine/Tick.lean ====
section
/-! DEFINITION. Tick.lean: what one cycle of SLOW does while no command waits: tally time advances by one cycle's nominal length
and TimebaseCorrection (R335), the seal unit's hash engine works (R253), and the echo taps are read 16 times in each comparison window (R232). Log entry 10. -/

namespace Sys2Proof.Machine

/-- R335: one SLOW cycle in units of 10⁻⁶ ns, with TimebaseCorrection in 10⁻⁹. -/
def slowCycle (s : State) : Nat := (1000000000 + s.cal.timebase).toNat

/-- R335: tally time after one SLOW cycle. -/
def advanceTally (s : State) : State :=
  let total := s.aon.frac + slowCycle s
  { s with aon := { s.aon with tally := (s.aon.tally + total / 1000000) % 2 ^ 64, frac := total % 1000000 } }

/-- R355, R360: a re-trim of RC, which stops it for at most 15 µs, has ended by the next SLOW cycle, and so has a CLKOUT held low for 4 RC
cycles. -/
def retrimOver (k : Clocks) : Clocks :=
  let k := { k with clkHold := false }
  if k.retrim then { k with retrim := false, rc := .running } else k

/-- R232: the echo taps of the ports that are up in an Etoon mode are read every 6.25 ms of tally time, 16 times in 100 ms. -/
def readEchoes (before : Nat) (s : State) : State :=
  if before / 6250000 = s.aon.tally / 6250000 then s
  else forPorts (fun p t =>
    match (if t.ports[p].link.up then etoonMode t.ports[p] else none) with
    | some m => modPort p (fun q => { q with sig := readTaps m q.dsp q.sig }) t
    | none => t) s

/-- R344, R357: the PLL of a host lane whose open waits: it starts once the block can be powered, and runs from the next SLOW cycle on. -/
def lanePllStep (p : PortId) (s : State) : State :=
  if s.gate.gates.getLsbD (8 + p.val) && !s.gate.isOpen.getLsbD (8 + p.val) && gateReady s (8 + p.val) then
    modClk (fun k => { k with hostPll := k.hostPll.modify p.val (fun x => match x with
      | .off => .starting
      | .starting => .running
      | .running => .running
      | .failed => .failed) }) s
  else s

/-- One SLOW cycle passes, if VIN supplies the always-on domain. A return ends with the cycle after the one in which CTL reached the PLL
(log entry 99). -/
def tick (s : State) : State :=
  if !s.pwr.on then s
  else
    let t := advanceTally s
    let t := forPorts lanePllStep { t with hashWork := hashRun hashPerTick t.hashWork, clk := retrimOver t.clk }
    readEchoes s.aon.tally (finishReturn (takeShadow (copyToMram t)))

end Sys2Proof.Machine
end

