-- ==== Sys2Proof/Machine/Step.lean ====
section
/-! DEFINITION. Step.lean: one step of the block takes the command at the front of the queue and runs it; on an
empty queue one SLOW cycle passes (log entry 10). -/

namespace Sys2Proof.Machine

/-- The command at the front of the queue, run with the queue's rest; an empty queue lets one SLOW cycle of
1 µs pass (R335). -/
def step (s : State) : Host.Outcome State Fault Refusal :=
  match s.pending with
  | [] => .next (tick s)
  | c :: rest => exec c { s with pending := rest }

/-- The state with the command that a table word spells put at the front of its queue. -/
def State.withFetchWord (s : State) (nbits w : Nat) : State :=
  match Sys2Proof.decodeTableWord nbits w with
  | some c => { s with pending := c :: s.pending }
  | none => s

end Sys2Proof.Machine
end

