-- ==== Sys2Proof/Safety.lean ====
section
/-! DEFINITION. Safety.lean: what a safe run keeps (queues within their capacities, fuses that only burn) and the frames in which
statements say what a command leaves alone. -/

namespace Sys2Proof.Machine

/-! ## Invariants -/

/-- R311, R330: the commit queue and the EMCY queue hold no more than their capacities. -/
def QueuesBounded (s : State) : Prop := s.crock.queue.length ≤ 1024 ∧ s.can.emcy.length ≤ 32

/-- R380, R385: a fuse cell after some steps: what was burned reads burned, what was marked bad stays bad, and no spent cell is
fresh again. -/
def CellKept (a b : Cell) : Prop :=
  (a.st = .burned → b.st = .burned) ∧ (a.st = .bad → b.st = .bad) ∧ (b.st = .fresh → a.st = .fresh)

/-- A row of cells, cell by cell. -/
def CellsKept (a b : List Cell) : Prop := a.length = b.length ∧ ∀ i, CellKept (a.getD i {}) (b.getD i {})

/-- R385, R394, R403, R342: the fuse array after some steps. -/
structure FusesKept (f g : Fuses) : Prop where
  sealed    : CellsKept f.sealed g.sealed
  bound     : CellsKept f.bound g.bound
  returned  : CellsKept f.returned g.returned
  ended     : CellsKept f.ended g.ended
  rebase    : CellsKept f.rebase g.rebase
  rollback  : CellsKept f.rollback g.rollback
  witness   : CellsKept f.witness g.witness
  calib     : CellsKept (f.calib.map CalSlot.cell) (g.calib.map CalSlot.cell)
  maker     : ∀ h, f.makerHash = some h → g.makerHash = some h
  workshop  : ∀ h, f.workshopHash = some h → g.workshopHash = some h

/-! ## Frames -/

/-- R331, R332: the records after a reset or a loss of power that may have cut a commit short (log entry 92): those that stood; those that
read, without the one in the slot of the commit in flight, if its word 0 was written; or these and the new record, if its true mark was. -/
def RecsCut (s t : State) : Prop :=
  t.crock.recs = s.crock.recs
    ∨ ∃ q slot, (s.crock.owed ++ s.crock.queue).head? = some q ∧ placeSlot (crockRead s.env s.crock) q.ev.sev.val = some slot
      ∧ (t.crock.recs = (crockRead s.env s.crock).recs.filter (fun r => r.slot != slot)
        ∨ t.crock.recs = (crockRead s.env s.crock).recs.filter (fun r => r.slot != slot)
            ++ [{ slot := slot, seq := nextSeq (crockRead s.env s.crock).newest, sev := q.ev.sev.val,
                  bytes := recordBytes q (nextSeq (crockRead s.env s.crock).newest) (crockRead s.env s.crock).headTag }])

/-- R380: an MRAM word of a reference or of a recipe bank that a fall of VIN may have cut short fails its check, as three wrong bits do; nothing
else of it has changed. -/
def RefCut (a b : RefCopies) : Prop := b = a ∨ b = { a with otherErrs := a.otherErrs ++ [3] }

/-- R380: the same of a recipe bank. -/
def BankCut (a b : Bank) : Prop := b = a ∨ b = { a with errs := a.errs ++ [3] }

/-- Nothing but port p has changed. -/
def OnlyPort (p : PortId) (s t : State) : Prop :=
  t = { s with ports := t.ports } ∧ ∀ q : PortId, q ≠ p → t.ports[q] = s.ports[q]

/-- Nothing but port p has changed, and what raised events change of the crock: its queue and its drop counts. -/
def OnlyPortEvents (p : PortId) (s t : State) : Prop :=
  t = { s with ports := t.ports, crock := { s.crock with
    queue := t.crock.queue, dropTally := t.crock.dropTally, droppedQ := t.crock.droppedQ } }
  ∧ ∀ q : PortId, q ≠ p → t.ports[q] = s.ports[q]

/-- The port of a command that comes from one port's line, lane, training, sieve or seal (chapters 03 to 10). -/
def lineCommand (c : Instr) : Option PortId :=
  match c with
  | .launchSlot p _ => some p
  | .dataShingle p _ _ _ _ => some p
  | .uncorrectableSlot p _ => some p
  | .idle p _ _ _ => some p
  | .nak p _ _ _ => some p
  | .lpiEntry p _ _ => some p
  | .lpiExit p _ _ => some p
  | .sleepRequest p _ _ => some p
  | .sleepAck p _ _ => some p
  | .sleepReject p _ _ => some p
  | .beaconFast p _ _ _ => some p
  | .beaconFull p _ _ _ => some p
  | .request p _ _ _ _ => some p
  | .accept p _ _ _ _ => some p
  | .refuse p _ _ _ _ => some p
  | .mark p _ _ _ _ => some p
  | .receiveEpoch p => some p
  | .epochExemptionEnd p => some p
  | .modeRequestRetry p => some p
  | .modePrepareDone p => some p
  | .autoDownshiftWindow p _ => some p
  | .replayTimer p _ _ => some p
  | .nakRepeat p _ _ => some p
  | .lossPasses p _ => some p
  | .hostFrameStart p _ => some p
  | .hostFrameData p _ _ => some p
  | .hostFrameEnd p _ => some p
  | .htxFrameBoundary p _ => some p
  | .pfcRepeat p _ => some p
  | .hostLaneDown e => some e.port
  | .hostLpiBegin p => some p
  | .hostLpiEnd p => some p
  | .hostIdleTimeout p => some p
  | .lpiEnter p => some p
  | .lpiRefresh p => some p
  | .energyDetect p => some p
  | .lpiFalseWake p => some p
  | .lpiRefreshMissed p => some p
  | .lockLoss p _ => some p
  | .adaptUpdate p _ => some p
  | .snapshotWindowEnd p => some p
  | .snapshotServe p => some p
  | .xtalkJoinDone p _ _ => some p
  | .xtalkJoinRetry p _ => some p
  | .autonegStart p => some p
  | .autonegResolve p _ _ _ => some p
  | .clause98Pages p => some p
  | .startCandidate p _ => some p
  | .startConfirmed p _ _ => some p
  | .falseStart p => some p
  | .preEmption p _ => some p
  | .exitCriterionMet p _ => some p
  | .periodBoundary p _ => some p
  | .phaseLimitExpiry p _ => some p
  | .relinkChoose p => some p
  | .snapshotReload p => some p
  | .echoChangeCheck p _ _ => some p
  | .fastRelinkLimit p _ => some p
  | .episodeLimit p => some p
  | .sleepWaitTimeout p => some p
  | .wakePulseDone p => some p
  | .interruptionEnd p => some p
  | .hostInCorruption p => some p
  | .hostOutCorruption p => some p
  | .provocationEpisodeEnd p => some p
  | .captureTimeout p _ => some p
  | .chainStart p => some p
  | .sealWindowEnd p => some p
  | .sealRoot p => some p
  | .standardUp p => some p
  | .standardLinkFail p _ => some p
  | .standardPcsFrame p _ _ _ _ => some p
  | .leaderSilence p => some p
  | _ => none

/-- Nothing but port p has changed, and what its bay hands to the device's services: events, a bay's result in a roll call with the
thermal order that waits for its end, draws of free values, frames to hash, measured loads, the end of the sieve's use, the gap that a calibration run waits for. -/
def PortFrame (p : PortId) (s t : State) : Prop :=
  t = { s with
    ports := t.ports, free := t.free, roll := t.roll, hashWork := t.hashWork, sieveHolder := t.sieveHolder
    bayLoads := t.bayLoads, battenLoads := t.battenLoads, peakLoad := t.peakLoad
    cal := { s.cal with run := t.cal.run }
    heat := { s.heat with orderDue := t.heat.orderDue }
    crock := { s.crock with queue := t.crock.queue, dropTally := t.crock.dropTally, droppedQ := t.crock.droppedQ } }
  ∧ ∀ q : PortId, q ≠ p → t.ports[q] = s.ports[q]

/-- R330, R342: the commit queue takes n more events: neither WITNESS_LOST nor its recovery stands (Tables 13-6 and 13-7), and it has room. -/
abbrev takesEvents (s : State) (n : Nat) : Prop :=
  s.aon.witnessLost = none ∧ s.crock.recovering = false ∧ s.crock.queue.length + n ≤ 1024

/-- The device runs: VIN is up, no reset is held, no thermal shutdown. -/
def running (s : State) : Bool := s.pwr.on && !s.pwr.inReset && !s.pwr.shutdown

/-! ## Who may write a port's objects (R296, R308, R319, R390) -/

/-- The dictionary answers the channel, the device is not in ENDED, and the channel owns the port or holds a WORKSHOP session. -/
def ownerWrites (s : State) (ch : Chan) (p : PortId) : Bool :=
  served s ch && decide (life s ≠ .ended) && (owns s ch p || hasWorkshop s ch)

/-- No ConfigLock covers the port for this channel. -/
def unlocked (s : State) (ch : Chan) (p : PortId) : Bool := !portLocked s p || hasSession s ch

/-- The dictionary answers the channel, the device is not in ENDED, and the channel holds a session. -/
def sessionWrites (s : State) (ch : Chan) : Bool := served s ch && decide (life s ≠ .ended) && hasSession s ch

/-- The sieve's objects may be written by the channel (R215): the sieve's gate is open, the session may provoke, no other channel
is Holder. -/
def sieveWrites (s : State) (ch : Chan) : Bool :=
  served s ch && decide (life s ≠ .ended) && s.gate.gates.getLsbD 16 && gateOpen s 16 && sieveRole ch s && !otherHolder ch s

/-- R288: no transfer of the channel's has run out of its 1000 ms before this cycle. -/
def inTime (s : State) (ch : Chan) : Bool :=
  (xferTarget s.chans[ch].xfer).isNone || decide (s.aon.tally ≤ s.chans[ch].heardAt + 1000000000)

/-- R281, R288: a frame on the channel's COB-ID, before its effect: it was received without error, and its time counts for the open transfer. -/
def framed (ch : Chan) (s : State) : State :=
  modChan ch (fun c => { c with heardAt := s.aon.tally }) { s with can := { s.can with out := [], goodFrame := true } }

/-- What a served request does before its effect: the channel's open transfer ends, the request is counted, and a frame was heard
(R281, R288, R309). -/
def requested (ch : Chan) (s : State) : State :=
  modChan ch (fun c => { c with xfer := .none, counters := bump 0 1 c.counters }) { s with can := { s.can with goodFrame := true } }

/-- What a request that succeeds does after its effect: the channel holds its response (R287). -/
def answered (ch : Chan) (s : State) : State := modChan ch (fun c => { c with resp := .ok }) s

/-- The same for a read, which answers data. -/
def answeredData (ch : Chan) (d : List Byte) (s : State) : State := modChan ch (fun c => { c with resp := .data d }) s

end Sys2Proof.Machine
end

