-- ==== Sys2Proof/Certificates/Slice0/Obligations.lean ====
section
/-! DEFINITION. Obligations.lean: what is claimed of the model, from the manual's rules. -/

open Sys2Proof Sys2Proof.Machine

/-! ## The block as a whole -/

/-- A step runs the command at the front of the queue on the state with the queue's rest; on an empty queue one SLOW cycle passes (log
entry 10): tally time advances by 1000 ns and TimebaseCorrection (R335), the hash engine works, a re-trim of RC and a CLKOUT held low are
over, the PLL of a host lane that may open starts or runs (R344), MRAM's copies and SHADOW fields follow the always-on values (R300, R305,
R336), a return whose dictionary is already served ends (R374, log entry 99), and every 6.25 ms the echo taps of the ports that are up are
read (log entry 86). -/
def Obligations.StepRunsFrontCommand : Prop :=
  ((∀ (c : Instr) (s : State), step { s with pending := c :: s.pending } = exec c s)
   ∧ ∀ (c : Instr) (rest : List Instr) (s : State), s.pending = c :: rest → step s = exec c { s with pending := rest })
  ∧ (∀ s : State, s.pending = [] →
       (s.pwr.on = false → step s = .next s)
       ∧ (s.pwr.on = true → step s = .next (readEchoes s.aon.tally (finishReturn (takeShadow (copyToMram (forPorts lanePllStep { s with
           aon := { s.aon with
             tally := (s.aon.tally + (s.aon.frac + (1000000000 + s.cal.timebase).toNat) / 1000000) % 2 ^ 64
             frac := (s.aon.frac + (1000000000 + s.cal.timebase).toNat) % 1000000 }
           hashWork := hashRun 3375 s.hashWork
           clk := { s.clk with
             clkHold := false, retrim := false, rc := if s.clk.retrim then .running else s.clk.rc } })))))))
  ∧ ∀ s : State, (takeShadow s).shadow = { aon := s.aon, clk := s.clk, pwr := s.pwr, heat := s.heat }
      ∧ (copyToMram s).copies = { offset := s.aon.offset, lockSecs := lockoutLeft s, authRun := s.aon.authRun }
      ∧ (s.pwr.state ≠ .boil ∨ s.pwr.transition ≠ some .boil → finishReturn s = s)

/-- No command stops the block: every command answers a next state in every state, and no command changes the queue of commands or what
the device's surroundings present to it. -/
def Obligations.EveryCommandAnswersANextState : Prop :=
  ∀ (c : Instr) (s : State), ∃ t, exec c s = .next t ∧ t.pending = s.pending ∧ t.env = s.env

/-- What happens on one port's line, lane, training, sieve or seal changes that port only, and what its bay hands to the device's services:
the other ports, the gates, the clocks, the power state, the fuses, the channels, the CAN stack and the recorder's records keep
their values (R8, R11). -/
def Obligations.LineCommandsStayInTheirPort : Prop :=
  ∀ (c : Instr) (p : PortId) (s t : State), lineCommand c = some p → exec c s = .next t → PortFrame p s t

/-- R311, R330: no step takes the commit queue past 1024 events or the EMCY queue past 32 messages; a VIN dip, after which every value is
undefined (R379), is left out. -/
def Obligations.QueuesStayBounded : Prop :=
  ∀ s t : State, QueuesBounded s → (∀ rest, s.pending ≠ .vinDip :: rest) → step s = .next t → QueuesBounded t

/-- R380, R385: no step undoes a fuse: in every group a burned cell stays burned, a bad one bad, a spent one spent, and the hashes once
burned stay; so the life-cycle state never goes back along MANUFACTURE, SEALED UNBOUND, SEALED BOUND, RETURNED, ENDED. -/
def Obligations.FusesOnlyBurn : Prop :=
  (∀ s t : State, step s = .next t → FusesKept s.fus t.fus)
  ∧ (∀ s t : State, step s = .next t → lifeCode (life s) ≤ lifeCode (life t))

/-! ## Receiving slots (chapters 04 and 06) -/

/-- R65, R87, R96 to R98, R225: a slot that passes its tests counts, and one that does not counts by its reason, restarts the receiver's run
and lengthens the link-fail run unless it is exempt, whose 8th in a row takes the link down; with the receiver's input cut by the sieve
no slot passes; no other port changes. -/
def Obligations.ReceivedSlots : Prop :=
  (∀ (s : State) (p : PortId) (a : AckBlock) (corr : Fin 9) (h : ShHdr) (payload body : List Byte) (at_ : Nat) (b : Bool)
     (m : EMode) (ep : Byte) (r : RefuseReason) (k : Fin 8),
     let slots := [Instr.dataShingle p h payload corr at_, .idle p b a corr, .nak p a body corr, .lpiEntry p a corr, .lpiExit p a corr,
       .sleepRequest p a corr, .sleepAck p a corr, .sleepReject p a corr, .request p m ep a corr, .accept p m ep a corr,
       .refuse p r ep a corr, .mark p k ep a corr]
     let beacons := [Instr.beaconFast p m a corr, .beaconFull p m a corr]
     let counts := fun c : Instr => ∃ t, exec c s = .next t
       ∧ t.ports[p].cnt.received = sat64 (s.ports[p].cnt.received + 1)
       ∧ t.ports[p].cnt.corrected = sat64 (s.ports[p].cnt.corrected + corr.val)
       ∧ t.ports[p].cnt.histogram = bump corr.val 1 s.ports[p].cnt.histogram
       ∧ t.ports[p].line.rxSlot = nextRxSlot s.ports[p]
       ∧ t.ports[p].dsp.lastBad = (s.ports[p].dsp.lastBad || decide (6 < corr.val))
       ∧ ∀ q : PortId, q ≠ p → t.ports[q] = s.ports[q]
     (collects s.ports[p] = true → inputCut s.ports[p] = false → ∀ c ∈ slots, counts c)
     ∧ (slotsRun s.ports[p] = true → inputCut s.ports[p] = false → ∀ c ∈ beacons, counts c)
     ∧ (collects s.ports[p] = true → partnerSilent s.ports[p] = false → inputCut s.ports[p] = true →
         ∀ c ∈ slots, exec c s = exec (.uncorrectableSlot p .rsFail) s))
  ∧ (∀ (s : State) (p : PortId) (r : UncReason), collects s.ports[p] = true → partnerSilent s.ports[p] = false →
       (∃ t, exec (.uncorrectableSlot p r) s = .next t
         ∧ t.ports[p].line.rxSlot = nextRxSlot s.ports[p]
         ∧ t.ports[p].train.goodRun = 0
         ∧ t.ports[p].dsp.lastBad = (s.ports[p].dsp.lastBad || rsBad r) ∧ t.ports[p].dsp.winClean = false
         ∧ (match r with
             | .rsFail => t.ports[p].cnt.rsFailures = sat32 (s.ports[p].cnt.rsFailures + 1)
             | .lockLost => t.ports[p].cnt.rsFailures = sat32 (s.ports[p].cnt.rsFailures + 1)
             | .escape k => t.ports[p].cnt.escapes = sat32 (s.ports[p].cnt.escapes + 1)
                 ∧ t.ports[p].cnt.histogram = bump k.val 1 s.ports[p].cnt.histogram
             | .unassigned k => t.ports[p].cnt.escapes = sat32 (s.ports[p].cnt.escapes + 1)
                 ∧ t.ports[p].cnt.histogram = bump k.val 1 s.ports[p].cnt.histogram
             | .crc k => t.ports[p].cnt.crcFailures = sat32 (s.ports[p].cnt.crcFailures + 1)
                 ∧ t.ports[p].cnt.histogram = bump k.val 1 s.ports[p].cnt.histogram)
         ∧ t.ports[p].cnt.received = s.ports[p].cnt.received
         ∧ (slotExempt s.ports[p].line = true → t.ports[p].cnt.exempt = sat32 (s.ports[p].cnt.exempt + 1))
         ∧ ∀ q : PortId, q ≠ p → t.ports[q] = s.ports[q])
       ∧ (slotExempt s.ports[p].line = false → s.ports[p].line.badRun < 7 →
           ∃ t, exec (.uncorrectableSlot p r) s = .next t ∧ OnlyPort p s t
             ∧ t.ports[p].line.badRun = s.ports[p].line.badRun + 1 ∧ t.ports[p].link = s.ports[p].link)
       ∧ (slotExempt s.ports[p].line = false → s.ports[p].line.badRun = 7 → s.ports[p].link.up = true →
           ∃ t, exec (.uncorrectableSlot p r) s = .next t
             ∧ t.ports[p].link.up = false ∧ t.ports[p].link.downCause = .uncorrectableRun ∧ t.ports[p].link.choosing = true
             ∧ t.ports[p].link.lastDown = s.aon.tally))

/-- R166, R169, R177, R179: what a data shingle does by the distance of its number from the next expected one: taken, held, a duplicate, out
of window, or discarded for want of a reorder slot, which leaves what comes before it missing. -/
def Obligations.DataShingleByDistance : Prop :=
  ∀ (s : State) (p : PortId) (h : ShHdr) (payload : List Byte) (corr : Fin 9) (at_ : Nat), receiving s.ports[p] = true →
    payload.length = 256 →
    let r := s.ports[p].rx[h.cls]
    let d := (h.seq - r.next).toNat
    let room := reorderRoom s.ports[p] h.cls
    let held := r.held.any (fun g => decide (g.seq = h.seq))
    let place := room = true ∨ (h.cls = 0 ∧ passesAtOnce s.ports[p] { seq := h.seq, hdr := h, payload := payload, at_ := at_ } = true)
      ∨ (h.cls ≠ 0 ∧ r.own.length < 4)
    ∃ t, exec (.dataShingle p h payload corr at_) s = .next t
      ∧ (d = 0 → place → r.held = [] → t.ports[p].rx[h.cls].next = h.seq + 1)
      ∧ (d = 0 → ¬ place → t.ports[p].rx = s.ports[p].rx
          ∧ t.ports[p].cnt.reorderDiscards = sat32 (s.ports[p].cnt.reorderDiscards + 1))
      ∧ (1 ≤ d → d < 4096 → held = false → room = true →
          t.ports[p].rx[h.cls].next = r.next
          ∧ t.ports[p].rx[h.cls].held.map HeldSh.seq = r.held.map HeldSh.seq ++ [h.seq])
      ∧ (12288 ≤ d ∨ (1 ≤ d ∧ d < 4096 ∧ held = true) →
          t.ports[p].rx = s.ports[p].rx ∧ t.ports[p].cnt.duplicates = bump h.cls.val 1 s.ports[p].cnt.duplicates)
      ∧ (4096 ≤ d → d < 12288 →
          t.ports[p].rx = s.ports[p].rx ∧ t.ports[p].cnt.outOfWindow = sat32 (s.ports[p].cnt.outOfWindow + 1))
      ∧ (1 ≤ d → d < 4096 → held = false → room = false →
          t.ports[p].rx[h.cls].held = r.held ∧ t.ports[p].rx[h.cls].next = r.next
          ∧ (r.next ∉ r.held.map HeldSh.seq → r.next ∈ missingSeqs t.ports[p].rx[h.cls])
          ∧ t.ports[p].cnt.reorderDiscards = sat32 (s.ports[p].cnt.reorderDiscards + 1))

/-- R161, R164, R167, R169, R171: the ack block of a control shingle frees, class by class, the launched shingles before the number it
gives, where that number lies from the oldest unacknowledged one to the next one to give; a NAK makes the launched shingles it names due,
a replay timer the one it names; a number still missing after ReplayTimer slots may be NAKed again. -/
def Obligations.AcksNaksAndReplays : Prop :=
  (∀ (s : State) (p : PortId) (b : Bool) (a : AckBlock) (corr : Fin 9) (c : Cls), receiving s.ports[p] = true →
     let x := s.ports[p].tx[c]
     let o := match x.launched with | e :: _ => e.seq | [] => x.next
     ∃ t, exec (.idle p b a corr) s = .next t
       ∧ t.ports[p].tx[c].next = x.next ∧ t.ports[p].tx[c].closed = x.closed
       ∧ t.ports[p].tx[c].launched =
           if (ackFor a c - o).toNat ≤ (x.next - o).toNat
           then x.launched.filter (fun e => !decide ((e.seq - o).toNat < (ackFor a c - o).toNat)) else x.launched)
  ∧ (∀ (s : State) (p : PortId) (c : Cls) (n : Seq) (a : AckBlock) (corr : Fin 9) (body : List Byte),
       (receiving s.ports[p] = true → ∀ e, e ∈ s.ports[p].tx[c].launched → ackFor a c = (match s.ports[p].tx[c].launched with | x :: _ => x.seq | [] => 0) →
         (∃ k : Nat, (c, e.seq, k + 1) ∈ nakEntries body) → e.unsent = false → e.lastReplay = none →
         ∃ t, exec (.nak p a body corr) s = .next t
           ∧ t.ports[p].tx[c].next = s.ports[p].tx[c].next
           ∧ t.ports[p].tx[c].launched.map LaunchedSh.seq = s.ports[p].tx[c].launched.map LaunchedSh.seq
           ∧ { e with due := true } ∈ t.ports[p].tx[c].launched)
       ∧ exec (.replayTimer p c n) s = .next (modTx p c (fun x => { x with launched := x.launched.map (fun e =>
           if e.seq = n ∧ e.unsent = false ∧ e.lastLaunch + s.ports[p].cfg.replayTimer ≤ s.ports[p].line.launches
           then { e with due := true } else e) }) s)
       ∧ (∃ t, exec (.nakRepeat p c n) s = .next t ∧ OnlyPort p s t
           ∧ t.ports[p].tx = s.ports[p].tx ∧ t.ports[p].cnt = s.ports[p].cnt ∧ t.ports[p].link = s.ports[p].link
           ∧ t.ports[p].rx[c].naked = s.ports[p].rx[c].naked.filter (fun k =>
               !(decide (k.1 = n) && decide (k.2 + s.ports[p].cfg.replayTimer ≤ s.ports[p].line.launches)))))

/-- R100, R103, R104, R129, R146, R147, R161: what LPI_ENTRY, LPI_EXIT, SLEEP_REQUEST (answered with SLEEP_ACK where LinkPolicy enables sleep and
R99 holds here, with SLEEP_REJECT otherwise), SLEEP_ACK and SLEEP_REJECT bring about, in an Etoon mode and under TC10 in 1000BASE-T1, and a relink beacon: it takes an up link down with its cause, tells a port whose relink is not yet
chosen what it asks for, and ends a fast relink, or a phase S, for a full retrain. -/
def Obligations.QuietSleepAndBeaconShingles : Prop :=
  (∀ (s : State) (p : PortId) (a : AckBlock) (corr : Fin 9),
     (receiving s.ports[p] = true →
       (∃ t, exec (.lpiEntry p a corr) s = .next t
         ∧ t.ports[p].line.partnerQuiet = true ∧ t.ports[p].line.wakeWindow = none
         ∧ (s.ports[p].link.up = true ∨ s.ports[p].train.partnerSynced = false → t.ports[p].link = s.ports[p].link))
       ∧ (∃ t, exec (.lpiExit p a corr) s = .next t ∧ t.ports[p].line.partnerQuiet = false
         ∧ (s.ports[p].link.up = true ∨ s.ports[p].train.partnerSynced = false → t.ports[p].link = s.ports[p].link))
       ∧ (s.ports[p].link.up = true →
           ∃ t, exec (.sleepRequest p a corr) s = .next t ∧ t.ports[p].line.partnerQuiet = true ∧ t.ports[p].link = s.ports[p].link
             ∧ t.ports[p].line.owed = s.ports[p].line.owed ++
                 [if s.ports[p].link.linkPolicy.getLsbD 2 && lpiOk (modPort p (fun q => { q with tx := t.ports[p].tx }) s) p
                  then .sleepAck else .sleepReject])
       ∧ (s.ports[p].link.up = true → s.ports[p].link.sleepSent = true →
           ∃ t, exec (.sleepAck p a corr) s = .next t
             ∧ t.ports[p].link.up = false ∧ t.ports[p].link.asleep = true ∧ t.ports[p].link.downCause = .sleep
             ∧ t.ports[p].line.driver = .zero)
       ∧ (∃ t, exec (.sleepReject p a corr) s = .next t
         ∧ t.ports[p].link.sleepSent = false ∧ t.ports[p].link.sleepWait = none
         ∧ (s.ports[p].link.up = true ∨ s.ports[p].train.partnerSynced = false → t.ports[p].link.up = s.ports[p].link.up)))
     ∧ (tc10Std s.ports[p] = true → inputCut s.ports[p] = false →
       (∃ t, exec (.sleepRequest p a corr) s = .next t
         ∧ t.ports[p].link.up = false ∧ t.ports[p].link.asleep = true ∧ t.ports[p].link.downCause = .sleep)
       ∧ (s.ports[p].link.sleepSent = true → ∃ t, exec (.sleepAck p a corr) s = .next t
         ∧ t.ports[p].link.up = false ∧ t.ports[p].link.asleep = true ∧ t.ports[p].link.downCause = .sleep)
       ∧ exec (.sleepReject p a corr) s = .next (modLink p (fun l => { l with sleepSent := false, sleepWait := none }) s)))
  ∧ (∀ (s : State) (p : PortId) (m cur : EMode) (a : AckBlock) (corr : Fin 9), etoonMode s.ports[p] = some cur →
       inputCut s.ports[p] = false →
       (s.ports[p].link.up = true →
         (∃ t, exec (.beaconFast p m a corr) s = .next t
           ∧ t.ports[p].link.up = false ∧ t.ports[p].link.downCause = .beaconFast ∧ t.ports[p].link.choosing = true
           ∧ t.ports[p].link.fullBeacon = false ∧ t.ports[p].link.beaconMode = some m)
         ∧ (∃ t, exec (.beaconFull p m a corr) s = .next t
           ∧ t.ports[p].link.up = false ∧ t.ports[p].link.downCause = .beaconFull ∧ t.ports[p].link.choosing = true
           ∧ t.ports[p].link.fullBeacon = true ∧ t.ports[p].link.beaconMode = some m))
       ∧ (s.ports[p].link.up = false → s.ports[p].link.choosing = true → slotsRun s.ports[p] = false →
         exec (.beaconFull p m a corr) s =
           .next (modLink p (fun l => { l with fullBeacon := true, beaconMode := some m }) (acceptBlock p a (modCnt p (countGood corr) s)))
         ∧ exec (.beaconFast p m a corr) s = .next (modLink p (fun l => { l with beaconMode := some m })
             (acceptBlock p a (modCnt p (countGood corr) s))))
       ∧ (s.ports[p].link.up = false → s.ports[p].link.choosing = false → s.ports[p].link.relink = some .fast →
           (slotsRun s.ports[p] = true ∨ awaiting s.ports[p] = true) → s.ports[p].link.cap = none →
         ∃ t, exec (.beaconFull p m a corr) s = .next t
           ∧ t.ports[p].link.phase = .q ∧ t.ports[p].link.relink = some .full ∧ t.ports[p].link.fastFailed = true
           ∧ t.ports[p].link.mode = some (.etoon (lowerMode cur m)))
       ∧ (s.ports[p].link.up = false → s.ports[p].link.choosing = false → s.ports[p].link.relink ≠ some .fast →
           s.ports[p].link.phase = .s → s.ports[p].train.restartAfter = 0 → s.ports[p].link.cap = none →
         ∃ t, exec (.beaconFull p m a corr) s = .next t
           ∧ t.ports[p].link.phase = .q ∧ t.ports[p].link.relink = some .full ∧ t.ports[p].link.mode = some (.etoon (lowerMode cur m))))

/-- R122: a synced receiver that decodes IDLE with SYNCED set, or that decoded it before and then a data shingle, brings the link up: its state,
its instant and the LINK_UP record. -/
def Obligations.IdleBringsTheLinkUp : Prop :=
  ∀ (s : State) (p : PortId) (a : AckBlock) (corr : Fin 9) (h : ShHdr) (payload : List Byte) (at_ : Nat),
    receiving s.ports[p] = true → s.ports[p].link.phase = .s → s.ports[p].link.up = false → s.ports[p].train.synced = true →
    s.ports[p].dsp.locked = true → portClocked s p = true → takesEvents s 1 →
    ∀ c : Instr, (c = .idle p true a corr ∨ c = .dataShingle p h payload corr at_ ∧ s.ports[p].train.partnerSynced = true) →
    ∃ t, exec c s = .next t
      ∧ t.ports[p].link.up = true ∧ t.ports[p].link.phase = .up ∧ t.ports[p].link.lastUp = s.aon.tally
      ∧ t.ports[p].link.episode = none ∧ t.ports[p].link.relink = none ∧ t.ports[p].link.cap = none
      ∧ ∃ e, t.crock.queue = s.crock.queue ++ [stampEv s e] ∧ e.src = .bay p ∧ e.code = 0x0001 ∧ e.sev = 1

/-! ## Changing mode, quiet and launching (chapters 04 to 06) -/

/-- R142, R143, R145, R163: what a REQUEST, an ACCEPT, a REFUSE and a MARK of the partner bring about in this end's mode change. -/
def Obligations.ModeChangeShingles : Prop :=
  ∀ (s : State) (p : PortId) (m cur : EMode) (ep : Byte) (r : RefuseReason) (k : Fin 8) (a : AckBlock) (corr : Fin 9),
    receiving s.ports[p] = true → s.ports[p].link.up = true → etoonMode s.ports[p] = some cur →
    (s.ports[p].mc.role = .none → refuseReason s p cur m = none →
      ∃ t, exec (.request p m ep a corr) s = .next t
        ∧ t.ports[p].mc = { role := .responder, target := m, old := cur, epoch := ep }
        ∧ t.ports[p].link.mcStatus = .preparing ∧ t.ports[p].link.mode = s.ports[p].link.mode)
    ∧ (∀ why, s.ports[p].mc.role = .none → refuseReason s p cur m = some why →
      ∃ t, exec (.request p m ep a corr) s = .next t
        ∧ t.ports[p].line.owed = s.ports[p].line.owed ++ [.refuse why ep] ∧ t.ports[p].mc = s.ports[p].mc
        ∧ t.ports[p].link.counters = bump 9 1 s.ports[p].link.counters)
    ∧ (s.ports[p].mc.role = .requester → s.ports[p].mc.accepted = false → s.ports[p].mc.epoch = ep →
        s.ports[p].mc.target = m → s.ports[p].mc.prepared = false →
      ∃ t, exec (.accept p m ep a corr) s = .next t
        ∧ t.ports[p].mc = { s.ports[p].mc with accepted := true } ∧ t.ports[p].link.mcStatus = .preparing)
    ∧ (s.ports[p].mc.role = .requester → s.ports[p].mc.accepted = true → s.ports[p].mc.epoch = ep →
      ∃ t, exec (.request p m ep a corr) s = .next t ∧ t.ports[p].mc = s.ports[p].mc ∧ t.ports[p].line.owed = s.ports[p].line.owed)
    ∧ (s.ports[p].mc.role = .requester → s.ports[p].mc.accepted = false → s.ports[p].mc.epoch = ep →
      ∃ t, exec (.refuse p r ep a corr) s = .next t
        ∧ t.ports[p].mc = {} ∧ t.ports[p].link.mcStatus = .refusedByPartner ∧ t.ports[p].link.mode = s.ports[p].link.mode
        ∧ t.ports[p].link.counters = bump 9 1 s.ports[p].link.counters)
    ∧ (s.ports[p].mc.role ≠ .none → s.ports[p].mc.epoch = ep → s.ports[p].mc.rxPassed = false →
      ∃ t, exec (.mark p k ep a corr) s = .next t
        ∧ t.ports[p].mc.rxMark = some (k.val + 1) ∧ t.ports[p].mc.accepted = true ∧ t.ports[p].link.mcStatus = .counting
        ∧ (s.ports[p].link.leader = false → s.ports[p].mc.prepared = true → s.ports[p].mc.marks = none → s.ports[p].mc.txPassed = false →
            t.ports[p].mc.marks = some 8))

/-- R140 to R144: this end's own part of a mode change: preparation done, a request sent again or given up, the received epoch, at which the
receiver takes the target's rate and filters, and the 256 slots after it, the mode that is active once both epochs have passed, and AUTO_DOWNSHIFT's own request. -/
def Obligations.ModeChangeProgress : Prop :=
  (∀ (s : State) (p : PortId),
     (s.ports[p].mc.role = .responder → s.ports[p].mc.prepared = false →
       exec (.modePrepareDone p) s = .next (modPort p (fun q => { q with
         mc := { q.mc with prepared := true }
         line := { q.line with owed := q.line.owed ++ [.accept q.mc.target q.mc.epoch] } }) s))
     ∧ (s.ports[p].mc.role = .requester → s.ports[p].mc.accepted = false → s.ports[p].mc.requests < 4 →
       exec (.modeRequestRetry p) s = .next (modPort p (fun q => { q with
         mc := { q.mc with requests := q.mc.requests + 1 }
         line := { q.line with owed := q.line.owed ++ [.request q.mc.target q.mc.epoch] } }) s))
     ∧ (s.ports[p].mc.role = .requester → s.ports[p].mc.accepted = false → 4 ≤ s.ports[p].mc.requests →
       ∃ t, exec (.modeRequestRetry p) s = .next t
         ∧ t.ports[p].mc = {} ∧ t.ports[p].link.mcStatus = .noAnswer ∧ t.ports[p].link.mode = s.ports[p].link.mode)
     ∧ (s.ports[p].mc.role ≠ .none → s.ports[p].mc.rxMark.isSome = true → s.ports[p].mc.txPassed = false →
       exec (.receiveEpoch p) s = .next (xtalkBoundary p (modPort p (fun q => { q with
         mc := { q.mc with rxMark := none, rxPassed := true }
         dsp := mcLoad q
         line := { q.line with epochExempt := 256 }
         link := { q.link with epoch := q.link.epoch + 1 } }) s)))
     ∧ (s.ports[p].mc.role ≠ .none → s.ports[p].mc.rxMark.isSome = true → s.ports[p].mc.txPassed = true →
       ∃ t, exec (.receiveEpoch p) s = .next t
         ∧ t.ports[p].link.mode = some (.etoon s.ports[p].mc.target) ∧ t.ports[p].link.mcStatus = .done ∧ t.ports[p].mc = {}
         ∧ t.ports[p].link.epoch = s.ports[p].link.epoch + 1 ∧ t.ports[p].line.epochExempt = 256
         ∧ t.ports[p].link.counters = bump 8 1 s.ports[p].link.counters)
     ∧ exec (.epochExemptionEnd p) s = .next (modLine p (fun l => { l with epochExempt := 0 }) s))
  ∧ (∀ (s : State) (p : PortId) (snr : Int) (m target : EMode),
       (s.ports[p].link.up = true → s.ports[p].link.linkPolicy.getLsbD 0 = true → (snr < 2000 ∨ 64 ≤ s.ports[p].line.bad100) →
         s.ports[p].mc.role = .none → etoonMode s.ports[p] = some m → lowerOffered s.ports[p] m = some target →
         mcObstacle s p m target = none →
         exec (.autoDownshiftWindow p snr) s = .next (modPort p (fun q => { q with
           mc := { role := .requester, target := target, old := m, epoch := q.link.epoch + 1, requests := 1 }
           link := { q.link with mcStatus := .requested }
           line := { q.line with bad100 := 0, owed := q.line.owed ++ [.request target (q.link.epoch + 1)] } }) s))
       ∧ (2000 ≤ snr → s.ports[p].line.bad100 < 64 →
         exec (.autoDownshiftWindow p snr) s = .next (modLine p (fun l => { l with bad100 := 0 }) s)))

/-- R98 to R104, R43, R96, R127: entry to quiet with LPI_ENTRY, quiet from the next boundary, the refresh, the wake window that energy opens, a
false wake, a refresh that does not come; and a lock criterion that fails, which ends lock and, on a port that is up, the link. -/
def Obligations.QuietPeriodsAndLockLoss : Prop :=
  (∀ (s : State) (p : PortId),
     (s.ports[p].line.txLpi = .active → lpiOk s p = true →
       ∃ t, exec (.lpiEnter p) s = .next t
         ∧ t.ports[p].line.txLpi = .entering ∧ t.ports[p].line.wakeWanted = false
         ∧ t.ports[p].line.launches = s.ports[p].line.launches + 1
         ∧ t.ports[p].line.last.bind Launched.control = some (ctlArg .lpiEntry)
         ∧ t.ports[p].cnt.quietEntries = s.ports[p].cnt.quietEntries)
     ∧ (∀ at_, s.ports[p].link.up = true → (etoonMode s.ports[p]).isSome = true → s.ports[p].line.txLpi = .entering →
         s.ports[p].line.owed = [] → s.ports[p].link.sleepWait = none → s.ports[p].mc.marks = none →
         s.ports[p].sieve.intWaiting = false →
       (s.ports[p].line.wakeWanted = false → lpiOk s p = true → ∃ t, exec (.launchSlot p at_) s = .next t
         ∧ t.ports[p].line.txLpi = .quiet ∧ t.ports[p].cnt.quietEntries = sat32 (s.ports[p].cnt.quietEntries + 1)
         ∧ t.ports[p].line.last = none ∧ t.ports[p].line.launches = s.ports[p].line.launches
         ∧ t.ports[p].line.released = (.quiet 720 :: s.ports[p].line.released).take 8)
       ∧ (s.ports[p].line.wakeWanted = true ∨ lpiOk s p = false → ∃ t, exec (.launchSlot p at_) s = .next t
         ∧ t.ports[p].line.txLpi = .waking 3 ∧ t.ports[p].cnt.quietEntries = s.ports[p].cnt.quietEntries
         ∧ t.ports[p].line.last.bind Launched.control = some (ctlArg (.idle true))))
     ∧ (s.ports[p].line.txLpi = .quiet → s.ports[p].line.wakeWanted = false →
       exec (.lpiRefresh p) s = .next (modLine p (fun l => { l with txLpi := .refresh 16 }) s))
     ∧ (s.ports[p].line.partnerQuiet = true →
       exec (.energyDetect p) s =
         .next (modLine p (fun l => { l with wakeWindow := some 0, wakeDecoded := false, wakeSlot := l.rxSlot }) s))
     ∧ (∀ n, s.ports[p].line.partnerQuiet = true → s.ports[p].line.wakeDecoded = false → s.ports[p].line.wakeWindow = some n → n ≤ 4 →
       exec (.lpiFalseWake p) s = .next (modPort p (fun q => { q with
         cnt := { q.cnt with falseWakes := sat32 (q.cnt.falseWakes + 1) }
         line := { q.line with wakeWindow := none, rxSlot := q.line.wakeSlot } }) s))
     ∧ (s.ports[p].line.partnerQuiet = true → s.ports[p].line.wakeWindow = none → s.ports[p].link.up = true →
       ∃ t, exec (.lpiRefreshMissed p) s = .next t
         ∧ t.ports[p].cnt.refreshMissed = sat32 (s.ports[p].cnt.refreshMissed + 1) ∧ t.ports[p].dsp.locked = false
         ∧ t.ports[p].link.up = false ∧ t.ports[p].link.downCause = .refreshMissed ∧ t.ports[p].link.choosing = true
         ∧ t.ports[p].link.lastDown = s.aon.tally))
  ∧ (∀ (s : State) (p : PortId), (etoonMode s.ports[p]).isSome = true →
       (s.ports[p].link.up = true →
         (64 ≤ s.ports[p].dsp.chain.outside → ∃ t, exec (.lockLoss p .frequency) s = .next t
           ∧ t.ports[p].dsp.locked = false ∧ t.ports[p].link.up = false ∧ t.ports[p].link.downCause = .lockFrequency
           ∧ (partnerSilent s.ports[p] = false → t.ports[p].cnt.rsFailures = sat32 (s.ports[p].cnt.rsFailures + 1)))
         ∧ (snrSuspended s.ports[p] = false → 4096 ≤ s.ports[p].dsp.chain.meas.length → snrLocks s.ports[p].dsp = false →
           ∃ t, exec (.lockLoss p .snr) s = .next t
           ∧ t.ports[p].dsp.locked = false ∧ t.ports[p].link.up = false ∧ t.ports[p].link.downCause = .lockSnr))
       ∧ (s.ports[p].dsp.chain.outside < 64 → exec (.lockLoss p .frequency) s = .next s)
       ∧ (snrSuspended s.ports[p] = true ∨ s.ports[p].dsp.chain.meas.length < 4096 ∨ snrLocks s.ports[p].dsp = true →
           exec (.lockLoss p .snr) s = .next s))

/-- R87, R168, R170, R171: at every slot boundary of a port that is up in an Etoon mode and not quiet, exactly one shingle goes out: the first item
that the port holds of what an active sequence demands; for class 0 the oldest shingle due for replay, or else a first launch with the class's
next number; an owed NAK; the same for classes 1, 2 and 3, in this order; or IDLE. Here no sieve kind is live, and no frame's loss waits. -/
def Obligations.EverySlotLaunchesOneShingle : Prop :=
  (∀ (s : State) (p : PortId) (at_ : Nat), s.ports[p].link.up = true → (etoonMode s.ports[p]).isSome = true →
      s.ports[p].line.txLpi = .active →
      (∀ c n k, s.ports[p].sieve.swapOut = some (c, n, k) → n ∈ s.ports[p].tx[c].launched.map LaunchedSh.seq) →
      ∃ t, exec (.launchSlot p at_) s = .next t
        ∧ t.ports[p].line.launches = s.ports[p].line.launches + 1
        ∧ t.ports[p].cnt.sent = sat64 (s.ports[p].cnt.sent + 1))
  ∧ (∀ (s : State) (p : PortId) (at_ : Nat), s.ports[p].link.up = true → (etoonMode s.ports[p]).isSome = true →
      s.ports[p].line.txLpi = .active → s.ports[p].sieve.live = 0 → s.ports[p].sieve.disarms = [] → s.ports[p].sieve.intWaiting = false →
      s.ports[p].sieve.swapOut = none → s.ports[p].link.sleepWait = none → (∀ c : Cls, s.ports[p].tx[c].owedLoss = []) →
      let q := s.ports[p]
      let control := fun (t : State) (k : Ctl) => t.ports[p].line.last.bind Launched.control = some (ctlArg k)
          ∧ t.ports[p].line.txSlot = q.line.txSlot + 1 ∧ t.ports[p].tx = q.tx
      (∀ k, q.mc.marks = some (k + 1) → ∃ t, exec (.launchSlot p at_) s = .next t ∧ control t (.mark (k + 1) q.mc.epoch)
        ∧ t.ports[p].mc = { q.mc with marks := some k } ∧ t.ports[p].line.owed = q.line.owed)
      ∧ (q.mc.marks = none →
        (∀ rest, (∀ m ep, q.line.owed = .request m ep :: rest →
            ∃ t, exec (.launchSlot p at_) s = .next t ∧ control t (.request m ep) ∧ t.ports[p].line.owed = rest)
          ∧ (∀ r ep, q.line.owed = .refuse r ep :: rest →
            ∃ t, exec (.launchSlot p at_) s = .next t ∧ control t (.refuse r ep) ∧ t.ports[p].line.owed = rest)
          ∧ (q.line.owed = .sleepReject :: rest →
            ∃ t, exec (.launchSlot p at_) s = .next t ∧ control t .sleepReject ∧ t.ports[p].line.owed = rest)
          ∧ (q.line.owed = .sleepRequest :: rest → ∃ t, exec (.launchSlot p at_) s = .next t ∧ control t .sleepRequest
            ∧ t.ports[p].line.txLpi = .entering ∧ t.ports[p].link.sleepSent = true)
          ∧ (q.line.owed = .sleepAck :: rest → ∃ t, exec (.launchSlot p at_) s = .next t ∧ t.ports[p].link.up = false
            ∧ t.ports[p].link.asleep = true ∧ t.ports[p].link.downCause = .sleep ∧ t.ports[p].line.driver = .zero))
        ∧ (q.line.owed = [] →
          (∀ c : Cls, (∀ d : Cls, d < c → classReady q d = false) → (c ≠ 0 → nakList q = []) →
            (∀ e, dueOf q.tx[c] = some e → e.unsent = false → ∃ t x, exec (.launchSlot p at_) s = .next t
              ∧ t.ports[p].line.last = some x ∧ x.control = none ∧ x.cls = c ∧ x.seq = e.seq
              ∧ t.ports[p].tx[c].next = q.tx[c].next ∧ t.ports[p].tx[c].closed = q.tx[c].closed
              ∧ t.ports[p].tx[c].launched.map LaunchedSh.seq = q.tx[c].launched.map LaunchedSh.seq
              ∧ t.ports[p].cnt.replays = bump c.val 1 q.cnt.replays)
            ∧ (∀ w rest, dueOf q.tx[c] = none → q.tx[c].gapRec = none → q.tx[c].closed = w :: rest → w.held = false →
                q.tx[c].launched.length < 4096 → ∃ t x, exec (.launchSlot p at_) s = .next t
              ∧ t.ports[p].line.last = some x ∧ x.control = none ∧ x.cls = c ∧ x.seq = q.tx[c].next
              ∧ t.ports[p].tx[c].next = q.tx[c].next + 1 ∧ t.ports[p].tx[c].closed = rest
              ∧ t.ports[p].tx[c].launched.map LaunchedSh.seq = q.tx[c].launched.map LaunchedSh.seq ++ [q.tx[c].next]
              ∧ t.ports[p].cnt.replays = q.cnt.replays))
          ∧ (classReady q 0 = false → nakList q ≠ [] → ∃ t, exec (.launchSlot p at_) s = .next t ∧ control t (.nak (nakList q)))
          ∧ ((∀ c : Cls, classReady q c = false) → nakList q = [] →
            ∃ t, exec (.launchSlot p at_) s = .next t ∧ control t (.idle true)))))
  ∧ (∀ (s : State) (p : PortId) (at_ : Nat), inStd s.ports[p] = false → s.ports[p].link.up = false → s.ports[p].link.phase ≠ .s →
      beaconOwed s.ports[p] = false →
      exec (.launchSlot p at_) s = .next (modLine p (fun l => { l with driver := if l.driver = .zero then .off else l.driver }) s))

/-! ## The DSP (chapter 03) -/

/-- R40 to R50, R62 to R67: one shingle's samples through the receive chain: LOCKED, the estimates and the coefficients of port p alone may
change; a bad decode discards the updates and is counted; while adaptation pauses nothing adapts; HOLD keeps the equaliser, its three
feedback taps and the level spacing, and a refresh the feedback taps and the trims. -/
def Obligations.AdaptationByShingle : Prop :=
  ∀ (s : State) (p : PortId) (u : AdaptIn) (m : EMode),
    (rxMode s.ports[p] = none → exec (.adaptUpdate p u) s = .next s)
    ∧ (rxMode s.ports[p] = some m →
      ∃ t, exec (.adaptUpdate p u) s = .next t ∧ OnlyPort p s t ∧ t.ports[p] = { s.ports[p] with dsp := t.ports[p].dsp }
        ∧ t.ports[p].dsp.near = u.near ∧ t.ports[p].dsp.far = u.far ∧ t.ports[p].dsp.xtalk = u.xtalk ∧ t.ports[p].dsp.lastBad = false
        ∧ t.ports[p].dsp.freq = freqOf s.ports[p].link.leader t.ports[p].dsp
        ∧ t.ports[p].dsp.tapAtLimit = dfeAtLimit t.ports[p].dsp.dfe
        ∧ (s.ports[p].dsp.locked = true → t.ports[p].dsp.locked = true)
        ∧ (silentByPlan s.ports[p] = true → t.ports[p].dsp.locked = s.ports[p].dsp.locked)
        ∧ (s.ports[p].dsp.lastBad = true →
            t.ports[p].dsp.freezeCount = sat32 (s.ports[p].dsp.freezeCount + 1) ∧ t.ports[p].dsp.adapting = false
            ∧ (u.samples.length ≤ 720 → clamp24 s.ports[p].dsp.ffe = s.ports[p].dsp.ffe → clampDfe s.ports[p].dsp.dfe = s.ports[p].dsp.dfe →
                clamp24 s.ports[p].dsp.ne = s.ports[p].dsp.ne →
              t.ports[p].dsp.ffe = s.ports[p].dsp.ffe ∧ t.ports[p].dsp.dfe = s.ports[p].dsp.dfe ∧ t.ports[p].dsp.ne = s.ports[p].dsp.ne
              ∧ t.ports[p].dsp.d = s.ports[p].dsp.d ∧ t.ports[p].dsp.trims = s.ports[p].dsp.trims))
        ∧ (s.ports[p].dsp.lastBad = false → t.ports[p].dsp.freezeCount = s.ports[p].dsp.freezeCount
            ∧ t.ports[p].dsp.adapting = !adaptPaused s.ports[p])
        ∧ (adaptPaused s.ports[p] = true →
            t.ports[p].dsp.ffe = s.ports[p].dsp.ffe ∧ t.ports[p].dsp.dfe = s.ports[p].dsp.dfe ∧ t.ports[p].dsp.d = s.ports[p].dsp.d
            ∧ t.ports[p].dsp.ne = s.ports[p].dsp.ne ∧ t.ports[p].dsp.farEcho = s.ports[p].dsp.farEcho
            ∧ t.ports[p].dsp.xtalks = s.ports[p].dsp.xtalks ∧ t.ports[p].dsp.trims = s.ports[p].dsp.trims
            ∧ t.ports[p].dsp.loopInteg = s.ports[p].dsp.loopInteg)
        ∧ (holdInEffect s.ports[p] = true → s.ports[p].link.phase = .up →
            t.ports[p].dsp.ffe = s.ports[p].dsp.ffe ∧ t.ports[p].dsp.dfe = s.ports[p].dsp.dfe ∧ t.ports[p].dsp.d = s.ports[p].dsp.d)
        ∧ (refreshOnly s.ports[p] = true → s.ports[p].link.phase = .up →
            t.ports[p].dsp.dfe = s.ports[p].dsp.dfe ∧ t.ports[p].dsp.trims = s.ports[p].dsp.trims ∧ t.ports[p].dsp.d = s.ports[p].dsp.d))

/-- R59, R68, R69, R75: at a whole millisecond a clean whole window puts a snapshot of the running filters first in its mode's pair, a
SNAPSHOT_GO is judged over the running window; a crosstalk join that reaches 6 dB within 5 ms is added, one that does not starts again
from zero. -/
def Obligations.SnapshotsAndCrosstalkJoins : Prop :=
  (∀ (s : State) (p : PortId) (m : EMode), rxMode s.ports[p] = some m →
     (s.ports[p].dsp.winIndex < s.aon.tally / 1000000 →
       (s.ports[p].link.up = true → windowClean s.ports[p] = true → s.ports[p].dsp.winWhole = true →
         ∃ t, exec (.snapshotWindowEnd p) s = .next t
           ∧ snapSlots t.ports[p].store m = (snapshotOf s p m :: snapSlots s.ports[p].store m).take 2
           ∧ t.ports[p].dsp.snapSinceUp = true ∧ t.ports[p].dsp.winIndex = s.aon.tally / 1000000
           ∧ (∀ n, n ≠ m → snapSlots t.ports[p].store n = snapSlots s.ports[p].store n) ∧ t.ports[p].dsp.winClean = true)
       ∧ (windowClean s.ports[p] = false ∨ s.ports[p].dsp.winWhole = false →
         ∃ t, exec (.snapshotWindowEnd p) s = .next t ∧ t.ports[p].store = s.ports[p].store ∧ t.ports[p].dsp.winClean = true
           ∧ t.ports[p].dsp.winWhole = s.ports[p].link.up ∧ t.ports[p].dsp.winLocked = s.ports[p].dsp.locked
           ∧ t.ports[p].dsp.winIndex = s.aon.tally / 1000000))
     ∧ (s.aon.tally / 1000000 ≤ s.ports[p].dsp.winIndex → exec (.snapshotWindowEnd p) s = .next s)
     ∧ (s.ports[p].dsp.snapGo = true →
       ∃ t, exec (.snapshotServe p) s = .next t
         ∧ t.ports[p].dsp.snapGo = false
         ∧ (s.ports[p].link.up = true → windowClean s.ports[p] = true → (etoonMode s.ports[p]).isSome = true →
             snapSlots t.ports[p].store m = (snapshotOf s p m :: snapSlots s.ports[p].store m).take 2 ∧ t.ports[p].dsp.snapRefused = false)
         ∧ (s.ports[p].link.up = false ∨ windowClean s.ports[p] = false →
             t.ports[p].store = s.ports[p].store ∧ t.ports[p].dsp.snapRefused = true)))
  ∧ (∀ (s : State) (p m : PortId) (db : Int), s.ports[p].dsp.joins.getD m.val .none = .joining →
       (600 ≤ db → xtalkWanted s p m = true → joinOpen s p m = true →
         exec (.xtalkJoinDone p m db) s = .next (modDsp p (fun d => { d with joins := d.joins.set m.val .cancelling }) s))
       ∧ (db < 600 → exec (.xtalkJoinDone p m db) s = .next s)
       ∧ (joinOpen s p m = true → exec (.xtalkJoinRetry p m) s = .next s)
       ∧ (joinOpen s p m = false → exec (.xtalkJoinDone p m db) s = .next s
         ∧ exec (.xtalkJoinRetry p m) s = .next (modDsp p (fun d => { d with
             joinRetries := sat32 (d.joinRetries + 1), xtalks := d.xtalks.set m.val {}
             joinSince := d.joinSince.set m.val s.aon.tally }) s)))

/-! ## Bringing a link up and down (chapter 05) -/

/-- R109, R110, R204, R426: auto-negotiation starts on a port that is down with nothing under way: the shingle layer starts afresh, both
seeds are drawn (log entry 3: the draws are free values), and the offer, the pages to send and the role to force are set. -/
def Obligations.AutonegStartsAfresh : Prop :=
  ∀ (s : State) (p : PortId),
    s.ports[p].link.up = false → s.ports[p].link.choosing = false → s.ports[p].link.phase = .disabled ∨ s.ports[p].link.phase = .autoneg →
    (autonegAllowed s p = true → ∃ t, exec (.autonegStart p) s = .next t
      ∧ t.ports[p].link.phase = .autoneg ∧ t.ports[p].link.relink = some .autoneg ∧ t.ports[p].link.mode = none
      ∧ t.ports[p].link.epoch = 0 ∧ t.ports[p].link.offer = offerNow s.ports[p] ∧ t.ports[p].link.forced = forcedRole s.ports[p]
      ∧ t.ports[p].link.ownAbil = ownAbility s.ports[p] ∧ t.ports[p].link.np = offersEtoon (offerNow s.ports[p])
      ∧ t.ports[p].link.pagesSent = nextPages (activeBank s.rcp) (offerNow s.ports[p]) (ownAbility s.ports[p])
          (BitVec.ofNat 12 (Config.drbg s.free)) s.ports[p].dsp.neighbours
      ∧ t.ports[p].link.ownSeed = BitVec.ofNat 12 (Config.drbg s.free) ∧ t.ports[p].link.clauseSeed = Config.drbg (s.free + 1)
      ∧ t.free = s.free + 2 ∧ t.ports[p].link.counters = bump 4 1 s.ports[p].link.counters
      ∧ (∀ c : Cls, t.ports[p].tx[c] = {} ∧ t.ports[p].rx[c].next = 0 ∧ t.ports[p].rx[c].held = [] ∧ t.ports[p].rx[c].unfinished = none)
      ∧ t.ports[p].line.owed = [])
    ∧ (autonegAllowed s p = false → exec (.autonegStart p) s = .next s)

/-- R111 to R115: what auto-negotiation resolves, where the Clause 98 outcome can follow from the role forced: an Etoon mode with its versions,
role and seed, then phase Q; else a standard mode; else no common mode; a configuration fault resolves nothing. -/
def Obligations.AutonegResolves : Prop :=
  ∀ (s : State) (p : PortId) (pages : PartnerPages) (std : BitVec 5) (ms : MsOutcome),
    s.ports[p].link.phase = .autoneg → s.ports[p].link.up = false → inputCut s.ports[p] = false →
    (msPossible s.ports[p].link.forced ms = false → exec (.autonegResolve p pages std ms) s = .next s)
    ∧ (msPossible s.ports[p].link.forced ms = true →
      (ms = .fault → ∃ t, exec (.autonegResolve p pages std ms) s = .next t ∧ OnlyPort p s t
        ∧ t.ports[p].link.failReason = .msFault ∧ t.ports[p].link.phase = .autoneg
        ∧ t.ports[p].link.msBackOff = decide (s.ports[p].link.leaderPolicy = 0))
      ∧ (∀ w m lv sv, ms ≠ .fault → pages = .wenvo w → resolveEtoon s.ports[p] (activeBank s.rcp) (some w) = some (m, lv, sv) →
        ∃ t, exec (.autonegResolve p pages std ms) s = .next t
          ∧ t.ports[p].link.phase = .q ∧ t.ports[p].link.mode = some (.etoon m) ∧ t.ports[p].link.leader = decide (ms = .master)
          ∧ t.ports[p].link.lineVersion = versionWord lv ∧ t.ports[p].link.shVersion = versionWord sv ∧ t.ports[p].link.epoch = 0
          ∧ t.ports[p].link.seed = (if ms = .master then s.ports[p].link.ownSeed else w.seed)
          ∧ t.ports[p].link.partnerLine = partnerWord (pagesLine w) ∧ t.ports[p].link.partnerSh = partnerWord (pagesShingle w)
          ∧ t.ports[p].train.since = s.aon.tally ∧ t.ports[p].train.confirmed = none)
      ∧ (∀ m, ms ≠ .fault → resolveEtoon s.ports[p] (activeBank s.rcp) (wenvoOf pages) = none →
          highestStd (s.ports[p].link.offer &&& (std.zeroExtend 16 <<< 8)) = some m →
        ∃ t, exec (.autonegResolve p pages std ms) s = .next t
          ∧ t.ports[p].link.mode = some (.std m) ∧ t.ports[p].link.phase = .autoneg ∧ t.ports[p].link.leader = decide (ms = .master)
          ∧ t.ports[p].link.lineVersion = 0xFFFF ∧ t.ports[p].link.shVersion = 0xFFFF)
      ∧ (ms ≠ .fault → resolveEtoon s.ports[p] (activeBank s.rcp) (wenvoOf pages) = none →
          highestStd (s.ports[p].link.offer &&& (std.zeroExtend 16 <<< 8)) = none →
        ∃ t, exec (.autonegResolve p pages std ms) s = .next t ∧ OnlyPort p s t
          ∧ t.ports[p].link.noCommonMode = true ∧ t.ports[p].link.mode = none ∧ t.ports[p].link.phase = .autoneg))

/-- R117, R123 to R127: a candidate, its confirmation by the sequence that the correlator expects, once in a phase, a false start and a stronger alignment
within one period of the confirmation; what the partner's full-training and fast-relink sequences do in each phase; Clause 98 pages take
an up link down with cause PARTNER_AUTONEG, and turn a training port back to auto-negotiation. -/
def Obligations.StartDetection : Prop :=
  (∀ (s : State) (p : PortId) (power : Int) (corr conf : Nat) (m : EMode),
     (awaiting s.ports[p] = true → -3000 < power →
       exec (.startCandidate p power) s = .next (modTrain p (fun t => { t with candidate := true }) s))
     ∧ (s.ports[p].train.candidate = true →
       exec (.falseStart p) s = .next (modPort p (fun q => { q with
         train := { q.train with candidate := false }, link := { q.link with counters := bump 6 1 q.link.counters } }) s))
     ∧ (s.ports[p].train.confirmed = some conf → s.ports[p].train.preOpen = true → etoonMode s.ports[p] = some m →
         inputCut s.ports[p] = false → 3 * (s.aon.tally - s.ports[p].train.confirmedAt) < periodThirds m → conf * 141254 ≤ corr * 100000 →
       exec (.preEmption p corr) s = .next (modPort p (fun q => { q with
         train := { q.train with confirmed := some corr }, link := { q.link with counters := bump 7 1 q.link.counters } }) s))
     ∧ (∀ k, corr < 500 ∨ expectedUse s.ports[p] k = none → exec (.startConfirmed p k corr) s = .next s)
     ∧ (500 ≤ corr → s.ports[p].link.up = false → inputCut s.ports[p] = false → s.ports[p].train.restartAfter = 0 →
       (let full := trainState s.ports[p].link.seed .full (!s.ports[p].link.leader)
        let fast := trainState s.ports[p].link.seed .fast (!s.ports[p].link.leader)
        (s.ports[p].link.phase = .q → s.ports[p].link.leader = true → s.ports[p].train.confirmed = none →
         exec (.startConfirmed p full corr) s = .next (modTrain p (fun t =>
           { t with candidate := false, confirmed := some corr, confirmedAt := s.aon.tally, preOpen := true }) s))
       ∧ ((s.ports[p].link.phase = .q ∨ s.ports[p].link.phase = .e2) → s.ports[p].link.leader = false →
         ∃ t, exec (.startConfirmed p full corr) s = .next t ∧ PortFrame p s t
           ∧ t.ports[p].link.phase = (if s.ports[p].link.phase = .q then .e1 else .a)
           ∧ t.ports[p].train.confirmed = some corr ∧ t.ports[p].train.since = s.aon.tally)
       ∧ (s.ports[p].link.phase = .f → etoonMode s.ports[p] = some m →
         (∃ t, exec (.startConfirmed p full corr) s = .next t ∧ PortFrame p s t ∧ t.ports[p].link.phase = .q
           ∧ t.ports[p].link.relink = some .full ∧ t.ports[p].link.failReason = .preempted)
         ∧ exec (.startConfirmed p fast corr) s = .next (modTrain p (fun t => if s.ports[p].train.confirmed.isSome
             then { t with candidate := false }
             else { t with candidate := false, confirmed := some corr, confirmedAt := s.aon.tally, preOpen := true }) s))
       ∧ (s.ports[p].link.phase = .q → s.ports[p].link.relink = some .full → etoonMode s.ports[p] = some m →
           s.ports[p].train.confirmed = none → episodeOver s p = false →
         (s.ports[p].link.bySecondRow = false → fastAllowed s.ports[p] m = true → capped s.ports[p] m = m →
           ∃ t, exec (.startConfirmed p fast corr) s = .next t ∧ t.ports[p].link.phase = .f ∧ t.ports[p].link.relink = some .fast
             ∧ t.ports[p].train.confirmed = some corr)
         ∧ (s.ports[p].link.bySecondRow = true ∨ fastAllowed s.ports[p] m = false →
           ∃ t, exec (.startConfirmed p fast corr) s = .next t ∧ t.ports[p].link.phase = .q ∧ t.ports[p].train.restartAfter = 4
             ∧ t.ports[p].train.confirmed = some corr)))))
  ∧ (∀ (s : State) (p : PortId), inputCut s.ports[p] = false →
       (s.ports[p].link.up = true → (etoonMode s.ports[p]).isSome = true →
         ∃ t, exec (.clause98Pages p) s = .next t ∧ t.ports[p].link.up = false ∧ t.ports[p].link.downCause = .partnerAutoneg
           ∧ t.ports[p].link.choosing = true ∧ t.ports[p].link.lastDown = s.aon.tally)
       ∧ (s.ports[p].link.up = false → s.ports[p].link.choosing = false → awaiting s.ports[p] = true → autonegAllowed s p = true →
         ∃ t, exec (.clause98Pages p) s = .next t ∧ t.ports[p].link.phase = .autoneg ∧ t.ports[p].link.mode = none))

/-- R118 to R122: how a port leaves a training phase: the leader's Q by its criterion, the follower's E1 by the leader's silence, the others by
READY periods sent and heard, the partner's no more than half a period before the own first one; a limit fails training, and ends phase X
at the next own period boundary, while an end that has met a criterion of its own goes on (R150); phase S begins with slot 0 in both directions,
and the link comes up in it at once where both ends are already synced. -/
def Obligations.TrainingPhases : Prop :=
  (∀ (s : State) (p : PortId) (m : Criterion), s.ports[p].train.restartAfter = 0 →
     (s.ports[p].link.phase = .q → criterionMet s p m = true →
       ∃ t, exec (.exitCriterionMet p m) s = .next t ∧ PortFrame p s t ∧ t.ports[p].link.phase = .e1
         ∧ t.ports[p].train.since = s.aon.tally ∧ t.ports[p].train.critMet = false)
     ∧ (s.ports[p].link.phase ≠ .q → criterionMet s p m = true →
       exec (.exitCriterionMet p m) s = .next (modTrain p (fun t => { t with critMet := true }) s))
     ∧ (criterionMet s p m = false → exec (.exitCriterionMet p m) s = .next s)
     ∧ (s.ports[p].link.phase = .e1 → s.ports[p].link.leader = false →
       ∃ t, exec (.leaderSilence p) s = .next t ∧ PortFrame p s t ∧ t.ports[p].link.phase = .e2
         ∧ t.ports[p].train.since = s.aon.tally
         ∧ t.ports[p].train.lockedAtReady = some (s.ports[p].train.lockedAtReady.getD s.ports[p].dsp.locked)))
  ∧ (∀ (s : State) (p : PortId) (mode : EMode) (ready : Option Nat),
       s.ports[p].link.up = false → etoonMode s.ports[p] = some mode → s.ports[p].train.restartAfter = 0 →
       inputCut s.ports[p] = false →
       (s.ports[p].link.phase = .q → ∃ t, exec (.periodBoundary p ready) s = .next t ∧ OnlyPort p s t
         ∧ t.ports[p].link = s.ports[p].link ∧ t.ports[p].train.periods = s.ports[p].train.periods + 1
         ∧ (s.ports[p].train.critMet = false → t.ports[p].train.readySent = s.ports[p].train.readySent.map (· + 1))
         ∧ (s.ports[p].train.preOpen = true → 3 * (s.aon.tally - s.ports[p].train.confirmedAt) < periodThirds mode →
             t.ports[p].train.preOpen = true))
       ∧ (∀ n, s.ports[p].train.readySent = some (n + 1) → s.ports[p].link.phase = .e1 → s.ports[p].link.leader = true →
           ∃ t, exec (.periodBoundary p ready) s = .next t ∧ PortFrame p s t ∧ t.ports[p].link.phase = .e2)
       ∧ (∀ b, ready = some b → s.ports[p].link.phase = .e2 → s.ports[p].link.leader = true → s.ports[p].train.since < b →
           ∃ t, exec (.periodBoundary p ready) s = .next t ∧ PortFrame p s t ∧ t.ports[p].link.phase = .a)
       ∧ (∀ n a b, s.ports[p].train.readySent = some n → s.ports[p].train.readyAt = some a → ready = some b →
           6 * a ≤ 6 * b + periodThirds mode →
         (s.ports[p].link.phase = .a → ∃ t, exec (.periodBoundary p ready) s = .next t ∧ PortFrame p s t ∧ t.ports[p].link.phase = .x)
         ∧ (s.ports[p].link.phase = .x ∨ s.ports[p].link.phase = .f → s.ports[p].train.synced = false →
             ∃ t, exec (.periodBoundary p ready) s = .next t ∧ OnlyPort p s t ∧ t.ports[p].link.phase = .s
               ∧ t.ports[p].line.txSlot = 0 ∧ (s.ports[p].train.rxStarted = false → t.ports[p].line.rxSlot = 0)))
       ∧ (∀ n a b, s.ports[p].train.readySent = some n → s.ports[p].train.readyAt = some a → ready = some b →
           6 * b + periodThirds mode < 6 * a → s.ports[p].link.phase = .a →
         ∃ t, exec (.periodBoundary p ready) s = .next t ∧ t.ports[p].link.phase = .a)
       ∧ (s.ports[p].link.phase = .x → s.ports[p].train.limitPassed = true → s.ports[p].train.synced = true →
           s.ports[p].train.partnerSynced = true → s.ports[p].dsp.locked = true → portClocked s p = true →
           ∃ t, exec (.periodBoundary p ready) s = .next t ∧ t.ports[p].link.up = true ∧ t.ports[p].link.phase = .up
             ∧ t.ports[p].link.lastUp = s.aon.tally)
       ∧ (s.ports[p].link.phase = .x → s.ports[p].train.limitPassed = true → s.ports[p].train.synced = false →
           ∃ t, exec (.periodBoundary p ready) s = .next t ∧ OnlyPort p s t ∧ t.ports[p].link.phase = .s ∧ t.ports[p].line.txSlot = 0))
  ∧ (∀ (s : State) (p : PortId) (m : Criterion) (mode : EMode) (n : Nat),
       etoonMode s.ports[p] = some mode → s.ports[p].link.up = false → s.ports[p].link.relink ≠ some .fast →
       s.ports[p].train.restartAfter = 0 → phaseLimit mode s.ports[p].link.leader false s.ports[p].link.phase = some n →
       (s.aon.tally < s.ports[p].train.since + n → exec (.phaseLimitExpiry p m) s = .next s)
       ∧ (s.ports[p].train.since + n ≤ s.aon.tally → s.ports[p].link.phase = .x →
           exec (.phaseLimitExpiry p m) s = .next (modTrain p (fun t => { t with limitPassed := true }) s))
       ∧ (s.ports[p].train.since + n ≤ s.aon.tally → s.ports[p].link.phase ≠ .x →
           (exitBeatsLimit s.ports[p] = false ∨ s.ports[p].train.begun + trainingTotal mode ≤ s.aon.tally) →
           autonegAllowed s p = true →
         ∃ t, exec (.phaseLimitExpiry p m) s = .next t ∧ t.ports[p].link.phase = .autoneg
           ∧ t.ports[p].link.failPhase = s.ports[p].link.phase
           ∧ t.ports[p].link.failReason = (if s.ports[p].train.critMet = true then .limit else missReason s.ports[p] m)
           ∧ t.ports[p].link.counters = bump 4 1 (bump 5 1 s.ports[p].link.counters))
       ∧ (s.ports[p].link.phase ≠ .x → exitBeatsLimit s.ports[p] = true → s.aon.tally < s.ports[p].train.begun + trainingTotal mode →
           exec (.phaseLimitExpiry p m) s = .next s))

/-- R127, R128, R130 to R133, R137, R143: link down as it is declared, with its episode and a mode change abandoned, whose record waits behind
LINK_DOWN; and the relink that Table 5-6 chooses, begun with its LINK_DOWN record and its 8 beacons, once no clock failure is being handled and
the port's clocks are on input 1 (R345, R353, R354). -/
def Obligations.LinkDownAndRelink : Prop :=
  (∀ (s : State) (p : PortId) (cause : DownCause), s.ports[p].link.up = true →
     let t := declareDown p cause s
     t.ports[p].link.up = false ∧ t.ports[p].link.downCause = cause ∧ t.ports[p].link.downProvoked = inEpisode s p
     ∧ t.ports[p].link.lastDown = s.aon.tally ∧ t.ports[p].link.episode = some s.aon.tally ∧ t.ports[p].link.choosing = true
     ∧ t.ports[p].line.owed = [] ∧ t.ports[p].line.txLpi = .active ∧ t.ports[p].line.badRun = 0
     ∧ t.ports[p].mc = (if s.ports[p].mc.role = .none then s.ports[p].mc else {})
     ∧ (s.ports[p].mc.role ≠ .none → t.ports[p].link.mcStatus = .abandonedLinkDown ∧ t.ports[p].link.mcOwed = some s.ports[p].mc)
     ∧ t.ports[p].sieve.disarms = [] ∧ t.ports[p].sieve.swapOut = none
     ∧ t.ports[p].link.mode = s.ports[p].link.mode ∧ (∀ q : PortId, q ≠ p → t.ports[q] = s.ports[q]) ∧ PortFrame p s t
     ∧ (s.ports[p].sieve.disarms = [] → OnlyPort p s t))
  ∧ (∀ (s : State) (p : PortId) (m : EMode) (b : Bool),
       s.ports[p].link.choosing = true → s.clk.failing = none → etoonMode s.ports[p] = some m → relinkMode s p m = m →
       s.ports[p].link.retrainMode = none → s.ports[p].sieve.disarms = [] → portClocked s p = true →
       (chooseRelink s p = (.fast, b) → ∃ t, exec (.relinkChoose p) s = .next t
         ∧ t.ports[p].link.phase = .f ∧ t.ports[p].link.relink = some .fast ∧ t.ports[p].link.choosing = false
         ∧ t.ports[p].link.mode = some (.etoon m) ∧ t.ports[p].line.owed = List.replicate 8 (.beacon false m)
         ∧ t.ports[p].link.counters = bump 1 1 s.ports[p].link.counters ∧ t.ports[p].train.reloaded = false
         ∧ t.ports[p].link.mcOwed = none ∧ t.crock = (raiseDown p .fast s).crock)
       ∧ (chooseRelink s p = (.full, b) → ∃ t, exec (.relinkChoose p) s = .next t
         ∧ t.ports[p].link.phase = .q ∧ t.ports[p].link.relink = some .full ∧ t.ports[p].link.choosing = false
         ∧ t.ports[p].link.mode = some (.etoon m) ∧ t.ports[p].line.owed = List.replicate 8 (.beacon true m)
         ∧ t.ports[p].link.counters = bump 3 1 s.ports[p].link.counters
         ∧ t.ports[p].link.mcOwed = none ∧ t.crock = (raiseDown p .full s).crock)
       ∧ (chooseRelink s p = (.autoneg, b) → autonegAllowed s p = true → ∃ t, exec (.relinkChoose p) s = .next t
         ∧ t.ports[p].link.phase = .autoneg ∧ t.ports[p].link.choosing = false
         ∧ t.ports[p].link.counters = bump 4 1 s.ports[p].link.counters))
  ∧ (∀ (s : State) (p : PortId), s.ports[p].link.choosing = true →
       (s.clk.failing.isSome = true → exec (.relinkChoose p) s = .next s)
       ∧ (s.clk.failing = none → portClocked s p = false → s.ports[p].link.downTold = true →
           ∃ t, exec (.relinkChoose p) s = .next t ∧ OnlyPort p s t ∧ t.ports[p].link.choosing = true))
  ∧ (∀ (s : State) (p : PortId) (r : Relink), takesEvents s 2 →
       (s.ports[p].link.downTold = true → raiseDown p r s = s)
       ∧ (s.ports[p].link.downTold = false →
         (s.ports[p].link.mcOwed = none →
           raiseDown p r s = modLink p (fun l => { l with downTold := true }) (raise (linkDownEv s p r) s))
         ∧ (∀ mc, s.ports[p].link.mcOwed = some mc → mc.rollEpoch = none →
           (raiseDown p r s).crock.queue =
             s.crock.queue ++ [stampEv s (linkDownEv s p r), stampEv s (mcEvent s p mc .abandonedLinkDown)])))

/-- R132 to R135, Table 5-6: a fast relink's reload, its echo check, its limits of 55 µs in F, where the exit criterion is not met (R150), and 25 µs in S, and the 10 s after which an episode
ends in auto-negotiation. -/
def Obligations.FastRelinkLimits : Prop :=
  ∀ (s : State) (p : PortId) (near far : Int) (m : EMode) (c : Criterion), s.ports[p].link.up = false → etoonMode s.ports[p] = some m →
    (s.ports[p].link.phase = .f → s.ports[p].train.reloaded = false →
      (∀ x, snapshotFor s.ports[p].store m = some x → ∃ t, exec (.snapshotReload p) s = .next t ∧ OnlyPort p s t
        ∧ t.ports[p].train.reloaded = true ∧ t.ports[p].dsp.locked = false ∧ t.ports[p].dsp.ffe = x.ffe ∧ t.ports[p].dsp.dfe = x.dfe
        ∧ t.ports[p].dsp.ne = x.ne ∧ t.ports[p].dsp.d = x.d ∧ t.ports[p].dsp.trims = x.trims
        ∧ t.ports[p].dsp.tapAtLimit = dfeAtLimit x.dfe)
      ∧ (snapshotFor s.ports[p].store m = none → episodeOver s p = false → ∃ t, exec (.snapshotReload p) s = .next t
        ∧ t.ports[p].link.phase = .q ∧ t.ports[p].link.relink = some .full ∧ t.ports[p].link.failReason = .noSnapshot))
    ∧ (s.ports[p].link.phase ≠ .f ∨ s.ports[p].train.reloaded = true → exec (.snapshotReload p) s = .next s)
    ∧ (s.ports[p].link.phase = .f → s.ports[p].train.confirmed.isSome = true →
        4 * periodThirds m ≤ 3 * (s.aon.tally - s.ports[p].train.confirmedAt) → (-3000 < near ∨ -3000 < far) → episodeOver s p = false → s.ports[p].link.cap = none →
      ∃ t, exec (.echoChangeCheck p near far) s = .next t
        ∧ t.ports[p].link.phase = .q ∧ t.ports[p].link.relink = some .full ∧ t.ports[p].link.failPhase = .f
        ∧ t.ports[p].link.failReason = .echoChanged ∧ t.ports[p].link.fastFailed = true
        ∧ t.ports[p].line.owed = List.replicate 8 (.beacon true m))
    ∧ (near ≤ -3000 → far ≤ -3000 → exec (.echoChangeCheck p near far) s = .next s)
    ∧ (s.ports[p].link.relink = some .fast → episodeOver s p = false →
        (s.ports[p].link.phase = .f ∧ s.ports[p].train.confirmed.isSome = true ∧ s.ports[p].train.confirmedAt + 55000 ≤ s.aon.tally
            ∧ s.ports[p].train.critMet = false
          ∨ s.ports[p].link.phase = .s ∧ s.ports[p].train.since + 25000 ≤ s.aon.tally) →
      ∃ t, exec (.fastRelinkLimit p c) s = .next t
        ∧ t.ports[p].link.phase = .q ∧ t.ports[p].link.relink = some .full ∧ t.ports[p].link.fastFailed = true
        ∧ t.ports[p].link.counters = bump 3 1 (bump 2 1 s.ports[p].link.counters))
    ∧ (s.ports[p].link.choosing = false → episodeOver s p = true → autonegAllowed s p = true →
      (s.ports[p].link.relink = some .full →
        ∃ t, exec (.episodeLimit p) s = .next t ∧ t.ports[p].link.phase = .autoneg ∧ t.ports[p].link.mode = none)
      ∧ (s.ports[p].link.relink = some .fast → ∃ t, exec (.episodeLimit p) s = .next t ∧ t.ports[p].link.phase = .autoneg
          ∧ t.ports[p].link.counters = bump 4 1 (bump 2 1 s.ports[p].link.counters)))

/-- R147 to R149: a sleep request that has waited 10 ms is refused, a wake pulse sent for 1.0 ms wakes its port, and a tone that the line wake
detector of a sleeping port reports in BOIL wakes it and forwards the wake to the sleeping ports of its WakeForward mask; what lasts less
than 0.3 ms or does not pass 40 mV is ignored (between 0.3 ms and 0.5 ms: log entry 64); a TC10 request in 1000BASE-T1 fails when its timer
ends (log entry 35). -/
def Obligations.SleepAndWake : Prop :=
  ∀ (s : State) (p : PortId) (mv us : Nat),
    (∀ t0, s.ports[p].link.sleepWait = some t0 → inStd s.ports[p] = false → t0 + 10000000 ≤ s.aon.tally →
      exec (.sleepWaitTimeout p) s = .next (modLink p (fun l => { l with sleepWait := none }) s))
    ∧ (∀ t0, s.ports[p].link.sleepWait = some t0 → inStd s.ports[p] = true → t0 + sleepLimit s.ports[p] ≤ s.aon.tally →
      exec (.sleepWaitTimeout p) s = .next (modLink p (fun l => { l with sleepWait := none, sleepSent := false }) s))
    ∧ (∀ t0, s.ports[p].link.sleepWait = some t0 → s.aon.tally < t0 + 10000000 → exec (.sleepWaitTimeout p) s = .next s)
    ∧ (us < 300 ∨ mv ≤ 40 → exec (.lineWake { port := p, mv := mv, us := us }) s = .next s)
    ∧ (∀ t0, s.ports[p].link.wakePulse = some t0 → s.aon.tally < t0 + 1000000 → exec (.wakePulseDone p) s = .next s)
    ∧ (bayOpen s p = true → s.ports[p].link.adminEnabled = true → bayTesting s p = false → s.rcp.active.isSome = true → portClocked s p = true →
      (∀ t0, s.ports[p].link.wakePulse = some t0 → t0 + 1000000 ≤ s.aon.tally → ∃ t, exec (.wakePulseDone p) s = .next t
        ∧ t.ports[p].link.asleep = false ∧ t.ports[p].link.wakePulse = none ∧ t.ports[p].link.phase = .autoneg)
      ∧ (s.ports[p].link.asleep = true → s.pwr.state = .boil → s.pwr.transition = none → s.pwr.passed = false →
        s.pwr.thermalRest = false → 500 ≤ us → 40 < mv →
        ∃ t, exec (.lineWake { port := p, mv := mv, us := us }) s = .next t ∧ t.ports[p].link.asleep = false ∧ t.ports[p].link.phase = .autoneg
          ∧ ∀ n : PortId, n ≠ p → t.ports[n].link.wakePulse =
              if maskBit s.ports[p].link.wakeForward n && s.ports[n].link.asleep
              then some (s.ports[n].link.wakePulse.getD s.aon.tally) else s.ports[n].link.wakePulse))

/-- R105, R107, R146, R208: a standard mode comes up and fails, and a frame the standard PCS has received whole waits for the
host, unless the sieve cuts the receiver's input (R219, R225). -/
def Obligations.StandardModes : Prop :=
  ∀ (s : State) (p : PortId) (c : Cls) (n at_ : Nat) (bytes : List Byte) (e : Bool), inStd s.ports[p] = true →
    (s.ports[p].link.up = false → s.ports[p].link.phase = .autoneg → inputCut s.ports[p] = false → Domain.fab ∈ s.clk.onInput1 →
      ∃ t, exec (.standardUp p) s = .next t ∧ t.ports[p].link.up = true ∧ t.ports[p].link.phase = .standardUp
        ∧ t.ports[p].link.lastUp = s.aon.tally ∧ t.ports[p].link.mode = s.ports[p].link.mode)
    ∧ (s.ports[p].link.up = true →
      (∃ t, exec (.standardLinkFail p none) s = .next t ∧ t.ports[p].link.up = false ∧ t.ports[p].link.downCause = .standardLinkFail
        ∧ t.ports[p].rx = s.ports[p].rx ∧ t.ports[p].link.choosing = true)
      ∧ (∃ t l, exec (.standardLinkFail p (some (c, n))) s = .next t ∧ t.ports[p].link.up = false
        ∧ t.ports[p].rx[c].ready = s.ports[p].rx[c].ready ++ [.loss l] ∧ l.cause = .standardLine ∧ l.frames = 1 ∧ l.bytes = n
        ∧ l.seqCount = 0)
      ∧ (inputCut s.ports[p] = true → exec (.standardPcsFrame p c bytes e at_) s = .next s)
      ∧ (inputCut s.ports[p] = false → exec (.standardPcsFrame p c bytes e at_) s = .next (modPort p (fun q => { q with
          cnt := { q.cnt with framesOut := bump64 c.val 1 q.cnt.framesOut }
          rx := q.rx.set c { q.rx[c] with ready := q.rx[c].ready ++
            [.frame { bytes := bytes, errored := e, std := true, arrived := at_ }] } }) s)))

/-! ## Writes to a port's objects (chapters 03, 05 and 12) -/

/-- R55, R67, R75, R127, R138, R140, R146, R149: PortCommand's GO bits, AdminState, ModeMask, TargetMode, AdaptControl's SNAPSHOT_GO and
NeighbourMask, written by the owner. -/
def Obligations.PortWrites : Prop :=
  (∀ (s : State) (ch : Chan) (p : PortId), ownerWrites s ch p = true →
     (s.ports[p].link.up = true → (etoonMode s.ports[p]).isSome = true → s.ports[p].link.choosing = false →
         s.ports[p].link.mcStatus ≠ .noSnapshot →
       exec (.retrainGo ch p) s = .next (answered ch (declareDown p .hostRetrain (requested ch s))))
     ∧ (s.ports[p].link.up = true →
       exec (.restartAnGo ch p) s =
         .next (answered ch (declareDown p .hostRestartAn (modLink p (fun l => { l with withdrawn := 0 }) (requested ch s)))))
     ∧ (∀ m, s.ports[p].link.up = true → s.ports[p].link.linkPolicy.getLsbD 2 = true → s.ports[p].link.mode = some (.etoon m) →
       exec (.sleepGo ch p) s =
         .next (answered ch (modLink p (fun l => { l with sleepWait := some s.aon.tally }) (requested ch s))))
     ∧ (s.ports[p].link.up = true → s.ports[p].link.linkPolicy.getLsbD 2 = true → s.ports[p].link.mode = some (.std .b1g) →
       exec (.sleepGo ch p) s = .next (answered ch (modLink p (fun l =>
         { l with sleepSent := true, sleepWait := some s.aon.tally }) (requested ch s))))
     ∧ (s.ports[p].link.up = false → s.ports[p].link.asleep = true →
       exec (.wakeGo ch p) s = .next (answered ch (startPulse p (requested ch s))))
     ∧ (unlocked s ch p = true →
       (s.ports[p].link.up = true → exec (.adminDisable ch p) s =
         .next (answered ch (declareDown p .hostDisable (modLink p (fun l => { l with adminEnabled := false }) (requested ch s)))))
       ∧ (s.ports[p].link.up = false → s.ports[p].link.choosing = false → s.ports[p].link.asleep = false →
         exec (.adminDisable ch p) s = .next (answered ch (modLink p (fun l =>
           { l with adminEnabled := false, phase := .disabled, relink := none }) (requested ch s))))
       ∧ (s.cal.run = none → exec (.adminEnable ch p) s =
         .next (answered ch (modLink p (fun l => { l with adminEnabled := true }) (requested ch s))))))
  ∧ (∀ (s : State) (ch : Chan) (p : PortId), ownerWrites s ch p = true →
       (∀ v : BitVec 16, unlocked s ch p = true → v &&& ~~~0x1F07#16 = 0 →
         exec (.modeMaskWrite ch p v) s =
           .next (answered ch (modLink p (fun l => { l with modeMask := v, withdrawn := 0 }) (requested ch s))))
       ∧ (∀ m cur, s.roll.status ≠ 1 → s.ports[p].link.up = true → s.ports[p].mc.role = .none → etoonMode s.ports[p] = some cur →
           cur ≠ m → s.ports[p].link.withdrawn = 0 → mcObstacle s p cur m = none →
         exec (.targetModeWrite ch p (BitVec.ofNat 8 (emodeCode m))) s = .next (answered ch (modPort p (fun q => { q with
           mc := { role := .requester, target := m, old := cur, epoch := q.link.epoch + 1, requests := 1 }
           link := { q.link with target := BitVec.ofNat 8 (emodeCode m), mcStatus := .requested }
           line := { q.line with owed := q.line.owed ++ [.request m (q.link.epoch + 1)] } }) (requested ch s))))
       ∧ (gateOpen s p.val = true → bayTesting s p = false →
         exec (.snapshotGo ch p) s = .next (answered ch (modDsp p (fun d => { d with snapGo := true }) (requested ch s))))
       ∧ (∀ v : Byte, unlocked s ch p = true → v.getLsbD p.val = false → s.ports[p].dsp.nearest = 0xFF →
         exec (.neighbourMaskWrite ch p v) s = .next (answered ch (modDsp p (fun d => { d with neighbours := v }) (requested ch s)))))

/-- R308: a write that one of the common checks forbids answers that check's abort code, in the order of R308, and changes nothing of the
ports, the gates, the fuses, the clocks, the power and the heat objects. -/
def Obligations.RefusedWritesChangeNothing : Prop :=
  ∀ (s : State) (ch : Chan) (index : BitVec 16) (sub : Byte) (d : List Byte) (c : Code), served s ch = true →
    (∀ o f w, findField (newProfile s ch) (splitIndex index).1 sub.toNat = .ok (o, f) → f.w = some w → o.index ≠ 0x2005 →
        (holderGate o (splitIndex index).2 s = some c
          ∨ (holderGate o (splitIndex index).2 s = none ∧ writeForbidden o f w (splitIndex index).2 sub.toNat d ch s = some c)) →
      ∃ t, exec (.genericWrite ch index sub d) s = .next t ∧ t.chans[ch].resp = .abort c
        ∧ t.ports = s.ports ∧ t.gate = s.gate ∧ t.fus = s.fus ∧ t.clk = s.clk ∧ t.pwr = s.pwr ∧ t.heat = s.heat ∧ t.roll = s.roll
        ∧ t.rcp = s.rcp ∧ t.cal = s.cal ∧ t.bist = s.bist ∧ t.life = s.life ∧ t.aon = s.aon)
    ∧ (findField (newProfile s ch) (splitIndex index).1 sub.toNat = .error c →
      ∃ t, exec (.genericWrite ch index sub d) s = .next t ∧ t.chans[ch].resp = .abort c ∧ t.ports = s.ports ∧ t.crock = s.crock
        ∧ t.gate = s.gate ∧ t.fus = s.fus ∧ t.clk = s.clk ∧ t.pwr = s.pwr ∧ t.aon = s.aon)

/-! ## The loss ledger and roll calls (chapter 07) -/

/-- R178, R196 to R202: a loss that stands at the head of what waits toward the host passes into the port's receive ledger, and a read of
Entry answers the 32 bytes of the entry that the channel has selected, and its selection goes on to the next number. -/
def Obligations.LossLedger : Prop :=
  ∀ (s : State) (ch : Chan) (p : PortId) (c : Cls) (l : RxLoss) (rest : List RxItem) (e : LedgerEntry),
    (s.ports[p].rx[c].ready = .loss l :: rest →
      ∃ t h tail, exec (.lossPasses p c) s = .next t
        ∧ t.ports[p].rx[c].ready = rest ∧ t.ports[p].led.tx = s.ports[p].led.tx
        ∧ t.ports[p].led.rx.frames = bump64 c.val l.frames s.ports[p].led.rx.frames
        ∧ t.ports[p].led.rx.bytes = bump64 c.val l.bytes s.ports[p].led.rx.bytes
        ∧ t.ports[p].led.rx.entries = h :: tail ∧ h.cls = c ∧ h.cause = l.cause ∧ h.last = s.aon.tally
        ∧ t.ports[p].link = s.ports[p].link ∧ (∀ q : PortId, q ≠ p → t.ports[q] = s.ports[q]))
    ∧ ((∀ l' r', s.ports[p].rx[c].ready ≠ .loss l' :: r') → exec (.lossPasses p c) s = .next s)
    ∧ (served s ch = true → gateOpen s p.val = true → bayTesting s p = false →
        selectedEntry s p (s.ports[p].led.select.getD ch.val 1) = some e →
      let sel := s.ports[p].led.select.getD ch.val 1
      exec (.ledgerEntryRead ch p) s = .next (answeredData ch (entryBytes e) (modPort p (fun q => { q with led := { q.led with
        select := q.led.select.set ch.val ((sel &&& 0x80000000) ||| (BitVec.ofNat 32 (sel.toNat % 2 ^ 31 + 1) &&& 0x7FFFFFFF)) } })
        (requested ch s))))

/-- R209 to R211: an order that keeps every condition of R210 is issued, whichever of the four kinds it is, and what a bay named in it
does with it. -/
def Obligations.RollCalls : Prop :=
  (∀ (s : State) (ch : Chan) (epoch : BitVec 16) (arg mask : Byte),
     served s ch = true → life s ≠ .ended → hasSession s ch = true → s.roll.status ≠ 1 → mask ≠ 0 →
     1 ≤ (epoch - s.roll.epoch).toNat → (epoch - s.roll.epoch).toNat ≤ 32767 →
     let issued := fun (c : Instr) (kind a : Byte) =>
       ∃ t, exec c s = .next t
         ∧ t.roll.order = orderWord epoch kind a mask 0 ∧ t.roll.epoch = epoch ∧ t.roll.status = 1 ∧ t.roll.issuer = BitVec.ofNat 8 ch.val
         ∧ t.roll.issuedAt = s.aon.tally ∧ t.roll.lpiMask = s.roll.lpiMask ∧ t.ports = s.ports ∧ t.chans[ch].resp = .ok
         ∧ ∀ p : PortId, bayResult (t.roll.bays.getD p.val 0) = if maskBit mask p then resPending else resNotNamed
     issued (.rollCallDownshiftOne ch epoch 0 mask 0) 1 0
     ∧ (1 ≤ arg.toNat → arg.toNat ≤ 3 → issued (.rollCallSetMode ch epoch arg mask 0) 2 arg)
     ∧ issued (.rollCallLpiEnable ch epoch 0 mask 0) 3 0
     ∧ issued (.rollCallLpiDisable ch epoch 0 mask 0) 4 0)
  ∧ (∀ (s : State) (p : PortId), rollPending s.roll p = true → s.roll.bays.length = 8 → s.heat.orderDue = false →
       bayInTest s p = false →
       let entry := fun (t : State) (result reason : Nat) => t.roll.bays.getD p.val 0 = bayEntry s.roll.epoch result reason
       (bayOpen s p = false → ∃ t, exec (.rollCallApply p) s = .next t ∧ entry t resRefused 0x92 ∧ t.ports = s.ports)
       ∧ (bayOpen s p = true → orderKind s.roll.order = 3 → ∃ t, exec (.rollCallApply p) s = .next t ∧ entry t resApplied 0
           ∧ t.roll.lpiMask = s.roll.lpiMask ||| (1#8 <<< p.val) ∧ t.ports = s.ports)
       ∧ (bayOpen s p = true → orderKind s.roll.order = 4 → ∃ t, exec (.rollCallApply p) s = .next t ∧ entry t resApplied 0
           ∧ t.roll.lpiMask = s.roll.lpiMask &&& ~~~(1#8 <<< p.val))
       ∧ (∀ m, bayOpen s p = true → orderKind s.roll.order = 2 → emodeOf (orderArg s.roll.order) = some m → s.ports[p].link.up = false →
           ∃ t, exec (.rollCallApply p) s = .next t ∧ entry t resCapped 0 ∧ t.ports[p].link.cap = some (.etoon m))
       ∧ (∀ m target, bayOpen s p = true → orderKind s.roll.order = 1 → s.ports[p].link.up = true → etoonMode s.ports[p] = some m →
           s.ports[p].mc.role = .none → nextLower m = some target → mcObstacle s p m target = none →
           ∃ t, exec (.rollCallApply p) s = .next t ∧ OnlyPort p s t ∧ t.ports[p].mc.target = target
             ∧ t.ports[p].mc.rollEpoch = some s.roll.epoch ∧ t.ports[p].link.mcStatus = .requested))

/-! ## The sieve (chapter 08) -/

/-- R215 to R220, R225 to R227: arming one kind more on a port that is not under test, which an argument outside its
mode's range refuses (log entry 83); DISARM_ALL_GO, the end of an interruption, the
host-lane corruptions and the end of a provocation episode. -/
def Obligations.Sieve : Prop :=
  (∀ (s : State) (ch : Chan) (p : PortId), sieveWrites s ch = true → bayInTest s p = false → s.ports[p].sieve.disarms = [] →
     s.ports[p].sieve.arm &&& 0xC0#8 = 0 →
     let armed := fun (c : Instr) (k : Nat) (more : SievePort → Prop) => s.ports[p].sieve.arm.getLsbD k = false →
       ∃ t, exec c s = .next t
         ∧ t.ports[p].sieve.arm = s.ports[p].sieve.arm ||| (1#8 <<< k) ∧ t.ports[p].sieve.live = s.ports[p].sieve.live ||| (1#8 <<< k)
         ∧ t.ports[p].sieve.lfsr = s.ports[p].sieve.seed ∧ t.sieveHolder = some ch ∧ t.chans[ch].resp = .ok
         ∧ (∀ q : PortId, q ≠ p → t.ports[q] = s.ports[q]) ∧ t.ports[p].link = s.ports[p].link ∧ more t.ports[p].sieve
     let x := s.ports[p].sieve
     (dropArgOk x.dropMode x.dropArg.toNat = true → armed (.armDrop ch p) 0 (fun y => y.dMode = x.dropMode ∧ y.dArg = x.dropArg ∧ y.dSeen = 0 ∧ y.dSelect = x.lineSelect))
     ∧ (corruptArgOk x.corruptMode x.corruptArg.toNat = true → armed (.armCorrupt ch p) 1 (fun y => y.cMode = x.corruptMode ∧ y.cArg = x.corruptArg ∧ y.cSeen = 0 ∧ y.cSelect = x.lineSelect))
     ∧ armed (.armSwap ch p) 2 (fun y => y.sDist = x.maxDistance ∧ y.sInterval = x.swapInterval ∧ y.sCount = 0)
     ∧ armed (.armInterrupt ch p) 3 (fun y => y.iSides = x.intSides ∧ y.iLength = x.intLength
         ∧ (if slotsRun s.ports[p] then y.intWaiting = true ∧ y.interrupting = x.interrupting
             else y.intWaiting = false ∧ y.interrupting = true ∧ y.intSince = s.aon.tally))
     ∧ armed (.armHostIn ch p) 4 (fun y => y.hInInterval = x.hostInterval ∧ y.hostInAt = s.aon.tally)
     ∧ armed (.armHostOut ch p) 5 (fun y => y.hOutInterval = x.hostInterval ∧ y.hostOutAt = s.aon.tally))
  ∧ (∀ (s : State) (ch : Chan) (p : PortId), sieveWrites s ch = true → bayInTest s p = false →
     let x := s.ports[p].sieve
     (x.arm.getLsbD 0 = false → dropArgOk x.dropMode x.dropArg.toNat = false →
       ∃ t, exec (.armDrop ch p) s = .next t ∧ t.chans[ch].resp = .abort abRange ∧ t.ports = s.ports)
     ∧ (x.arm.getLsbD 1 = false → corruptArgOk x.corruptMode x.corruptArg.toNat = false →
       ∃ t, exec (.armCorrupt ch p) s = .next t ∧ t.chans[ch].resp = .abort abRange ∧ t.ports = s.ports))
  ∧ (∀ (s : State) (ch : Chan) (p : PortId),
       (sieveWrites s ch = true → ∃ t, exec (.disarmAllGo ch) s = .next t ∧ t.chans[ch].resp = .ok
         ∧ ∀ q : PortId, t.ports[q].sieve.interrupting = false
           ∧ (slotsRun s.ports[q] = false → t.ports[q].sieve.live = 0)
           ∧ (slotsRun s.ports[q] = true → s.ports[q].sieve.live ≠ 0 →
               t.ports[q].sieve.disarms = s.ports[q].sieve.disarms ++ [(0xFF, 4)] ∧ t.ports[q].sieve.arm = 0))
       ∧ (s.aon.tally < s.ports[p].sieve.intSince + s.ports[p].sieve.iLength → exec (.interruptionEnd p) s = .next s)
       ∧ (s.ports[p].sieve.interrupting = true → s.ports[p].sieve.intSince + s.ports[p].sieve.iLength ≤ s.aon.tally →
           ∃ t, exec (.interruptionEnd p) s = .next t ∧ t.ports[p].sieve.interrupting = false
             ∧ t.ports[p].sieve.live = s.ports[p].sieve.live &&& ~~~8#8 ∧ t.ports[p].link = s.ports[p].link)
       ∧ (sieveLive s.ports[p] kindHostIn = true → blocksPassed s.ports[p] s.ports[p].sieve.hInInterval s.ports[p].sieve.hostInAt s.aon.tally = true →
           exec (.hostInCorruption p) s = .next (modPort p (fun q => { q with
             sieve := { q.sieve with hostInAt := s.aon.tally, counters := bump 5 1 q.sieve.counters, episode := some s.aon.tally }
             host := { q.host with arriving := q.host.arriving.map (fun a => { a with errored := true, provoked := true }) } }) s))
       ∧ (∀ c bytes e, sieveLive s.ports[p] kindHostOut = true → blocksPassed s.ports[p] s.ports[p].sieve.hOutInterval s.ports[p].sieve.hostOutAt s.aon.tally = true →
           s.ports[p].host.busy = some (.frame c bytes e) →
           ∃ t, exec (.hostOutCorruption p) s = .next t ∧ t.ports[p].host.busy = none ∧ t.ports[p].host.cutLast = true
             ∧ t.ports[p].sieve.counters = bump 6 1 s.ports[p].sieve.counters ∧ t.ports[p].sieve.episode = some s.aon.tally
             ∧ t.ports[p].host.counters = bump 2 1 (bump 1 1 s.ports[p].host.counters)
             ∧ t.ports[p].led.rx.frames = bump64 c.val 1 s.ports[p].led.rx.frames)
       ∧ (∀ f, sieveLive s.ports[p] kindHostOut = true → blocksPassed s.ports[p] s.ports[p].sieve.hOutInterval s.ports[p].sieve.hostOutAt s.aon.tally = true →
           s.ports[p].host.busy = some (.sealFrame f) →
           exec (.hostOutCorruption p) s = .next (modSieve p (fun v => { v with hostOutAt := s.aon.tally, hostOutDue := true }) s))
       ∧ (blocksPassed s.ports[p] s.ports[p].sieve.hOutInterval s.ports[p].sieve.hostOutAt s.aon.tally = false → exec (.hostOutCorruption p) s = .next s)
       ∧ (blocksPassed s.ports[p] s.ports[p].sieve.hInInterval s.ports[p].sieve.hostInAt s.aon.tally = false → exec (.hostInCorruption p) s = .next s)
       ∧ (inEpisode s p = false → exec (.provocationEpisodeEnd p) s = .next (modSieve p (fun v => { v with episode := none }) s))
       ∧ (inEpisode s p = true → exec (.provocationEpisodeEnd p) s = .next s))

/-! ## The cable signature and the seal (chapter 09) -/

/-- R232, R234 to R239, R247: the comparison that ends a 100 ms window: skipped and counted where the window was not clean; otherwise the
signature read from the echo taps is measured against the reference and judged, with the runs of R238 and the level they give; TAMPER
latches. A LINE reference both of whose copies fail as they are read leaves its slot empty and a REFERENCE_LOST record. -/
def Obligations.SignatureComparisons : Prop :=
  (∀ (s : State) (p : PortId) (x : RefErrors),
    s.ports[p].link.up = false → refLost (readRefs x s.ports[p].sig).lineRef = true → refLost (readRefs x s.ports[p].sig).probeRef = false →
    ∃ t, exec (.signatureComparison p x) s = .next t ∧ t.ports[p].sig.lineRef = {} ∧ OnlyPort p s { t with crock := s.crock }
      ∧ t.crock = (raise (bayEv p 0x000E 7 [BitVec.ofNat 8 p.val, 1]) s).crock)
  ∧ ∀ (s : State) (p : PortId) (e : EMode) (r : SigBlock) (x : RefErrors),
    etoonMode s.ports[p] = some e → s.ports[p].link.up = true → refOf (readRefs x s.ports[p].sig).lineRef = some r →
    refLost (readRefs x s.ports[p].sig).probeRef = false → s.ports[p].sig.lineCap = none →
    (windowSkipped s.ports[p] = true →
      ∃ t, exec (.signatureComparison p x) s = .next t ∧ OnlyPort p s t ∧ t.ports[p].sig.counters = bump 1 1 s.ports[p].sig.counters
        ∧ t.ports[p].sig.level = s.ports[p].sig.level ∧ t.ports[p].sig.anomRun = s.ports[p].sig.anomRun
        ∧ t.ports[p].sig.readings = 0)
    ∧ (windowSkipped s.ports[p] = false →
      let g := s.ports[p].sig
      let b := sigBlock s p .line (emodeCode e) (lineLast e) (lineSamples e (readAll e s.ports[p].dsp 16 g).readSum)
      let m := measureSig g b r
      let overCount := segmentsOver (anomThreshold g.thresholds) m
      let reason := sigReason m.fit.atLimit m.energy.length overCount
      let tamp := if reason = 3 then [] else segmentsOver (tampThreshold g.thresholds) m
      let anomRun := runNext g.anomRun g.anomSegs overCount
      let tampRun := runNext g.tampRun g.tampSegs tamp
      ∃ t, exec (.signatureComparison p x) s = .next t
        ∧ t.ports[p].sig.lineCur = some b ∧ t.ports[p].sig.segLevels = m.energy.map (fun x => (x.1, segLevel x.2 m.eref))
        ∧ t.ports[p].sig.overCount = overCount.length ∧ t.ports[p].sig.reason = reason
        ∧ t.ports[p].sig.anomRun = anomRun ∧ t.ports[p].sig.tampRun = tampRun ∧ t.ports[p].sig.beta = m.fit.beta
        ∧ t.ports[p].sig.gamma = m.fit.gamma ∧ t.ports[p].link = s.ports[p].link ∧ (∀ q : PortId, q ≠ p → t.ports[q] = s.ports[q])
        ∧ (g.level = .tamper ∨ 3 ≤ tampRun → t.ports[p].sig.level = .tamper)
        ∧ (g.level = .normal → tampRun < 3 → t.ports[p].sig.level = if 3 ≤ anomRun then .anomaly else .normal)
        ∧ (g.level = .anomaly → tampRun < 3 → overCount ≠ [] → t.ports[p].sig.level = .anomaly)
        ∧ (g.level = .anomaly → tampRun < 3 → overCount = [] →
            t.ports[p].sig.level = if 9 ≤ g.cleanRun then .normal else .anomaly))

/-- R237, R238, R244, R245: what a session may write to a port's signature objects, each of which completes: the thresholds with their record, the
two captures, and the acknowledgement that clears a latched TAMPER; a capture that finds no line for 10 s ends; a value of Thresholds outside
R237's limits, and a capture with no re-baseline count left, are refused. -/
def Obligations.SignatureWrites : Prop :=
  (∀ (s : State) (ch : Chan) (p : PortId) (v : BitVec 32), sessionWrites s ch = true →
    (thresholdsOk v = true →
      exec (.thresholdsWrite ch p v) s = .next (answered ch (raise (bayEv p 0x000F 6
          ([BitVec.ofNat 8 p.val, BitVec.ofNat 8 ch.val] ++ beBytes 4 v.toNat)) (modSig p (fun g => { g with thresholds := v }) (requested ch s)))))
    ∧ (thresholdsOk v = false → ∃ t, exec (.thresholdsWrite ch p v) s = .next t ∧ t.chans[ch].resp = .abort abRange ∧ t.ports = s.ports))
  ∧ (∀ (s : State) (ch : Chan) (p : PortId), sessionWrites s ch = true → bayTesting s p = false → 0 < rebaselinesLeft s →
    (s.ports[p].sig.lineCap = none → exec (.captureLineGo ch p) s =
      .next (answered ch (modSig p (fun g => { g with lineRes := .pending, lineCap := some (ch, s.aon.tally) }) (requested ch s))))
    ∧ (s.ports[p].sig.probeCap = none → exec (.captureProbeGo ch p) s =
      .next (answered ch (modSig p (fun g => { g with probeRes := .pending, probeCap := some (ch, s.aon.tally) }) (requested ch s)))))
  ∧ (∀ (s : State) (ch : Chan) (p : PortId), sessionWrites s ch = true → bayTesting s p = false → rebaselinesLeft s = 0 →
    ∀ i ∈ [Instr.captureLineGo ch p, .captureProbeGo ch p], ∃ t, exec i s = .next t ∧ t.chans[ch].resp = .abort 0x0A01000D ∧ t.ports = s.ports)
  ∧ (∀ (s : State) (ch : Chan) (p : PortId), sessionWrites s ch = true →
    (s.ports[p].sig.level = .tamper → exec (.ackTamperGo ch p) s = .next (answered ch (raise (bayEv p 0x000C 7
        [BitVec.ofNat 8 p.val, 1, BitVec.ofNat 8 ch.val]) (modSig p (fun g => { g with level := .normal }) (requested ch s)))))
    ∧ (s.ports[p].sig.level ≠ .tamper → exec (.ackTamperGo ch p) s = .next (answered ch (requested ch s))))
  ∧ (∀ (s : State) (p : PortId) (ch : Chan) (since : Nat),
    (s.ports[p].sig.lineCap = some (ch, since) → since + 10000000000 ≤ s.aon.tally →
      exec (.captureTimeout p .line) s = .next (modSig p (fun g => { g with lineRes := .notUp, lineCap := none }) s))
    ∧ (s.ports[p].sig.probeCap = some (ch, since) → since + 10000000000 ≤ s.aon.tally →
      exec (.captureTimeout p .probe) s = .next (modSig p (fun g => { g with probeRes := .notQuiet, probeCap := none }) s))
    ∧ (∀ k, captureOf s.ports[p].sig k = some (ch, since) → s.aon.tally < since + 10000000000 →
      exec (.captureTimeout p k) s = .next s))

/-- R240 to R242, R376: probes: one that a capture asks for in BOIL stores its signature in the empty PROBE slot, a further probe after an
anomalous one, and the SIMMER probe of the next port with a reference, which raises BOIL where a segment exceeds ANOMALY; a line that is
not quiet is counted, and the port is left for the next wake; there is one SIMMER probe in each window of SimmerPeriod of tally time, and none
while ProbeEnable is clear. -/
def Obligations.Probes : Prop :=
  ∀ (s : State) (p : PortId) (m : ProbeIn) (ch : Chan) (st : Nat),
    refLost s.ports[p].sig.lineRef = false → refLost s.ports[p].sig.probeRef = false →
    let b := sigBlock s p .probe 3 4095 (probeSamples m.bursts)
    (lineQuiet m = true → m.energy = false →
      (s.pwr.state = .boil → s.ports[p].sig.probeCap = some (ch, st) → s.ports[p].sig.probeRef.active = none →
        ∃ t, exec (.probeRun p m) s = .next t
          ∧ t.ports[p].sig.probeRes = .storedNew ∧ t.ports[p].sig.probeCap = none
          ∧ t.ports[p].sig.probeRef.active = some b ∧ t.ports[p].sig.probeCur = some b ∧ t.ports[p].line.bursts = 4 ∧ t.fus = s.fus)
      ∧ (s.pwr.state = .boil → 0 < s.ports[p].sig.probesLeft → s.ports[p].sig.probeCap = none →
        ∃ t, exec (.probeRepeat p m) s = .next t
          ∧ t.ports[p].sig.probeCur = some b
          ∧ t.ports[p].sig.probesLeft = if probeAnomalous t p then s.ports[p].sig.probesLeft - 1 else 0)
      ∧ (tickDue s = true → s.pwr.transition = none → nextProbePort s s.pwr.nextProbe = some p →
          s.ports[p].sig.probeCap = none → s.pwr.thermalRest = false →
        ∃ t, exec (.simmerProbeWake m) s = .next t
          ∧ t.pwr.nextProbe = p + 1 ∧ t.pwr.probeTick = simmerWindow s ∧ t.ports[p].sig.probeCur = some b
          ∧ t.pwr.transition = (if probeAnomalous t p then some .boil else none)
          ∧ (probeAnomalous t p = true → t.pwr.wake = some (.probe p) ∧ t.clk.ref = .starting)))
    ∧ (s.pwr.state = .boil → s.ports[p].sig.probesLeft = 0 → exec (.probeRepeat p m) s = .next s)
    ∧ (tickDue s = false → exec (.simmerProbeWake m) s = .next s ∧ (s.pwr.state = .simmer → exec (.probeRun p m) s = .next s))
    ∧ (lineQuiet m = false → tickDue s = true → s.pwr.transition = none → nextProbePort s s.pwr.nextProbe = some p →
      ∃ t, exec (.simmerProbeWake m) s = .next t ∧ t.pwr = { s.pwr with nextProbe := p, probeTick := simmerWindow s } ∧ t.ports[p].line.bursts = 0
        ∧ t.ports[p].sig.counters = bump 3 1 s.ports[p].sig.counters ∧ t.ports[p].sig.probeCur = s.ports[p].sig.probeCur)

/-- R248, R249, R251, R254, R256, R257: a seal enabled arms its chain for the next whole millisecond, a seal disabled cuts the open
window, windows follow one another; the oldest ended window is rooted once all its leaves are known, and its seal frame waits for delivery
or its ANCHOR enters the commit queue. -/
def Obligations.SealChainsAndRoots : Prop :=
  (∀ (s : State) (ch : Chan) (p : PortId) (w : SealWindow) (t0 : Nat),
     (ownerWrites s ch p = true → unlocked s ch p = true →
       (s.ports[p].sealing.enable = false → sealUnitOpen s = true →
         exec (.sealEnable ch p) s = .next (answered ch (modSeal p (fun q =>
           { q with enable := true, t0 := some (nextMs s.aon.tally) }) (requested ch s))))
       ∧ (s.ports[p].sealing.enable = false → sealUnitOpen s = false →
         exec (.sealEnable ch p) s = .next (answered ch (modSeal p (fun q => { q with enable := true }) (requested ch s))))
       ∧ (s.ports[p].sealing.enable = true → (hasSession s ch = true ∨ isBound s = false) → s.ports[p].host.busy = none →
           s.ports[p].sealing.window = some w →
         exec (.sealDisable ch p) s = .next (answered ch (modSeal p (fun q => { q with
           enable := false, window := none, t0 := none, cutDue := false
           ended := q.ended ++ [{ w with finish := s.aon.tally, cut := true }] }) (requested ch s)))))
     ∧ (s.ports[p].sealing.t0 = some t0 → t0 ≤ s.aon.tally → s.ports[p].sealing.enable = true → sealUnitOpen s = true →
         exec (.chainStart p) s = .next (modSeal p (fun q => { q with
           t0 := none, current := 0, window := some (newWindow s p 0 t0), cutDue := false
           ended := q.ended ++ q.window.toList.map (fun v => { v with finish := s.aon.tally, cut := true }) }) s))
     ∧ (s.ports[p].sealing.t0 = none → exec (.chainStart p) s = .next s)
     ∧ (s.ports[p].sealing.window = some w →
         exec (.sealWindowEnd p) s = .next (if w.start + w.length * 1000000 ≤ s.aon.tally then
           modSeal p (fun q => { q with
             ended := q.ended ++ [{ w with finish := w.start + w.length * 1000000 }], current := w.number + 1
             window := some (newWindow s p (w.number + 1) (w.start + w.length * 1000000)) }) s
         else s)))
  ∧ (∀ (s : State) (p : PortId) (w : SealWindow) (rest : List SealWindow), s.ports[p].sealing.ended = w :: rest → w.awaiting = false →
       (leavesKnown s p w = false → exec (.sealRoot p) s = .next s)
       ∧ (leavesKnown s p w = true → anchorNeeded s p w = false →
         ∃ t f, exec (.sealRoot p) s = .next t
           ∧ t.ports[p].sealing.ended = rest ∧ t.ports[p].sealing.frames = s.ports[p].sealing.frames ++ [f]
           ∧ t.ports[p].sealing.counters = bump 0 1 s.ports[p].sealing.counters ∧ s.free < t.free ∧ t.free ≤ s.free + 9 ∧ t.crock = s.crock
           ∧ t.ports[p].link = s.ports[p].link ∧ (∀ q : PortId, q ≠ p → t.ports[q] = s.ports[q]))
       ∧ (leavesKnown s p w = true → anchorNeeded s p w = true → takesEvents s 1 →
         ∃ t e, exec (.sealRoot p) s = .next t
           ∧ t.ports[p].sealing.ended = { w with awaiting := true, root := sealRootOf w.leaves } :: rest
           ∧ t.crock.queue = s.crock.queue ++ [stampEv s e] ∧ e.code = 0x0500 ∧ e.port = some p ∧ e.sev = 6
           ∧ t.ports[p].sealing.frames = s.ports[p].sealing.frames)
       ∧ sealRootOf [] = List.replicate 32 0 ∧ (∀ a : List Byte, sealRootOf [a] = a)
       ∧ (∀ a b : List Byte, sealRootOf [a, b] = sha256 (0x01 :: a ++ b))
       ∧ (∀ a b c : List Byte, sealRootOf [a, b, c] = sha256 (0x01 :: sha256 (0x01 :: a ++ b) ++ c)))

/-! ## The host lane (chapter 10) -/

/-- R156, R263, R265: a frame that arrives on HRXn: its start captures the settings in force, its bytes are kept and packed where the
class has room, an invalid block counts as as many bytes of 0x00 and sets ERRORED, and its end admits it; none begins while the lane's gate is being closed (R278). -/
def Obligations.HostFramesArrive : Prop :=
  ∀ (s : State) (p : PortId) (at_ : Nat) (bs : List Byte) (e : FrameEnd),
    (s.ports[p].host.up = true → s.ports[p].host.arriving = none → laneClosing s p = false → ∃ t, exec (.hostFrameStart p at_) s = .next t ∧ OnlyPort p s t
      ∧ t.ports[p].host.arriving = some { at_ := at_, maxLen := s.ports[p].cfg.maxFrame, pcpClass := s.ports[p].cfg.pcpClass
                                          dfltClass := s.ports[p].cfg.defaultClass, markOn := s.ports[p].ptp.enable.getLsbD 0
                                          mask := s.ports[p].ptp.mask, cut := !bayOpen s p }
      ∧ t.ports[p].host.begunAt = s.aon.tally
      ∧ t.ports[p].host.rxLpi = false ∧ t.ports[p].host.idleHeld = false ∧ t.ports[p].tx = s.ports[p].tx)
    ∧ (s.ports[p].host.up = false ∨ s.ports[p].host.arriving = none ∧ laneClosing s p = true → exec (.hostFrameStart p at_) s = .next s)
    ∧ (∀ a, s.ports[p].host.arriving = some a → a.oversize = false → a.dropped = false → a.cut = false →
      a.total + bs.length ≤ a.maxLen → inStd s.ports[p] = true →
      exec (.hostFrameData p bs .clean) s = .next (modHost p (fun h => { h with
        arriving := some { a with total := a.total + bs.length, bytes := a.bytes ++ bs } }) s)
      ∧ (laneFec s.ports[p].host = true → exec (.hostFrameData p bs .corrected) s = .next (modHost p (fun h => { h with
        arriving := some { a with total := a.total + bs.length, bytes := a.bytes ++ bs }, counters := bump 3 1 h.counters }) s))
      ∧ exec (.hostFrameData p bs .invalid) s = .next (modHost p (fun h => { h with
        arriving := some { a with total := a.total + bs.length, bytes := a.bytes ++ List.replicate bs.length 0, errored := true } }) s))
    ∧ (∀ a c w, s.ports[p].host.arriving = some a → a.oversize = false → a.dropped = false → a.cut = false → a.cls = some c →
      a.total + bs.length ≤ a.maxLen → inStd s.ports[p] = false → s.ports[p].tx[c].openP = some w → bs ≠ [] →
      w.bytes.length + bs.length < 256 →
      ∃ t, exec (.hostFrameData p bs .clean) s = .next t ∧ OnlyPort p s t
        ∧ t.ports[p].tx[c].openP = some { w with bytes := w.bytes ++ bs, held := true }
        ∧ t.ports[p].host.arriving = some { a with total := a.total + bs.length, bytes := a.bytes ++ bs })
    ∧ (∀ a c, s.ports[p].host.arriving = some a → a.oversize = false → a.dropped = false → a.cut = false → a.cls = some c →
      a.ptpMark = false → 0 < a.total → inStd s.ports[p] = false →
      ∃ t, exec (.hostFrameEnd p e) s = .next t ∧ t.ports[p].host.arriving = none
        ∧ t.ports[p].cnt.framesIn = bump64 c.val 1 s.ports[p].cnt.framesIn
        ∧ t.ports[p].cnt.erroredIn = (if a.errored = true ∨ e ≠ .terminate then sat32 (s.ports[p].cnt.erroredIn + 1)
            else s.ports[p].cnt.erroredIn)
        ∧ t.ports[p].link = s.ports[p].link)
    ∧ (∀ a, s.ports[p].host.arriving = some a → a.total = 0 →
      exec (.hostFrameEnd p e) s = .next (modHost p (fun h => { h with arriving := none, counters := bump 5 1 h.counters }) s))

/-- R180, R183, R206, R250, R263, R267, R276: a frame boundary on HTXn, the lane's coming up and going down, LPI and idleness as the host
shows them, and a pause that is asked for again. -/
def Obligations.HostLane : Prop :=
  (∀ (s : State) (p : PortId) (at_ : Nat), s.ports[p].host.up = true → s.ports[p].host.pendingMode = none →
     s.ports[p].host.pfcOwed = [] → s.ports[p].sealing.notices = [] → s.ports[p].sealing.frames = [] → s.ports[p].sealing.cutDue = false →
     s.ports[p].sieve.hostOutDue = false → laneClosing s p = false →
     s.ports[p].rx[0].ready = [] → s.ports[p].rx[2].ready = [] → s.ports[p].rx[3].ready = [] →
     (∀ c bytes, s.ports[p].rx[1].ready = [] → s.ports[p].host.busy = some (.frame c bytes false) →
       exec (.htxFrameBoundary p at_) s = .next (modHost p (fun h => { h with busy := none, busyLeaf := none }) s))
     ∧ (∀ f, s.ports[p].rx[1].ready = [.frame f] → s.ports[p].host.busy = none → f.errored = false →
         ptpEvent s.ports[p].ptp.mask f.bytes = none → f.ptp = none →
       (s.ports[p].sealing.window = none → ∃ t, exec (.htxFrameBoundary p at_) s = .next t ∧ OnlyPort p s t
         ∧ t.ports[p].host.busy = some (.frame 1 f.bytes false) ∧ t.ports[p].host.lastOut = some (.frame 1 f.bytes false)
         ∧ t.ports[p].rx[1].ready = [] ∧ t.ports[p].sealing = s.ports[p].sealing)
       ∧ (∀ w, s.ports[p].sealing.window = some w → hashable s p f.bytes.length = true →
         ∃ t v, exec (.htxFrameBoundary p at_) s = .next t
           ∧ t.ports[p].host.busy = some (.frame 1 f.bytes false) ∧ t.ports[p].sealing.window = some v
           ∧ v.leaves = w.leaves ++ [sha256 (0x00 :: f.bytes)] ∧ t.ports[p].host.busyLeaf = some (w.start, w.leaves.length)
           ∧ t.ports[p].sealing.counters = bump 1 1 s.ports[p].sealing.counters)))
  ∧ (∀ (s : State) (p : PortId) (c : Cls) (i : Nat),
       (laneGateOpen s p = true → s.ports[p].host.up = false → s.ports[p].host.active.isSome = true → s.pwr.passed = false →
         ∃ t, exec (.hostLaneUp p) s = .next t ∧ t.ports[p].host = { s.ports[p].host with
             up := true, lock := true, hiBer := false, fecAligned := laneFec s.ports[p].host }
           ∧ t.ports[p].link = s.ports[p].link ∧ t.clk.hostPll = s.clk.hostPll.set p.val .running
           ∧ t.crock = (raise (bayEv p 0x0008 1 [BitVec.ofNat 8 p.val, BitVec.ofNat 8 (laneCode s.ports[p].host.active)]) s).crock)
       ∧ (∀ hiBer : Bool, s.ports[p].host.up = true → s.ports[p].host.arriving = none →
         exec (.hostLaneDown { port := p, hiBer := hiBer }) s = .next (raise (bayEv p 0x0007 4 [BitVec.ofNat 8 p.val, BitVec.ofNat 8 (laneCode s.ports[p].host.active)])
           (modHost p (fun h => { h with
             up := false, lock := hiBer, hiBer := hiBer, fecAligned := hiBer && laneFec h, rxLpi := false, counters := bump 0 1 h.counters }) s)))
       ∧ (s.ports[p].host.up = true → s.ports[p].host.active ≠ some .x1000 →
         exec (.hostLpiBegin p) s = .next (modHost p (fun h => { h with rxLpi := true }) s))
       ∧ (s.ports[p].host.rxLpi = true → ∃ t, exec (.hostLpiEnd p) s = .next t ∧ OnlyPort p s t
         ∧ t.ports[p].host = { s.ports[p].host with rxLpi := false }
         ∧ (s.ports[p].line.txLpi ≠ .active → t.ports[p].line.wakeWanted = true)
         ∧ (s.ports[p].line.txLpi = .active → t.ports[p].line = s.ports[p].line))
       ∧ (s.ports[p].host.begunAt + 1000 * s.ports[p].host.idleTime ≤ s.aon.tally →
         exec (.hostIdleTimeout p) s = .next (modHost p (fun h => { h with idleHeld := true }) s))
       ∧ (s.aon.tally < s.ports[p].host.begunAt + 1000 * s.ports[p].host.idleTime → exec (.hostIdleTimeout p) s = .next s)
       ∧ (pfcIndex c = some i → s.ports[p].host.paused.getD i false = true → pfcAllowed s.ports[p] i = true →
           s.ports[p].cfg.pfcXon < occupancy s.ports[p].tx[c] →
           halfPause s.ports[p] ≤ 100 * (s.aon.tally - s.ports[p].host.pausedAt.getD i 0) →
         exec (.pfcRepeat p c) s = .next (modHost p (fun h => { h with pfcOwed := h.pfcOwed ++ [(c, false)] }) s)))

/-! ## The dictionary server's transfers (chapter 11; the classical frames' layout is log entry 13's) -/

/-- R281, R286 to R289, R308: an expedited download carries its 1 to 4 bytes in its first frame, is judged as a write and answered by the
confirmation or by an abort frame (the confirmation of a write that asks for a switch of a clock domain waits for the new clock, R352); an upload of 1 to 4 bytes answers them at once, a longer one begins a segmented upload. -/
def Obligations.ExpeditedTransfers : Prop :=
  ∀ (s : State) (ch : Chan) (i : BitVec 16) (sub : Byte) (d x : List Byte), served s ch = true → inTime s ch = true → inBlock s.chans[ch].xfer = false →
    let r := requested ch (framed ch s)
    (1 ≤ d.length → d.length ≤ 4 →
      let f : CanFrame := { fd := false, data := [BitVec.ofNat 8 (0x23 + 4 * (4 - d.length))] ++ muxBytes i sub ++ d
                                                 ++ List.replicate (4 - d.length) 0 }
      (∀ t, dictWrite ch i sub d r = .ok t →
        (t.clk.pending.length ≤ s.clk.pending.length → exec (.sdoInitiateDownload ch f) s =
          .next (canSend (chanFrame s ch false ([0x60] ++ muxBytes i sub ++ [0, 0, 0, 0])) (answered ch t)))
        ∧ (∀ x, t.clk.pending = s.clk.pending ++ [x] → ∃ u, exec (.sdoInitiateDownload ch f) s = .next u ∧ u.can.out = []
            ∧ u.clk.held = t.clk.held ++ [{ dom := x.1, ch := ch, index := i, sub := sub
                                            frame := chanFrame s ch false ([0x60] ++ muxBytes i sub ++ [0, 0, 0, 0]) }]))
      ∧ (∀ c t, dictWrite ch i sub d r = .error (c, t) → exec (.sdoInitiateDownload ch f) s =
        .next (canSend (chanFrame s ch false (abortFrame i sub c)) (answerAbort ch c (refusedWrite ch i sub c t)))))
    ∧ (x.length = 4 →
      let f : CanFrame := { fd := false, data := [0x40] ++ muxBytes i sub ++ x }
      (∀ v t, dictRead ch i sub r = .ok (v, t) → 1 ≤ v.length → v.length ≤ 4 → exec (.sdoInitiateUpload ch f) s =
        .next (canSend (chanFrame t ch false ([BitVec.ofNat 8 (0x43 + 4 * (4 - v.length))] ++ muxBytes i sub ++ v
          ++ List.replicate (4 - v.length) 0)) (answeredData ch v t)))
      ∧ (∀ v t, dictRead ch i sub r = .ok (v, t) → 4 < v.length → exec (.sdoInitiateUpload ch f) s =
        .next (canSend (chanFrame t ch false ([0x41] ++ muxBytes i sub ++ leBytes 4 v.length))
          (setXfer ch (.segUp i sub v false) (answeredData ch v t))))
      ∧ (∀ c t, dictRead ch i sub r = .error (c, t) → exec (.sdoInitiateUpload ch f) s =
        .next (canSend (chanFrame t ch false (abortFrame i sub c)) (answerAbort ch c (setXfer ch .none t)))))

/-- R287 to R289, R292: the segments of a download and of an upload, block transfers of at most 127 segments, the client's abort, and the
server's after 1000 ms of silence. -/
def Obligations.SegmentedAndBlockTransfers : Prop :=
  (∀ (s : State) (ch : Chan) (i : BitVec 16) (sub : Byte) (size : Nat) (got left x : List Byte) (tog : Bool),
     served s ch = true → inTime s ch = true → x.length = 7 →
     let r := framed ch s
     let head := BitVec.ofNat 8 (16 * tog.toNat)
     (inBlock s.chans[ch].xfer = false → size < 2 ^ 32 →
       exec (.sdoInitiateDownload ch { fd := false, data := [0x21] ++ muxBytes i sub ++ leBytes 4 size }) s =
         .next (canSend (chanFrame s ch false ([0x60] ++ muxBytes i sub ++ [0, 0, 0, 0]))
           (setXfer ch (.segDown i sub (some size) [] false) (requested ch r))))
     ∧ (s.chans[ch].xfer = .segDown i sub (some size) got tog →
       exec (.sdoDownloadSegment ch { fd := false, data := head :: x }) s =
         .next (canSend (chanFrame s ch false ([0x20 + head] ++ List.replicate 7 0)) (setXfer ch (.segDown i sub (some size) (got ++ x) (!tog)) r))
       ∧ (∃ t, exec (.sdoDownloadSegment ch { fd := false, data := (head ^^^ 0x10) :: x }) s = .next t
           ∧ t.chans[ch].xfer = .none ∧ t.chans[ch].resp = .abort 0x05030000
           ∧ t.can.out = [chanFrame s ch false (abortFrame i sub 0x05030000)])
       ∧ (∀ u, size = got.length + 7 → dictWrite ch i sub (got ++ x) (setXfer ch .none r) = .ok u →
           u.clk.pending.length ≤ s.clk.pending.length → exec (.sdoDownloadSegment ch { fd := false, data := (head + 1) :: x }) s =
             .next (canSend (chanFrame s ch false ([0x20 + head] ++ List.replicate 7 0)) (answered ch u))))
     ∧ (s.chans[ch].xfer = .segUp i sub left tog →
       (7 < left.length → exec (.sdoUploadSegment ch { fd := false, data := (0x60 + head) :: x }) s =
         .next (canSend (chanFrame s ch false (head :: left.take 7)) (setXfer ch (.segUp i sub (left.drop 7) (!tog)) r)))
       ∧ (left.length ≤ 7 → exec (.sdoUploadSegment ch { fd := false, data := (0x60 + head) :: x }) s =
         .next (canSend (chanFrame s ch false (padTo 8 (BitVec.ofNat 8 (16 * tog.toNat + 2 * (7 - left.length) + 1) :: left)))
           (setXfer ch .none r)))))
  ∧ (∀ (s : State) (ch : Chan) (i : BitVec 16) (sub : Byte) (n : Nat) (got x all : List Byte), served s ch = true → inTime s ch = true →
       let r := framed ch s
       (inBlock s.chans[ch].xfer = false → tooShort s ch i sub = false → n < 2 ^ 32 →
         exec (.sdoBlockDownload ch { fd := false, data := [0xC6] ++ muxBytes i sub ++ leBytes 4 n }) s =
           .next (canSend (chanFrame s ch false ([0xA4] ++ muxBytes i sub ++ [127, 0, 0, 0]))
             (setXfer ch (.blkDown i sub (some n) true [] 1 false) (requested ch r))))
       ∧ (∀ size crc k, s.chans[ch].xfer = .blkDown i sub size crc got k false → x.length = 7 → 1 ≤ k → k < 127 →
         exec (.sdoBlockDownload ch { fd := false, data := BitVec.ofNat 8 k :: x }) s =
           .next (setXfer ch (.blkDown i sub size crc (got ++ x) (k + 1) false) r)
         ∧ exec (.sdoBlockDownload ch { fd := false, data := BitVec.ofNat 8 (128 + k) :: x }) s =
           .next (canSend (chanFrame s ch false ([0xA2, BitVec.ofNat 8 k, 127] ++ List.replicate 5 0))
             (setXfer ch (.blkDown i sub size crc (got ++ x) 1 true) r)))
       ∧ (inBlock s.chans[ch].xfer = false → tooShort s ch i sub = false → ∀ v t, dictRead ch i sub (requested ch r) = .ok (v, t) →
           tooShort t ch i sub = false → 0 < v.length →
         exec (.sdoBlockUpload ch { fd := false, data := [0xA4] ++ muxBytes i sub ++ [127, 0, 0, 0] }) s =
           .next (canSend (chanFrame t ch false ([0xC6] ++ muxBytes i sub ++ leBytes 4 v.length))
             (setXfer ch (.blkUp i sub v 0 127 false 0 true) (answeredData ch v t))))
       ∧ (∀ blk crc, s.chans[ch].xfer = .blkUp i sub all 0 blk false 0 crc → 0 < all.length → 1 ≤ blk → blk ≤ 127 →
         ∃ t, exec (.sdoBlockUpload ch { fd := false, data := [0xA3, 0, 0, 0, 0, 0, 0, 0] }) s = .next t
           ∧ t.chans[ch].xfer = .blkUp i sub all 0 blk true (blockFrames blk 1 all).length crc
           ∧ t.can.out.length = (blockFrames blk 1 all).length)
       ∧ (x.length = 7 →
         exec (.sdoAbort ch { fd := false, data := 0x80 :: x }) s = .next (setXfer ch .none r))
       ∧ (xferTarget s.chans[ch].xfer = some (i, sub) → s.chans[ch].heardAt + 1000000000 ≤ s.aon.tally → ∃ t, exec (.sdoTimeout ch) s = .next t
           ∧ t.chans[ch].xfer = .none ∧ t.chans[ch].resp = .abort 0x05040000
           ∧ t.can.out = [chanFrame s ch false (abortFrame i sub 0x05040000)]
           ∧ t.chans[ch].counters = bump 1 1 s.chans[ch].counters ∧ t.ports = s.ports)
       ∧ (s.chans[ch].xfer = .none → s.chans[ch].heardAt + 1000000000 ≤ s.aon.tally → exec (.sdoTimeout ch) s = .next (clearOut s))
       ∧ (s.aon.tally < s.chans[ch].heardAt + 1000000000 → exec (.sdoTimeout ch) s = .next s))

/-- R290 to R292: wide segments, in profile 1.1: 56 bytes in an initiate frame and 63 in a segment, each confirmed; the field of 1 to 56
bytes completes at once; an initiate frame whose T is not 0 (Table 11-3) aborts with toggle bit not alternated. -/
def Obligations.WideTransfers : Prop :=
  ∀ (s : State) (ch : Chan) (i : BitVec 16) (sub : Byte) (got left x : List Byte) (size : Nat),
    served s ch = true → inTime s ch = true → newProfile s ch = true →
    let r := framed ch s
    (x.length = 56 → 56 < size → size ≤ 1048576 →
      exec (.wideInitiateDownload ch { fd := true, data := [0xE0] ++ muxBytes i sub ++ leBytes 4 size ++ x }) s =
        .next (canSend (chanFrame s ch true ([0xF0] ++ muxBytes i sub ++ [0, 0, 0, 0]))
          (setXfer ch (.wideDown i sub size x false) (requested ch r))))
    ∧ (∀ t, x.length = 56 → 1 ≤ size → size ≤ 56 → dictWrite ch i sub (x.take size) (requested ch r) = .ok t →
      t.clk.pending.length ≤ s.clk.pending.length → exec (.wideInitiateDownload ch { fd := true, data := [0xE2] ++ muxBytes i sub ++ leBytes 4 size ++ x }) s =
        .next (canSend (chanFrame s ch true ([0xF2] ++ muxBytes i sub ++ [0, 0, 0, 0])) (answered ch t)))
    ∧ (s.chans[ch].xfer = .wideDown i sub size got false → x.length = 63 → got.length + 63 < size →
      exec (.wideSegment ch { fd := true, data := 0xE8 :: x }) s =
        .next (canSend (chanFrame s ch true ([0xF0] ++ muxBytes i sub ++ [0, 0, 0, 0]))
          (setXfer ch (.wideDown i sub size (got ++ x) true) r)))
    ∧ (∀ v t, x.length = 4 → dictRead ch i sub (requested ch r) = .ok (v, t) → 56 < v.length →
      exec (.wideInitiateUpload ch { fd := true, data := [0xE4] ++ muxBytes i sub ++ x }) s =
        .next (canSend (chanFrame t ch true ([0xE4] ++ muxBytes i sub ++ leBytes 4 v.length ++ v.take 56))
          (setXfer ch (.wideUp i sub (v.drop 56) none) (answeredData ch v t))))
    ∧ (x.length = 60 → ∀ c ∈ [0xE1#8, 0xE3#8], ∃ t,
        exec (.wideInitiateDownload ch { fd := true, data := [c] ++ muxBytes i sub ++ x }) s = .next t
          ∧ t.chans[ch].resp = .abort 0x05030000 ∧ t.ports = s.ports ∧ t.aon = s.aon)
    ∧ (x.length = 4 → ∃ t, exec (.wideInitiateUpload ch { fd := true, data := [0xE5] ++ muxBytes i sub ++ x }) s = .next t
        ∧ t.chans[ch].resp = .abort 0x05030000 ∧ t.ports = s.ports)
    ∧ (s.chans[ch].xfer = .wideUp i sub left none → x.length = 7 →
      (63 < left.length → exec (.wideConfirm ch { fd := true, data := 0xF4 :: x }) s =
        .next (canSend (chanFrame s ch true (0xEC :: left.take 63)) (setXfer ch (.wideUp i sub (left.drop 63) (some false)) r)))
      ∧ (left.length ≤ 63 → exec (.wideConfirm ch { fd := true, data := 0xF4 :: x }) s =
        .next (canSend (chanFrame s ch true (0xEE :: left ++ List.replicate (63 - left.length) 0)) (setXfer ch .none r))))

/-! ## Writes by class of field (chapter 11) -/

/-- R302, R304: a CTRL field takes the value written; an element of a counter is zeroed by 0 and left by all ones. -/
def Obligations.DictionaryClassWrites : Prop :=
  ∀ (s : State) (ch : Chan), served s ch = true →
    (∀ v : BitVec 16, (ownsAny s ch = true ∨ hasWorkshop s ch = true) → (v.toNat = 0 ∨ 10 ≤ v.toNat) →
      exec (.genericWrite ch 0x1017 0 (leBytes 2 v.toNat)) s =
        .next (answered ch (modCan (fun c => { c with heartbeat := v.toNat }) (requested ch s))))
    ∧ (∀ (p : PortId) (v : BitVec 16), ownerWrites s ch p = true → unlocked s ch p = true → 64 ≤ v.toNat → v.toNat ≤ 16000 →
      exec (.genericWrite ch (portIndex 0x3020 p) 1 (leBytes 2 v.toNat)) s =
        .next (answered ch (modPort p (fun q => { q with cfg := { q.cfg with maxFrame := v.toNat } }) (requested ch s))))
    ∧ (∀ (p : PortId) (zero : Bool), ownerWrites s ch p = true → s.ports[p].link.counters.length = 10 →
      exec (.counterZero ch (portIndex 0x3000 p) 7 (List.replicate 40 (if zero then 0x00 else 0xFF))) s =
        .next (answered ch (modLink p (fun l => { l with counters := if zero then List.replicate 10 0 else l.counters })
          (requested ch s))))

/-- R20, R306, R339: a posted write is accepted and marks the channel busy until the always-on domain has applied it; another one aborts
meanwhile; a step of civil time passes with a session, or within the owner's allowance, which the start of a new 24 h restores (an owner may change RetentionMask's bits of its own ports; a step accepted in the cycle in which 24 h end is judged
against them: Table 13-7). -/
def Obligations.PostedWrites : Prop :=
  ∀ (s : State) (ch : Chan),
    (∀ v : Byte, served s ch = true → life s ≠ .ended →
        (hasSession s ch = true ∨ ownsAny s ch = true ∧ (maskPorts (v ^^^ maskPending s)).all (owns s ch) = true) →
      (s.chans[ch].busy = false → exec (.postedWrite ch 0x2204 0 [v]) s = .next (answered ch (modChan ch (fun c => { c with busy := true })
        { requested ch s with aon := { s.aon with posted := s.aon.posted ++ [.retention ch v] } })))
      ∧ (s.chans[ch].busy = true →
        ∃ t, exec (.postedWrite ch 0x2204 0 [v]) s = .next t ∧ t.chans[ch].resp = .abort abPosted ∧ t.aon = s.aon ∧ t.pwr = s.pwr))
    ∧ (∀ v : Byte, served s ch = true → life s ≠ .ended → hasSession s ch = false → ownsAny s ch = true → s.chans[ch].busy = false →
        (maskPorts (v ^^^ maskPending s)).all (owns s ch) = false →
      ∃ t, exec (.postedWrite ch 0x2204 0 [v]) s = .next t ∧ t.chans[ch].resp = .abort abRole ∧ t.aon = s.aon ∧ t.pwr = s.pwr)
    ∧ (∀ x : BitVec 64, served s ch = true → life s ≠ .ended → s.chans[ch].busy = false → x.toInt ≠ 0 →
        0 ≤ civilAhead s + x.toInt → civilAhead s + x.toInt < 2 ^ 64 →
      let a := (newDay (s.aon.tally - 1) s).aon
      (hasSession s ch = true → exec (.civilStep ch x) s = .next (answered ch (modChan ch (fun c => { c with busy := true })
        { requested ch s with aon := { a with posted := a.posted ++ [.civil ch (stepRole ch s) x.toInt] } })))
      ∧ (hasSession s ch = false → ownsAny s ch = true → stepNeed x.toInt ≤ a.allowanceHeld →
        exec (.civilStep ch x) s = .next (answered ch (modChan ch (fun c => { c with busy := true })
          { requested ch s with aon := { a with
            posted := a.posted ++ [.civil ch 1 x.toInt], allowanceHeld := a.allowanceHeld - stepNeed x.toInt } })))
      ∧ (hasSession s ch = false → ownsAny s ch = true → a.allowanceHeld < stepNeed x.toInt →
        ∃ t, exec (.civilStep ch x) s = .next t ∧ t.chans[ch].resp = .abort abRole ∧ t.aon = s.aon))
    ∧ (∀ c v rest, s.pwr.on = true → s.aon.posted = .retention c v :: rest →
      exec .postedApply s = .next (modChan c (fun x => { x with busy := false })
        { s with aon := { s.aon with posted := rest }, pwr := { s.pwr with retention := v } }))
    ∧ (∀ c role x rest, s.pwr.on = true → s.aon.posted = .civil c role x :: rest →
      ∃ t, exec .postedApply s = .next t
        ∧ t.aon = { s.aon with
            posted := rest, offset := s.aon.offset + x, civilStale := false, lastStep := s.aon.tally
            allowance := if role = 1 then max (s.aon.allowance - stepNeed x) s.aon.allowanceHeld else s.aon.allowance }
        ∧ t.chans[c].busy = false ∧ t.ports = s.ports ∧ t.pwr = s.pwr
        ∧ (takesEvents s 1 →
            ∃ e, t.crock.queue = s.crock.queue ++ [e] ∧ e.ev.code = 0x0901))
    ∧ (s.pwr.on = true → s.aon.posted = [] → exec .postedApply s = .next s)
    ∧ (s.pwr.on = true →
      exec .allowanceWindow s = .next (if s.aon.dayWindow < s.aon.tally / 86400000000000 then
        { s with aon := { s.aon with
          dayWindow := s.aon.tally / 86400000000000, allowance := 2000000, allowanceHeld := 2000000 } } else s))

/-- R281, R285, R294, R307, R319: a session stores bit rates, which keep the arbitration rate within the data rate, and COB-IDs; every
channel selects its own profile; an owner's first write of its own ConfigLock stands; new rates that lead to error-passive within 2 s
without a good frame give way to those before. -/
def Obligations.CanSettings : Prop :=
  ∀ (s : State) (ch : Chan),
    (∀ v : BitVec 16, sessionWrites s ch = true →
      (v.toNat ∈ [125, 250, 500, 1000] → v.toNat ≤ s.can.dataRate → exec (.canBitRateWrite ch 1 v) s =
        .next (answered ch (modCan (fun c => { c with arbRate := v.toNat }) (requested ch s))))
      ∧ (v.toNat ∈ [500, 1000, 2000, 4000, 5000] → s.can.arbRate ≤ v.toNat → exec (.canBitRateWrite ch 2 v) s =
        .next (answered ch (modCan (fun c => { c with dataRate := v.toNat }) (requested ch s)))))
    ∧ (∀ (k : Fin 3) (second : Bool) (v : BitVec 32), sessionWrites s ch = true → cobOk (2 * k.val + second.toNat) v.toNat s = true →
      exec (.cobIdWrite ch k (BitVec.ofNat 8 (1 + second.toNat)) v) s =
        .next (answered ch (modCan (fun c => { c with cobs := c.cobs.set (2 * k.val + second.toNat) v }) (requested ch s))))
    ∧ (∀ v : BitVec 16, served s ch = true → (v = 0x0100 ∨ v = 0x0101) →
      exec (.profileSelect ch (BitVec.ofNat 8 (ch.val + 1)) v) s =
        .next (answered ch (modChan ch (fun c => { c with profile := v }) (requested ch s)))
      ∧ (∀ other : Chan, other ≠ ch → ∃ t, exec (.profileSelect ch (BitVec.ofNat 8 (other.val + 1)) v) s = .next t
          ∧ t.chans[ch].resp = .abort abRole ∧ t.chans[ch].profile = s.chans[ch].profile
          ∧ t.chans[other].profile = s.chans[other].profile))
    ∧ (∀ m : Byte, served s ch = true → life s ≠ .ended → s.chans[ch].profile = 0x0101 → ownsAny s ch = true →
        (∀ p : PortId, m.getLsbD p.val = true → owns s ch p = true) →
      (s.chans[ch].configLock = none → exec (.configLock ch (BitVec.ofNat 8 (ch.val + 1)) m) s =
        .next (answered ch (modChan ch (fun c => { c with configLock := some m }) (requested ch s))))
      ∧ (∀ old, s.chans[ch].configLock = some old → ∃ t, exec (.configLock ch (BitVec.ofNat 8 (ch.val + 1)) m) s = .next t
          ∧ t.chans[ch].resp = .abort abWritten ∧ t.chans[ch].configLock = some old))
    ∧ (∀ since, s.can.ratesSince = some since →
      (s.aon.tally < since + 2000000000 → s.can.errorPassive = true → s.can.goodFrame = false →
        ∃ t, exec .bitrateReverted s = .next t ∧ t.can.inUse = s.can.before ∧ t.can.ratesSince = none
          ∧ t.can.arbRate = s.can.arbRate ∧ t.can.dataRate = s.can.dataRate ∧ t.ports = s.ports ∧ t.chans = s.chans
          ∧ (takesEvents s 1 →
              ∃ e, t.crock.queue = s.crock.queue ++ [e] ∧ e.ev.code = 0x0607))
      ∧ ((since + 2000000000 ≤ s.aon.tally ∨ s.can.errorPassive = false ∨ s.can.goodFrame = true) →
        exec .bitrateReverted s = .next s))

/-! ## Sessions and the CAN stack (chapter 11) -/

/-- R299, R300, R301, R297: a nonce is drawn for the channel and lives 60 s; an answer uses it up, opens a session of 30 minutes where
every check passes, and counts a failure, the fifth in a row starting a lockout of 60 s, where one fails; a session ends by a write, by
its age, with the Holder's sieve and the calibration run that ran under it; a session sets the owners of the ports, and the first binding
burns BOUND. -/
def Obligations.SessionsOpenAndEnd : Prop :=
  ∀ (s : State) (ch : Chan),
    (served s ch = true →
      (s.aon.lockout ≤ s.aon.tally → exec (.authNonceRead ch) s =
        .next (answeredData ch (beBytes 16 (drawn s % 2 ^ 128)) (afterDraw (modChan ch (fun c =>
          { c with nonce := some (beBytes 16 (drawn s % 2 ^ 128), s.aon.tally + 60000000000) }) (requested ch s)))))
      ∧ (s.aon.tally < s.aon.lockout → ∃ t, exec (.authNonceRead ch) s = .next t
          ∧ t.chans[ch].resp = .abort abLocked ∧ t.chans[ch].nonce = s.chans[ch].nonce ∧ t.free = s.free)
      ∧ (∀ d, ∃ t, exec (.authResponse ch d) s = .next t ∧ t.chans[ch].nonce = none)
      ∧ (∀ d, d.length = 272 → authLifeDenied s (d.getD 1 0).toNat = false → s.aon.lockout ≤ s.aon.tally →
        (authCheck s ch d = none → ∃ t, exec (.authResponse ch d) s = .next t ∧ t.chans[ch].resp = .ok
          ∧ t.chans[ch].session = some { role := if (d.getD 1 0).toNat = 1 then .workshop else .maker
                                         expiry := s.aon.tally + 1800000000000
                                         keyId := (sha256 ((d.drop 68).take 64)).take 4 }
          ∧ t.aon.authRun = 0 ∧ (∀ c : Chan, c ≠ ch → t.chans[c].session = s.chans[c].session)
          ∧ (s.chans[ch].session = none → t.ports = s.ports ∧ t.sieveHolder = s.sieveHolder ∧ t.cal = s.cal))
        ∧ (∀ k, authCheck s ch d = some k → ∃ t, exec (.authResponse ch d) s = .next t ∧ t.chans[ch].resp = .abort abAuth
          ∧ t.chans[ch].session = s.chans[ch].session ∧ t.ports = s.ports
          ∧ (s.aon.authRun = 4 → t.aon.authRun = 0 ∧ t.aon.lockout = s.aon.tally + 60000000000)
          ∧ (s.aon.authRun ≠ 4 → t.aon.authRun = s.aon.authRun + 1 ∧ t.aon.lockout = s.aon.lockout))))
    ∧ (∀ n till, s.chans[ch].nonce = some (n, till) → exec (.nonceExpiry ch) s =
        .next (if till ≤ s.aon.tally then modChan ch (fun c => { c with nonce := none }) s else s))
    ∧ (s.aon.lockout ≤ s.aon.tally → exec .authLockoutEnd s = .next (copyToMram { s with aon := { s.aon with lockout := 0 } }))
    ∧ (∀ x, s.chans[ch].session = some x → ∀ i, (i = .sessionExpiry ch ∧ x.expiry ≤ s.aon.tally
          ∨ i = .sessionEndWrite ch (BitVec.ofNat 8 (ch.val + 1)) 0 ∧ served s ch = true) →
        ∃ t, exec i s = .next t ∧ t.chans[ch].session = none
          ∧ (∀ c : Chan, c ≠ ch → t.chans[c].session = s.chans[c].session)
          ∧ (∀ r, s.cal.run = some r → r.ch = ch → t.cal.run = none ∧ t.cal.stage = .abandoned)
          ∧ (s.sieveHolder = some ch → ∀ p : PortId, s.ports[p].sieve.live ≠ 0 → t.ports[p].sieve.arm = 0))
    ∧ (∀ x, s.chans[ch].session = some x → s.aon.tally < x.expiry → exec (.sessionExpiry ch) s = .next s)
    ∧ (∀ v : BitVec 16, served s ch = true → hasSession s ch = true →
      (life s = .sealedBound → ∃ t, exec (.ownersWrite ch v) s = .next t ∧ t.can.owners = v
          ∧ t.can.bindingCount = sat16 (s.can.bindingCount + 1) ∧ t.can.lastBinding = s.aon.tally ∧ t.fus = s.fus)
      ∧ (life s = .sealedUnbound → ∃ t, exec (.ownersWrite ch v) s = .next t
          ∧ ((∃ c ∈ s.fus.bound, c.st = .fresh ∧ c.good = true) → life t = .sealedBound ∧ t.can.owners = v)
          ∧ ((∀ c ∈ s.fus.bound, c.st = .fresh → c.good = false) → life t = .sealedUnbound ∧ t.can.owners = s.can.owners)))

/-- R281 to R283, R310 to R314: an NMT command to this node enters its state and is recorded; Reset Communication and Reset Node end
transfers and sessions, return the profiles to 1.0, take the stored rates and COB-IDs into use and boot up; the heartbeat, the EMCY at the
head of its queue and the count of bus-offs; nothing is sent where the transmitter may not drive the bus (R356, R363, R414). -/
def Obligations.NmtAndCan : Prop :=
  ∀ s : State,
    (∀ (node : Byte), s.can.nmt ≠ .initialising → busDriven s = true → (node = 0 ∨ node = s.can.node) →
      (∀ i target, (i, target) ∈ [(Instr.nmtStart node, Nmt.operational), (.nmtPreOperational node, .preOperational),
          (.nmtStop node, .stopped)] →
        (s.can.nmt ≠ target → ∃ t, exec i s = .next t ∧ t.can.nmt = target ∧ t.chans = s.chans ∧ t.ports = s.ports ∧ t.aon = s.aon
          ∧ t.can.out = [] ∧ (takesEvents s 1 →
              ∃ e, t.crock.queue = s.crock.queue ++ [e] ∧ e.ev.code = 0x0605))
        ∧ (s.can.nmt = target → exec i s = .next { s with can := { s.can with out := [], goodFrame := true } }))
      ∧ (∀ i ∈ [Instr.nmtResetCommunication node, .nmtResetNode node], ∃ t, exec i s = .next t ∧ t.can.nmt = .preOperational
          ∧ t.can.out = [{ id := BitVec.ofNat 11 (0x700 + s.can.node.toNat), data := [0x00] }]
          ∧ t.can.inUse = (s.can.arbRate, s.can.dataRate) ∧ t.can.cobsInUse = s.can.cobs
          ∧ (∀ c : Chan, t.chans[c].session = none ∧ t.chans[c].xfer = .none ∧ t.chans[c].profile = 0x0100
              ∧ t.chans[c].nonce = s.chans[c].nonce ∧ t.chans[c].configLock = s.chans[c].configLock)
          ∧ (∀ p : PortId, t.ports[p].link = s.ports[p].link) ∧ t.gate = s.gate ∧ t.aon.tally = s.aon.tally))
    ∧ (s.can.nmt ≠ .initialising → s.can.heartbeat ≠ 0 → busDriven s = true → exec .heartbeat s =
        .next { s with can := { s.can with
          out := [{ id := BitVec.ofNat 11 (0x700 + s.can.node.toNat), data := [nmtByte s.can.nmt] }] } })
    ∧ (∀ m rest, (s.can.nmt = .preOperational ∨ s.can.nmt = .operational) → busDriven s = true → s.can.emcy = m :: rest →
        ∃ t, exec .emcySend s = .next t
          ∧ t.can.out = [{ id := BitVec.ofNat 11 (0x080 + s.can.node.toNat)
                           data := leBytes 2 m.code.toNat ++ [m.err, m.mask] ++ leBytes 4 m.info.toNat }]
          ∧ t.can.emcySent = sat32 (s.can.emcySent + 1) ∧ t.ports = s.ports ∧ t.crock = s.crock
          ∧ (s.can.dropped = 0 → t.can.emcy = rest)
          ∧ (0 < s.can.dropped → rest.length < 32 → ∃ d, t.can.emcy = rest ++ [d] ∧ d.code = 0xFFFE
              ∧ d.info = BitVec.ofNat 32 s.can.dropped ∧ t.can.dropped = 0))
    ∧ (s.can.nmt ≠ .initialising → ∃ t, exec .busOff s = .next t
        ∧ t.can = { s.can with busOffs := sat32 (s.can.busOffs + 1) } ∧ t.ports = s.ports ∧ t.chans = s.chans
        ∧ (takesEvents s 1 → ∃ e, t.crock.queue = s.crock.queue ++ [e] ∧ e.ev.code = 0x0606))
    ∧ (busDriven s = false → exec .heartbeat s = .next (clearOut s) ∧ exec .emcySend s = .next s)
    ∧ (∀ on, exec (.errorPassive on) s = .next { s with can := { s.can with errorPassive := on } })

/-! ## Gates, reset and the recorder (chapters 12 to 14) -/

/-- R17, R318, R320, R357, R358, Table 14-4: an accepted GateSet requests blocks at once and undoes their deferred closes, an accepted
GateClear defers the close of what is open, cuts the self-test of a bay it names and stops the PLL of a lane not yet open; a block opens when it can be powered and closes when its condition is met; the reset request
returns everything but MRAM, the fuses and the kept always-on state to its default. -/
def Obligations.GatesAndReset : Prop :=
  ∀ (s : State) (ch : Chan),
    (∀ v : BitVec 32, served s ch = true → life s ≠ .ended → v.toNat < 2 ^ 20 → (ownsAny s ch = true ∨ hasSession s ch = true) →
        (∀ g ∈ gateBits v, mayGate s ch g = true) →
      (∃ t, exec (.gateSet ch v) s = .next t ∧ t.chans[ch].resp = .ok
        ∧ t.gate = { s.gate with gates := s.gate.gates ||| v, pending := s.gate.pending &&& ~~~v }
        ∧ ((v.getLsbD 17 && s.gate.pending.getLsbD 17) = false → t = answered ch { requested ch s with gate := t.gate }))
      ∧ ((v.getLsbD 17 && sealHeldOpen s) = false → (clearsLocked v s = false ∨ hasSession s ch = true) →
        ∃ t, exec (.gateClear ch v) s = .next t ∧ t.chans[ch].resp = .ok
          ∧ t.gate = { s.gate with gates := s.gate.gates &&& ~~~v, pending := s.gate.pending ||| (v &&& s.gate.isOpen) }
          ∧ (v.getLsbD 16 = false → v.getLsbD 17 = false → (∀ p : PortId, v.getLsbD p.val = true → bayInTest s p = false) →
              (∀ p : PortId, v.getLsbD (8 + p.val) = true → s.gate.isOpen.getLsbD (8 + p.val) = true) →
              t = answered ch { requested ch s with gate := t.gate })
          ∧ (∀ p : PortId, v.getLsbD (8 + p.val) = true → s.gate.isOpen.getLsbD (8 + p.val) = false →
              t.clk.hostPll.getD p.val .off = .off)
          ∧ (∀ p : PortId, v.getLsbD p.val = true → s.bist.results.length = 8 → bayInTest t p = false))
      ∧ (v.getLsbD 17 = true → sealHeldOpen s = true → ∃ t, exec (.gateClear ch v) s = .next t
          ∧ t.chans[ch].resp = .abort abLocked ∧ t.gate = s.gate ∧ t.ports = s.ports))
    ∧ (∀ g : GateId,
      (s.gate.gates.getLsbD g.val = true → s.gate.isOpen.getLsbD g.val = false → gateReady s g.val = true →
        ∃ t, exec (.gateOpenComplete g) s = .next t ∧ t.gate = { s.gate with isOpen := s.gate.isOpen ||| 1#32 <<< g.val }
          ∧ (∀ p : PortId, p.val = g.val → Domain.sym p ∈ t.clk.onInput1)
          ∧ (g.val = 16 ∨ 18 ≤ g.val → t = { s with gate := t.gate })
          ∧ (8 ≤ g.val → g.val < 16 → t.clk.hostPll = s.clk.hostPll.set (g.val - 8) .running ∧ t.ports = s.ports))
      ∧ (s.gate.gates.getLsbD g.val = false ∨ s.gate.isOpen.getLsbD g.val = true ∨ gateReady s g.val = false →
        exec (.gateOpenComplete g) s = .next s)
      ∧ (s.gate.pending.getLsbD g.val = true → closeReady s g.val = true →
        ∃ t, exec (.gateCloseComplete g) s = .next t
          ∧ t.gate = { s.gate with isOpen := s.gate.isOpen &&& ~~~(1#32 <<< g.val), pending := s.gate.pending &&& ~~~(1#32 <<< g.val) }
          ∧ (16 ≤ g.val → g.val ≤ 18 → t = { s with gate := t.gate })
          ∧ (8 ≤ g.val → g.val < 16 → t.clk.hostPll.getD (g.val - 8) .off = .off)
          ∧ (∀ p : PortId, p.val = g.val → t.ports[p].link.up = false ∧ t.ports[p].rx = Vector.replicate 4 {}
              ∧ t.ports[p].tx = Vector.replicate 4 {} ∧ t.ports[p].led = {}))
      ∧ (s.gate.pending.getLsbD g.val = false ∨ closeReady s g.val = false → exec (.gateCloseComplete g) s = .next s))
    ∧ (served s ch = true → (ownsAll s ch = true ∨ hasSession s ch = true) →
      (∃ t, exec (.resetRequest ch 0x6B740850) s = .next t ∧ t.chans[ch].resp = .ok ∧ t.gate = {} ∧ t.roll = {} ∧ t.fus = s.fus
        ∧ t.aon.tally = s.aon.tally ∧ t.can.nmt = .initialising ∧ t.pwr.startCause = .resetRequest
        ∧ t.crock.recs = s.crock.recs ∧ t.crock.queue = [] ∧ (∀ c : Chan, t.chans[c].session = none)
        ∧ (∀ p : PortId, t.ports[p].link = {} ∧ t.ports[p].host = {} ∧ t.ports[p].sig.lineRef = s.ports[p].sig.lineRef
            ∧ t.ports[p].sig.probeRef = s.ports[p].sig.probeRef))
      ∧ (∀ v : BitVec 32, v ≠ 0x6B740850 → ∃ t, exec (.resetRequest ch v) s = .next t ∧ t.chans[ch].resp = .abort abRange
        ∧ t.gate = s.gate ∧ t.ports = s.ports ∧ t.aon = s.aon))

/-- R321, R334, R365: RecordData answers the next record of the channel's selection and RecordBatch up to 15, and the selection moves
behind them; before START is committed the recorder's objects are under test; CLEAR_GO empties the crock in MANUFACTURE and leaves of the ports all
but the seal windows that waited for an anchor (R254). -/
def Obligations.RecorderReads : Prop :=
  ∀ (s : State) (ch : Chan), served s ch = true →
    (∀ i n rs, rs = recordsFrom (recordsSeen s) s.chans[ch].recordSelect.toNat →
        (i = .recordDataRead ch ∧ n = 1 ∨ i = .recordBatchRead ch ∧ n = 15 ∧ s.chans[ch].profile = 0x0101) →
      (s.crock.started = true → rs ≠ [] →
        exec i s = .next (answeredData ch ((rs.take n).flatMap Rec.bytes)
          (modChan ch (fun c => { c with recordSelect := BitVec.ofNat 32 (selectBehind s.crock (rs.drop n)) }) (requested ch s))))
      ∧ (s.crock.started = true → rs = [] →
        ∃ t, exec i s = .next t ∧ t.chans[ch].resp = .abort abGeneral ∧ t.crock = s.crock)
      ∧ (s.crock.started = false → ∃ t, exec i s = .next t ∧ t.chans[ch].resp = .abort abUnderTest ∧ t.crock = s.crock))
    ∧ (life s = .manufacture → hasMaker s ch = true → s.crock.started = true →
      ∃ t, exec (.clearGo ch) s = .next t ∧ t.chans[ch].resp = .ok ∧ t.crock.recs = [] ∧ t.crock.newest = 0 ∧ t.crock.full7 = false
        ∧ t.crock.bad = s.crock.bad ∧ (∀ p : PortId, t.ports[p] = { s.ports[p] with sealing := t.ports[p].sealing })
        ∧ ((∀ p : PortId, ∀ w ∈ s.ports[p].sealing.ended, w.awaiting = false) → t.ports = s.ports)
        ∧ (s.aon.witnessLost = none → t.crock.dropTally = List.replicate 8 0
            ∧ ∃ e, t.crock.queue = [e] ∧ e.ev.code = 0x0905))

/-- R16, R325, R328, R330, R331, R337, R338, R341, R342: events of one cycle enter the queue in their order; a commit places, numbers and
chains the record at the head of the queue; a commit that fails verification sends its slot to the bad-slot map and owes RECORDER_FAULT
before the record; a recovery attempt that commits ends WITNESS_LOST; the checkpoint keeps the second; the start-up scan takes the later of the
chain head and the newest record, and ends with START; each commit and each checkpoint write the inactive copy of the chain-head word and make it
the active one. -/
def Obligations.RecorderCommits : Prop :=
  ∀ s : State,
    (∀ evs, running s = true → takesEvents s evs.length →
      exec (.eventRaise evs) s =
        .next { s with crock := { s.crock with queue := s.crock.queue ++ (evSort evs).map (stampEv s) } })
    ∧ (∀ q rest slot, s.crock.scanning = false → s.pwr.state = .boil → s.aon.witnessLost = none → s.crock.owed = [] →
        s.crock.queue = q :: rest → let k := crockRead s.env s.crock
        placeSlot k q.ev.sev.val = some slot →
      (slotFails s.env slot = none → ∃ t, exec .recordCommit s = .next t
        ∧ t.crock.recs = k.recs.filter (fun r => r.slot != slot) ++
            [{ slot := slot, seq := nextSeq s.crock.newest, sev := q.ev.sev.val,
               bytes := recordBytes q (nextSeq s.crock.newest) s.crock.headTag }]
        ∧ t.crock.newest = nextSeq s.crock.newest
        ∧ t.crock.headTag = chainTag s.crock.headTag (recordHead q (nextSeq s.crock.newest))
        ∧ t.crock.spare = { newest := s.crock.newest, tag := s.crock.headTag, checkpoint := s.crock.checkpoint }
        ∧ t.crock.secondActive = !s.crock.secondActive ∧ t.crock.bad = s.crock.bad ∧ t.crock.owed = []
        ∧ (anchorPort q.ev = none → (∀ n ∈ s.crock.droppedQ, n = 0) → t.crock.queue = rest ∧ t.ports = s.ports))
      ∧ (∀ step, slotFails s.env slot = some step → s.crock.bad.length < 4096 → s.crock.failRun < 7 → (∀ n ∈ s.crock.droppedQ, n = 0) →
        ∃ t e, exec .recordCommit s = .next t ∧ t.crock.bad = s.crock.bad ++ [slot] ∧ t.crock.owed = [e, q] ∧ e.ev.code = 0x0902
          ∧ t.crock.queue = rest ∧ t.crock.newest = s.crock.newest ∧ t.ports = s.ports))
    ∧ (s.crock.queue = [] → s.crock.owed = [] → exec .recordCommit s = .next s)
    ∧ (∀ since, s.aon.witnessLost = some since → s.crock.scanning = false →
      (∀ slot, s.aon.lastAttempt + 10000000000 ≤ s.aon.tally → placeSlot (crockRead s.env s.crock) 7 = some slot →
          slotFails s.env slot = none →
        ∃ t, exec .recorderRecovered s = .next t ∧ t.aon.witnessLost = none
          ∧ t.aon.lastAttempt ≤ s.aon.tally ∧ s.aon.tally < t.aon.lastAttempt + 10000000000
          ∧ (t.aon.lastAttempt - s.aon.lastAttempt) % 10000000000 = 0
          ∧ t.crock.newest = nextSeq s.crock.newest ∧ t.ports = s.ports)
      ∧ (s.aon.tally < s.aon.lastAttempt + 10000000000 → exec .recorderRecovered s = .next s))
    ∧ exec .tallyCheckpoint s = .next { s with crock := { s.crock with
        checkpoint := max s.crock.checkpoint (s.aon.tally / 1000000000 * 1000000000), secondActive := !s.crock.secondActive
        spare := { newest := s.crock.newest, tag := s.crock.headTag, checkpoint := s.crock.checkpoint } } }
    ∧ (s.crock.scanning = true → deviceHeld s = false → s.aon.witnessLost = none → s.env.badMram = [] → s.env.badRead = [] →
        (placeSlot s.crock (startEvent s false).ev.sev.val).isSome = true →
      ∃ t, exec (.crockScanEnd false) s = .next t ∧ t.crock.scanning = false ∧ t.crock.started = true
        ∧ t.crock.newest = nextSeq (rebuildIndex s).crock.newest ∧ t.aon.lostEvents = 0 ∧ t.aon.openAtReset = [] ∧ t.ports = s.ports)
    ∧ (∀ b, s.crock.scanning = false ∨ deviceHeld s = true → exec (.crockScanEnd b) s = .next s)

/-! ## Clocks, power and heat (chapters 14 and 15) -/

/-- R348 to R355: the start of the crystal and of the main PLL takes the domains to input 1; a failure of a source that the armed monitor
watches asks each domain that runs from it for RC; switches complete warm, once the clocks they wait for run, or cold, and send the responses
that wait for them (R351, R352); a domain whose source has returned switches back. -/
def Obligations.ClockNetwork : Prop :=
  ∀ s : State,
    (running s = true → s.clk.ref = .starting → ∃ t, exec .crystalStable s = .next t
        ∧ t.clk.ref = .running ∧ t.clk.pll = .starting ∧ t.clk.armed = true ∧ t.ports = s.ports ∧ t.can = s.can
        ∧ (s.clk.recovering = false → s.clk.slowSource = 1 → Domain.slow ∈ t.clk.onInput1 ∧ t.aon.onRc = false))
    ∧ (deviceHeld s = false → s.clk.ref = .running → (s.clk.pll = .starting ∨ s.clk.pll = .failed) → ∃ t, exec .pllLock s = .next t
        ∧ t.clk.pll = .running ∧ (s.clk.recovering = true → t.ports = s.ports) ∧ t.gate = s.gate
        ∧ (s.clk.recovering = false → ∀ d ∈ pllDomains, wantsInput1 s.clk d = true → d ∈ t.clk.onInput1)
        ∧ (s.can.nmt = .initialising → s.pwr.transition = none → busDriven s = true → t.can.nmt = .preOperational
            ∧ t.can.out = [{ id := BitVec.ofNat 11 (0x700 + s.can.node.toNat), data := [0x00] }]))
    ∧ (s.clk.pll = .starting → exec .pllLockTimeout s = .next { s with clk := { s.clk with events := evtSet 2 s.clk.events } })
    ∧ (deviceHeld s = false → s.clk.ref = .starting → ∃ t, exec .crystalTimeout s = .next t ∧ t.clk = { s.clk with ref := .failed, events := evtSet 8 s.clk.events }
        ∧ t.ports = s.ports
        ∧ (s.can.nmt = .initialising → s.pwr.transition = none → busDriven s = true → t.can.nmt = .preOperational))
    ∧ (s.clk.ref = .failed → exec .crystalRestart s = .next { s with clk := { s.clk with ref := .starting } })
    ∧ (s.clk.armed = true → s.clk.ref = .running → s.clk.pll ≠ .off → ∃ t, exec .refFailed s = .next t
        ∧ t.clk.ref = .failed ∧ t.clk.pll = .failed ∧ t.clk.recovering = true ∧ t.clk.events = evtSet 3 s.clk.events
        ∧ t.clk.onInput1 = s.clk.onInput1 ∧ (∀ d ∈ Domain.slow :: pllDomains, d ∈ s.clk.onInput1 → domainStopped s d = false → (d, false) ∈ t.clk.pending)
        ∧ (s.clk.failing = none → (∃ x ∈ t.clk.pending, x.2 = false) → t.ports = s.ports ∧ t.crock = s.crock))
    ∧ (s.clk.armed = true → s.clk.pll = .running → ∃ t, exec .pllUnlocked s = .next t
        ∧ t.clk.ref = s.clk.ref ∧ t.clk.pll = .failed ∧ t.clk.recovering = true ∧ t.clk.events = evtSet 2 s.clk.events
        ∧ (∀ d ∈ pllDomains, d ∈ s.clk.onInput1 → domainStopped s d = false → (d, false) ∈ t.clk.pending)
        ∧ (s.clk.failing = none → (∃ x ∈ t.clk.pending, x.2 = false) → t.ports = s.ports ∧ t.crock = s.crock))
    ∧ (∀ p : PortId, s.clk.armed = true → s.clk.hostPll.getD p.val .off = .running → ∀ cut, ∃ t, exec (.hostLanePllFailed { port := p, cut := cut }) s = .next t
        ∧ t.clk = { s.clk with hostPll := s.clk.hostPll.set p.val .failed } ∧ t.ports[p].host.up = false
        ∧ (inStd s.ports[p] = true → t.ports[p].link.up = false) ∧ ∀ q : PortId, q ≠ p → t.ports[q] = s.ports[q])
    ∧ (∀ d b, s.clk.pending.find? (fun x => decide (x.1 = d)) = some (d, b) → switchCompletes s (d, b) = false →
        exec (.warmSwitchDone d) s = .next s)
    ∧ (∀ d b, s.clk.pending.find? (fun x => decide (x.1 = d)) = some (d, b) → switchCompletes s (d, b) = true →
      ∃ t, exec (.warmSwitchDone d) s = .next t
        ∧ (∀ x ∈ t.clk.pending, x.1 ≠ d) ∧ (∀ x ∈ t.clk.held, x.dom ≠ d)
        ∧ (b = true → d ∈ t.clk.onInput1 ∧ (d = .slow → t.aon.onRc = false))
        ∧ (b = false → d ∉ t.clk.onInput1 ∧ (d = .slow → t.aon.onRc = true)
            ∧ ∀ p : PortId, (d = .sym p ∨ d = .eng ∨ d = .fab) → (etoonMode s.ports[p]).isSome = true → t.ports[p].link.up = false))
    ∧ (∀ d, d ∉ s.clk.onInput1 → (∀ x ∈ s.clk.pending, x.1 ≠ d) → wantsInput1 s.clk d = true → input1Runs s.clk d = true →
        exec (.clockReturn d) s = .next { s with clk := { s.clk with pending := s.clk.pending ++ [(d, true)] } })
    ∧ (s.clk.armed = true → (∀ d ∈ Domain.slow :: pllDomains, d ∈ s.clk.onInput1) →
        exec .rcRetrim s = .next { s with clk := { s.clk with retrim := true, rc := .starting } })
    ∧ (∀ d ready, (d, false) ∈ s.clk.pending →
      (s.clk.retrim = false ∨ ready = true → ∃ t, exec (.coldSwitch d ready) s = .next t
        ∧ t.clk.coldSwitches = sat32 (s.clk.coldSwitches + 1) ∧ t.clk.events = evtSet 4 s.clk.events
        ∧ d ∉ t.clk.onInput1 ∧ (∀ x ∈ t.clk.pending, x.1 ≠ d) ∧ (d = .slow → t.aon.onRc = true)
        ∧ (d = .ctl → ∀ c : Chan, t.chans[c].xfer = .none))
      ∧ (s.clk.retrim = true → ready = false → ∃ t, exec (.coldSwitch d ready) s = .next t
        ∧ t.pwr.startCause = .hardResetOnRc ∧ t.aon.tally = s.aon.tally + 100000 ∧ t.aon.onRc = true ∧ t.fus = s.fus))
    ∧ (s.clk.armed = false → exec .refFailed s = .next s ∧ exec .pllUnlocked s = .next s ∧ exec .rcRetrim s = .next s)

/-- R352, R361: CtlSource and SlowSource ask for a warm switch where both sources run, and are refused with an event where one does not;
ClkOutSelect and ClkOutDivide take a pair that Table 14-5 allows, and a change of either holds CLKOUT low (R360). -/
def Obligations.ClockSettings : Prop :=
  ∀ (s : State) (ch : Chan), served s ch = true → (ownsAny s ch = true ∨ hasSession s ch = true) →
    (∀ input1 : Bool, life s ≠ .ended →
      (s.clk.ctlSource ≠ (if input1 then 1 else 0) →
        (s.clk.rc = .running → s.clk.pll = .running → (∀ x ∈ s.clk.pending, x.1 ≠ .ctl) →
          exec (.ctlSourceWrite ch (if input1 then 1 else 0)) s = .next (answered ch { requested ch s with clk := { s.clk with
            ctlSource := if input1 then 1 else 0, pending := s.clk.pending ++ [(.ctl, input1)] } }))
        ∧ ((s.clk.rc ≠ .running ∨ s.clk.pll ≠ .running) →
          ∃ t, exec (.ctlSourceWrite ch (if input1 then 1 else 0)) s = .next t ∧ t.chans[ch].resp = .abort abGeneral
            ∧ t.clk = { s.clk with events := evtSet 16 s.clk.events } ∧ t.ports = s.ports))
      ∧ (s.clk.slowSource ≠ (if input1 then 1 else 0) → s.clk.rc = .running → s.clk.ref = .running →
          (∀ x ∈ s.clk.pending, x.1 ≠ .slow) →
        exec (.slowSourceWrite ch (if input1 then 1 else 0)) s = .next (answered ch { requested ch s with clk := { s.clk with
          slowSource := if input1 then 1 else 0, pending := s.clk.pending ++ [(.slow, input1)] } })))
    ∧ (∀ v : Byte, clkOutOk v.toNat s.clk.clkDivide = true → exec (.clkoutSelectWrite ch v) s =
        .next (answered ch { requested ch s with clk := { s.clk with
          clkSelect := v, clkHold := s.clk.clkHold || decide (v ≠ s.clk.clkSelect) } }))
    ∧ (∀ v : BitVec 16, clkOutOk s.clk.clkSelect.toNat v.toNat = true → exec (.clkoutDivideWrite ch v) s =
        .next (answered ch { requested ch s with clk := { s.clk with
          clkDivide := v.toNat, clkHold := s.clk.clkHold || decide (v.toNat ≠ s.clk.clkDivide) } }))
    ∧ (∀ v : Byte, clkOutOk v.toNat s.clk.clkDivide = false → ∃ t, exec (.clkoutSelectWrite ch v) s = .next t
        ∧ t.chans[ch].resp = .abort abRange ∧ t.clk = s.clk)

/-- R368 to R375: a request begins an entry where nothing refuses, counts a refusal where something does, and latches BOIL during an
entry; the point of no return takes the sessions and the ports down; an entry that does not reach it within its 1.0 ms is abandoned; power is removed once
the recorder has drained; a wake aborts an entry, is latched behind the point, or begins the return, which reaches BOIL with boot-up and ends with the next SLOW cycle (log entry 99). -/
def Obligations.PowerStates : Prop :=
  ∀ (s : State) (ch : Chan),
    (served s ch = true → (ownsAny s ch = true ∨ hasSession s ch = true) →
      (∀ i target, (i, target) ∈ [(Instr.powerRequestSimmer ch, PState.simmer), (.powerRequestRest ch, .rest)] →
        (s.pwr.transition = none → refusing s = [] → ∃ t, exec i s = .next t ∧ t.chans[ch].resp = .ok
          ∧ t.pwr = { s.pwr with
              transition := some target, passed := false, askedBy := some ch, request := BitVec.ofNat 8 (pstateCode target) }
          ∧ t.gate = s.gate ∧ t.clk = s.clk ∧ ∀ p : PortId, t.ports[p].link = s.ports[p].link ∧ t.ports[p].host = s.ports[p].host)
        ∧ (∀ r rs, s.pwr.transition = none → refusing s = r :: rs → ∃ t, exec i s = .next t ∧ t.chans[ch].resp = .abort 0x0A01000C
          ∧ t.pwr.transition = none ∧ t.pwr.refusals = sat32 (s.pwr.refusals + 1) ∧ t.pwr.lastRefuser = BitVec.ofNat 8 r.2
          ∧ t.pwr.lastRefusalAt = s.aon.tally ∧ t.ports = s.ports)
        ∧ (s.pwr.transition ≠ none → ∃ t, exec i s = .next t ∧ t.chans[ch].resp = .abort abBusy ∧ t.pwr = s.pwr ∧ t.ports = s.ports))
      ∧ (s.pwr.transition = none → exec (.powerRequestBoil ch) s =
          .next (answered ch { requested ch s with pwr := { s.pwr with request := 0 } }))
      ∧ (s.pwr.transition ≠ none → exec (.powerRequestBoil ch) s =
          .next (answered ch { requested ch s with pwr := { s.pwr with request := 0, latched := true } })))
    ∧ (∀ target : PState, target ≠ .boil → s.pwr.transition = some target →
      (s.pwr.passed = false → pointReached s = true → ∃ t, exec .pointOfNoReturn s = .next t
        ∧ t.pwr = { s.pwr with passed := true, maskAtPoint := s.pwr.retention }
        ∧ (∀ c : Chan, t.chans[c].session = none)
        ∧ (∀ p : PortId, t.ports[p].link.up = false ∧ t.ports[p].host.up = false)
        ∧ (takesEvents s 1 → ∃ e rest, t.crock.queue = e :: rest ∧ e.ev.code = 0x0200))
      ∧ (s.pwr.passed = true ∨ pointReached s = false → exec .pointOfNoReturn s = .next s)
      ∧ (s.pwr.passed = false → pointReached s = true → exec .entryTimeout s = exec .pointOfNoReturn s)
      ∧ (s.pwr.passed = false → pointReached s = false → ∃ t, exec .entryTimeout s = .next t ∧ t.pwr.transition = none ∧ t.pwr.state = s.pwr.state
        ∧ t.pwr.refusals = sat32 (s.pwr.refusals + 1) ∧ t.gate = s.gate ∧ ∀ p : PortId, t.ports[p].link = s.ports[p].link)
      ∧ (s.pwr.passed = true → exec .entryTimeout s = .next s)
      ∧ (s.pwr.passed = true → s.crock.queue = [] → s.crock.owed = [] → ∃ t, exec .entryComplete s = .next t
        ∧ t.pwr.state = target ∧ t.pwr.passed = false ∧ t.gate = { s.gate with isOpen := 0, pending := 0 } ∧ t.clk.pll = .off
        ∧ t.aon = { s.aon with onRc := true } ∧ (∀ c : Chan, t.chans[c].session = none)
        ∧ (busDriven s = true → t.can.out = [{ id := BitVec.ofNat 11 (0x700 + s.can.node.toNat), data := [0x04] }])
        ∧ (s.pwr.latched = false → t.pwr.transition = none ∧ t.clk.ref = (if target = .simmer then .running else .off))
        ∧ (s.pwr.latched = true → t.pwr.transition = some .boil ∧ t.clk.ref = .starting))
      ∧ (s.crock.queue ≠ [] ∨ s.crock.owed ≠ [] → exec .entryComplete s = .next s))
    ∧ (∀ i w, (i, w) ∈ [(Instr.canWakePattern, Wake.can), (.wakeIn, .wakeIn)] → s.pwr.state ≠ .boil → s.pwr.transition = none →
        ∃ t, exec i s = .next t
          ∧ t.pwr = { s.pwr with wake := some w, transition := some .boil, inhDriven := true } ∧ t.clk = { s.clk with ref := .starting }
          ∧ ∀ p : PortId, t.ports[p].link.wakeDue =
              if w = .wakeIn then some (s.ports[p].link.wakeDue.getD false) else s.ports[p].link.wakeDue)
    ∧ (∀ target, target ≠ .boil → s.pwr.transition = some target → ∃ t, exec .canWakePattern s = .next t
        ∧ (s.pwr.passed = false → t.pwr.transition = none ∧ t.pwr.wakeAborts = sat32 (s.pwr.wakeAborts + 1))
        ∧ (s.pwr.passed = true → t.pwr.latched = true ∧ t.pwr.transition = some target ∧ t.ports = s.ports))
    ∧ (s.pwr.transition = some .boil → s.pwr.state ≠ .boil → s.clk.pll = .running → ∃ t, exec .powerReturnDone s = .next t
        ∧ t.pwr.state = .boil ∧ t.pwr.transition = some .boil ∧ t.pwr.wake = none ∧ t.can.nmt = .preOperational
        ∧ (deviceHeld s = false → s.can.arbRate ≤ 500 → s.can.dataRate ≤ 2000 →
            t.can.out = [{ id := BitVec.ofNat 11 (0x700 + s.can.node.toNat), data := [0x00] }])
        ∧ (∀ d ∈ pllDomains, wantsInput1 s.clk d = true → d ∈ t.clk.onInput1)
        ∧ t.gate.gates = s.gate.gates ∧ t.fus = s.fus ∧ t.aon.tally = s.aon.tally)
    ∧ (s.pwr.state = .boil → s.pwr.transition = some .boil → (finishReturn s).pwr.transition = none
        ∧ (finishReturn s).gate.gates = s.gate.gates ∧ (finishReturn s).pwr.state = .boil)
    ∧ (s.pwr.state = .simmer → s.pwr.transition = none →
        exec .crystalFrequencyCheckFail s = .next { s with clk := { s.clk with ref := .off, simmerFail := true } })

/-- R332, R336, R337, R362 to R364, R379, R380, R396, R408: what a power-on, a dip and a loss of VIN and RESET_N leave: a fuse burn and a commit
may be cut short, and the write of an MRAM word (log entries 6 and 92); the rest of MRAM keeps its contents, and the rest takes its default or,
after a dip, a value that nothing states, unless RESET_N is low; RESET_N starts a device whose VIN ramp did not; the power-on check ends with
its record. -/
def Obligations.ResetsAndSupply : Prop :=
  ∀ s : State,
    (s.pwr.on = false → s.pwr.vinUp = false → ∃ t, exec (.powerOnReset true) s = .next t ∧ t.pwr.on = true ∧ t.pwr.state = .boil
        ∧ t.aon.tally = tallyAtPowerOn (crockRead s.env s.crock) ∧ t.aon.offset = s.copies.offset ∧ t.aon.authRun = s.copies.authRun
        ∧ t.aon.civilStale = true ∧ t.fus = s.fus ∧ t.crock.recs = s.crock.recs ∧ t.crock.bad = s.crock.bad
        ∧ t.crock.queue = [] ∧ t.can.nmt = .initialising ∧ t.can.owners = s.can.owners ∧ t.gate = {} ∧ t.heat = {} ∧ t.roll = {}
        ∧ t.pwr.inReset = s.pwr.inReset ∧ t.tap = .reset
        ∧ (∀ c : Chan, t.chans[c] = {}) ∧ ∀ p : PortId, t.ports[p] = { Port.reset p.val with
            sig := { lineRef := s.ports[p].sig.lineRef, probeRef := s.ports[p].sig.probeRef } })
    ∧ (s.pwr.on = false → s.pwr.vinUp = false → exec (.powerOnReset false) s = .next { s with pwr := { s.pwr with vinUp := true } })
    ∧ (∀ q, s.pwr.on = true → exec (.powerOnReset q) s = .next s)
    ∧ (s.pwr.on = true → ∃ t, exec .vinDip s = .next t ∧ FusesKept s.fus t.fus ∧ RecsCut s t ∧ t.crock.newest = s.crock.newest
        ∧ t.can.owners = s.can.owners ∧ t.can.cobs = s.can.cobs ∧ t.can.arbRate = s.can.arbRate ∧ t.copies = s.copies
        ∧ BankCut s.rcp.bank0 t.rcp.bank0 ∧ BankCut s.rcp.bank1 t.rcp.bank1 ∧ s.free + 2 ≤ t.free
        ∧ (s.pwr.inReset = true → t.pwr.inReset = true ∧ t.gate = {} ∧ t.heat = {} ∧ ∀ c : Chan, t.chans[c] = {})
        ∧ ∀ p : PortId, RefCut s.ports[p].sig.lineRef t.ports[p].sig.lineRef ∧ RefCut s.ports[p].sig.probeRef t.ports[p].sig.probeRef)
    ∧ (∀ cut, s.pwr.on = true → ∃ t, exec (.vinFails cut) s = .next t ∧ t.pwr.on = false ∧ FusesKept s.fus t.fus ∧ RecsCut s t
        ∧ t.copies = s.copies ∧ (cut = none → t.fus = s.fus ∧ t.free = s.free + 2)
        ∧ (cut = some .sealed → ∀ i, (s.fus.sealed.getD i {}).st ≠ .fresh → t.fus.sealed.getD i {} = s.fus.sealed.getD i {}))
    ∧ (running s = true → ∃ t, exec .resetNAssert s = .next t ∧ t.pwr.inReset = true ∧ t.pwr.startCause = .resetN ∧ t.fus = s.fus
        ∧ t.aon.tally = s.aon.tally ∧ t.aon.offset = s.aon.offset ∧ RecsCut s t ∧ t.gate = {} ∧ t.heat = {}
        ∧ (∀ c : Chan, t.chans[c] = {}) ∧ ∀ p : PortId, t.ports[p].link = {} ∧ t.ports[p].sig.lineRef = s.ports[p].sig.lineRef)
    ∧ (s.pwr.inReset = true → s.pwr.on = true → exec .resetNRelease s = .next (takeRates { s with
        pwr := { s.pwr with inReset := false }, can := { s.can with node := 0x40 + s.env.straps.zeroExtend 8 } }))
    ∧ (s.pwr.inReset = true → s.pwr.on = false → s.pwr.vinUp = true → ∃ t, exec .resetNRelease s = .next t
        ∧ t.pwr.on = true ∧ t.pwr.inReset = false ∧ t.pwr.startCause = .resetN ∧ t.fus = s.fus ∧ t.crock.recs = s.crock.recs ∧ t.gate = {}
        ∧ t.aon.tally = tallyAtPowerOn (crockRead s.env s.crock) ∧ t.crock.scanning = true ∧ t.bist.checking = true)
    ∧ (running s = true → s.bist.checking = true → s.crock.scanning = false → ∃ t, exec .powerOnCheckEnd s = .next t
        ∧ t.bist.checking = false
        ∧ t.bist.poc = (if s.bist.mramFailed then .failMram else if s.env.badSram ≠ 0 then .failHolding else .pass)
        ∧ (s.pwr.thermalRest = false → t.ports = s.ports ∧ t.pwr = s.pwr
            ∧ (takesEvents s 1 → ∃ e, t.crock.queue = s.crock.queue ++ [e] ∧ e.ev.code = 0x0800))
        ∧ (s.pwr.thermalRest = true → t.pwr.transition = some .rest))

/-- R381 to R383: a conversion stores the nine readings, WARN and the throttle stage follow the highest; a rise since the last second in
stage 1 begins stage 2; 135 °C removes power; a restart waits until every reading has been below 115 °C for 100 ms and remembers when it was. -/
def Obligations.HeatFollowsReadings : Prop :=
  ∀ s : State,
    (∀ readings : List Int, readings.length = 9 → s.pwr.on = true → ∃ t, exec (.sensorConversion readings) s = .next t
      ∧ t.heat.sensors = readings ∧ t.heat.peak = max s.heat.peak (highestFrom 0 readings).2
      ∧ (running s = true → controlPowered s = true →
          t.heat.warn = (if s.heat.warn then decide (s.heat.warnClear ≤ (highestFrom 0 readings).2)
            else decide (s.heat.warnSet ≤ (highestFrom 0 readings).2))
          ∧ (s.pwr.state = .boil →
              t.heat.stage = (if s.heat.stage = 0 then (if 12000 ≤ (highestFrom 0 readings).2 then 1 else 0)
                else if (highestFrom 0 readings).2 < 11400 then 0 else s.heat.stage))
          ∧ (s.pwr.state ≠ .boil → t.heat.stage = s.heat.stage))
      ∧ t.fus = s.fus ∧ t.gate = s.gate ∧ t.chans = s.chans)
    ∧ (s.heat.stage = 1 → s.pwr.state = .boil → s.pwr.transition = none →
      (s.heat.lastSecond + 25 ≤ (highest s.heat).2 → ∃ t, exec .throttleStage2Check s = .next t ∧ t.heat.stage = 2
        ∧ t.heat.lastSecond = (highest s.heat).2 ∧ (s.roll.status = 1 → t.heat.orderDue = true ∧ t.roll = s.roll)
        ∧ (s.roll.status ≠ 1 → s.gate.isOpen.toNat % 256 ≠ 0 → t.roll.epoch = s.roll.epoch + 1))
      ∧ ((highest s.heat).2 < s.heat.lastSecond + 25 →
        exec .throttleStage2Check s = .next { s with heat := { s.heat with lastSecond := (highest s.heat).2 } }))
    ∧ (s.heat.stage = 0 → exec .throttleStage2Check s = .next s)
    ∧ (∀ (sensor : Fin 9) (reading : Int), s.pwr.on = true → s.pwr.shutdown = false →
      (13500 ≤ reading → ∃ t, exec (.thermalShutdown sensor reading) s = .next t ∧ t.pwr.shutdown = true ∧ t.pwr.shutReading = reading
        ∧ t.pwr.shutSensor = sensor.val ∧ t.pwr.startCause = .thermalRestart ∧ t.aon.tally = s.aon.tally ∧ t.aon.onRc = true ∧ t.fus = s.fus
        ∧ t.crock.recs = s.crock.recs ∧ t.gate = {} ∧ (∀ p : PortId, t.ports[p].link = {}))
      ∧ (reading < 13500 → exec (.thermalShutdown sensor reading) s = .next s))
    ∧ (cooledDown s = false → exec .thermalRestart s = .next s)
    ∧ (s.pwr.shutdown = true → s.pwr.inReset = false → s.pwr.on = true → cooledDown s = true → ∃ t, exec .thermalRestart s = .next t
        ∧ t.pwr.shutdown = false ∧ t.pwr.startCause = .thermalRestart ∧ t.pwr.shutReading = s.pwr.shutReading
        ∧ t.aon.restarts = s.aon.restarts.filter (fun r => decide (s.aon.tally < r + 600000000000)) ++ [s.aon.tally]
        ∧ t.pwr.thermalRest = decide (3 ≤ t.aon.restarts.length) ∧ t.heat.events = evtSet 24 {} ∧ t.fus = s.fus)

/-! ## Life cycle, calibration, self-test, recipes and test access (chapter 16) -/

/-- R385 to R389, R403, R380: a transition burns one cell after another of its fuse until one verifies, ends every session and, from
MANUFACTURE, empties the crock; a return token is held until a request uses it up; burns cut short are verified, and one that changes the life-cycle state has the transition's effects; rollback steps rise to
the active image's level. -/
def Obligations.LifeCycleTransitions : Prop :=
  ∀ (s : State) (ch : Chan),
    (sessionWrites s ch = true →
      (∀ d : List Byte, 1 ≤ d.length → d.length ≤ 512 → exec (.returnTokenWrite ch d) s =
        .next (answered ch { requested ch s with life := { s.life with token := some d } }))
      ∧ (life s = .manufacture →
        (sealConditions s = true → (∃ c ∈ s.fus.sealed, c.st = .fresh ∧ c.good = true) →
          ∃ t, exec (.lifecycleRequestSealed ch) s = .next t ∧ t.chans[ch].resp = .ok ∧ life t = .sealedUnbound
            ∧ t.fus = { s.fus with sealed := (burnFuse s.fus.sealed).1 } ∧ t.crock.recs = [] ∧ (∀ c : Chan, t.chans[c].session = none)
            ∧ t.can.arbRate = 500 ∧ t.can.dataRate = 2000 ∧ t.can.owners = 0 ∧ t.cal.timebase = 0 ∧ t.gate = s.gate
            ∧ (∀ p : PortId, t.ports[p].sig.lineRef = {} ∧ t.ports[p].sig.probeRef = {}))
        ∧ (sealConditions s = false → ∃ t, exec (.lifecycleRequestSealed ch) s = .next t ∧ t.chans[ch].resp = .abort abGeneral
            ∧ t.fus = s.fus ∧ t.crock = s.crock))
      ∧ ((life s = .sealedUnbound ∨ life s = .sealedBound) → hasWorkshop s ch = true → ∀ d, s.life.token = some d →
        (∃ c ∈ s.fus.returned, c.st = .fresh ∧ c.good = true) →
          ∃ t, exec (.lifecycleRequestReturned ch) s = .next t ∧ t.life.token = none ∧ t.crock.recs = s.crock.recs
            ∧ if tokenOk s d then
                t.chans[ch].resp = .ok ∧ life t = .returned ∧ t.fus = { s.fus with returned := (burnFuse s.fus.returned).1 }
                ∧ ∀ c : Chan, t.chans[c].session = none
              else t.chans[ch].resp = .abort abAuth ∧ t.fus = s.fus ∧ t.ports = s.ports)
      ∧ (portGatesClosed s = true → (∃ c ∈ s.fus.ended, c.st = .fresh ∧ c.good = true) →
        ∃ t, exec (.lifecycleRequestEnded ch) s = .next t ∧ t.chans[ch].resp = .ok ∧ life t = .ended ∧ t.bist.run = none
          ∧ t.fus = { s.fus with ended := (burnFuse s.fus.ended).1 } ∧ (∀ c : Chan, t.chans[c].session = none))
      ∧ (portGatesClosed s = false → ∃ t, exec (.lifecycleRequestEnded ch) s = .next t ∧ t.chans[ch].resp = .abort abGeneral
          ∧ t.fus = s.fus))
    ∧ (∀ g, s.pwr.on = true → ∃ t, exec (.fuseBurnVerify g) s = .next t ∧ FusesKept s.fus t.fus ∧ (life t = life s → t.ports = s.ports ∧ t.crock = s.crock)
        ∧ (life s = .manufacture → life t ≠ .manufacture → t.crock.recs = [])
        ∧ (life t ≠ life s → life t ≠ .sealedBound → ∀ c : Chan, t.chans[c].session = none)
        ∧ (match g with
            | .sealed => t.fus.sealed = s.fus.sealed.map verifyCell
            | .bound => t.fus.bound = s.fus.bound.map verifyCell
            | .returned => t.fus.returned = s.fus.returned.map verifyCell
            | .ended => t.fus.ended = s.fus.ended.map verifyCell
            | .rebaseline => t.fus.rebase = s.fus.rebase.map verifyCell
            | .rollback => t.fus.rollback = s.fus.rollback.map verifyCell
            | .witness => t.fus.witness = s.fus.witness.map verifyCell
            | .calibration => t.fus.calib.map CalSlot.cell = (s.fus.calib.map CalSlot.cell).map verifyCell))
    ∧ (life s ≠ .manufacture → s.crock.startCommitted = true → activeLevel s.rcp ≤ s.fus.rollback.length →
        ∃ t, exec .rollbackBurn s = .next t ∧ t = { s with fus := { s.fus with rollback := t.fus.rollback } }
          ∧ spentCells t.fus.rollback = max (spentCells s.fus.rollback) (activeLevel s.rcp))
    ∧ (life s = .manufacture ∨ s.crock.startCommitted = false → exec .rollbackBurn s = .next s)

/-- R73, R391 to R394: a GO bit that passes its checks starts a run, whose measurements wait for a gap; its first measurement is held, a second one that agrees is accepted,
provisionally in MANUFACTURE and else into the next fuse slot, and one that disagrees is not; a run that waits too long is abandoned. -/
def Obligations.CalibrationRuns : Prop :=
  ∀ (s : State) (ch : Chan),
    (∀ i k code, (i, k, code) ∈ [(Instr.timebaseGo ch, CalKind.timebase, 1), (.levelsGo ch, .levels, 2), (.lengthGo ch, .lengthScale, 3)] →
        sessionWrites s ch = true →
      (calCheck k s = none → exec i s = .next (answered ch { requested ch s with cal := { s.cal with
        run := some { kind := k, ch := ch, started := s.aon.tally, since := s.aon.tally }, stage := .idle, stageKind := code } }))
      ∧ (∀ c, calCheck k s = some c → ∃ t, exec i s = .next t ∧ t.chans[ch].resp = .abort c ∧ t.cal = s.cal ∧ t.fus = s.fus))
    ∧ (∀ r m v, s.cal.run = some r → calReady r s = true → calResult r.kind m s = some v →
      (r.first = none → exec (.calibrationMeasurement m) s = .next { s with cal := { s.cal with
        run := some { r with first := some (v, s.aon.tally), since := s.aon.tally + 1000000000 }, stage := .firstTaken
        stageKind := calKindCode r.kind } })
      ∧ (∀ a at_, r.first = some (a, at_) →
        (calAgrees r.kind a v = false →
          ∃ t, exec (.calibrationMeasurement m) s = .next t ∧ t.cal = { s.cal with
              run := none, stage := .disagreed, stageKind := calKindCode r.kind } ∧ t.fus = s.fus ∧ t.ports = s.ports)
        ∧ (calAgrees r.kind a v = true →
          (life s = .manufacture → ∃ t, exec (.calibrationMeasurement m) s = .next t ∧ t.cal.run = none ∧ t.cal.stage = .accepted
            ∧ calInForce r.kind t.cal = quotient (a + v) 2 ∧ t.fus = s.fus)
          ∧ (∀ x rest, life s ≠ .manufacture → s.fus.calib = x :: rest → x.cell.st = .fresh →
            ∃ t, exec (.calibrationMeasurement m) s = .next t ∧ t.cal.run = none
              ∧ t.fus.calib = { cell := { x.cell with st := if x.cell.good then .burned else .bad }, kind := r.kind
                                value := quotient (a + v) 2, tally := s.aon.tally, civil := civilNow s } :: rest
              ∧ (x.cell.good = true → t.cal.stage = .accepted ∧ calInForce r.kind t.cal = quotient (a + v) 2
                  ∧ t.cal.lastTally = s.aon.tally)
              ∧ (x.cell.good = false → t.cal.stage = .fuseFailed ∧ calInForce r.kind t.cal = calInForce r.kind s.cal)))))
    ∧ (∀ r m, s.cal.run = some r → (s.aon.tally < r.since ∨ calBatten s = none ∨ calQuiet r.kind s = false ∨ calResult r.kind m s = none) →
        exec (.calibrationMeasurement m) s = .next s)
    ∧ (∀ n : Nat, calResult .timebase (.refCount (100 * n)) s = some (1000000000 - (n : Int)))
    ∧ (∀ r, s.cal.run = some r → calExpired s = true → exec .calibrationTimeout s = .next { s with cal := { s.cal with
        run := none, stage := .abandoned, stageKind := calKindCode r.kind } })
    ∧ (calExpired s = false → exec .calibrationTimeout s = .next s)

/-- R397 to R402, R386, R416, R417: a self-test run sets the named bays waiting and runs them, each ending with its verdict, and ends with
the last; a recipe image is judged and stored into the bank that is not active; the TAP's instructions drive the balls only where R417
lets them, and burn each hash once. -/
def Obligations.SelfTestRecipesAndTap : Prop :=
  ∀ (s : State) (ch : Chan),
    (sessionWrites s ch = true → gateOpen s 19 = true → s.bist.results.length = 8 →
      (selfTestCheck s = none → ∃ t, exec (.selfTestGo ch) s = .next t ∧ t.chans[ch].resp = .ok
        ∧ t.bist.run = some (s.bist.mask, s.bist.maxCon) ∧ (∀ p : PortId, t.ports[p].link = s.ports[p].link)
        ∧ ∀ p : PortId, (s.bist.mask.getLsbD p.val = true →
              t.bist.results.getD p.val .none = .running ∨ t.bist.results.getD p.val .none = .waiting)
            ∧ (s.bist.mask.getLsbD p.val = false → s.bist.results.getD p.val .none ≠ .waiting → t.bist.results.getD p.val .none = s.bist.results.getD p.val .none))
      ∧ (∀ c, selfTestCheck s = some c → ∃ t, exec (.selfTestGo ch) s = .next t ∧ t.chans[ch].resp = .abort c ∧ t.bist = s.bist
        ∧ t.ports = s.ports))
    ∧ (∀ (p : PortId) (expected found : BitVec 64) (want done : BitVec 32), s.bist.results.length = 8 →
      (bayTesting s p = true → ∃ t, exec (.bayTestDone p expected found want done) s = .next t
        ∧ t.bist.results.getD p.val .none = (if done ≠ want then .incomplete else if found = expected then .pass else .fail)
        ∧ t.bist.lastSig = leBytes 8 expected.toNat ++ leBytes 8 found.toNat ++ leBytes 4 want.toNat ++ leBytes 4 done.toNat
        ∧ t.ports[p].tx = Vector.replicate 4 {} ∧ t.ports[p].rx = Vector.replicate 4 {} ∧ t.ports[p].store = {}
        ∧ t.ports[p].link.phase = .disabled
        ∧ ((∀ q : PortId, q ≠ p → s.bist.results.getD q.val .none ≠ .running ∧ s.bist.results.getD q.val .none ≠ .waiting) →
            t.bist.run = none))
      ∧ (bayTesting s p = false → exec (.bayTestDone p expected found want done) s = .next s))
    ∧ (∀ d : List Byte, sessionWrites s ch = true → 1 ≤ d.length → d.length ≤ 1048576 →
      ∃ t, exec (.recipeImageWrite ch d) s = .next t ∧ t.chans[ch].resp = .ok ∧ t.fus = s.fus ∧ t.ports = s.ports
        ∧ t.rcp = (if imageSigned s d = false then { s.rcp with loadResult := 2 }
            else if (d.getD 5 0).toNat < spentCells s.fus.rollback then { s.rcp with loadResult := 3 }
            else if s.env.bankOk then
              { setBank (inactiveBank s.rcp) (fun _ => imageBank d) s.rcp with preferred := inactiveBank s.rcp, loadResult := 1 }
            else { setBank (inactiveBank s.rcp) (fun b => { b with present := false }) s.rcp with loadResult := 4 }))
    ∧ (s.env.trstLow = false → exec (.tapInstructionLoad .bypass) s = .next { s with tap := .bypass }
      ∧ exec (.tapInstructionLoad .idcode) s = .next { s with tap := .idcode }
      ∧ exec (.tapInstructionLoad .samplePreload) s = .next { s with tap := .sample }
      ∧ (∀ i ∈ [TapInstr.extest, .extestPulse, .extestTrain, .clamp, .highz],
          exec (.tapInstructionLoad i) s = .next { s with tap := if tapMayDrive s then .driving i else .bypass })
      ∧ (∀ h : List Byte, h.length = 32 → life s = .manufacture →
          exec (.tapInstructionLoad (.burnMakerHash h)) s = .next { s with
            tap := .bypass, fus := { s.fus with makerHash := some (s.fus.makerHash.getD h) } }
          ∧ exec (.tapInstructionLoad (.burnWorkshopHash h)) s = .next { s with
            tap := .bypass, fus := { s.fus with workshopHash := some (s.fus.workshopHash.getD h) } })
      ∧ (∀ h : List Byte, life s ≠ .manufacture →
          exec (.tapInstructionLoad (.burnMakerHash h)) s = .next { s with tap := .bypass }
          ∧ exec (.tapInstructionLoad (.burnWorkshopHash h)) s = .next { s with tap := .bypass }))
    ∧ (s.env.trstLow = true → ∀ i, exec (.tapInstructionLoad i) s = .next { s with tap := .reset })
    ∧ exec .trstNLow s = .next { s with tap := .reset }

/-! ## Reset, and what goes on the wire (chapters 02, 04, 06 and 14) -/

/-- The state after a power-on reset: the queues are empty, no gate is open, no session is open, NMT initialises, and fields have the
defaults of the object tables. That the state is MANUFACTURE, with ADDR at its pull-ups, is the model's choice (log entry 9). -/
def Obligations.ResetValues : Prop :=
  State.reset.pending = [] ∧ QueuesBounded State.reset ∧ State.reset.gate = {} ∧ State.reset.pwr.state = .boil
  ∧ State.reset.can.nmt = .initialising ∧ State.reset.can.arbRate = 500 ∧ State.reset.can.dataRate = 2000
  ∧ State.reset.can.heartbeat = 100 ∧ State.reset.can.cobs = [0x687, 0x68F, 0x697, 0x69F, 0x6A7, 0x6AF]
  ∧ State.reset.anchorInterval = 60 ∧ State.reset.heat.warnSet = 11000 ∧ State.reset.heat.warnClear = 10500
  ∧ State.reset.pwr.simmerPeriod = 500 ∧ State.reset.pwr.retention = 0xFF ∧ State.reset.pwr.probeEnable = true
  ∧ State.reset.clk.ref = .starting ∧ State.reset.clk.onInput1 = [] ∧ State.reset.aon.onRc = true ∧ State.reset.aon.civilStale = true
  ∧ State.reset.crock.recs = [] ∧ State.reset.crock.scanning = true ∧ State.reset.bist.checking = true ∧ life State.reset = .manufacture
  ∧ (∀ c : Chan, State.reset.chans[c].session = none ∧ State.reset.chans[c].profile = 0x0100)
  ∧ (∀ p : PortId, State.reset.ports[p].link.up = false ∧ State.reset.ports[p].link.modeMask = 0x1F07
      ∧ State.reset.ports[p].cfg.maxFrame = 9216 ∧ State.reset.ports[p].sealing.source = 0x0000020000000000 + BitVec.ofNat 64 p.val)

/-- R29, R31, R33, R34, R152, R154, R161, R427: a header, a frame tag, the ack block and the NAK entries of a control shingle, a word of
two trytes and the symbols of a tryte, written and read again. -/
def Obligations.WireFormatsRoundTrip : Prop :=
  (∀ h : ShHdr, headerOf (beVal (headerBytes h)) = h)
  ∧ (∀ t : Tag, t.length < 16384 → tagOf (beVal (tagBytes t)) = t)
  ∧ (∀ (a b c d : Seq) (rest : List Byte), ackOf (ackBytes [a, b, c, d] ++ rest) = { a0 := a, a1 := b, a2 := c, a3 := d })
  ∧ (∀ es : List (Cls × Seq × Nat), es.length ≤ 60 → (∀ e ∈ es, 1 ≤ e.2.2 ∧ e.2.2 ≤ 256) → nakEntries (ctlBody (.nak es)) = es)
  ∧ (∀ u, u < 531441 → unpack12 (pack12 u) = u)
  ∧ (∀ w : Tryte × Tryte, pack12 (unpack12 w) = w)
  ∧ (∀ a : Tryte, levelsTrytes 1 (tryteLevels a) = [a])

/-- R82, R84 to R86, R89 to R93, R36 to R38: a shingle received without a symbol error in the slot in which it was launched gives back
what was sent: the 263 bytes of a data shingle, and the argument and bytes of a control shingle, with nothing corrected. -/
def Obligations.SlotsGiveBackWhatWasSent : Prop :=
  (∀ (slot : Nat) (bytes : List Byte), bytes.length = 263 →
    receiveSlot ctlAssigned slot (slotTrytes slot none bytes) = .data bytes 0)
  ∧ (∀ (slot e : Nat) (payload : List Byte), ctlAssigned e = true → payload.length = 256 →
    receiveSlot ctlAssigned slot (slotTrytes slot (some e) (ctlHead e ++ payload)) = .control e (ctlHead e ++ payload) 0)

/-! ## Single rules of the manual -/

/-- R303: an EVT16 field. A setting advances the sequence counter, sets the bits and notes the counter for them, and keeps the note of
every set bit in the window; a read shows the counter and the bits; a write of sequence and mask clears each bit that it masks whose last
setting is not later than the sequence, and aborts, clearing nothing, where the sequence is ahead of the counter. -/
def Obligations.EventFields : Prop :=
  (∀ (e : BitVec 16) (v : Evt16) (i : Fin 16), v.last.length = 16 →
    let w := evtSet e v
    let l := if e.getLsbD i.val then w.ctr else v.last.getD i.val 0
    w.ctr = v.ctr + 1 ∧ w.bits = v.bits ||| e ∧ w.last.length = 16
    ∧ w.last.getD i.val 0 = (if w.bits.getLsbD i.val = true ∧ 32768 ≤ (w.ctr - l).toNat then w.ctr - 32767 else l))
  ∧ (∀ (v : Evt16), (evtRead v).extractLsb' 16 16 = v.ctr ∧ (evtRead v).extractLsb' 0 16 = v.bits)
  ∧ (∀ (q mask : BitVec 16) (v : Evt16),
    (1 ≤ (q - v.ctr).toNat → (q - v.ctr).toNat ≤ 32767 → evtClear (q ++ mask) v = none)
    ∧ ((q - v.ctr).toNat = 0 ∨ 32768 ≤ (q - v.ctr).toNat → ∃ w, evtClear (q ++ mask) v = some w ∧ w.ctr = v.ctr ∧ w.last = v.last
      ∧ ∀ i : Fin 16, w.bits.getLsbD i.val =
          (v.bits.getLsbD i.val && !(mask.getLsbD i.val && decide ((q - v.last.getD i.val 0).toNat ≤ 32767)))))
  ∧ (∀ (s : State) (ch : Chan) (v : BitVec 32), served s ch = true → life s ≠ .ended → (ownsAny s ch = true ∨ hasSession s ch = true) →
    (∀ e, evtClear v s.clk.events = some e →
      exec (.eventClear ch 0x2102 v) s = .next (answered ch { requested ch s with clk := { s.clk with events := e } }))
    ∧ (evtClear v s.clk.events = none →
      ∃ t, exec (.eventClear ch 0x2102 v) s = .next t ∧ t.chans[ch].resp = .abort abWindow ∧ t.clk = s.clk)
    ∧ (∀ e, evtClear v s.heat.events = some e →
      exec (.eventClear ch 0x2212 v) s = .next (answered ch { requested ch s with heat := { s.heat with events := e } }))
    ∧ (evtClear v s.heat.events = none →
      ∃ t, exec (.eventClear ch 0x2212 v) s = .next t ∧ t.chans[ch].resp = .abort abWindow ∧ t.heat = s.heat))

/-- R76: a write to NeighbourMask that clears the bit of the port named in NearestNeighbour also sets NearestNeighbour to 0xFF; one that
leaves that bit set leaves NearestNeighbour. -/
def Obligations.NearestNeighbourFollowsMask : Prop :=
  ∀ (s : State) (ch : Chan) (p : PortId) (v : Byte), ownerWrites s ch p = true → unlocked s ch p = true → v.getLsbD p.val = false →
    s.ports[p].dsp.nearest ≠ 0xFF →
    (v.getLsbD s.ports[p].dsp.nearest.toNat = false → exec (.neighbourMaskWrite ch p v) s =
      .next (answered ch (modDsp p (fun d => { d with neighbours := v, nearest := 0xFF }) (requested ch s))))
    ∧ (v.getLsbD s.ports[p].dsp.nearest.toNat = true → exec (.neighbourMaskWrite ch p v) s =
      .next (answered ch (modDsp p (fun d => { d with neighbours := v }) (requested ch s))))

/-- R293: a wide-segment frame on a channel whose profile is 1.0 is answered with invalid command specifier, with index and sub-index 0,
and has no other effect. -/
def Obligations.WideFramesNeedProfile11 : Prop :=
  ∀ (s : State) (ch : Chan) (f : CanFrame), served s ch = true → inTime s ch = true → s.chans[ch].profile = 0x0100 → f.fd = true →
    ∀ i ∈ [Instr.wideInitiateDownload ch f, .wideInitiateUpload ch f, .wideSegment ch f, .wideConfirm ch f],
      ∃ t, exec i s = .next t ∧ t.chans[ch].resp = .abort 0x05040001
        ∧ t.can.out = [chanFrame s ch false ([0x80, 0, 0, 0] ++ leBytes 4 0x05040001)]
        ∧ t.ports = s.ports ∧ t.crock = s.crock ∧ t.gate = s.gate ∧ t.fus = s.fus ∧ t.clk = s.clk ∧ t.aon = s.aon ∧ t.pwr = s.pwr
end

