-- ==== Sys2Proof/Laws/State.lean ====
section
/-! SUPPORT. Laws/State.lean: what an update of one port, class, channel or unit leaves alone, one lemma per field and update, and
what it does to the part itself. -/

namespace Sys2Proof.Machine

variable (s : State)

/-! ## One port -/

@[simp] theorem modPort_pending (p : PortId) (f : Port → Port) : (modPort p f s).pending = s.pending := rfl
@[simp] theorem modPort_free (p : PortId) (f : Port → Port) : (modPort p f s).free = s.free := rfl
@[simp] theorem modPort_env (p : PortId) (f : Port → Port) : (modPort p f s).env = s.env := rfl
@[simp] theorem modPort_aon (p : PortId) (f : Port → Port) : (modPort p f s).aon = s.aon := rfl
@[simp] theorem modPort_copies (p : PortId) (f : Port → Port) : (modPort p f s).copies = s.copies := rfl
@[simp] theorem modPort_shadow (p : PortId) (f : Port → Port) : (modPort p f s).shadow = s.shadow := rfl
@[simp] theorem modPort_clk (p : PortId) (f : Port → Port) : (modPort p f s).clk = s.clk := rfl
@[simp] theorem modPort_gate (p : PortId) (f : Port → Port) : (modPort p f s).gate = s.gate := rfl
@[simp] theorem modPort_pwr (p : PortId) (f : Port → Port) : (modPort p f s).pwr = s.pwr := rfl
@[simp] theorem modPort_heat (p : PortId) (f : Port → Port) : (modPort p f s).heat = s.heat := rfl
@[simp] theorem modPort_fus (p : PortId) (f : Port → Port) : (modPort p f s).fus = s.fus := rfl
@[simp] theorem modPort_life (p : PortId) (f : Port → Port) : (modPort p f s).life = s.life := rfl
@[simp] theorem modPort_cal (p : PortId) (f : Port → Port) : (modPort p f s).cal = s.cal := rfl
@[simp] theorem modPort_bist (p : PortId) (f : Port → Port) : (modPort p f s).bist = s.bist := rfl
@[simp] theorem modPort_rcp (p : PortId) (f : Port → Port) : (modPort p f s).rcp = s.rcp := rfl
@[simp] theorem modPort_crock (p : PortId) (f : Port → Port) : (modPort p f s).crock = s.crock := rfl
@[simp] theorem modPort_can (p : PortId) (f : Port → Port) : (modPort p f s).can = s.can := rfl
@[simp] theorem modPort_chans (p : PortId) (f : Port → Port) : (modPort p f s).chans = s.chans := rfl
@[simp] theorem modPort_roll (p : PortId) (f : Port → Port) : (modPort p f s).roll = s.roll := rfl
@[simp] theorem modPort_sieveHolder (p : PortId) (f : Port → Port) : (modPort p f s).sieveHolder = s.sieveHolder := rfl
@[simp] theorem modPort_anchorInterval (p : PortId) (f : Port → Port) : (modPort p f s).anchorInterval = s.anchorInterval := rfl
@[simp] theorem modPort_lastAnchor (p : PortId) (f : Port → Port) : (modPort p f s).lastAnchor = s.lastAnchor := rfl
@[simp] theorem modPort_hashWork (p : PortId) (f : Port → Port) : (modPort p f s).hashWork = s.hashWork := rfl
@[simp] theorem modPort_bayLoads (p : PortId) (f : Port → Port) : (modPort p f s).bayLoads = s.bayLoads := rfl
@[simp] theorem modPort_battenLoads (p : PortId) (f : Port → Port) : (modPort p f s).battenLoads = s.battenLoads := rfl
@[simp] theorem modPort_peakLoad (p : PortId) (f : Port → Port) : (modPort p f s).peakLoad = s.peakLoad := rfl
@[simp] theorem modPort_tap (p : PortId) (f : Port → Port) : (modPort p f s).tap = s.tap := rfl

@[simp] theorem modLink_pending (p : PortId) (f : Link → Link) : (modLink p f s).pending = s.pending := rfl
@[simp] theorem modLink_free (p : PortId) (f : Link → Link) : (modLink p f s).free = s.free := rfl
@[simp] theorem modLink_env (p : PortId) (f : Link → Link) : (modLink p f s).env = s.env := rfl
@[simp] theorem modLink_aon (p : PortId) (f : Link → Link) : (modLink p f s).aon = s.aon := rfl
@[simp] theorem modLink_copies (p : PortId) (f : Link → Link) : (modLink p f s).copies = s.copies := rfl
@[simp] theorem modLink_shadow (p : PortId) (f : Link → Link) : (modLink p f s).shadow = s.shadow := rfl
@[simp] theorem modLink_clk (p : PortId) (f : Link → Link) : (modLink p f s).clk = s.clk := rfl
@[simp] theorem modLink_gate (p : PortId) (f : Link → Link) : (modLink p f s).gate = s.gate := rfl
@[simp] theorem modLink_pwr (p : PortId) (f : Link → Link) : (modLink p f s).pwr = s.pwr := rfl
@[simp] theorem modLink_heat (p : PortId) (f : Link → Link) : (modLink p f s).heat = s.heat := rfl
@[simp] theorem modLink_fus (p : PortId) (f : Link → Link) : (modLink p f s).fus = s.fus := rfl
@[simp] theorem modLink_life (p : PortId) (f : Link → Link) : (modLink p f s).life = s.life := rfl
@[simp] theorem modLink_cal (p : PortId) (f : Link → Link) : (modLink p f s).cal = s.cal := rfl
@[simp] theorem modLink_bist (p : PortId) (f : Link → Link) : (modLink p f s).bist = s.bist := rfl
@[simp] theorem modLink_rcp (p : PortId) (f : Link → Link) : (modLink p f s).rcp = s.rcp := rfl
@[simp] theorem modLink_crock (p : PortId) (f : Link → Link) : (modLink p f s).crock = s.crock := rfl
@[simp] theorem modLink_can (p : PortId) (f : Link → Link) : (modLink p f s).can = s.can := rfl
@[simp] theorem modLink_chans (p : PortId) (f : Link → Link) : (modLink p f s).chans = s.chans := rfl
@[simp] theorem modLink_roll (p : PortId) (f : Link → Link) : (modLink p f s).roll = s.roll := rfl
@[simp] theorem modLink_sieveHolder (p : PortId) (f : Link → Link) : (modLink p f s).sieveHolder = s.sieveHolder := rfl
@[simp] theorem modLink_anchorInterval (p : PortId) (f : Link → Link) : (modLink p f s).anchorInterval = s.anchorInterval := rfl
@[simp] theorem modLink_lastAnchor (p : PortId) (f : Link → Link) : (modLink p f s).lastAnchor = s.lastAnchor := rfl
@[simp] theorem modLink_hashWork (p : PortId) (f : Link → Link) : (modLink p f s).hashWork = s.hashWork := rfl
@[simp] theorem modLink_bayLoads (p : PortId) (f : Link → Link) : (modLink p f s).bayLoads = s.bayLoads := rfl
@[simp] theorem modLink_battenLoads (p : PortId) (f : Link → Link) : (modLink p f s).battenLoads = s.battenLoads := rfl
@[simp] theorem modLink_peakLoad (p : PortId) (f : Link → Link) : (modLink p f s).peakLoad = s.peakLoad := rfl
@[simp] theorem modLink_tap (p : PortId) (f : Link → Link) : (modLink p f s).tap = s.tap := rfl

@[simp] theorem modTrain_pending (p : PortId) (f : Train → Train) : (modTrain p f s).pending = s.pending := rfl
@[simp] theorem modTrain_free (p : PortId) (f : Train → Train) : (modTrain p f s).free = s.free := rfl
@[simp] theorem modTrain_env (p : PortId) (f : Train → Train) : (modTrain p f s).env = s.env := rfl
@[simp] theorem modTrain_aon (p : PortId) (f : Train → Train) : (modTrain p f s).aon = s.aon := rfl
@[simp] theorem modTrain_copies (p : PortId) (f : Train → Train) : (modTrain p f s).copies = s.copies := rfl
@[simp] theorem modTrain_shadow (p : PortId) (f : Train → Train) : (modTrain p f s).shadow = s.shadow := rfl
@[simp] theorem modTrain_clk (p : PortId) (f : Train → Train) : (modTrain p f s).clk = s.clk := rfl
@[simp] theorem modTrain_gate (p : PortId) (f : Train → Train) : (modTrain p f s).gate = s.gate := rfl
@[simp] theorem modTrain_pwr (p : PortId) (f : Train → Train) : (modTrain p f s).pwr = s.pwr := rfl
@[simp] theorem modTrain_heat (p : PortId) (f : Train → Train) : (modTrain p f s).heat = s.heat := rfl
@[simp] theorem modTrain_fus (p : PortId) (f : Train → Train) : (modTrain p f s).fus = s.fus := rfl
@[simp] theorem modTrain_life (p : PortId) (f : Train → Train) : (modTrain p f s).life = s.life := rfl
@[simp] theorem modTrain_cal (p : PortId) (f : Train → Train) : (modTrain p f s).cal = s.cal := rfl
@[simp] theorem modTrain_bist (p : PortId) (f : Train → Train) : (modTrain p f s).bist = s.bist := rfl
@[simp] theorem modTrain_rcp (p : PortId) (f : Train → Train) : (modTrain p f s).rcp = s.rcp := rfl
@[simp] theorem modTrain_crock (p : PortId) (f : Train → Train) : (modTrain p f s).crock = s.crock := rfl
@[simp] theorem modTrain_can (p : PortId) (f : Train → Train) : (modTrain p f s).can = s.can := rfl
@[simp] theorem modTrain_chans (p : PortId) (f : Train → Train) : (modTrain p f s).chans = s.chans := rfl
@[simp] theorem modTrain_roll (p : PortId) (f : Train → Train) : (modTrain p f s).roll = s.roll := rfl
@[simp] theorem modTrain_sieveHolder (p : PortId) (f : Train → Train) : (modTrain p f s).sieveHolder = s.sieveHolder := rfl
@[simp] theorem modTrain_anchorInterval (p : PortId) (f : Train → Train) : (modTrain p f s).anchorInterval = s.anchorInterval := rfl
@[simp] theorem modTrain_lastAnchor (p : PortId) (f : Train → Train) : (modTrain p f s).lastAnchor = s.lastAnchor := rfl
@[simp] theorem modTrain_hashWork (p : PortId) (f : Train → Train) : (modTrain p f s).hashWork = s.hashWork := rfl
@[simp] theorem modTrain_bayLoads (p : PortId) (f : Train → Train) : (modTrain p f s).bayLoads = s.bayLoads := rfl
@[simp] theorem modTrain_battenLoads (p : PortId) (f : Train → Train) : (modTrain p f s).battenLoads = s.battenLoads := rfl
@[simp] theorem modTrain_peakLoad (p : PortId) (f : Train → Train) : (modTrain p f s).peakLoad = s.peakLoad := rfl
@[simp] theorem modTrain_tap (p : PortId) (f : Train → Train) : (modTrain p f s).tap = s.tap := rfl

@[simp] theorem modMc_pending (p : PortId) (f : ModeChange → ModeChange) : (modMc p f s).pending = s.pending := rfl
@[simp] theorem modMc_free (p : PortId) (f : ModeChange → ModeChange) : (modMc p f s).free = s.free := rfl
@[simp] theorem modMc_env (p : PortId) (f : ModeChange → ModeChange) : (modMc p f s).env = s.env := rfl
@[simp] theorem modMc_aon (p : PortId) (f : ModeChange → ModeChange) : (modMc p f s).aon = s.aon := rfl
@[simp] theorem modMc_copies (p : PortId) (f : ModeChange → ModeChange) : (modMc p f s).copies = s.copies := rfl
@[simp] theorem modMc_shadow (p : PortId) (f : ModeChange → ModeChange) : (modMc p f s).shadow = s.shadow := rfl
@[simp] theorem modMc_clk (p : PortId) (f : ModeChange → ModeChange) : (modMc p f s).clk = s.clk := rfl
@[simp] theorem modMc_gate (p : PortId) (f : ModeChange → ModeChange) : (modMc p f s).gate = s.gate := rfl
@[simp] theorem modMc_pwr (p : PortId) (f : ModeChange → ModeChange) : (modMc p f s).pwr = s.pwr := rfl
@[simp] theorem modMc_heat (p : PortId) (f : ModeChange → ModeChange) : (modMc p f s).heat = s.heat := rfl
@[simp] theorem modMc_fus (p : PortId) (f : ModeChange → ModeChange) : (modMc p f s).fus = s.fus := rfl
@[simp] theorem modMc_life (p : PortId) (f : ModeChange → ModeChange) : (modMc p f s).life = s.life := rfl
@[simp] theorem modMc_cal (p : PortId) (f : ModeChange → ModeChange) : (modMc p f s).cal = s.cal := rfl
@[simp] theorem modMc_bist (p : PortId) (f : ModeChange → ModeChange) : (modMc p f s).bist = s.bist := rfl
@[simp] theorem modMc_rcp (p : PortId) (f : ModeChange → ModeChange) : (modMc p f s).rcp = s.rcp := rfl
@[simp] theorem modMc_crock (p : PortId) (f : ModeChange → ModeChange) : (modMc p f s).crock = s.crock := rfl
@[simp] theorem modMc_can (p : PortId) (f : ModeChange → ModeChange) : (modMc p f s).can = s.can := rfl
@[simp] theorem modMc_chans (p : PortId) (f : ModeChange → ModeChange) : (modMc p f s).chans = s.chans := rfl
@[simp] theorem modMc_roll (p : PortId) (f : ModeChange → ModeChange) : (modMc p f s).roll = s.roll := rfl
@[simp] theorem modMc_sieveHolder (p : PortId) (f : ModeChange → ModeChange) : (modMc p f s).sieveHolder = s.sieveHolder := rfl
@[simp] theorem modMc_anchorInterval (p : PortId) (f : ModeChange → ModeChange) : (modMc p f s).anchorInterval = s.anchorInterval := rfl
@[simp] theorem modMc_lastAnchor (p : PortId) (f : ModeChange → ModeChange) : (modMc p f s).lastAnchor = s.lastAnchor := rfl
@[simp] theorem modMc_hashWork (p : PortId) (f : ModeChange → ModeChange) : (modMc p f s).hashWork = s.hashWork := rfl
@[simp] theorem modMc_bayLoads (p : PortId) (f : ModeChange → ModeChange) : (modMc p f s).bayLoads = s.bayLoads := rfl
@[simp] theorem modMc_battenLoads (p : PortId) (f : ModeChange → ModeChange) : (modMc p f s).battenLoads = s.battenLoads := rfl
@[simp] theorem modMc_peakLoad (p : PortId) (f : ModeChange → ModeChange) : (modMc p f s).peakLoad = s.peakLoad := rfl
@[simp] theorem modMc_tap (p : PortId) (f : ModeChange → ModeChange) : (modMc p f s).tap = s.tap := rfl

@[simp] theorem modLine_pending (p : PortId) (f : Line → Line) : (modLine p f s).pending = s.pending := rfl
@[simp] theorem modLine_free (p : PortId) (f : Line → Line) : (modLine p f s).free = s.free := rfl
@[simp] theorem modLine_env (p : PortId) (f : Line → Line) : (modLine p f s).env = s.env := rfl
@[simp] theorem modLine_aon (p : PortId) (f : Line → Line) : (modLine p f s).aon = s.aon := rfl
@[simp] theorem modLine_copies (p : PortId) (f : Line → Line) : (modLine p f s).copies = s.copies := rfl
@[simp] theorem modLine_shadow (p : PortId) (f : Line → Line) : (modLine p f s).shadow = s.shadow := rfl
@[simp] theorem modLine_clk (p : PortId) (f : Line → Line) : (modLine p f s).clk = s.clk := rfl
@[simp] theorem modLine_gate (p : PortId) (f : Line → Line) : (modLine p f s).gate = s.gate := rfl
@[simp] theorem modLine_pwr (p : PortId) (f : Line → Line) : (modLine p f s).pwr = s.pwr := rfl
@[simp] theorem modLine_heat (p : PortId) (f : Line → Line) : (modLine p f s).heat = s.heat := rfl
@[simp] theorem modLine_fus (p : PortId) (f : Line → Line) : (modLine p f s).fus = s.fus := rfl
@[simp] theorem modLine_life (p : PortId) (f : Line → Line) : (modLine p f s).life = s.life := rfl
@[simp] theorem modLine_cal (p : PortId) (f : Line → Line) : (modLine p f s).cal = s.cal := rfl
@[simp] theorem modLine_bist (p : PortId) (f : Line → Line) : (modLine p f s).bist = s.bist := rfl
@[simp] theorem modLine_rcp (p : PortId) (f : Line → Line) : (modLine p f s).rcp = s.rcp := rfl
@[simp] theorem modLine_crock (p : PortId) (f : Line → Line) : (modLine p f s).crock = s.crock := rfl
@[simp] theorem modLine_can (p : PortId) (f : Line → Line) : (modLine p f s).can = s.can := rfl
@[simp] theorem modLine_chans (p : PortId) (f : Line → Line) : (modLine p f s).chans = s.chans := rfl
@[simp] theorem modLine_roll (p : PortId) (f : Line → Line) : (modLine p f s).roll = s.roll := rfl
@[simp] theorem modLine_sieveHolder (p : PortId) (f : Line → Line) : (modLine p f s).sieveHolder = s.sieveHolder := rfl
@[simp] theorem modLine_anchorInterval (p : PortId) (f : Line → Line) : (modLine p f s).anchorInterval = s.anchorInterval := rfl
@[simp] theorem modLine_lastAnchor (p : PortId) (f : Line → Line) : (modLine p f s).lastAnchor = s.lastAnchor := rfl
@[simp] theorem modLine_hashWork (p : PortId) (f : Line → Line) : (modLine p f s).hashWork = s.hashWork := rfl
@[simp] theorem modLine_bayLoads (p : PortId) (f : Line → Line) : (modLine p f s).bayLoads = s.bayLoads := rfl
@[simp] theorem modLine_battenLoads (p : PortId) (f : Line → Line) : (modLine p f s).battenLoads = s.battenLoads := rfl
@[simp] theorem modLine_peakLoad (p : PortId) (f : Line → Line) : (modLine p f s).peakLoad = s.peakLoad := rfl
@[simp] theorem modLine_tap (p : PortId) (f : Line → Line) : (modLine p f s).tap = s.tap := rfl

@[simp] theorem modCnt_pending (p : PortId) (f : Counters → Counters) : (modCnt p f s).pending = s.pending := rfl
@[simp] theorem modCnt_free (p : PortId) (f : Counters → Counters) : (modCnt p f s).free = s.free := rfl
@[simp] theorem modCnt_env (p : PortId) (f : Counters → Counters) : (modCnt p f s).env = s.env := rfl
@[simp] theorem modCnt_aon (p : PortId) (f : Counters → Counters) : (modCnt p f s).aon = s.aon := rfl
@[simp] theorem modCnt_copies (p : PortId) (f : Counters → Counters) : (modCnt p f s).copies = s.copies := rfl
@[simp] theorem modCnt_shadow (p : PortId) (f : Counters → Counters) : (modCnt p f s).shadow = s.shadow := rfl
@[simp] theorem modCnt_clk (p : PortId) (f : Counters → Counters) : (modCnt p f s).clk = s.clk := rfl
@[simp] theorem modCnt_gate (p : PortId) (f : Counters → Counters) : (modCnt p f s).gate = s.gate := rfl
@[simp] theorem modCnt_pwr (p : PortId) (f : Counters → Counters) : (modCnt p f s).pwr = s.pwr := rfl
@[simp] theorem modCnt_heat (p : PortId) (f : Counters → Counters) : (modCnt p f s).heat = s.heat := rfl
@[simp] theorem modCnt_fus (p : PortId) (f : Counters → Counters) : (modCnt p f s).fus = s.fus := rfl
@[simp] theorem modCnt_life (p : PortId) (f : Counters → Counters) : (modCnt p f s).life = s.life := rfl
@[simp] theorem modCnt_cal (p : PortId) (f : Counters → Counters) : (modCnt p f s).cal = s.cal := rfl
@[simp] theorem modCnt_bist (p : PortId) (f : Counters → Counters) : (modCnt p f s).bist = s.bist := rfl
@[simp] theorem modCnt_rcp (p : PortId) (f : Counters → Counters) : (modCnt p f s).rcp = s.rcp := rfl
@[simp] theorem modCnt_crock (p : PortId) (f : Counters → Counters) : (modCnt p f s).crock = s.crock := rfl
@[simp] theorem modCnt_can (p : PortId) (f : Counters → Counters) : (modCnt p f s).can = s.can := rfl
@[simp] theorem modCnt_chans (p : PortId) (f : Counters → Counters) : (modCnt p f s).chans = s.chans := rfl
@[simp] theorem modCnt_roll (p : PortId) (f : Counters → Counters) : (modCnt p f s).roll = s.roll := rfl
@[simp] theorem modCnt_sieveHolder (p : PortId) (f : Counters → Counters) : (modCnt p f s).sieveHolder = s.sieveHolder := rfl
@[simp] theorem modCnt_anchorInterval (p : PortId) (f : Counters → Counters) : (modCnt p f s).anchorInterval = s.anchorInterval := rfl
@[simp] theorem modCnt_lastAnchor (p : PortId) (f : Counters → Counters) : (modCnt p f s).lastAnchor = s.lastAnchor := rfl
@[simp] theorem modCnt_hashWork (p : PortId) (f : Counters → Counters) : (modCnt p f s).hashWork = s.hashWork := rfl
@[simp] theorem modCnt_bayLoads (p : PortId) (f : Counters → Counters) : (modCnt p f s).bayLoads = s.bayLoads := rfl
@[simp] theorem modCnt_battenLoads (p : PortId) (f : Counters → Counters) : (modCnt p f s).battenLoads = s.battenLoads := rfl
@[simp] theorem modCnt_peakLoad (p : PortId) (f : Counters → Counters) : (modCnt p f s).peakLoad = s.peakLoad := rfl
@[simp] theorem modCnt_tap (p : PortId) (f : Counters → Counters) : (modCnt p f s).tap = s.tap := rfl

@[simp] theorem modHost_pending (p : PortId) (f : HostLane → HostLane) : (modHost p f s).pending = s.pending := rfl
@[simp] theorem modHost_free (p : PortId) (f : HostLane → HostLane) : (modHost p f s).free = s.free := rfl
@[simp] theorem modHost_env (p : PortId) (f : HostLane → HostLane) : (modHost p f s).env = s.env := rfl
@[simp] theorem modHost_aon (p : PortId) (f : HostLane → HostLane) : (modHost p f s).aon = s.aon := rfl
@[simp] theorem modHost_copies (p : PortId) (f : HostLane → HostLane) : (modHost p f s).copies = s.copies := rfl
@[simp] theorem modHost_shadow (p : PortId) (f : HostLane → HostLane) : (modHost p f s).shadow = s.shadow := rfl
@[simp] theorem modHost_clk (p : PortId) (f : HostLane → HostLane) : (modHost p f s).clk = s.clk := rfl
@[simp] theorem modHost_gate (p : PortId) (f : HostLane → HostLane) : (modHost p f s).gate = s.gate := rfl
@[simp] theorem modHost_pwr (p : PortId) (f : HostLane → HostLane) : (modHost p f s).pwr = s.pwr := rfl
@[simp] theorem modHost_heat (p : PortId) (f : HostLane → HostLane) : (modHost p f s).heat = s.heat := rfl
@[simp] theorem modHost_fus (p : PortId) (f : HostLane → HostLane) : (modHost p f s).fus = s.fus := rfl
@[simp] theorem modHost_life (p : PortId) (f : HostLane → HostLane) : (modHost p f s).life = s.life := rfl
@[simp] theorem modHost_cal (p : PortId) (f : HostLane → HostLane) : (modHost p f s).cal = s.cal := rfl
@[simp] theorem modHost_bist (p : PortId) (f : HostLane → HostLane) : (modHost p f s).bist = s.bist := rfl
@[simp] theorem modHost_rcp (p : PortId) (f : HostLane → HostLane) : (modHost p f s).rcp = s.rcp := rfl
@[simp] theorem modHost_crock (p : PortId) (f : HostLane → HostLane) : (modHost p f s).crock = s.crock := rfl
@[simp] theorem modHost_can (p : PortId) (f : HostLane → HostLane) : (modHost p f s).can = s.can := rfl
@[simp] theorem modHost_chans (p : PortId) (f : HostLane → HostLane) : (modHost p f s).chans = s.chans := rfl
@[simp] theorem modHost_roll (p : PortId) (f : HostLane → HostLane) : (modHost p f s).roll = s.roll := rfl
@[simp] theorem modHost_sieveHolder (p : PortId) (f : HostLane → HostLane) : (modHost p f s).sieveHolder = s.sieveHolder := rfl
@[simp] theorem modHost_anchorInterval (p : PortId) (f : HostLane → HostLane) : (modHost p f s).anchorInterval = s.anchorInterval := rfl
@[simp] theorem modHost_lastAnchor (p : PortId) (f : HostLane → HostLane) : (modHost p f s).lastAnchor = s.lastAnchor := rfl
@[simp] theorem modHost_hashWork (p : PortId) (f : HostLane → HostLane) : (modHost p f s).hashWork = s.hashWork := rfl
@[simp] theorem modHost_bayLoads (p : PortId) (f : HostLane → HostLane) : (modHost p f s).bayLoads = s.bayLoads := rfl
@[simp] theorem modHost_battenLoads (p : PortId) (f : HostLane → HostLane) : (modHost p f s).battenLoads = s.battenLoads := rfl
@[simp] theorem modHost_peakLoad (p : PortId) (f : HostLane → HostLane) : (modHost p f s).peakLoad = s.peakLoad := rfl
@[simp] theorem modHost_tap (p : PortId) (f : HostLane → HostLane) : (modHost p f s).tap = s.tap := rfl

@[simp] theorem modDsp_pending (p : PortId) (f : Dsp → Dsp) : (modDsp p f s).pending = s.pending := rfl
@[simp] theorem modDsp_free (p : PortId) (f : Dsp → Dsp) : (modDsp p f s).free = s.free := rfl
@[simp] theorem modDsp_env (p : PortId) (f : Dsp → Dsp) : (modDsp p f s).env = s.env := rfl
@[simp] theorem modDsp_aon (p : PortId) (f : Dsp → Dsp) : (modDsp p f s).aon = s.aon := rfl
@[simp] theorem modDsp_copies (p : PortId) (f : Dsp → Dsp) : (modDsp p f s).copies = s.copies := rfl
@[simp] theorem modDsp_shadow (p : PortId) (f : Dsp → Dsp) : (modDsp p f s).shadow = s.shadow := rfl
@[simp] theorem modDsp_clk (p : PortId) (f : Dsp → Dsp) : (modDsp p f s).clk = s.clk := rfl
@[simp] theorem modDsp_gate (p : PortId) (f : Dsp → Dsp) : (modDsp p f s).gate = s.gate := rfl
@[simp] theorem modDsp_pwr (p : PortId) (f : Dsp → Dsp) : (modDsp p f s).pwr = s.pwr := rfl
@[simp] theorem modDsp_heat (p : PortId) (f : Dsp → Dsp) : (modDsp p f s).heat = s.heat := rfl
@[simp] theorem modDsp_fus (p : PortId) (f : Dsp → Dsp) : (modDsp p f s).fus = s.fus := rfl
@[simp] theorem modDsp_life (p : PortId) (f : Dsp → Dsp) : (modDsp p f s).life = s.life := rfl
@[simp] theorem modDsp_cal (p : PortId) (f : Dsp → Dsp) : (modDsp p f s).cal = s.cal := rfl
@[simp] theorem modDsp_bist (p : PortId) (f : Dsp → Dsp) : (modDsp p f s).bist = s.bist := rfl
@[simp] theorem modDsp_rcp (p : PortId) (f : Dsp → Dsp) : (modDsp p f s).rcp = s.rcp := rfl
@[simp] theorem modDsp_crock (p : PortId) (f : Dsp → Dsp) : (modDsp p f s).crock = s.crock := rfl
@[simp] theorem modDsp_can (p : PortId) (f : Dsp → Dsp) : (modDsp p f s).can = s.can := rfl
@[simp] theorem modDsp_chans (p : PortId) (f : Dsp → Dsp) : (modDsp p f s).chans = s.chans := rfl
@[simp] theorem modDsp_roll (p : PortId) (f : Dsp → Dsp) : (modDsp p f s).roll = s.roll := rfl
@[simp] theorem modDsp_sieveHolder (p : PortId) (f : Dsp → Dsp) : (modDsp p f s).sieveHolder = s.sieveHolder := rfl
@[simp] theorem modDsp_anchorInterval (p : PortId) (f : Dsp → Dsp) : (modDsp p f s).anchorInterval = s.anchorInterval := rfl
@[simp] theorem modDsp_lastAnchor (p : PortId) (f : Dsp → Dsp) : (modDsp p f s).lastAnchor = s.lastAnchor := rfl
@[simp] theorem modDsp_hashWork (p : PortId) (f : Dsp → Dsp) : (modDsp p f s).hashWork = s.hashWork := rfl
@[simp] theorem modDsp_bayLoads (p : PortId) (f : Dsp → Dsp) : (modDsp p f s).bayLoads = s.bayLoads := rfl
@[simp] theorem modDsp_battenLoads (p : PortId) (f : Dsp → Dsp) : (modDsp p f s).battenLoads = s.battenLoads := rfl
@[simp] theorem modDsp_peakLoad (p : PortId) (f : Dsp → Dsp) : (modDsp p f s).peakLoad = s.peakLoad := rfl
@[simp] theorem modDsp_tap (p : PortId) (f : Dsp → Dsp) : (modDsp p f s).tap = s.tap := rfl

@[simp] theorem modSig_pending (p : PortId) (f : Sig → Sig) : (modSig p f s).pending = s.pending := rfl
@[simp] theorem modSig_free (p : PortId) (f : Sig → Sig) : (modSig p f s).free = s.free := rfl
@[simp] theorem modSig_env (p : PortId) (f : Sig → Sig) : (modSig p f s).env = s.env := rfl
@[simp] theorem modSig_aon (p : PortId) (f : Sig → Sig) : (modSig p f s).aon = s.aon := rfl
@[simp] theorem modSig_copies (p : PortId) (f : Sig → Sig) : (modSig p f s).copies = s.copies := rfl
@[simp] theorem modSig_shadow (p : PortId) (f : Sig → Sig) : (modSig p f s).shadow = s.shadow := rfl
@[simp] theorem modSig_clk (p : PortId) (f : Sig → Sig) : (modSig p f s).clk = s.clk := rfl
@[simp] theorem modSig_gate (p : PortId) (f : Sig → Sig) : (modSig p f s).gate = s.gate := rfl
@[simp] theorem modSig_pwr (p : PortId) (f : Sig → Sig) : (modSig p f s).pwr = s.pwr := rfl
@[simp] theorem modSig_heat (p : PortId) (f : Sig → Sig) : (modSig p f s).heat = s.heat := rfl
@[simp] theorem modSig_fus (p : PortId) (f : Sig → Sig) : (modSig p f s).fus = s.fus := rfl
@[simp] theorem modSig_life (p : PortId) (f : Sig → Sig) : (modSig p f s).life = s.life := rfl
@[simp] theorem modSig_cal (p : PortId) (f : Sig → Sig) : (modSig p f s).cal = s.cal := rfl
@[simp] theorem modSig_bist (p : PortId) (f : Sig → Sig) : (modSig p f s).bist = s.bist := rfl
@[simp] theorem modSig_rcp (p : PortId) (f : Sig → Sig) : (modSig p f s).rcp = s.rcp := rfl
@[simp] theorem modSig_crock (p : PortId) (f : Sig → Sig) : (modSig p f s).crock = s.crock := rfl
@[simp] theorem modSig_can (p : PortId) (f : Sig → Sig) : (modSig p f s).can = s.can := rfl
@[simp] theorem modSig_chans (p : PortId) (f : Sig → Sig) : (modSig p f s).chans = s.chans := rfl
@[simp] theorem modSig_roll (p : PortId) (f : Sig → Sig) : (modSig p f s).roll = s.roll := rfl
@[simp] theorem modSig_sieveHolder (p : PortId) (f : Sig → Sig) : (modSig p f s).sieveHolder = s.sieveHolder := rfl
@[simp] theorem modSig_anchorInterval (p : PortId) (f : Sig → Sig) : (modSig p f s).anchorInterval = s.anchorInterval := rfl
@[simp] theorem modSig_lastAnchor (p : PortId) (f : Sig → Sig) : (modSig p f s).lastAnchor = s.lastAnchor := rfl
@[simp] theorem modSig_hashWork (p : PortId) (f : Sig → Sig) : (modSig p f s).hashWork = s.hashWork := rfl
@[simp] theorem modSig_bayLoads (p : PortId) (f : Sig → Sig) : (modSig p f s).bayLoads = s.bayLoads := rfl
@[simp] theorem modSig_battenLoads (p : PortId) (f : Sig → Sig) : (modSig p f s).battenLoads = s.battenLoads := rfl
@[simp] theorem modSig_peakLoad (p : PortId) (f : Sig → Sig) : (modSig p f s).peakLoad = s.peakLoad := rfl
@[simp] theorem modSig_tap (p : PortId) (f : Sig → Sig) : (modSig p f s).tap = s.tap := rfl

@[simp] theorem modSeal_pending (p : PortId) (f : Seal → Seal) : (modSeal p f s).pending = s.pending := rfl
@[simp] theorem modSeal_free (p : PortId) (f : Seal → Seal) : (modSeal p f s).free = s.free := rfl
@[simp] theorem modSeal_env (p : PortId) (f : Seal → Seal) : (modSeal p f s).env = s.env := rfl
@[simp] theorem modSeal_aon (p : PortId) (f : Seal → Seal) : (modSeal p f s).aon = s.aon := rfl
@[simp] theorem modSeal_copies (p : PortId) (f : Seal → Seal) : (modSeal p f s).copies = s.copies := rfl
@[simp] theorem modSeal_shadow (p : PortId) (f : Seal → Seal) : (modSeal p f s).shadow = s.shadow := rfl
@[simp] theorem modSeal_clk (p : PortId) (f : Seal → Seal) : (modSeal p f s).clk = s.clk := rfl
@[simp] theorem modSeal_gate (p : PortId) (f : Seal → Seal) : (modSeal p f s).gate = s.gate := rfl
@[simp] theorem modSeal_pwr (p : PortId) (f : Seal → Seal) : (modSeal p f s).pwr = s.pwr := rfl
@[simp] theorem modSeal_heat (p : PortId) (f : Seal → Seal) : (modSeal p f s).heat = s.heat := rfl
@[simp] theorem modSeal_fus (p : PortId) (f : Seal → Seal) : (modSeal p f s).fus = s.fus := rfl
@[simp] theorem modSeal_life (p : PortId) (f : Seal → Seal) : (modSeal p f s).life = s.life := rfl
@[simp] theorem modSeal_cal (p : PortId) (f : Seal → Seal) : (modSeal p f s).cal = s.cal := rfl
@[simp] theorem modSeal_bist (p : PortId) (f : Seal → Seal) : (modSeal p f s).bist = s.bist := rfl
@[simp] theorem modSeal_rcp (p : PortId) (f : Seal → Seal) : (modSeal p f s).rcp = s.rcp := rfl
@[simp] theorem modSeal_crock (p : PortId) (f : Seal → Seal) : (modSeal p f s).crock = s.crock := rfl
@[simp] theorem modSeal_can (p : PortId) (f : Seal → Seal) : (modSeal p f s).can = s.can := rfl
@[simp] theorem modSeal_chans (p : PortId) (f : Seal → Seal) : (modSeal p f s).chans = s.chans := rfl
@[simp] theorem modSeal_roll (p : PortId) (f : Seal → Seal) : (modSeal p f s).roll = s.roll := rfl
@[simp] theorem modSeal_sieveHolder (p : PortId) (f : Seal → Seal) : (modSeal p f s).sieveHolder = s.sieveHolder := rfl
@[simp] theorem modSeal_anchorInterval (p : PortId) (f : Seal → Seal) : (modSeal p f s).anchorInterval = s.anchorInterval := rfl
@[simp] theorem modSeal_lastAnchor (p : PortId) (f : Seal → Seal) : (modSeal p f s).lastAnchor = s.lastAnchor := rfl
@[simp] theorem modSeal_hashWork (p : PortId) (f : Seal → Seal) : (modSeal p f s).hashWork = s.hashWork := rfl
@[simp] theorem modSeal_bayLoads (p : PortId) (f : Seal → Seal) : (modSeal p f s).bayLoads = s.bayLoads := rfl
@[simp] theorem modSeal_battenLoads (p : PortId) (f : Seal → Seal) : (modSeal p f s).battenLoads = s.battenLoads := rfl
@[simp] theorem modSeal_peakLoad (p : PortId) (f : Seal → Seal) : (modSeal p f s).peakLoad = s.peakLoad := rfl
@[simp] theorem modSeal_tap (p : PortId) (f : Seal → Seal) : (modSeal p f s).tap = s.tap := rfl

@[simp] theorem modSieve_pending (p : PortId) (f : SievePort → SievePort) : (modSieve p f s).pending = s.pending := rfl
@[simp] theorem modSieve_free (p : PortId) (f : SievePort → SievePort) : (modSieve p f s).free = s.free := rfl
@[simp] theorem modSieve_env (p : PortId) (f : SievePort → SievePort) : (modSieve p f s).env = s.env := rfl
@[simp] theorem modSieve_aon (p : PortId) (f : SievePort → SievePort) : (modSieve p f s).aon = s.aon := rfl
@[simp] theorem modSieve_copies (p : PortId) (f : SievePort → SievePort) : (modSieve p f s).copies = s.copies := rfl
@[simp] theorem modSieve_shadow (p : PortId) (f : SievePort → SievePort) : (modSieve p f s).shadow = s.shadow := rfl
@[simp] theorem modSieve_clk (p : PortId) (f : SievePort → SievePort) : (modSieve p f s).clk = s.clk := rfl
@[simp] theorem modSieve_gate (p : PortId) (f : SievePort → SievePort) : (modSieve p f s).gate = s.gate := rfl
@[simp] theorem modSieve_pwr (p : PortId) (f : SievePort → SievePort) : (modSieve p f s).pwr = s.pwr := rfl
@[simp] theorem modSieve_heat (p : PortId) (f : SievePort → SievePort) : (modSieve p f s).heat = s.heat := rfl
@[simp] theorem modSieve_fus (p : PortId) (f : SievePort → SievePort) : (modSieve p f s).fus = s.fus := rfl
@[simp] theorem modSieve_life (p : PortId) (f : SievePort → SievePort) : (modSieve p f s).life = s.life := rfl
@[simp] theorem modSieve_cal (p : PortId) (f : SievePort → SievePort) : (modSieve p f s).cal = s.cal := rfl
@[simp] theorem modSieve_bist (p : PortId) (f : SievePort → SievePort) : (modSieve p f s).bist = s.bist := rfl
@[simp] theorem modSieve_rcp (p : PortId) (f : SievePort → SievePort) : (modSieve p f s).rcp = s.rcp := rfl
@[simp] theorem modSieve_crock (p : PortId) (f : SievePort → SievePort) : (modSieve p f s).crock = s.crock := rfl
@[simp] theorem modSieve_can (p : PortId) (f : SievePort → SievePort) : (modSieve p f s).can = s.can := rfl
@[simp] theorem modSieve_chans (p : PortId) (f : SievePort → SievePort) : (modSieve p f s).chans = s.chans := rfl
@[simp] theorem modSieve_roll (p : PortId) (f : SievePort → SievePort) : (modSieve p f s).roll = s.roll := rfl
@[simp] theorem modSieve_sieveHolder (p : PortId) (f : SievePort → SievePort) : (modSieve p f s).sieveHolder = s.sieveHolder := rfl
@[simp] theorem modSieve_anchorInterval (p : PortId) (f : SievePort → SievePort) : (modSieve p f s).anchorInterval = s.anchorInterval := rfl
@[simp] theorem modSieve_lastAnchor (p : PortId) (f : SievePort → SievePort) : (modSieve p f s).lastAnchor = s.lastAnchor := rfl
@[simp] theorem modSieve_hashWork (p : PortId) (f : SievePort → SievePort) : (modSieve p f s).hashWork = s.hashWork := rfl
@[simp] theorem modSieve_bayLoads (p : PortId) (f : SievePort → SievePort) : (modSieve p f s).bayLoads = s.bayLoads := rfl
@[simp] theorem modSieve_battenLoads (p : PortId) (f : SievePort → SievePort) : (modSieve p f s).battenLoads = s.battenLoads := rfl
@[simp] theorem modSieve_peakLoad (p : PortId) (f : SievePort → SievePort) : (modSieve p f s).peakLoad = s.peakLoad := rfl
@[simp] theorem modSieve_tap (p : PortId) (f : SievePort → SievePort) : (modSieve p f s).tap = s.tap := rfl

@[simp] theorem modTx_pending (p : PortId) (c : Cls) (f : TxCls → TxCls) : (modTx p c f s).pending = s.pending := rfl
@[simp] theorem modTx_free (p : PortId) (c : Cls) (f : TxCls → TxCls) : (modTx p c f s).free = s.free := rfl
@[simp] theorem modTx_env (p : PortId) (c : Cls) (f : TxCls → TxCls) : (modTx p c f s).env = s.env := rfl
@[simp] theorem modTx_aon (p : PortId) (c : Cls) (f : TxCls → TxCls) : (modTx p c f s).aon = s.aon := rfl
@[simp] theorem modTx_copies (p : PortId) (c : Cls) (f : TxCls → TxCls) : (modTx p c f s).copies = s.copies := rfl
@[simp] theorem modTx_shadow (p : PortId) (c : Cls) (f : TxCls → TxCls) : (modTx p c f s).shadow = s.shadow := rfl
@[simp] theorem modTx_clk (p : PortId) (c : Cls) (f : TxCls → TxCls) : (modTx p c f s).clk = s.clk := rfl
@[simp] theorem modTx_gate (p : PortId) (c : Cls) (f : TxCls → TxCls) : (modTx p c f s).gate = s.gate := rfl
@[simp] theorem modTx_pwr (p : PortId) (c : Cls) (f : TxCls → TxCls) : (modTx p c f s).pwr = s.pwr := rfl
@[simp] theorem modTx_heat (p : PortId) (c : Cls) (f : TxCls → TxCls) : (modTx p c f s).heat = s.heat := rfl
@[simp] theorem modTx_fus (p : PortId) (c : Cls) (f : TxCls → TxCls) : (modTx p c f s).fus = s.fus := rfl
@[simp] theorem modTx_life (p : PortId) (c : Cls) (f : TxCls → TxCls) : (modTx p c f s).life = s.life := rfl
@[simp] theorem modTx_cal (p : PortId) (c : Cls) (f : TxCls → TxCls) : (modTx p c f s).cal = s.cal := rfl
@[simp] theorem modTx_bist (p : PortId) (c : Cls) (f : TxCls → TxCls) : (modTx p c f s).bist = s.bist := rfl
@[simp] theorem modTx_rcp (p : PortId) (c : Cls) (f : TxCls → TxCls) : (modTx p c f s).rcp = s.rcp := rfl
@[simp] theorem modTx_crock (p : PortId) (c : Cls) (f : TxCls → TxCls) : (modTx p c f s).crock = s.crock := rfl
@[simp] theorem modTx_can (p : PortId) (c : Cls) (f : TxCls → TxCls) : (modTx p c f s).can = s.can := rfl
@[simp] theorem modTx_chans (p : PortId) (c : Cls) (f : TxCls → TxCls) : (modTx p c f s).chans = s.chans := rfl
@[simp] theorem modTx_roll (p : PortId) (c : Cls) (f : TxCls → TxCls) : (modTx p c f s).roll = s.roll := rfl
@[simp] theorem modTx_sieveHolder (p : PortId) (c : Cls) (f : TxCls → TxCls) : (modTx p c f s).sieveHolder = s.sieveHolder := rfl
@[simp] theorem modTx_anchorInterval (p : PortId) (c : Cls) (f : TxCls → TxCls) : (modTx p c f s).anchorInterval = s.anchorInterval := rfl
@[simp] theorem modTx_lastAnchor (p : PortId) (c : Cls) (f : TxCls → TxCls) : (modTx p c f s).lastAnchor = s.lastAnchor := rfl
@[simp] theorem modTx_hashWork (p : PortId) (c : Cls) (f : TxCls → TxCls) : (modTx p c f s).hashWork = s.hashWork := rfl
@[simp] theorem modTx_bayLoads (p : PortId) (c : Cls) (f : TxCls → TxCls) : (modTx p c f s).bayLoads = s.bayLoads := rfl
@[simp] theorem modTx_battenLoads (p : PortId) (c : Cls) (f : TxCls → TxCls) : (modTx p c f s).battenLoads = s.battenLoads := rfl
@[simp] theorem modTx_peakLoad (p : PortId) (c : Cls) (f : TxCls → TxCls) : (modTx p c f s).peakLoad = s.peakLoad := rfl
@[simp] theorem modTx_tap (p : PortId) (c : Cls) (f : TxCls → TxCls) : (modTx p c f s).tap = s.tap := rfl

@[simp] theorem modRx_pending (p : PortId) (c : Cls) (f : RxCls → RxCls) : (modRx p c f s).pending = s.pending := rfl
@[simp] theorem modRx_free (p : PortId) (c : Cls) (f : RxCls → RxCls) : (modRx p c f s).free = s.free := rfl
@[simp] theorem modRx_env (p : PortId) (c : Cls) (f : RxCls → RxCls) : (modRx p c f s).env = s.env := rfl
@[simp] theorem modRx_aon (p : PortId) (c : Cls) (f : RxCls → RxCls) : (modRx p c f s).aon = s.aon := rfl
@[simp] theorem modRx_copies (p : PortId) (c : Cls) (f : RxCls → RxCls) : (modRx p c f s).copies = s.copies := rfl
@[simp] theorem modRx_shadow (p : PortId) (c : Cls) (f : RxCls → RxCls) : (modRx p c f s).shadow = s.shadow := rfl
@[simp] theorem modRx_clk (p : PortId) (c : Cls) (f : RxCls → RxCls) : (modRx p c f s).clk = s.clk := rfl
@[simp] theorem modRx_gate (p : PortId) (c : Cls) (f : RxCls → RxCls) : (modRx p c f s).gate = s.gate := rfl
@[simp] theorem modRx_pwr (p : PortId) (c : Cls) (f : RxCls → RxCls) : (modRx p c f s).pwr = s.pwr := rfl
@[simp] theorem modRx_heat (p : PortId) (c : Cls) (f : RxCls → RxCls) : (modRx p c f s).heat = s.heat := rfl
@[simp] theorem modRx_fus (p : PortId) (c : Cls) (f : RxCls → RxCls) : (modRx p c f s).fus = s.fus := rfl
@[simp] theorem modRx_life (p : PortId) (c : Cls) (f : RxCls → RxCls) : (modRx p c f s).life = s.life := rfl
@[simp] theorem modRx_cal (p : PortId) (c : Cls) (f : RxCls → RxCls) : (modRx p c f s).cal = s.cal := rfl
@[simp] theorem modRx_bist (p : PortId) (c : Cls) (f : RxCls → RxCls) : (modRx p c f s).bist = s.bist := rfl
@[simp] theorem modRx_rcp (p : PortId) (c : Cls) (f : RxCls → RxCls) : (modRx p c f s).rcp = s.rcp := rfl
@[simp] theorem modRx_crock (p : PortId) (c : Cls) (f : RxCls → RxCls) : (modRx p c f s).crock = s.crock := rfl
@[simp] theorem modRx_can (p : PortId) (c : Cls) (f : RxCls → RxCls) : (modRx p c f s).can = s.can := rfl
@[simp] theorem modRx_chans (p : PortId) (c : Cls) (f : RxCls → RxCls) : (modRx p c f s).chans = s.chans := rfl
@[simp] theorem modRx_roll (p : PortId) (c : Cls) (f : RxCls → RxCls) : (modRx p c f s).roll = s.roll := rfl
@[simp] theorem modRx_sieveHolder (p : PortId) (c : Cls) (f : RxCls → RxCls) : (modRx p c f s).sieveHolder = s.sieveHolder := rfl
@[simp] theorem modRx_anchorInterval (p : PortId) (c : Cls) (f : RxCls → RxCls) : (modRx p c f s).anchorInterval = s.anchorInterval := rfl
@[simp] theorem modRx_lastAnchor (p : PortId) (c : Cls) (f : RxCls → RxCls) : (modRx p c f s).lastAnchor = s.lastAnchor := rfl
@[simp] theorem modRx_hashWork (p : PortId) (c : Cls) (f : RxCls → RxCls) : (modRx p c f s).hashWork = s.hashWork := rfl
@[simp] theorem modRx_bayLoads (p : PortId) (c : Cls) (f : RxCls → RxCls) : (modRx p c f s).bayLoads = s.bayLoads := rfl
@[simp] theorem modRx_battenLoads (p : PortId) (c : Cls) (f : RxCls → RxCls) : (modRx p c f s).battenLoads = s.battenLoads := rfl
@[simp] theorem modRx_peakLoad (p : PortId) (c : Cls) (f : RxCls → RxCls) : (modRx p c f s).peakLoad = s.peakLoad := rfl
@[simp] theorem modRx_tap (p : PortId) (c : Cls) (f : RxCls → RxCls) : (modRx p c f s).tap = s.tap := rfl

/-! ## The port itself, and the others -/

@[simp] theorem modPort_self (p : PortId) (f : Port → Port) : (modPort p f s).ports[(p : Nat)] = f s.ports[(p : Nat)] := by
  simp [modPort]

theorem modPort_other (p q : PortId) (f : Port → Port) (h : q ≠ p) : (modPort p f s).ports[(q : Nat)] = s.ports[(q : Nat)] := by
  have e : (p : Nat) ≠ q := fun e => h (Fin.ext e.symm)
  simp [modPort, Vector.getElem_set_ne, e]

@[simp] theorem modLink_self (p : PortId) (f : Link → Link) :
    (modLink p f s).ports[(p : Nat)] = { s.ports[(p : Nat)] with link := f s.ports[(p : Nat)].link } := by
  simp [modLink]

theorem modLink_other (p : PortId) (f : Link → Link) (q : PortId) (h : q ≠ p) : (modLink p f s).ports[(q : Nat)] = s.ports[(q : Nat)] :=
  modPort_other s p q _ h

@[simp] theorem modTrain_self (p : PortId) (f : Train → Train) :
    (modTrain p f s).ports[(p : Nat)] = { s.ports[(p : Nat)] with train := f s.ports[(p : Nat)].train } := by
  simp [modTrain]

theorem modTrain_other (p : PortId) (f : Train → Train) (q : PortId) (h : q ≠ p) : (modTrain p f s).ports[(q : Nat)] = s.ports[(q : Nat)] :=
  modPort_other s p q _ h

@[simp] theorem modMc_self (p : PortId) (f : ModeChange → ModeChange) :
    (modMc p f s).ports[(p : Nat)] = { s.ports[(p : Nat)] with mc := f s.ports[(p : Nat)].mc } := by
  simp [modMc]

theorem modMc_other (p : PortId) (f : ModeChange → ModeChange) (q : PortId) (h : q ≠ p) : (modMc p f s).ports[(q : Nat)] = s.ports[(q : Nat)] :=
  modPort_other s p q _ h

@[simp] theorem modLine_self (p : PortId) (f : Line → Line) :
    (modLine p f s).ports[(p : Nat)] = { s.ports[(p : Nat)] with line := f s.ports[(p : Nat)].line } := by
  simp [modLine]

theorem modLine_other (p : PortId) (f : Line → Line) (q : PortId) (h : q ≠ p) : (modLine p f s).ports[(q : Nat)] = s.ports[(q : Nat)] :=
  modPort_other s p q _ h

@[simp] theorem modCnt_self (p : PortId) (f : Counters → Counters) :
    (modCnt p f s).ports[(p : Nat)] = { s.ports[(p : Nat)] with cnt := f s.ports[(p : Nat)].cnt } := by
  simp [modCnt]

theorem modCnt_other (p : PortId) (f : Counters → Counters) (q : PortId) (h : q ≠ p) : (modCnt p f s).ports[(q : Nat)] = s.ports[(q : Nat)] :=
  modPort_other s p q _ h

@[simp] theorem modHost_self (p : PortId) (f : HostLane → HostLane) :
    (modHost p f s).ports[(p : Nat)] = { s.ports[(p : Nat)] with host := f s.ports[(p : Nat)].host } := by
  simp [modHost]

theorem modHost_other (p : PortId) (f : HostLane → HostLane) (q : PortId) (h : q ≠ p) : (modHost p f s).ports[(q : Nat)] = s.ports[(q : Nat)] :=
  modPort_other s p q _ h

@[simp] theorem modDsp_self (p : PortId) (f : Dsp → Dsp) :
    (modDsp p f s).ports[(p : Nat)] = { s.ports[(p : Nat)] with dsp := f s.ports[(p : Nat)].dsp } := by
  simp [modDsp]

theorem modDsp_other (p : PortId) (f : Dsp → Dsp) (q : PortId) (h : q ≠ p) : (modDsp p f s).ports[(q : Nat)] = s.ports[(q : Nat)] :=
  modPort_other s p q _ h

@[simp] theorem modSig_self (p : PortId) (f : Sig → Sig) :
    (modSig p f s).ports[(p : Nat)] = { s.ports[(p : Nat)] with sig := f s.ports[(p : Nat)].sig } := by
  simp [modSig]

theorem modSig_other (p : PortId) (f : Sig → Sig) (q : PortId) (h : q ≠ p) : (modSig p f s).ports[(q : Nat)] = s.ports[(q : Nat)] :=
  modPort_other s p q _ h

@[simp] theorem modSeal_self (p : PortId) (f : Seal → Seal) :
    (modSeal p f s).ports[(p : Nat)] = { s.ports[(p : Nat)] with sealing := f s.ports[(p : Nat)].sealing } := by
  simp [modSeal]

theorem modSeal_other (p : PortId) (f : Seal → Seal) (q : PortId) (h : q ≠ p) : (modSeal p f s).ports[(q : Nat)] = s.ports[(q : Nat)] :=
  modPort_other s p q _ h

@[simp] theorem modSieve_self (p : PortId) (f : SievePort → SievePort) :
    (modSieve p f s).ports[(p : Nat)] = { s.ports[(p : Nat)] with sieve := f s.ports[(p : Nat)].sieve } := by
  simp [modSieve]

theorem modSieve_other (p : PortId) (f : SievePort → SievePort) (q : PortId) (h : q ≠ p) : (modSieve p f s).ports[(q : Nat)] = s.ports[(q : Nat)] :=
  modPort_other s p q _ h

@[simp] theorem modTx_self (p : PortId) (c : Cls) (f : TxCls → TxCls) :
    (modTx p c f s).ports[(p : Nat)] = { s.ports[(p : Nat)] with tx := s.ports[(p : Nat)].tx.set c (f s.ports[(p : Nat)].tx[(c : Nat)]) } := by
  simp [modTx]

theorem modTx_other (p : PortId) (c : Cls) (f : TxCls → TxCls) (q : PortId) (h : q ≠ p) : (modTx p c f s).ports[(q : Nat)] = s.ports[(q : Nat)] :=
  modPort_other s p q _ h

@[simp] theorem modRx_self (p : PortId) (c : Cls) (f : RxCls → RxCls) :
    (modRx p c f s).ports[(p : Nat)] = { s.ports[(p : Nat)] with rx := s.ports[(p : Nat)].rx.set c (f s.ports[(p : Nat)].rx[(c : Nat)]) } := by
  simp [modRx]

theorem modRx_other (p : PortId) (c : Cls) (f : RxCls → RxCls) (q : PortId) (h : q ≠ p) : (modRx p c f s).ports[(q : Nat)] = s.ports[(q : Nat)] :=
  modPort_other s p q _ h

/-! ## One channel -/

@[simp] theorem modChan_pending (ch : Chan) (f : Channel → Channel) : (modChan ch f s).pending = s.pending := rfl
@[simp] theorem modChan_free (ch : Chan) (f : Channel → Channel) : (modChan ch f s).free = s.free := rfl
@[simp] theorem modChan_env (ch : Chan) (f : Channel → Channel) : (modChan ch f s).env = s.env := rfl
@[simp] theorem modChan_aon (ch : Chan) (f : Channel → Channel) : (modChan ch f s).aon = s.aon := rfl
@[simp] theorem modChan_copies (ch : Chan) (f : Channel → Channel) : (modChan ch f s).copies = s.copies := rfl
@[simp] theorem modChan_shadow (ch : Chan) (f : Channel → Channel) : (modChan ch f s).shadow = s.shadow := rfl
@[simp] theorem modChan_clk (ch : Chan) (f : Channel → Channel) : (modChan ch f s).clk = s.clk := rfl
@[simp] theorem modChan_gate (ch : Chan) (f : Channel → Channel) : (modChan ch f s).gate = s.gate := rfl
@[simp] theorem modChan_pwr (ch : Chan) (f : Channel → Channel) : (modChan ch f s).pwr = s.pwr := rfl
@[simp] theorem modChan_heat (ch : Chan) (f : Channel → Channel) : (modChan ch f s).heat = s.heat := rfl
@[simp] theorem modChan_fus (ch : Chan) (f : Channel → Channel) : (modChan ch f s).fus = s.fus := rfl
@[simp] theorem modChan_life (ch : Chan) (f : Channel → Channel) : (modChan ch f s).life = s.life := rfl
@[simp] theorem modChan_cal (ch : Chan) (f : Channel → Channel) : (modChan ch f s).cal = s.cal := rfl
@[simp] theorem modChan_bist (ch : Chan) (f : Channel → Channel) : (modChan ch f s).bist = s.bist := rfl
@[simp] theorem modChan_rcp (ch : Chan) (f : Channel → Channel) : (modChan ch f s).rcp = s.rcp := rfl
@[simp] theorem modChan_crock (ch : Chan) (f : Channel → Channel) : (modChan ch f s).crock = s.crock := rfl
@[simp] theorem modChan_can (ch : Chan) (f : Channel → Channel) : (modChan ch f s).can = s.can := rfl
@[simp] theorem modChan_roll (ch : Chan) (f : Channel → Channel) : (modChan ch f s).roll = s.roll := rfl
@[simp] theorem modChan_sieveHolder (ch : Chan) (f : Channel → Channel) : (modChan ch f s).sieveHolder = s.sieveHolder := rfl
@[simp] theorem modChan_anchorInterval (ch : Chan) (f : Channel → Channel) : (modChan ch f s).anchorInterval = s.anchorInterval := rfl
@[simp] theorem modChan_lastAnchor (ch : Chan) (f : Channel → Channel) : (modChan ch f s).lastAnchor = s.lastAnchor := rfl
@[simp] theorem modChan_hashWork (ch : Chan) (f : Channel → Channel) : (modChan ch f s).hashWork = s.hashWork := rfl
@[simp] theorem modChan_bayLoads (ch : Chan) (f : Channel → Channel) : (modChan ch f s).bayLoads = s.bayLoads := rfl
@[simp] theorem modChan_battenLoads (ch : Chan) (f : Channel → Channel) : (modChan ch f s).battenLoads = s.battenLoads := rfl
@[simp] theorem modChan_peakLoad (ch : Chan) (f : Channel → Channel) : (modChan ch f s).peakLoad = s.peakLoad := rfl
@[simp] theorem modChan_ports (ch : Chan) (f : Channel → Channel) : (modChan ch f s).ports = s.ports := rfl
@[simp] theorem modChan_tap (ch : Chan) (f : Channel → Channel) : (modChan ch f s).tap = s.tap := rfl

@[simp] theorem modChan_self (ch : Chan) (f : Channel → Channel) : (modChan ch f s).chans[(ch : Nat)] = f s.chans[(ch : Nat)] := by
  simp [modChan]

theorem modChan_other (c d : Chan) (f : Channel → Channel) (h : d ≠ c) : (modChan c f s).chans[(d : Nat)] = s.chans[(d : Nat)] := by
  have e : (c : Nat) ≠ d := fun e => h (Fin.ext e.symm)
  simp [modChan, Vector.getElem_set_ne, e]

/-! ## Free values -/

@[simp] theorem afterDraw_pending : (afterDraw s).pending = s.pending := rfl
@[simp] theorem afterDraw_env : (afterDraw s).env = s.env := rfl
@[simp] theorem afterDraw_aon : (afterDraw s).aon = s.aon := rfl
@[simp] theorem afterDraw_copies : (afterDraw s).copies = s.copies := rfl
@[simp] theorem afterDraw_shadow : (afterDraw s).shadow = s.shadow := rfl
@[simp] theorem afterDraw_clk : (afterDraw s).clk = s.clk := rfl
@[simp] theorem afterDraw_gate : (afterDraw s).gate = s.gate := rfl
@[simp] theorem afterDraw_pwr : (afterDraw s).pwr = s.pwr := rfl
@[simp] theorem afterDraw_heat : (afterDraw s).heat = s.heat := rfl
@[simp] theorem afterDraw_fus : (afterDraw s).fus = s.fus := rfl
@[simp] theorem afterDraw_life : (afterDraw s).life = s.life := rfl
@[simp] theorem afterDraw_cal : (afterDraw s).cal = s.cal := rfl
@[simp] theorem afterDraw_bist : (afterDraw s).bist = s.bist := rfl
@[simp] theorem afterDraw_rcp : (afterDraw s).rcp = s.rcp := rfl
@[simp] theorem afterDraw_crock : (afterDraw s).crock = s.crock := rfl
@[simp] theorem afterDraw_can : (afterDraw s).can = s.can := rfl
@[simp] theorem afterDraw_chans : (afterDraw s).chans = s.chans := rfl
@[simp] theorem afterDraw_roll : (afterDraw s).roll = s.roll := rfl
@[simp] theorem afterDraw_sieveHolder : (afterDraw s).sieveHolder = s.sieveHolder := rfl
@[simp] theorem afterDraw_anchorInterval : (afterDraw s).anchorInterval = s.anchorInterval := rfl
@[simp] theorem afterDraw_lastAnchor : (afterDraw s).lastAnchor = s.lastAnchor := rfl
@[simp] theorem afterDraw_hashWork : (afterDraw s).hashWork = s.hashWork := rfl
@[simp] theorem afterDraw_bayLoads : (afterDraw s).bayLoads = s.bayLoads := rfl
@[simp] theorem afterDraw_battenLoads : (afterDraw s).battenLoads = s.battenLoads := rfl
@[simp] theorem afterDraw_peakLoad : (afterDraw s).peakLoad = s.peakLoad := rfl
@[simp] theorem afterDraw_ports : (afterDraw s).ports = s.ports := rfl
@[simp] theorem afterDraw_tap : (afterDraw s).tap = s.tap := rfl
@[simp] theorem afterDraw_free : (afterDraw s).free = s.free + 1 := rfl

/-! ## One unit of the device -/

@[simp] theorem modGate_pending (f : Gates → Gates) : (modGate f s).pending = s.pending := rfl
@[simp] theorem modGate_free (f : Gates → Gates) : (modGate f s).free = s.free := rfl
@[simp] theorem modGate_env (f : Gates → Gates) : (modGate f s).env = s.env := rfl
@[simp] theorem modGate_aon (f : Gates → Gates) : (modGate f s).aon = s.aon := rfl
@[simp] theorem modGate_copies (f : Gates → Gates) : (modGate f s).copies = s.copies := rfl
@[simp] theorem modGate_shadow (f : Gates → Gates) : (modGate f s).shadow = s.shadow := rfl
@[simp] theorem modGate_clk (f : Gates → Gates) : (modGate f s).clk = s.clk := rfl
@[simp] theorem modGate_gate (f : Gates → Gates) : (modGate f s).gate = f s.gate := rfl
@[simp] theorem modGate_pwr (f : Gates → Gates) : (modGate f s).pwr = s.pwr := rfl
@[simp] theorem modGate_heat (f : Gates → Gates) : (modGate f s).heat = s.heat := rfl
@[simp] theorem modGate_fus (f : Gates → Gates) : (modGate f s).fus = s.fus := rfl
@[simp] theorem modGate_life (f : Gates → Gates) : (modGate f s).life = s.life := rfl
@[simp] theorem modGate_cal (f : Gates → Gates) : (modGate f s).cal = s.cal := rfl
@[simp] theorem modGate_bist (f : Gates → Gates) : (modGate f s).bist = s.bist := rfl
@[simp] theorem modGate_rcp (f : Gates → Gates) : (modGate f s).rcp = s.rcp := rfl
@[simp] theorem modGate_crock (f : Gates → Gates) : (modGate f s).crock = s.crock := rfl
@[simp] theorem modGate_can (f : Gates → Gates) : (modGate f s).can = s.can := rfl
@[simp] theorem modGate_chans (f : Gates → Gates) : (modGate f s).chans = s.chans := rfl
@[simp] theorem modGate_roll (f : Gates → Gates) : (modGate f s).roll = s.roll := rfl
@[simp] theorem modGate_sieveHolder (f : Gates → Gates) : (modGate f s).sieveHolder = s.sieveHolder := rfl
@[simp] theorem modGate_anchorInterval (f : Gates → Gates) : (modGate f s).anchorInterval = s.anchorInterval := rfl
@[simp] theorem modGate_lastAnchor (f : Gates → Gates) : (modGate f s).lastAnchor = s.lastAnchor := rfl
@[simp] theorem modGate_hashWork (f : Gates → Gates) : (modGate f s).hashWork = s.hashWork := rfl
@[simp] theorem modGate_bayLoads (f : Gates → Gates) : (modGate f s).bayLoads = s.bayLoads := rfl
@[simp] theorem modGate_battenLoads (f : Gates → Gates) : (modGate f s).battenLoads = s.battenLoads := rfl
@[simp] theorem modGate_peakLoad (f : Gates → Gates) : (modGate f s).peakLoad = s.peakLoad := rfl
@[simp] theorem modGate_ports (f : Gates → Gates) : (modGate f s).ports = s.ports := rfl
@[simp] theorem modGate_tap (f : Gates → Gates) : (modGate f s).tap = s.tap := rfl

@[simp] theorem modBist_pending (f : Bist → Bist) : (modBist f s).pending = s.pending := rfl
@[simp] theorem modBist_free (f : Bist → Bist) : (modBist f s).free = s.free := rfl
@[simp] theorem modBist_env (f : Bist → Bist) : (modBist f s).env = s.env := rfl
@[simp] theorem modBist_aon (f : Bist → Bist) : (modBist f s).aon = s.aon := rfl
@[simp] theorem modBist_copies (f : Bist → Bist) : (modBist f s).copies = s.copies := rfl
@[simp] theorem modBist_shadow (f : Bist → Bist) : (modBist f s).shadow = s.shadow := rfl
@[simp] theorem modBist_clk (f : Bist → Bist) : (modBist f s).clk = s.clk := rfl
@[simp] theorem modBist_gate (f : Bist → Bist) : (modBist f s).gate = s.gate := rfl
@[simp] theorem modBist_pwr (f : Bist → Bist) : (modBist f s).pwr = s.pwr := rfl
@[simp] theorem modBist_heat (f : Bist → Bist) : (modBist f s).heat = s.heat := rfl
@[simp] theorem modBist_fus (f : Bist → Bist) : (modBist f s).fus = s.fus := rfl
@[simp] theorem modBist_life (f : Bist → Bist) : (modBist f s).life = s.life := rfl
@[simp] theorem modBist_cal (f : Bist → Bist) : (modBist f s).cal = s.cal := rfl
@[simp] theorem modBist_bist (f : Bist → Bist) : (modBist f s).bist = f s.bist := rfl
@[simp] theorem modBist_rcp (f : Bist → Bist) : (modBist f s).rcp = s.rcp := rfl
@[simp] theorem modBist_crock (f : Bist → Bist) : (modBist f s).crock = s.crock := rfl
@[simp] theorem modBist_can (f : Bist → Bist) : (modBist f s).can = s.can := rfl
@[simp] theorem modBist_chans (f : Bist → Bist) : (modBist f s).chans = s.chans := rfl
@[simp] theorem modBist_roll (f : Bist → Bist) : (modBist f s).roll = s.roll := rfl
@[simp] theorem modBist_sieveHolder (f : Bist → Bist) : (modBist f s).sieveHolder = s.sieveHolder := rfl
@[simp] theorem modBist_anchorInterval (f : Bist → Bist) : (modBist f s).anchorInterval = s.anchorInterval := rfl
@[simp] theorem modBist_lastAnchor (f : Bist → Bist) : (modBist f s).lastAnchor = s.lastAnchor := rfl
@[simp] theorem modBist_hashWork (f : Bist → Bist) : (modBist f s).hashWork = s.hashWork := rfl
@[simp] theorem modBist_bayLoads (f : Bist → Bist) : (modBist f s).bayLoads = s.bayLoads := rfl
@[simp] theorem modBist_battenLoads (f : Bist → Bist) : (modBist f s).battenLoads = s.battenLoads := rfl
@[simp] theorem modBist_peakLoad (f : Bist → Bist) : (modBist f s).peakLoad = s.peakLoad := rfl
@[simp] theorem modBist_ports (f : Bist → Bist) : (modBist f s).ports = s.ports := rfl
@[simp] theorem modBist_tap (f : Bist → Bist) : (modBist f s).tap = s.tap := rfl

@[simp] theorem modClk_pending (f : Clocks → Clocks) : (modClk f s).pending = s.pending := rfl
@[simp] theorem modClk_free (f : Clocks → Clocks) : (modClk f s).free = s.free := rfl
@[simp] theorem modClk_env (f : Clocks → Clocks) : (modClk f s).env = s.env := rfl
@[simp] theorem modClk_aon (f : Clocks → Clocks) : (modClk f s).aon = s.aon := rfl
@[simp] theorem modClk_copies (f : Clocks → Clocks) : (modClk f s).copies = s.copies := rfl
@[simp] theorem modClk_shadow (f : Clocks → Clocks) : (modClk f s).shadow = s.shadow := rfl
@[simp] theorem modClk_clk (f : Clocks → Clocks) : (modClk f s).clk = f s.clk := rfl
@[simp] theorem modClk_gate (f : Clocks → Clocks) : (modClk f s).gate = s.gate := rfl
@[simp] theorem modClk_pwr (f : Clocks → Clocks) : (modClk f s).pwr = s.pwr := rfl
@[simp] theorem modClk_heat (f : Clocks → Clocks) : (modClk f s).heat = s.heat := rfl
@[simp] theorem modClk_fus (f : Clocks → Clocks) : (modClk f s).fus = s.fus := rfl
@[simp] theorem modClk_life (f : Clocks → Clocks) : (modClk f s).life = s.life := rfl
@[simp] theorem modClk_cal (f : Clocks → Clocks) : (modClk f s).cal = s.cal := rfl
@[simp] theorem modClk_bist (f : Clocks → Clocks) : (modClk f s).bist = s.bist := rfl
@[simp] theorem modClk_rcp (f : Clocks → Clocks) : (modClk f s).rcp = s.rcp := rfl
@[simp] theorem modClk_crock (f : Clocks → Clocks) : (modClk f s).crock = s.crock := rfl
@[simp] theorem modClk_can (f : Clocks → Clocks) : (modClk f s).can = s.can := rfl
@[simp] theorem modClk_chans (f : Clocks → Clocks) : (modClk f s).chans = s.chans := rfl
@[simp] theorem modClk_roll (f : Clocks → Clocks) : (modClk f s).roll = s.roll := rfl
@[simp] theorem modClk_sieveHolder (f : Clocks → Clocks) : (modClk f s).sieveHolder = s.sieveHolder := rfl
@[simp] theorem modClk_anchorInterval (f : Clocks → Clocks) : (modClk f s).anchorInterval = s.anchorInterval := rfl
@[simp] theorem modClk_lastAnchor (f : Clocks → Clocks) : (modClk f s).lastAnchor = s.lastAnchor := rfl
@[simp] theorem modClk_hashWork (f : Clocks → Clocks) : (modClk f s).hashWork = s.hashWork := rfl
@[simp] theorem modClk_bayLoads (f : Clocks → Clocks) : (modClk f s).bayLoads = s.bayLoads := rfl
@[simp] theorem modClk_battenLoads (f : Clocks → Clocks) : (modClk f s).battenLoads = s.battenLoads := rfl
@[simp] theorem modClk_peakLoad (f : Clocks → Clocks) : (modClk f s).peakLoad = s.peakLoad := rfl
@[simp] theorem modClk_ports (f : Clocks → Clocks) : (modClk f s).ports = s.ports := rfl
@[simp] theorem modClk_tap (f : Clocks → Clocks) : (modClk f s).tap = s.tap := rfl

@[simp] theorem modCan_pending (f : Can → Can) : (modCan f s).pending = s.pending := rfl
@[simp] theorem modCan_free (f : Can → Can) : (modCan f s).free = s.free := rfl
@[simp] theorem modCan_env (f : Can → Can) : (modCan f s).env = s.env := rfl
@[simp] theorem modCan_aon (f : Can → Can) : (modCan f s).aon = s.aon := rfl
@[simp] theorem modCan_copies (f : Can → Can) : (modCan f s).copies = s.copies := rfl
@[simp] theorem modCan_shadow (f : Can → Can) : (modCan f s).shadow = s.shadow := rfl
@[simp] theorem modCan_clk (f : Can → Can) : (modCan f s).clk = s.clk := rfl
@[simp] theorem modCan_gate (f : Can → Can) : (modCan f s).gate = s.gate := rfl
@[simp] theorem modCan_pwr (f : Can → Can) : (modCan f s).pwr = s.pwr := rfl
@[simp] theorem modCan_heat (f : Can → Can) : (modCan f s).heat = s.heat := rfl
@[simp] theorem modCan_fus (f : Can → Can) : (modCan f s).fus = s.fus := rfl
@[simp] theorem modCan_life (f : Can → Can) : (modCan f s).life = s.life := rfl
@[simp] theorem modCan_cal (f : Can → Can) : (modCan f s).cal = s.cal := rfl
@[simp] theorem modCan_bist (f : Can → Can) : (modCan f s).bist = s.bist := rfl
@[simp] theorem modCan_rcp (f : Can → Can) : (modCan f s).rcp = s.rcp := rfl
@[simp] theorem modCan_crock (f : Can → Can) : (modCan f s).crock = s.crock := rfl
@[simp] theorem modCan_can (f : Can → Can) : (modCan f s).can = f s.can := rfl
@[simp] theorem modCan_chans (f : Can → Can) : (modCan f s).chans = s.chans := rfl
@[simp] theorem modCan_roll (f : Can → Can) : (modCan f s).roll = s.roll := rfl
@[simp] theorem modCan_sieveHolder (f : Can → Can) : (modCan f s).sieveHolder = s.sieveHolder := rfl
@[simp] theorem modCan_anchorInterval (f : Can → Can) : (modCan f s).anchorInterval = s.anchorInterval := rfl
@[simp] theorem modCan_lastAnchor (f : Can → Can) : (modCan f s).lastAnchor = s.lastAnchor := rfl
@[simp] theorem modCan_hashWork (f : Can → Can) : (modCan f s).hashWork = s.hashWork := rfl
@[simp] theorem modCan_bayLoads (f : Can → Can) : (modCan f s).bayLoads = s.bayLoads := rfl
@[simp] theorem modCan_battenLoads (f : Can → Can) : (modCan f s).battenLoads = s.battenLoads := rfl
@[simp] theorem modCan_peakLoad (f : Can → Can) : (modCan f s).peakLoad = s.peakLoad := rfl
@[simp] theorem modCan_ports (f : Can → Can) : (modCan f s).ports = s.ports := rfl
@[simp] theorem modCan_tap (f : Can → Can) : (modCan f s).tap = s.tap := rfl

@[simp] theorem modHeat_pending (f : Heat → Heat) : (modHeat f s).pending = s.pending := rfl
@[simp] theorem modHeat_free (f : Heat → Heat) : (modHeat f s).free = s.free := rfl
@[simp] theorem modHeat_env (f : Heat → Heat) : (modHeat f s).env = s.env := rfl
@[simp] theorem modHeat_aon (f : Heat → Heat) : (modHeat f s).aon = s.aon := rfl
@[simp] theorem modHeat_copies (f : Heat → Heat) : (modHeat f s).copies = s.copies := rfl
@[simp] theorem modHeat_shadow (f : Heat → Heat) : (modHeat f s).shadow = s.shadow := rfl
@[simp] theorem modHeat_clk (f : Heat → Heat) : (modHeat f s).clk = s.clk := rfl
@[simp] theorem modHeat_gate (f : Heat → Heat) : (modHeat f s).gate = s.gate := rfl
@[simp] theorem modHeat_pwr (f : Heat → Heat) : (modHeat f s).pwr = s.pwr := rfl
@[simp] theorem modHeat_heat (f : Heat → Heat) : (modHeat f s).heat = f s.heat := rfl
@[simp] theorem modHeat_fus (f : Heat → Heat) : (modHeat f s).fus = s.fus := rfl
@[simp] theorem modHeat_life (f : Heat → Heat) : (modHeat f s).life = s.life := rfl
@[simp] theorem modHeat_cal (f : Heat → Heat) : (modHeat f s).cal = s.cal := rfl
@[simp] theorem modHeat_bist (f : Heat → Heat) : (modHeat f s).bist = s.bist := rfl
@[simp] theorem modHeat_rcp (f : Heat → Heat) : (modHeat f s).rcp = s.rcp := rfl
@[simp] theorem modHeat_crock (f : Heat → Heat) : (modHeat f s).crock = s.crock := rfl
@[simp] theorem modHeat_can (f : Heat → Heat) : (modHeat f s).can = s.can := rfl
@[simp] theorem modHeat_chans (f : Heat → Heat) : (modHeat f s).chans = s.chans := rfl
@[simp] theorem modHeat_roll (f : Heat → Heat) : (modHeat f s).roll = s.roll := rfl
@[simp] theorem modHeat_sieveHolder (f : Heat → Heat) : (modHeat f s).sieveHolder = s.sieveHolder := rfl
@[simp] theorem modHeat_anchorInterval (f : Heat → Heat) : (modHeat f s).anchorInterval = s.anchorInterval := rfl
@[simp] theorem modHeat_lastAnchor (f : Heat → Heat) : (modHeat f s).lastAnchor = s.lastAnchor := rfl
@[simp] theorem modHeat_hashWork (f : Heat → Heat) : (modHeat f s).hashWork = s.hashWork := rfl
@[simp] theorem modHeat_bayLoads (f : Heat → Heat) : (modHeat f s).bayLoads = s.bayLoads := rfl
@[simp] theorem modHeat_battenLoads (f : Heat → Heat) : (modHeat f s).battenLoads = s.battenLoads := rfl
@[simp] theorem modHeat_peakLoad (f : Heat → Heat) : (modHeat f s).peakLoad = s.peakLoad := rfl
@[simp] theorem modHeat_ports (f : Heat → Heat) : (modHeat f s).ports = s.ports := rfl
@[simp] theorem modHeat_tap (f : Heat → Heat) : (modHeat f s).tap = s.tap := rfl

@[simp] theorem modPwr_pending (f : Power → Power) : (modPwr f s).pending = s.pending := rfl
@[simp] theorem modPwr_free (f : Power → Power) : (modPwr f s).free = s.free := rfl
@[simp] theorem modPwr_env (f : Power → Power) : (modPwr f s).env = s.env := rfl
@[simp] theorem modPwr_aon (f : Power → Power) : (modPwr f s).aon = s.aon := rfl
@[simp] theorem modPwr_copies (f : Power → Power) : (modPwr f s).copies = s.copies := rfl
@[simp] theorem modPwr_shadow (f : Power → Power) : (modPwr f s).shadow = s.shadow := rfl
@[simp] theorem modPwr_clk (f : Power → Power) : (modPwr f s).clk = s.clk := rfl
@[simp] theorem modPwr_gate (f : Power → Power) : (modPwr f s).gate = s.gate := rfl
@[simp] theorem modPwr_pwr (f : Power → Power) : (modPwr f s).pwr = f s.pwr := rfl
@[simp] theorem modPwr_heat (f : Power → Power) : (modPwr f s).heat = s.heat := rfl
@[simp] theorem modPwr_fus (f : Power → Power) : (modPwr f s).fus = s.fus := rfl
@[simp] theorem modPwr_life (f : Power → Power) : (modPwr f s).life = s.life := rfl
@[simp] theorem modPwr_cal (f : Power → Power) : (modPwr f s).cal = s.cal := rfl
@[simp] theorem modPwr_bist (f : Power → Power) : (modPwr f s).bist = s.bist := rfl
@[simp] theorem modPwr_rcp (f : Power → Power) : (modPwr f s).rcp = s.rcp := rfl
@[simp] theorem modPwr_crock (f : Power → Power) : (modPwr f s).crock = s.crock := rfl
@[simp] theorem modPwr_can (f : Power → Power) : (modPwr f s).can = s.can := rfl
@[simp] theorem modPwr_chans (f : Power → Power) : (modPwr f s).chans = s.chans := rfl
@[simp] theorem modPwr_roll (f : Power → Power) : (modPwr f s).roll = s.roll := rfl
@[simp] theorem modPwr_sieveHolder (f : Power → Power) : (modPwr f s).sieveHolder = s.sieveHolder := rfl
@[simp] theorem modPwr_anchorInterval (f : Power → Power) : (modPwr f s).anchorInterval = s.anchorInterval := rfl
@[simp] theorem modPwr_lastAnchor (f : Power → Power) : (modPwr f s).lastAnchor = s.lastAnchor := rfl
@[simp] theorem modPwr_hashWork (f : Power → Power) : (modPwr f s).hashWork = s.hashWork := rfl
@[simp] theorem modPwr_bayLoads (f : Power → Power) : (modPwr f s).bayLoads = s.bayLoads := rfl
@[simp] theorem modPwr_battenLoads (f : Power → Power) : (modPwr f s).battenLoads = s.battenLoads := rfl
@[simp] theorem modPwr_peakLoad (f : Power → Power) : (modPwr f s).peakLoad = s.peakLoad := rfl
@[simp] theorem modPwr_ports (f : Power → Power) : (modPwr f s).ports = s.ports := rfl
@[simp] theorem modPwr_tap (f : Power → Power) : (modPwr f s).tap = s.tap := rfl

end Sys2Proof.Machine
end

