-- ==== Sys2Proof/Laws/Ops.lean ====
section
/-! SUPPORT. Laws/Ops.lean: what the shared operations of Ops.lean do and leave alone: raising events changes the crock only. -/

namespace Sys2Proof.Machine

variable (s : State)

/-! ## Events -/

@[simp] theorem dropEv_pending (e : Ev) : (dropEv e s).pending = s.pending := rfl
@[simp] theorem dropEv_free (e : Ev) : (dropEv e s).free = s.free := rfl
@[simp] theorem dropEv_env (e : Ev) : (dropEv e s).env = s.env := rfl
@[simp] theorem dropEv_aon (e : Ev) : (dropEv e s).aon = s.aon := rfl
@[simp] theorem dropEv_copies (e : Ev) : (dropEv e s).copies = s.copies := rfl
@[simp] theorem dropEv_shadow (e : Ev) : (dropEv e s).shadow = s.shadow := rfl
@[simp] theorem dropEv_clk (e : Ev) : (dropEv e s).clk = s.clk := rfl
@[simp] theorem dropEv_gate (e : Ev) : (dropEv e s).gate = s.gate := rfl
@[simp] theorem dropEv_pwr (e : Ev) : (dropEv e s).pwr = s.pwr := rfl
@[simp] theorem dropEv_heat (e : Ev) : (dropEv e s).heat = s.heat := rfl
@[simp] theorem dropEv_fus (e : Ev) : (dropEv e s).fus = s.fus := rfl
@[simp] theorem dropEv_life (e : Ev) : (dropEv e s).life = s.life := rfl
@[simp] theorem dropEv_cal (e : Ev) : (dropEv e s).cal = s.cal := rfl
@[simp] theorem dropEv_bist (e : Ev) : (dropEv e s).bist = s.bist := rfl
@[simp] theorem dropEv_rcp (e : Ev) : (dropEv e s).rcp = s.rcp := rfl
@[simp] theorem dropEv_can (e : Ev) : (dropEv e s).can = s.can := rfl
@[simp] theorem dropEv_chans (e : Ev) : (dropEv e s).chans = s.chans := rfl
@[simp] theorem dropEv_roll (e : Ev) : (dropEv e s).roll = s.roll := rfl
@[simp] theorem dropEv_sieveHolder (e : Ev) : (dropEv e s).sieveHolder = s.sieveHolder := rfl
@[simp] theorem dropEv_anchorInterval (e : Ev) : (dropEv e s).anchorInterval = s.anchorInterval := rfl
@[simp] theorem dropEv_lastAnchor (e : Ev) : (dropEv e s).lastAnchor = s.lastAnchor := rfl
@[simp] theorem dropEv_hashWork (e : Ev) : (dropEv e s).hashWork = s.hashWork := rfl
@[simp] theorem dropEv_bayLoads (e : Ev) : (dropEv e s).bayLoads = s.bayLoads := rfl
@[simp] theorem dropEv_battenLoads (e : Ev) : (dropEv e s).battenLoads = s.battenLoads := rfl
@[simp] theorem dropEv_peakLoad (e : Ev) : (dropEv e s).peakLoad = s.peakLoad := rfl
@[simp] theorem dropEv_ports (e : Ev) : (dropEv e s).ports = s.ports := rfl
@[simp] theorem dropEv_tap (e : Ev) : (dropEv e s).tap = s.tap := rfl

@[simp] theorem raise_pending (e : Ev) : (raise e s).pending = s.pending := by
  unfold raise; split <;> (try split) <;> rfl
@[simp] theorem raise_free (e : Ev) : (raise e s).free = s.free := by
  unfold raise; split <;> (try split) <;> rfl
@[simp] theorem raise_env (e : Ev) : (raise e s).env = s.env := by
  unfold raise; split <;> (try split) <;> rfl
@[simp] theorem raise_aon (e : Ev) : (raise e s).aon = s.aon := by
  unfold raise; split <;> (try split) <;> rfl
@[simp] theorem raise_copies (e : Ev) : (raise e s).copies = s.copies := by
  unfold raise; split <;> (try split) <;> rfl
@[simp] theorem raise_shadow (e : Ev) : (raise e s).shadow = s.shadow := by
  unfold raise; split <;> (try split) <;> rfl
@[simp] theorem raise_clk (e : Ev) : (raise e s).clk = s.clk := by
  unfold raise; split <;> (try split) <;> rfl
@[simp] theorem raise_gate (e : Ev) : (raise e s).gate = s.gate := by
  unfold raise; split <;> (try split) <;> rfl
@[simp] theorem raise_pwr (e : Ev) : (raise e s).pwr = s.pwr := by
  unfold raise; split <;> (try split) <;> rfl
@[simp] theorem raise_heat (e : Ev) : (raise e s).heat = s.heat := by
  unfold raise; split <;> (try split) <;> rfl
@[simp] theorem raise_fus (e : Ev) : (raise e s).fus = s.fus := by
  unfold raise; split <;> (try split) <;> rfl
@[simp] theorem raise_life (e : Ev) : (raise e s).life = s.life := by
  unfold raise; split <;> (try split) <;> rfl
@[simp] theorem raise_cal (e : Ev) : (raise e s).cal = s.cal := by
  unfold raise; split <;> (try split) <;> rfl
@[simp] theorem raise_bist (e : Ev) : (raise e s).bist = s.bist := by
  unfold raise; split <;> (try split) <;> rfl
@[simp] theorem raise_rcp (e : Ev) : (raise e s).rcp = s.rcp := by
  unfold raise; split <;> (try split) <;> rfl
@[simp] theorem raise_can (e : Ev) : (raise e s).can = s.can := by
  unfold raise; split <;> (try split) <;> rfl
@[simp] theorem raise_chans (e : Ev) : (raise e s).chans = s.chans := by
  unfold raise; split <;> (try split) <;> rfl
@[simp] theorem raise_roll (e : Ev) : (raise e s).roll = s.roll := by
  unfold raise; split <;> (try split) <;> rfl
@[simp] theorem raise_sieveHolder (e : Ev) : (raise e s).sieveHolder = s.sieveHolder := by
  unfold raise; split <;> (try split) <;> rfl
@[simp] theorem raise_anchorInterval (e : Ev) : (raise e s).anchorInterval = s.anchorInterval := by
  unfold raise; split <;> (try split) <;> rfl
@[simp] theorem raise_lastAnchor (e : Ev) : (raise e s).lastAnchor = s.lastAnchor := by
  unfold raise; split <;> (try split) <;> rfl
@[simp] theorem raise_hashWork (e : Ev) : (raise e s).hashWork = s.hashWork := by
  unfold raise; split <;> (try split) <;> rfl
@[simp] theorem raise_bayLoads (e : Ev) : (raise e s).bayLoads = s.bayLoads := by
  unfold raise; split <;> (try split) <;> rfl
@[simp] theorem raise_battenLoads (e : Ev) : (raise e s).battenLoads = s.battenLoads := by
  unfold raise; split <;> (try split) <;> rfl
@[simp] theorem raise_peakLoad (e : Ev) : (raise e s).peakLoad = s.peakLoad := by
  unfold raise; split <;> (try split) <;> rfl
@[simp] theorem raise_ports (e : Ev) : (raise e s).ports = s.ports := by
  unfold raise; split <;> (try split) <;> rfl
@[simp] theorem raise_tap (e : Ev) : (raise e s).tap = s.tap := by
  unfold raise; split <;> (try split) <;> rfl

@[simp] theorem raiseAll_pending (es : List Ev) : (raiseAll es s).pending = s.pending := by
  induction es generalizing s with
  | nil => rfl
  | cons e es ih => exact (ih (raise e s)).trans (raise_pending s e)
@[simp] theorem raiseAll_free (es : List Ev) : (raiseAll es s).free = s.free := by
  induction es generalizing s with
  | nil => rfl
  | cons e es ih => exact (ih (raise e s)).trans (raise_free s e)
@[simp] theorem raiseAll_env (es : List Ev) : (raiseAll es s).env = s.env := by
  induction es generalizing s with
  | nil => rfl
  | cons e es ih => exact (ih (raise e s)).trans (raise_env s e)
@[simp] theorem raiseAll_aon (es : List Ev) : (raiseAll es s).aon = s.aon := by
  induction es generalizing s with
  | nil => rfl
  | cons e es ih => exact (ih (raise e s)).trans (raise_aon s e)
@[simp] theorem raiseAll_copies (es : List Ev) : (raiseAll es s).copies = s.copies := by
  induction es generalizing s with
  | nil => rfl
  | cons e es ih => exact (ih (raise e s)).trans (raise_copies s e)
@[simp] theorem raiseAll_shadow (es : List Ev) : (raiseAll es s).shadow = s.shadow := by
  induction es generalizing s with
  | nil => rfl
  | cons e es ih => exact (ih (raise e s)).trans (raise_shadow s e)
@[simp] theorem raiseAll_clk (es : List Ev) : (raiseAll es s).clk = s.clk := by
  induction es generalizing s with
  | nil => rfl
  | cons e es ih => exact (ih (raise e s)).trans (raise_clk s e)
@[simp] theorem raiseAll_gate (es : List Ev) : (raiseAll es s).gate = s.gate := by
  induction es generalizing s with
  | nil => rfl
  | cons e es ih => exact (ih (raise e s)).trans (raise_gate s e)
@[simp] theorem raiseAll_pwr (es : List Ev) : (raiseAll es s).pwr = s.pwr := by
  induction es generalizing s with
  | nil => rfl
  | cons e es ih => exact (ih (raise e s)).trans (raise_pwr s e)
@[simp] theorem raiseAll_heat (es : List Ev) : (raiseAll es s).heat = s.heat := by
  induction es generalizing s with
  | nil => rfl
  | cons e es ih => exact (ih (raise e s)).trans (raise_heat s e)
@[simp] theorem raiseAll_fus (es : List Ev) : (raiseAll es s).fus = s.fus := by
  induction es generalizing s with
  | nil => rfl
  | cons e es ih => exact (ih (raise e s)).trans (raise_fus s e)
@[simp] theorem raiseAll_life (es : List Ev) : (raiseAll es s).life = s.life := by
  induction es generalizing s with
  | nil => rfl
  | cons e es ih => exact (ih (raise e s)).trans (raise_life s e)
@[simp] theorem raiseAll_cal (es : List Ev) : (raiseAll es s).cal = s.cal := by
  induction es generalizing s with
  | nil => rfl
  | cons e es ih => exact (ih (raise e s)).trans (raise_cal s e)
@[simp] theorem raiseAll_bist (es : List Ev) : (raiseAll es s).bist = s.bist := by
  induction es generalizing s with
  | nil => rfl
  | cons e es ih => exact (ih (raise e s)).trans (raise_bist s e)
@[simp] theorem raiseAll_rcp (es : List Ev) : (raiseAll es s).rcp = s.rcp := by
  induction es generalizing s with
  | nil => rfl
  | cons e es ih => exact (ih (raise e s)).trans (raise_rcp s e)
@[simp] theorem raiseAll_can (es : List Ev) : (raiseAll es s).can = s.can := by
  induction es generalizing s with
  | nil => rfl
  | cons e es ih => exact (ih (raise e s)).trans (raise_can s e)
@[simp] theorem raiseAll_chans (es : List Ev) : (raiseAll es s).chans = s.chans := by
  induction es generalizing s with
  | nil => rfl
  | cons e es ih => exact (ih (raise e s)).trans (raise_chans s e)
@[simp] theorem raiseAll_roll (es : List Ev) : (raiseAll es s).roll = s.roll := by
  induction es generalizing s with
  | nil => rfl
  | cons e es ih => exact (ih (raise e s)).trans (raise_roll s e)
@[simp] theorem raiseAll_sieveHolder (es : List Ev) : (raiseAll es s).sieveHolder = s.sieveHolder := by
  induction es generalizing s with
  | nil => rfl
  | cons e es ih => exact (ih (raise e s)).trans (raise_sieveHolder s e)
@[simp] theorem raiseAll_anchorInterval (es : List Ev) : (raiseAll es s).anchorInterval = s.anchorInterval := by
  induction es generalizing s with
  | nil => rfl
  | cons e es ih => exact (ih (raise e s)).trans (raise_anchorInterval s e)
@[simp] theorem raiseAll_lastAnchor (es : List Ev) : (raiseAll es s).lastAnchor = s.lastAnchor := by
  induction es generalizing s with
  | nil => rfl
  | cons e es ih => exact (ih (raise e s)).trans (raise_lastAnchor s e)
@[simp] theorem raiseAll_hashWork (es : List Ev) : (raiseAll es s).hashWork = s.hashWork := by
  induction es generalizing s with
  | nil => rfl
  | cons e es ih => exact (ih (raise e s)).trans (raise_hashWork s e)
@[simp] theorem raiseAll_bayLoads (es : List Ev) : (raiseAll es s).bayLoads = s.bayLoads := by
  induction es generalizing s with
  | nil => rfl
  | cons e es ih => exact (ih (raise e s)).trans (raise_bayLoads s e)
@[simp] theorem raiseAll_battenLoads (es : List Ev) : (raiseAll es s).battenLoads = s.battenLoads := by
  induction es generalizing s with
  | nil => rfl
  | cons e es ih => exact (ih (raise e s)).trans (raise_battenLoads s e)
@[simp] theorem raiseAll_peakLoad (es : List Ev) : (raiseAll es s).peakLoad = s.peakLoad := by
  induction es generalizing s with
  | nil => rfl
  | cons e es ih => exact (ih (raise e s)).trans (raise_peakLoad s e)
@[simp] theorem raiseAll_ports (es : List Ev) : (raiseAll es s).ports = s.ports := by
  induction es generalizing s with
  | nil => rfl
  | cons e es ih => exact (ih (raise e s)).trans (raise_ports s e)
@[simp] theorem raiseAll_tap (es : List Ev) : (raiseAll es s).tap = s.tap := by
  induction es generalizing s with
  | nil => rfl
  | cons e es ih => exact (ih (raise e s)).trans (raise_tap s e)

/-- R330: with room in the commit queue, an event raised stands at its end with the present stamps. -/
theorem raise_room (e : Ev) (h : s.aon.witnessLost = none) (v : s.crock.recovering = false) (r : s.crock.queue.length < queueCap) :
    raise e s = { s with crock := { s.crock with queue := s.crock.queue ++ [stampEv s e] } } := by
  simp [raise, h, v, Nat.not_le.mpr r]

/-- R330: with the queue full, an event is dropped and counted. -/
theorem raise_full (e : Ev) (h : s.aon.witnessLost = none) (v : s.crock.recovering = false) (r : queueCap ≤ s.crock.queue.length) :
    (raise e s).crock = { s.crock with dropTally := bump e.sev.val 1 s.crock.dropTally
                                       droppedQ := bump e.sev.val 1 s.crock.droppedQ } := by
  simp [raise, h, v, r, dropEv]

/-- Table 13-6: in WITNESS_LOST an event is dropped and counted. -/
theorem raise_lost (e : Ev) (h : s.aon.witnessLost.isSome) :
    (raise e s).crock = { s.crock with dropTally := bump e.sev.val 1 s.crock.dropTally } := by
  simp [raise, h, dropEv]

/-- R330: raising an event never takes the commit queue past its capacity. -/
theorem raise_bound (e : Ev) (h : s.crock.queue.length ≤ queueCap) : (raise e s).crock.queue.length ≤ queueCap := by
  unfold raise
  split
  · exact h
  · split
    · exact h
    · simp only [List.length_append, List.length_singleton]; omega

/-! ## Counters -/

theorem sat32_le (n : Nat) : sat32 n ≤ 0xFFFFFFFF := Nat.min_le_right _ _

theorem sat64_le (n : Nat) : sat64 n ≤ 0xFFFFFFFFFFFFFFFF := Nat.min_le_right _ _

theorem sat16_le (n : Nat) : sat16 n ≤ 0xFFFF := Nat.min_le_right _ _

@[simp] theorem bump_length (i k : Nat) (l : List Nat) : (bump i k l).length = l.length := by simp [bump]

@[simp] theorem bump64_length (i k : Nat) (l : List Nat) : (bump64 i k l).length = l.length := by simp [bump64]

end Sys2Proof.Machine
end

