-- ==== Sys2Proof/Laws/Dict.lean ====
section
/-! SUPPORT. Laws/Dict.lean: what a request to the dictionary does around its write or read (R281, R288, R308, R309), and what the
checks of R308 read of the state. -/

namespace Sys2Proof.Machine

variable (s : State)

/-! ## The request around its effect -/

/-- A served channel's request sets the note that a frame was heard. -/
theorem served_heard (ch : Chan) (h : served s ch = true) : heard s = { s with can := { s.can with goodFrame := true } } := by
  have hn : s.can.nmt ≠ .initialising := by
    intro e; simp [served, e] at h
  have hc : canClocked s = true := by
    simp [served] at h; exact h.1.1.2
  simp [heard, hn, hc]

theorem beginRequest_served (ch : Chan) (h : served s ch = true) : beginRequest ch s = requested ch s := by
  simp [beginRequest, served_heard s ch h, countRequest, requested, modChan]

/-- The effect of a write, as far as its object alone decides it. -/
theorem dictCommand_ok {s t : State} {ch : Chan} {i : BitVec 16} {sub : Byte} {d : List Byte} (h : served s ch = true)
    (w : dictWrite ch i sub d (requested ch s) = .ok t) : dictCommand ch i sub d s = answered ch t := by
  simp [dictCommand, h, beginRequest_served s ch h, answerWrite, w, answered]

/-- A write that the checks of R308 let pass has its field's effect. -/
theorem dictWrite_passes {t : State} {ch : Chan} {i : BitVec 16} {sub : Byte} {d : List Byte} {o : Obj} {f : Field} {w : Writers}
    (p : PortId) (n : Nat) (hi : splitIndex i = (n, p)) (hf : findField (newProfile t ch) n sub.toNat = .ok (o, f)) (hw : f.w = some w)
    (hg : holderGate o p t = none) (ha : o.index ≠ 0x2005) (hk : writeForbidden o f w p sub.toNat d ch t = none) :
    dictWrite ch i sub d t = writeField ch o f p sub.toNat d t := by
  simp [dictWrite, hi, hf, hw, hg, ha, hk]

/-- A read that succeeds. -/
theorem readCommand_ok {s t : State} {ch : Chan} {i : BitVec 16} {sub : Byte} {d : List Byte} (h : served s ch = true)
    (r : dictRead ch i sub (requested ch s) = .ok (d, t)) : readCommand ch i sub s = answeredData ch d t := by
  simp [readCommand, h, beginRequest_served s ch h, answerRead, r, answeredData]

/-- The checks of R308 that are common to all fields, one by one. -/
theorem writeForbidden_none {o : Obj} {f : Field} {w : Writers} {p : PortId} {sub : Nat} {d : List Byte} {ch : Chan} {t : State}
    (a : lifeForbids o.index sub (leVal d) t = false) (b : roleGrants o f w p sub (leVal d) ch t = true)
    (c : (decide (o.holder = .sieve) && otherHolder ch t) = false)
    (e : (underTest o p t || serviceUnderTest o.index p sub (leVal d) t) = false) (l : lengthOk f.len d.length = true)
    (v : valueOk o f p sub d t = true) (k : lockForbids o f p sub (leVal d) ch t = false) :
    writeForbidden o f w p sub d ch t = none := by
  unfold writeForbidden
  simp only [a, b, c, e, l, v, k]
  rfl

/-! ## What a request leaves of the checks' inputs -/

@[simp] theorem requested_ports (ch : Chan) : (requested ch s).ports = s.ports := rfl
@[simp] theorem requested_fus (ch : Chan) : (requested ch s).fus = s.fus := rfl
@[simp] theorem requested_gate (ch : Chan) : (requested ch s).gate = s.gate := rfl
@[simp] theorem requested_bist (ch : Chan) : (requested ch s).bist = s.bist := rfl
@[simp] theorem requested_crock (ch : Chan) : (requested ch s).crock = s.crock := rfl
@[simp] theorem requested_clk (ch : Chan) : (requested ch s).clk = s.clk := rfl
@[simp] theorem requested_pwr (ch : Chan) : (requested ch s).pwr = s.pwr := rfl
@[simp] theorem requested_aon (ch : Chan) : (requested ch s).aon = s.aon := rfl
@[simp] theorem requested_roll (ch : Chan) : (requested ch s).roll = s.roll := rfl
@[simp] theorem requested_heat (ch : Chan) : (requested ch s).heat = s.heat := rfl
@[simp] theorem requested_cal (ch : Chan) : (requested ch s).cal = s.cal := rfl
@[simp] theorem requested_rcp (ch : Chan) : (requested ch s).rcp = s.rcp := rfl
@[simp] theorem requested_env (ch : Chan) : (requested ch s).env = s.env := rfl
@[simp] theorem requested_life (ch : Chan) : (requested ch s).life = s.life := rfl
@[simp] theorem requested_sieveHolder (ch : Chan) : (requested ch s).sieveHolder = s.sieveHolder := rfl
@[simp] theorem requested_owners (ch : Chan) : (requested ch s).can.owners = s.can.owners := rfl

@[simp] theorem life_requested (ch : Chan) : life (requested ch s) = life s := rfl
@[simp] theorem owner_requested (ch : Chan) (p : PortId) : owner (requested ch s) p = owner s p := rfl
@[simp] theorem owns_requested (ch c : Chan) (p : PortId) : owns (requested ch s) c p = owns s c p := rfl
@[simp] theorem ownsAny_requested (ch c : Chan) : ownsAny (requested ch s) c = ownsAny s c := rfl
@[simp] theorem ownsAll_requested (ch c : Chan) : ownsAll (requested ch s) c = ownsAll s c := rfl
@[simp] theorem gateOpen_requested (ch : Chan) (g : Nat) : gateOpen (requested ch s) g = gateOpen s g := rfl
@[simp] theorem bayTesting_requested (ch : Chan) (p : PortId) : bayTesting (requested ch s) p = bayTesting s p := rfl
@[simp] theorem otherHolder_requested (ch c : Chan) : otherHolder c (requested ch s) = otherHolder c s := rfl
@[simp] theorem isBound_requested (ch : Chan) : isBound (requested ch s) = isBound s := rfl

/-- The request touches one channel's transfer and counters only. -/
theorem chan_requested (ch c : Chan) : ((requested ch s).chans[(c : Nat)]).session = s.chans[(c : Nat)].session
    ∧ ((requested ch s).chans[(c : Nat)]).configLock = s.chans[(c : Nat)].configLock
    ∧ ((requested ch s).chans[(c : Nat)]).profile = s.chans[(c : Nat)].profile
    ∧ ((requested ch s).chans[(c : Nat)]).busy = s.chans[(c : Nat)].busy := by
  by_cases e : c = ch
  · subst e; simp [requested]
  · simp [requested, modChan_other _ ch c _ e]

@[simp] theorem roleOf_requested (ch c : Chan) : roleOf (requested ch s) c = roleOf s c := by
  simp [roleOf, (chan_requested s ch c).1]

@[simp] theorem hasSession_requested (ch c : Chan) : hasSession (requested ch s) c = hasSession s c := by
  simp [hasSession, (chan_requested s ch c).1]

@[simp] theorem hasWorkshop_requested (ch c : Chan) : hasWorkshop (requested ch s) c = hasWorkshop s c := by simp [hasWorkshop]

@[simp] theorem hasMaker_requested (ch c : Chan) : hasMaker (requested ch s) c = hasMaker s c := by simp [hasMaker]

@[simp] theorem newProfile_requested (ch c : Chan) : newProfile (requested ch s) c = newProfile s c := by
  simp [newProfile, (chan_requested s ch c).2.2.1]

@[simp] theorem sieveRole_requested (ch c : Chan) : sieveRole c (requested ch s) = sieveRole c s := by
  unfold sieveRole
  rw [hasMaker_requested, hasWorkshop_requested, life_requested]

/-- The channels, one by one. -/
theorem chans_list {α : Type} (v : Vector α 4) : v.toList = (List.finRange 4).map (fun c : Fin 4 => v[(c : Nat)]) := by
  apply List.ext_getElem
  · simp
  · intro n h1 h2; simp

@[simp] theorem portLocked_requested (ch : Chan) (p : PortId) : portLocked (requested ch s) p = portLocked s p := by
  unfold portLocked
  rw [chans_list, chans_list, List.any_map, List.any_map]
  congr 1
  funext c
  simp only [Function.comp, (chan_requested s ch c).2.1]

end Sys2Proof.Machine
end

