-- ==== Sys2Proof/WellFormed.lean ====
section
/-! DEFINITION. WellFormed.lean: the commands whose operands can occur: lengths of payloads, frames, keys and readings, and counts
that the manual bounds. A command's meaning does not look at this; it says which operands stand for something (log entry 2). -/

namespace Sys2Proof

/-- Payload bytes of a data shingle (R151). -/
def payloadBytes : Nat := 256

/-- Bytes behind the ack block of a control shingle (R161). -/
def bodyBytes : Nat := 248

/-- A CAN frame's data field: at most 8 bytes, or one of the lengths of CAN FD up to 64 (R279). -/
def CanFrame.ok (f : CanFrame) : Bool :=
  if f.fd then [0, 1, 2, 3, 4, 5, 6, 7, 8, 12, 16, 20, 24, 32, 48, 64].contains f.data.length else decide (f.data.length ≤ 8)

/-- R323: an event's argument has at most 20 bytes. -/
def Ev.ok (e : Ev) : Bool := decide (e.arg.length ≤ 20)

/-- R53, R78, R116: at most 720 samples, whose symbols have been released, a place within the training period, one entry
a port. -/
def AdaptIn.ok (u : AdaptIn) : Bool :=
  decide (u.samples.length ≤ 720) && decide (u.lags.length = 8)
  && u.lags.all (fun l => decide (u.samples.length + 63 ≤ l + 1) && decide (l < 1440))
  && decide (u.place < 24576) && decide (u.couplings.length = 8)

/-- R241: 5600 samples a burst: none where the line is not quiet, four, or those before the one that energy ended. -/
def ProbeIn.ok (m : ProbeIn) : Bool :=
  m.bursts.all (fun b => decide (b.length = 5600))
  && (if -4500 ≤ m.power then m.bursts.isEmpty && !m.energy else if m.energy then decide (m.bursts.length < 4) else decide (m.bursts.length = 4))

/-- R386: a hash has 32 bytes. -/
def TapInstr.ok : TapInstr → Bool
  | .bypass => true
  | .idcode => true
  | .samplePreload => true
  | .extest => true
  | .extestPulse => true
  | .extestTrain => true
  | .clamp => true
  | .highz => true
  | .burnMakerHash h => decide (h.length = 32)
  | .burnWorkshopHash h => decide (h.length = 32)

/-- The command's operands can occur. -/
def Instr.wellFormed (i : Instr) : Bool :=
  match i with
  | .dataShingle _ h payload _ _ => decide (payload.length = payloadBytes) && (decide (h.firstTag = 0x7F) || decide (h.firstTag.toNat < 64))
  | .nak _ _ body _ => decide (body.length = bodyBytes)
  | .adaptUpdate _ u => u.ok
  | .xtalkJoinDone p m _ => decide (p ≠ m)
  | .xtalkJoinRetry p m => decide (p ≠ m)
  | .startConfirmed _ _ corr => decide (corr ≤ 1000)
  | .preEmption _ corr => decide (corr ≤ 1000)
  | .signatureComparison _ _ => true
  | .probeRun _ m => m.ok
  | .probeRepeat _ m => m.ok
  | .simmerProbeWake m => m.ok
  | .sdoInitiateDownload _ f => f.ok
  | .sdoDownloadSegment _ f => f.ok
  | .sdoInitiateUpload _ f => f.ok
  | .sdoUploadSegment _ f => f.ok
  | .sdoBlockDownload _ f => f.ok
  | .sdoBlockUpload _ f => f.ok
  | .sdoAbort _ f => f.ok
  | .wideInitiateDownload _ f => f.ok
  | .wideInitiateUpload _ f => f.ok
  | .wideSegment _ f => f.ok
  | .wideConfirm _ f => f.ok
  | .eventRaise evs => evs.all Ev.ok
  | .sensorConversion readings => decide (readings.length = 9)
  | .tapInstructionLoad i => i.ok
  | .authResponse _ data => decide (data.length ≤ 1048576)
  | .recipeImageWrite _ image => decide (image.length ≤ 1048576)
  | .returnTokenWrite _ data => decide (data.length ≤ 1048576)
  | .genericWrite _ _ _ data => decide (data.length ≤ 1048576)
  | .counterZero _ _ _ data => decide (data.length ≤ 1048576)
  | .postedWrite _ _ _ data => decide (data.length ≤ 1048576)
  | .launchSlot _ _ => true
  | .uncorrectableSlot _ _ => true
  | .idle _ _ _ _ => true
  | .lpiEntry _ _ _ => true
  | .lpiExit _ _ _ => true
  | .sleepRequest _ _ _ => true
  | .sleepAck _ _ _ => true
  | .sleepReject _ _ _ => true
  | .beaconFast _ _ _ _ => true
  | .beaconFull _ _ _ _ => true
  | .request _ _ _ _ _ => true
  | .accept _ _ _ _ _ => true
  | .refuse _ _ _ _ _ => true
  | .mark _ _ _ _ _ => true
  | .receiveEpoch _ => true
  | .epochExemptionEnd _ => true
  | .modeRequestRetry _ => true
  | .modePrepareDone _ => true
  | .autoDownshiftWindow _ _ => true
  | .replayTimer _ _ _ => true
  | .nakRepeat _ _ _ => true
  | .lossPasses _ _ => true
  | .hostFrameStart _ _ => true
  | .hostFrameData _ _ _ => true
  | .hostFrameEnd _ _ => true
  | .htxFrameBoundary _ _ => true
  | .pfcRepeat _ _ => true
  | .hostLaneUp _ => true
  | .hostLaneDown _ => true
  | .hostLpiBegin _ => true
  | .hostLpiEnd _ => true
  | .hostIdleTimeout _ => true
  | .lpiEnter _ => true
  | .lpiRefresh _ => true
  | .energyDetect _ => true
  | .lpiFalseWake _ => true
  | .lpiRefreshMissed _ => true
  | .lockLoss _ _ => true
  | .snapshotWindowEnd _ => true
  | .snapshotGo _ _ => true
  | .snapshotServe _ => true
  | .neighbourMaskWrite _ _ _ => true
  | .autonegStart _ => true
  | .autonegResolve _ _ _ _ => true
  | .clause98Pages _ => true
  | .startCandidate _ _ => true
  | .falseStart _ => true
  | .exitCriterionMet _ _ => true
  | .periodBoundary _ _ => true
  | .phaseLimitExpiry _ _ => true
  | .relinkChoose _ => true
  | .snapshotReload _ => true
  | .echoChangeCheck _ _ _ => true
  | .fastRelinkLimit _ _ => true
  | .episodeLimit _ => true
  | .retrainGo _ _ => true
  | .restartAnGo _ _ => true
  | .sleepGo _ _ => true
  | .sleepWaitTimeout _ => true
  | .wakeGo _ _ => true
  | .wakePulseDone _ => true
  | .lineWake _ => true
  | .adminDisable _ _ => true
  | .adminEnable _ _ => true
  | .modeMaskWrite _ _ _ => true
  | .targetModeWrite _ _ _ => true
  | .ledgerEntryRead _ _ => true
  | .rollCallDownshiftOne _ _ _ _ _ => true
  | .rollCallSetMode _ _ _ _ _ => true
  | .rollCallLpiEnable _ _ _ _ _ => true
  | .rollCallLpiDisable _ _ _ _ _ => true
  | .rollCallApply _ => true
  | .armDrop _ _ => true
  | .armCorrupt _ _ => true
  | .armSwap _ _ => true
  | .armInterrupt _ _ => true
  | .armHostIn _ _ => true
  | .armHostOut _ _ => true
  | .disarmAllGo _ => true
  | .interruptionEnd _ => true
  | .hostInCorruption _ => true
  | .hostOutCorruption _ => true
  | .provocationEpisodeEnd _ => true
  | .thresholdsWrite _ _ _ => true
  | .captureLineGo _ _ => true
  | .captureProbeGo _ _ => true
  | .ackTamperGo _ _ => true
  | .captureTimeout _ _ => true
  | .sealEnable _ _ => true
  | .sealDisable _ _ => true
  | .chainStart _ => true
  | .sealWindowEnd _ => true
  | .sealRoot _ => true
  | .sdoTimeout _ => true
  | .eventClear _ _ _ => true
  | .postedApply => true
  | .civilStep _ _ => true
  | .allowanceWindow => true
  | .canBitRateWrite _ _ _ => true
  | .bitrateReverted => true
  | .cobIdWrite _ _ _ _ => true
  | .profileSelect _ _ _ => true
  | .authNonceRead _ => true
  | .nonceExpiry _ => true
  | .authLockoutEnd => true
  | .sessionEndWrite _ _ _ => true
  | .sessionExpiry _ => true
  | .ownersWrite _ _ => true
  | .nmtStart _ => true
  | .nmtPreOperational _ => true
  | .nmtStop _ => true
  | .nmtResetCommunication _ => true
  | .nmtResetNode _ => true
  | .heartbeat => true
  | .emcySend => true
  | .busOff => true
  | .gateSet _ _ => true
  | .gateClear _ _ => true
  | .gateOpenComplete _ => true
  | .gateCloseComplete _ => true
  | .configLock _ _ _ => true
  | .resetRequest _ _ => true
  | .recordDataRead _ => true
  | .recordBatchRead _ => true
  | .clearGo _ => true
  | .recordCommit => true
  | .recorderRecovered => true
  | .tallyCheckpoint => true
  | .crockScanEnd _ => true
  | .crystalStable => true
  | .pllLock => true
  | .pllLockTimeout => true
  | .crystalTimeout => true
  | .crystalRestart => true
  | .refFailed => true
  | .pllUnlocked => true
  | .hostLanePllFailed _ => true
  | .coldSwitch _ _ => true
  | .warmSwitchDone _ => true
  | .clockReturn _ => true
  | .rcRetrim => true
  | .ctlSourceWrite _ _ => true
  | .slowSourceWrite _ _ => true
  | .clkoutSelectWrite _ _ => true
  | .clkoutDivideWrite _ _ => true
  | .powerOnReset _ => true
  | .vinDip => true
  | .resetNAssert => true
  | .resetNRelease => true
  | .powerOnCheckEnd => true
  | .rollbackBurn => true
  | .fuseBurnVerify _ => true
  | .powerRequestBoil _ => true
  | .powerRequestSimmer _ => true
  | .powerRequestRest _ => true
  | .pointOfNoReturn => true
  | .entryTimeout => true
  | .entryComplete => true
  | .canWakePattern => true
  | .wakeIn => true
  | .powerReturnDone => true
  | .throttleStage2Check => true
  | .thermalShutdown _ _ => true
  | .thermalRestart => true
  | .lifecycleRequestSealed _ => true
  | .lifecycleRequestReturned _ => true
  | .lifecycleRequestEnded _ => true
  | .timebaseGo _ => true
  | .levelsGo _ => true
  | .lengthGo _ => true
  | .calibrationMeasurement m => (match m with | .bursts b => b.ok | _ => true)
  | .calibrationTimeout => true
  | .selfTestGo _ => true
  | .bayTestDone _ _ _ _ _ => true
  | .standardUp _ => true
  | .standardLinkFail _ _ => true
  | .standardPcsFrame _ _ _ _ _ => true
  | .leaderSilence _ => true
  | .errorPassive _ => true
  | .vinFails _ => true
  | .crystalFrequencyCheckFail => true
  | .trstNLow => true

end Sys2Proof
end

