-- ==== Sys2Proof/Tests/Slice0.lean ====
section
/-! SUPPORT. Slice0.lean: the model's own tests: values that the manual states, operands that cannot occur, and for each obligation with
hypotheses a theorem that shows states and operands meeting them. -/

open Sys2Proof Sys2Proof.Machine

set_option maxRecDepth 20000
set_option Elab.async false

namespace Sys2Proof.Tests

/-! ## States -/

/-- A device that runs in BOIL, in MANUFACTURE, with every clock and gate on, 1000 s of tally time, no link up. -/
def run : State :=
  let s := State.reset
  { s with
    aon := { s.aon with tally := 1000000000000, onRc := false, civilStale := false }
    clk := { s.clk with ref := .running, pll := .running, armed := true, hostPll := List.replicate 8 .running
                        onInput1 := [.ctl, .eng, .fab, .slow] ++ (List.finRange 8).map Domain.sym }
    gate := { gates := 0xFFFFF, isOpen := 0xFFFFF }
    crock := { s.crock with scanning := false, started := true }
    bist := { s.bist with checking := false, poc := .pass }
    can := { s.can with nmt := .preOperational } }

/-- Port p up in a mode, locked, its host lane up and idle, every mode and ability agreed with the partner. -/
def upIn (m : LineMode) (p : PortId) : State → State :=
  modPort p (fun q => { q with
    link := { q.link with up := true, phase := .up, mode := some m, leader := true, offer := 0x1F07, partnerModes := 0x1F07
                          partnerAbil := 7, linkPolicy := 7 }
    dsp := { q.dsp with locked := true, adapting := true, winWhole := true, winLocked := true, snr := 2500 }
    train := { q.train with synced := true, partnerSynced := true }
    host := { q.host with up := true, lock := true, active := some .r50, idleHeld := true, lpiPolicy := 5 } })

/-- Port 0. -/
abbrev q0 (s : State) : Port := s.ports[(0 : PortId)]

/-- Port 0 up in EL-50, its quiet allowed. -/
def up : State := upIn (.etoon .el50) 0 { run with roll := { run.roll with lpiMask := 1 } }

/-- A snapshot of the mode below in port 0's store. -/
def snap : State := modPort 0 (fun q => { q with store := { el50 := [{ tally := 1 }], el25 := [{ tally := 1 }] } }) up

/-- Channel 0 holds a session. -/
def ses (r : Role) (s : State) : State :=
  modChan 0 (fun c => { c with session := some { role := r, expiry := s.aon.tally + 1000, keyId := [1, 2, 3, 4] }, profile := 0x0101 }) s

/-- Port 0 down, in a phase of training, as leader or follower. -/
def trains (ph : Phase) (lead : Bool) (r : Option Relink) : State :=
  modPort 0 (fun q => { q with
    link := { q.link with up := false, phase := ph, leader := lead, relink := r }
    train := { since := 999000000000 } }) snap

/-- The device in SEALED UNBOUND. -/
def sealedUnbound (s : State) : State := { s with fus := { s.fus with sealed := { st := .burned } :: List.replicate 3 {} } }

/-- The device in SEALED BOUND. -/
def sealedBound (s : State) : State :=
  let t := sealedUnbound s
  { t with fus := { t.fus with bound := { st := .burned } :: List.replicate 3 {} } }

/-- An ack block that acknowledges nothing. -/
def ack : AckBlock := { a0 := 0, a1 := 0, a2 := 0, a3 := 0 }

/-- A header of class 1 with a number. -/
def hdr (n : Seq) : ShHdr :=
  { cls := 1, seq := n, replay := false, gap := false, provoked := false, firstTag := 0, ackClass := 0, ackNext := 0 }

/-- A mode change of port 0. -/
def changing (f : ModeChange → ModeChange) (s : State) : State := modMc 0 (fun m => f { m with target := .el25, epoch := 1 }) s

/-! ## Hypotheses that can be met: the block as a whole -/

theorem test_witness_StepRunsFrontCommand :
    ({ run with pending := [.heartbeat, .busOff] } : State).pending = .heartbeat :: [.busOff]
    ∧ (run.pending = [] ∧ run.pwr.on = true)
    ∧ (({ run with pwr := { run.pwr with on := false } } : State).pending = [] ∧ ({ run with pwr := { run.pwr with on := false } } : State).pwr.on = false)
    ∧ (run.pwr.state = .boil ∧ run.pwr.transition ≠ some .boil) := by
  decide +kernel

theorem test_witness_LineCommandsStayInTheirPort :
    lineCommand (.launchSlot 0 0) = some 0 ∧ ∃ t, exec (.launchSlot 0 0) up = .next t := ⟨rfl, _, rfl⟩

theorem test_witness_QueuesStayBounded :
    QueuesBounded run ∧ (∀ rest, run.pending ≠ .vinDip :: rest) ∧ ∃ t, step run = .next t :=
  ⟨⟨by decide, by decide⟩, fun _ => nofun, _, rfl⟩

theorem test_witness_FusesOnlyBurn : ∃ t, step run = .next t := ⟨_, rfl⟩

/-! ## Receiving slots -/

/-- Port 0 with its receiver's input cut by the sieve. -/
def cut (s : State) : State := modSieve 0 (fun v => { v with live := 8, interrupting := true, iSides := 2, iLength := 1000 }) s

/-- Seven bad slots in a row. -/
def bad7 : State := modLine 0 (fun l => { l with badRun := 7 }) up

theorem test_witness_ReceivedSlots :
    (collects (q0 up) = true ∧ slotsRun (q0 up) = true ∧ inputCut (q0 up) = false ∧ partnerSilent (q0 up) = false)
    ∧ (collects (q0 (cut up)) = true ∧ inputCut (q0 (cut up)) = true ∧ partnerSilent (q0 (cut up)) = false)
    ∧ slotExempt (q0 (modLine 0 (fun l => { l with epochExempt := 1 }) up)).line = true
    ∧ (slotExempt (q0 up).line = false ∧ (q0 up).line.badRun < 7)
    ∧ (collects (q0 bad7) = true ∧ partnerSilent (q0 bad7) = false ∧ slotExempt (q0 bad7).line = false
        ∧ (q0 bad7).line.badRun = 7 ∧ (q0 bad7).link.up = true) := by
  decide +kernel

/-- Shingle 0 of class 0, whose payload leaves a frame of 300 bytes unfinished, or is empty. -/
def arrivedSh (b : Bool) : HeldSh :=
  { seq := 0, hdr := { hdr 0 with cls := 0 }, at_ := 0
    payload := if b then tagBytes { cls := 0, length := 300 } ++ List.replicate 252 0 else [] }

/-- Shingle 5 of class 1 waits out of order. -/
def heldOne : State := modRx 0 1 (fun r => { r with held := [{ seq := 5, hdr := hdr 5, payload := [], at_ := 0 }] }) up

/-- Class 0 has no reorder slot left. -/
def fullReorder : State := modRx 0 0 (fun r => { r with taken := List.replicate 128 0 }) up

theorem test_witness_DataShingleByDistance :
    (receiving (q0 up) = true ∧ reorderRoom (q0 up) 1 = true ∧ (q0 up).rx[(1 : Cls)].held = []
      ∧ ((0 : Seq) - (q0 up).rx[(1 : Cls)].next).toNat = 0 ∧ ((4095 : Seq) - (q0 up).rx[(1 : Cls)].next).toNat = 4095
      ∧ ((4096 : Seq) - (q0 up).rx[(1 : Cls)].next).toNat = 4096 ∧ ((12287 : Seq) - (q0 up).rx[(1 : Cls)].next).toNat = 12287
      ∧ ((12288 : Seq) - (q0 up).rx[(1 : Cls)].next).toNat = 12288)
    ∧ (receiving (q0 heldOne) = true ∧ (q0 heldOne).rx[(1 : Cls)].held.any (fun g => decide (g.seq = 5)) = true)
    ∧ (receiving (q0 fullReorder) = true ∧ reorderRoom (q0 fullReorder) 0 = false
        ∧ passesAtOnce (q0 fullReorder) (arrivedSh false) = true ∧ passesAtOnce (q0 fullReorder) (arrivedSh true) = false
        ∧ (q0 fullReorder).rx[(0 : Cls)].held = [] ∧ (0 : Seq) ∉ (q0 fullReorder).rx[(0 : Cls)].held.map HeldSh.seq
        ∧ (arrivedSh true).payload.length = 256) := by
  decide +kernel

/-- Shingle 3 of class 1 is launched and unacknowledged. -/
def oneOut : State := modTx 0 1 (fun t => { t with next := 4, launched := [{ seq := 3, pay := {}, lastLaunch := 0 }] }) up

theorem test_witness_AcksNaksAndReplays :
    receiving (q0 oneOut) = true
    ∧ (∀ e ∈ (q0 oneOut).tx[(1 : Cls)].launched, e.unsent = false ∧ e.lastReplay = none ∧ e.seq = 3)
    ∧ ackFor { ack with a1 := 3 } 1 = 3 ∧ (1, 3, 0 + 1) ∈ nakEntries (ctlBody (.nak [(1, 3, 1)])) := by
  decide +kernel

/-- Port 0 in phase S. -/
def syncing' : State := trains .s true none

theorem test_witness_QuietSleepAndBeaconShingles :
    (receiving (q0 up) = true ∧ (q0 up).link.up = true ∧ etoonMode (q0 up) = some .el50 ∧ inputCut (q0 up) = false
      ∧ (q0 up).link.linkPolicy.getLsbD 2 = true ∧ lpiOk up 0 = true ∧ receiving (q0 syncing') = true
      ∧ (q0 syncing').train.partnerSynced = false)
    ∧ (let s := modLink 0 (fun l => { l with linkPolicy := 3 }) up
       receiving (q0 s) = true ∧ (q0 s).link.up = true ∧ (q0 s).link.linkPolicy.getLsbD 2 = false)
    ∧ (let s := modLink 0 (fun l => { l with sleepSent := true }) up
       receiving (q0 s) = true ∧ (q0 s).link.up = true ∧ (q0 s).link.sleepSent = true)
    ∧ (let s := modLink 0 (fun l => { l with sleepSent := true }) (upIn (.std .b1g) 0 run)
       tc10Std (q0 s) = true ∧ inputCut (q0 s) = false ∧ (q0 s).link.sleepSent = true)
    ∧ (let s := modLink 0 (fun l => { l with choosing := true }) (trains .q true none)
       etoonMode (q0 s) = some .el50 ∧ inputCut (q0 s) = false ∧ (q0 s).link.up = false ∧ (q0 s).link.choosing = true
       ∧ slotsRun (q0 s) = false)
    ∧ (let s := trains .f true (some .fast)
       etoonMode (q0 s) = some .el50 ∧ inputCut (q0 s) = false ∧ (q0 s).link.up = false ∧ (q0 s).link.choosing = false
       ∧ (q0 s).link.relink = some .fast ∧ awaiting (q0 s) = true ∧ (q0 s).link.cap = none)
    ∧ (∀ r ∈ [none, some Relink.full], let s := trains .s true r
       etoonMode (q0 s) = some .el50 ∧ inputCut (q0 s) = false ∧ (q0 s).link.up = false ∧ (q0 s).link.choosing = false
       ∧ (q0 s).link.relink ≠ some .fast ∧ (q0 s).link.phase = .s ∧ (q0 s).train.restartAfter = 0 ∧ (q0 s).link.cap = none) := by
  decide +kernel

/-- Port 0 in phase S with 64 shingles received in a row. -/
def syncing : State := modTrain 0 (fun t => { t with synced := true }) (trains .s true none)

theorem test_witness_IdleBringsTheLinkUp :
    (receiving (q0 syncing) = true ∧ (q0 syncing).link.phase = .s ∧ (q0 syncing).link.up = false
      ∧ (q0 syncing).train.synced = true ∧ (q0 syncing).dsp.locked = true ∧ portClocked syncing 0 = true ∧ takesEvents syncing 1)
    ∧ (let s := modTrain 0 (fun t => { t with partnerSynced := true }) syncing
       receiving (q0 s) = true ∧ (q0 s).link.phase = .s ∧ (q0 s).link.up = false ∧ (q0 s).train.synced = true ∧ (q0 s).dsp.locked = true
       ∧ portClocked s 0 = true ∧ takesEvents s 1 ∧ (q0 s).train.partnerSynced = true) := by
  decide +kernel

/-- A port that launches: it is up, active, with no sieve kind and nothing that holds a slot. -/
def launching (s : State) : Bool :=
  let q := q0 s
  q.link.up && (etoonMode q).isSome && decide (q.line.txLpi = .active) && decide (q.sieve.live = 0) && q.sieve.disarms.isEmpty
  && !q.sieve.intWaiting && q.sieve.swapOut.isNone && q.link.sleepWait.isNone && (List.finRange 4).all (fun c => q.tx[c].owedLoss.isEmpty)

/-- Class 1 holds a closed payload. -/
def closedOne (s : State) : State := modTx 0 1 (fun t => { t with closed := [{ bytes := [1] }] }) s

/-! ## Changing mode, quiet and launching -/

theorem test_witness_ModeChangeShingles :
    (receiving (q0 snap) = true ∧ (q0 snap).link.up = true ∧ etoonMode (q0 snap) = some .el50
      ∧ (q0 snap).mc.role = .none ∧ refuseReason snap 0 .el50 .el25 = none ∧ etoonMode (q0 (upIn (.etoon .el25) 0 up)) = some .el25
      ∧ refuseReason (upIn (.etoon .el25) 0 up) 0 .el25 .el50 = some .noSnapshot)
    ∧ (∀ b ∈ [false, true], let s := changing (fun m => { m with role := .requester, accepted := b }) snap
       receiving (q0 s) = true ∧ etoonMode (q0 s) = some .el50 ∧ (q0 s).mc.role = .requester
       ∧ (q0 s).mc.accepted = b ∧ (q0 s).mc.epoch = 1 ∧ (q0 s).mc.target = .el25
       ∧ (q0 s).mc.prepared = false)
    ∧ (let s := modLink 0 (fun l => { l with leader := false }) (changing (fun m => { m with role := .responder, prepared := true }) snap)
       receiving (q0 s) = true ∧ etoonMode (q0 s) = some .el50 ∧ (q0 s).mc.role ≠ .none
       ∧ (q0 s).mc.epoch = 1 ∧ (q0 s).mc.rxPassed = false ∧ (q0 s).link.leader = false ∧ (q0 s).mc.prepared = true
       ∧ (q0 s).mc.marks = none ∧ (q0 s).mc.txPassed = false) := by
  decide +kernel

theorem test_witness_ModeChangeProgress :
    (let s := changing (fun m => { m with role := .responder }) snap
     (q0 s).mc.role = .responder ∧ (q0 s).mc.prepared = false)
    ∧ (∀ n ∈ [3, 4], let s := changing (fun m => { m with role := .requester, requests := n }) snap
       (q0 s).mc.role = .requester ∧ (q0 s).mc.accepted = false ∧ (q0 s).mc.requests = n)
    ∧ (∀ b ∈ [false, true], let s := changing (fun m => { m with role := .requester, rxMark := some 1, txPassed := b }) snap
       (q0 s).mc.role ≠ .none ∧ (q0 s).mc.rxMark.isSome = true ∧ (q0 s).mc.txPassed = b)
    ∧ ((q0 snap).link.up = true ∧ (q0 snap).link.linkPolicy.getLsbD 0 = true ∧ (1999 : Int) < 2000
       ∧ (q0 snap).mc.role = .none ∧ etoonMode (q0 snap) = some .el50
       ∧ lowerOffered (q0 snap) .el50 = some .el25 ∧ mcObstacle snap 0 .el50 .el25 = none)
    ∧ ((2000 : Int) ≤ 2000 ∧ (q0 (modLine 0 (fun l => { l with bad100 := 63 }) snap)).line.bad100 < 64) := by
  decide +kernel

theorem test_witness_QuietPeriodsAndLockLoss :
    ((q0 up).line.txLpi = .active ∧ lpiOk up 0 = true)
    ∧ (∀ b ∈ [false, true], let s := modLine 0 (fun l => { l with txLpi := .entering, wakeWanted := b }) up
       (q0 s).link.up = true ∧ (etoonMode (q0 s)).isSome = true ∧ (q0 s).line.txLpi = .entering ∧ (q0 s).line.owed = []
       ∧ (q0 s).link.sleepWait = none ∧ (q0 s).mc.marks = none ∧ (q0 s).sieve.intWaiting = false ∧ (q0 s).line.wakeWanted = b
       ∧ lpiOk s 0 = true)
    ∧ (let s := modLine 0 (fun l => { l with txLpi := .quiet }) up
       (q0 s).line.txLpi = .quiet ∧ (q0 s).line.wakeWanted = false)
    ∧ (let s := modLine 0 (fun l => { l with partnerQuiet := true, wakeWindow := some 4 }) up
       (q0 s).line.partnerQuiet = true ∧ (q0 s).line.wakeDecoded = false
       ∧ (q0 s).line.wakeWindow = some 4)
    ∧ (let s := modLine 0 (fun l => { l with partnerQuiet := true }) up
       (q0 s).line.partnerQuiet = true ∧ (q0 s).line.wakeWindow = none ∧ (q0 s).link.up = true
       ∧ (etoonMode (q0 s)).isSome = true ∧ snrSuspended (q0 s) = true)
    ∧ ((etoonMode (q0 up)).isSome = true ∧ (q0 up).link.up = true ∧ snrSuspended (q0 up) = false ∧ partnerSilent (q0 up) = false
       ∧ (q0 up).dsp.chain.outside < 64 ∧ (q0 up).dsp.chain.meas.length < 4096)
    ∧ (let s := modDsp 0 (fun d => { d with chain := { d.chain with outside := 64, meas := List.replicate 4096 (2 ^ 62) } }) up
       (etoonMode (q0 s)).isSome = true ∧ (q0 s).link.up = true ∧ 64 ≤ (q0 s).dsp.chain.outside
       ∧ 4096 ≤ (q0 s).dsp.chain.meas.length ∧ snrSuspended (q0 s) = false ∧ snrLocks (q0 s).dsp = false) := by
  decide +kernel

theorem test_witness_EverySlotLaunchesOneShingle :
    (launching up = true ∧ (q0 up).mc.marks = none ∧ (q0 up).line.owed = [] ∧ (∀ c : Cls, classReady (q0 up) c = false) ∧ nakList (q0 up) = [])
    ∧ (let s := changing (fun m => { m with role := .requester, marks := some (0 + 1) }) up
       launching s = true ∧ (q0 s).mc.marks = some (0 + 1))
    ∧ (∀ k ∈ [Ctl.request .el25 1, .refuse .noSnapshot 1, .sleepReject, .sleepRequest, .sleepAck],
       let s := modLine 0 (fun l => { l with owed := [k] }) up
       launching s = true ∧ (q0 s).mc.marks = none ∧ (q0 s).line.owed = k :: [])
    ∧ (let e : LaunchedSh := { seq := 3, pay := {}, lastLaunch := 0, due := true }
       let s := modTx 0 1 (fun t => { t with launched := [e] }) oneOut
       launching s = true ∧ (q0 s).mc.marks = none ∧ (q0 s).line.owed = [] ∧ classReady (q0 s) 0 = false ∧ nakList (q0 s) = []
       ∧ dueOf (q0 s).tx[(1 : Cls)] = some e ∧ e.unsent = false)
    ∧ (let s := closedOne oneOut
       launching s = true ∧ (q0 s).mc.marks = none ∧ (q0 s).line.owed = [] ∧ classReady (q0 s) 0 = false ∧ nakList (q0 s) = []
       ∧ dueOf (q0 s).tx[(1 : Cls)] = none ∧ (q0 s).tx[(1 : Cls)].gapRec = none
       ∧ (q0 s).tx[(1 : Cls)].closed = ({ bytes := [1] } : Payload) :: [] ∧ (q0 s).tx[(1 : Cls)].launched.length < 4096)
    ∧ (let s := modRx 0 1 (fun r => { r with later := some 3 }) up
       launching s = true ∧ (q0 s).mc.marks = none ∧ (q0 s).line.owed = [] ∧ classReady (q0 s) 0 = false ∧ nakList (q0 s) ≠ [])
    ∧ (let s := modPort 0 (fun q => { q with sieve := { q.sieve with live := 4, swapOut := some (1, 3, 2) } }) oneOut
       (q0 s).link.up = true ∧ (etoonMode (q0 s)).isSome = true ∧ (q0 s).line.txLpi = .active
       ∧ (q0 s).sieve.swapOut = some (1, 3, 2) ∧ (3 : Seq) ∈ (q0 s).tx[(1 : Cls)].launched.map LaunchedSh.seq)
    ∧ (inStd (q0 run) = false ∧ (q0 run).link.up = false ∧ (q0 run).link.phase ≠ .s
      ∧ beaconOwed (q0 run) = false) := by
  decide +kernel

/-! ## The DSP -/

theorem test_witness_AdaptationByShingle :
    (rxMode (q0 run) = none ∧ rxMode (q0 up) = some .el50 ∧ (q0 up).dsp.locked = true ∧ (q0 up).dsp.lastBad = false)
    ∧ (let s := modDsp 0 (fun d => { d with lastBad := true }) up
       rxMode (q0 s) = some .el50 ∧ (q0 s).dsp.lastBad = true ∧ clamp24 (q0 s).dsp.ffe = (q0 s).dsp.ffe
       ∧ clampDfe (q0 s).dsp.dfe = (q0 s).dsp.dfe ∧ clamp24 (q0 s).dsp.ne = (q0 s).dsp.ne)
    ∧ (let s := modLine 0 (fun l => { l with partnerQuiet := true }) up
       rxMode (q0 s) = some .el50 ∧ silentByPlan (q0 s) = true ∧ adaptPaused (q0 s) = true)
    ∧ (let s := modDsp 0 (fun d => { d with hold := true }) (modLine 0 (fun l => { l with partnerQuiet := true, wakeWindow := some 1 }) up)
       rxMode (q0 s) = some .el50 ∧ (q0 s).dsp.lastBad = false ∧ adaptPaused (q0 s) = false ∧ holdInEffect (q0 s) = true
       ∧ refreshOnly (q0 s) = true ∧ (q0 s).link.phase = .up) := by
  decide +kernel

/-- Port 1 streams beside port 0 in the same mode and its canceller is joining. -/
def joining : State :=
  modDsp 0 (fun d => { d with
    neighboursInUse := 2, neighbours := 2, nearest := 1, nearestInUse := some 1
    joins := d.joins.set 1 .joining, joinSince := d.joinSince.set 1 999995000000 })
    (upIn (.etoon .el50) 1 up)

theorem test_witness_SnapshotsAndCrosstalkJoins :
    (rxMode (q0 up) = some .el50 ∧ (etoonMode (q0 up)).isSome = true ∧ (q0 up).link.up = true ∧ windowClean (q0 up) = true
      ∧ (q0 up).dsp.winWhole = true ∧ (q0 up).dsp.winIndex < up.aon.tally / 1000000)
    ∧ (let s := modDsp 0 (fun d => { d with winIndex := 1000000 }) up
       rxMode (q0 s) = some .el50 ∧ s.aon.tally / 1000000 ≤ (q0 s).dsp.winIndex)
    ∧ (let s := modDsp 0 (fun d => { d with winClean := false, snapGo := true }) up
       windowClean (q0 s) = false ∧ (q0 s).dsp.snapGo = true ∧ rxMode (q0 s) = some .el50
       ∧ (q0 s).dsp.winIndex < s.aon.tally / 1000000)
    ∧ ((q0 (modDsp 0 (fun d => { d with snapGo := true }) up)).dsp.snapGo = true
       ∧ windowClean (q0 (modDsp 0 (fun d => { d with snapGo := true }) up)) = true)
    ∧ ((q0 joining).dsp.joins.getD 1 .none = .joining ∧ joinOpen joining 0 1 = false ∧ (599 : Int) < 600)
    ∧ (let s := modDsp 0 (fun d => { d with joinSince := d.joinSince.set 1 999995000001 }) joining
       (q0 s).dsp.joins.getD 1 .none = .joining ∧ xtalkWanted s 0 1 = true ∧ joinOpen s 0 1 = true ∧ (600 : Int) ≤ 600) := by
  decide +kernel

/-! ## Bringing a link up and down -/

theorem test_witness_AutonegStartsAfresh :
    ((q0 run).link.up = false ∧ (q0 run).link.choosing = false ∧ (q0 run).link.phase = .disabled
      ∧ autonegAllowed run 0 = true)
    ∧ ((q0 (trains .autoneg false none)).link.phase = .autoneg ∧ (q0 (trains .autoneg false none)).link.up = false
      ∧ autonegAllowed (trains .autoneg false none) 0 = true)
    ∧ ((q0 State.reset).link.up = false ∧ (q0 State.reset).link.choosing = false
      ∧ (q0 State.reset).link.phase = .disabled ∧ autonegAllowed State.reset 0 = false) := by
  decide +kernel

/-- Next pages of a partner that offers every Etoon mode in versions 1.0. -/
def pages : WenvoPages :=
  { modes := 7, lpi := true, fastRelink := true, tc10 := true, lineMajor := 1, lineMinor := 0, linePrev := 15, shMajor := 1, shMinor := 0
    shPrev := 15, seed := 5, neighbours := 0, leaderWanted := false }

theorem test_witness_AutonegResolves :
    (let s := modLink 0 (fun l => { l with offer := 0x1F07 }) (trains .autoneg false none)
     (q0 s).link.phase = .autoneg ∧ (q0 s).link.up = false ∧ inputCut (q0 s) = false
     ∧ (∀ ms ∈ [MsOutcome.master, .slave, .fault], msPossible (q0 s).link.forced ms = true)
     ∧ msPossible (q0 (modLink 0 (fun l => { l with forced := some true }) s)).link.forced .slave = false
     ∧ resolveEtoon (q0 s) (activeBank s.rcp) (some pages) = some (.el50, (1, 0), (1, 0))
     ∧ (∀ f ∈ [PartnerPages.noNp, .foreign 2], resolveEtoon (q0 s) (activeBank s.rcp) (wenvoOf f) = none)
     ∧ highestStd ((q0 s).link.offer &&& (((2 : BitVec 5).zeroExtend 16) <<< 8)) = some .b10g
     ∧ highestStd ((q0 s).link.offer &&& (((0 : BitVec 5).zeroExtend 16) <<< 8)) = none) := by
  decide +kernel

theorem test_witness_StartDetection :
    (awaiting (q0 (trains .q true none)) = true ∧ (-3000 : Int) < -2999)
    ∧ ((q0 (modTrain 0 (fun t => { t with candidate := true }) (trains .q true none))).train.candidate = true)
    ∧ (let s := modTrain 0 (fun t => { t with confirmed := some 500, confirmedAt := 1000000000000, preOpen := true }) (trains .q true none)
       (q0 s).train.confirmed = some 500 ∧ (q0 s).train.preOpen = true ∧ etoonMode (q0 s) = some .el50 ∧ inputCut (q0 s) = false
       ∧ 3 * (s.aon.tally - (q0 s).train.confirmedAt) < periodThirds .el50 ∧ 500 * 141254 ≤ 707 * 100000)
    ∧ ((499 < 500 ∧ 500 ≤ 500) ∧ expectedUse (q0 (trains .q true none)) 0 = none
       ∧ (∀ l : Bool, (q0 (trains .q l none)).link.up = false ∧ inputCut (q0 (trains .q l none)) = false
          ∧ (q0 (trains .q l none)).train.restartAfter = 0 ∧ (q0 (trains .q l none)).link.phase = .q
          ∧ (q0 (trains .q l none)).link.leader = l ∧ (q0 (trains .q l none)).train.confirmed = none)
       ∧ ((q0 (trains .e2 false none)).link.phase = .e2 ∧ (q0 (trains .e2 false none)).link.leader = false)
       ∧ (q0 (trains .f true none)).link.phase = .f ∧ etoonMode (q0 (trains .f true none)) = some .el50)
    ∧ (∀ b : Bool, let s := modLink 0 (fun l => { l with bySecondRow := b, linkPolicy := 7, partnerAbil := 7 }) (trains .q true (some .full))
       (q0 s).link.up = false ∧ (q0 s).link.phase = .q ∧ (q0 s).link.relink = some .full ∧ etoonMode (q0 s) = some .el50
       ∧ (q0 s).train.restartAfter = 0 ∧ (q0 s).train.confirmed = none ∧ inputCut (q0 s) = false ∧ episodeOver s 0 = false
       ∧ (q0 s).link.bySecondRow = b ∧ fastAllowed (q0 s) .el50 = true ∧ capped (q0 s) .el50 = .el50)
    ∧ ((q0 up).link.up = true ∧ (etoonMode (q0 up)).isSome = true ∧ inputCut (q0 up) = false)
    ∧ ((q0 (trains .a true none)).link.choosing = false ∧ awaiting (q0 (trains .a true none)) = true
       ∧ autonegAllowed (trains .a true none) 0 = true) := by
  decide +kernel

/-- Measurements that meet every criterion. -/
def crit : Criterion := { snr := 2400, averages := 64, near := -4500, far := -4500, power := -4501, joined := true }

/-- Measurements that meet none. -/
def noCrit : Criterion := { snr := 0, averages := 0, near := 0, far := 0, power := 0, joined := false }

theorem test_witness_TrainingPhases :
    (criterionMet (trains .q true none) 0 crit = true ∧ (q0 (trains .q true none)).link.phase = .q
      ∧ (q0 (trains .q true none)).train.restartAfter = 0
      ∧ criterionMet (trains .a true none) 0 crit = true ∧ (q0 (trains .a true none)).link.phase ≠ .q
      ∧ criterionMet (trains .q true none) 0 noCrit = false)
    ∧ ((q0 (trains .e1 false none)).link.phase = .e1 ∧ (q0 (trains .e1 false none)).link.leader = false)
    ∧ (let s := modTrain 0 (fun t => { t with confirmedAt := 1000000000000, preOpen := true }) (trains .q true none)
       (q0 s).link.up = false ∧ (q0 s).link.phase = .q ∧ etoonMode (q0 s) = some .el50 ∧ (q0 s).train.restartAfter = 0
       ∧ inputCut (q0 s) = false
       ∧ (q0 s).train.critMet = false ∧ (q0 s).train.preOpen = true ∧ 3 * (s.aon.tally - (q0 s).train.confirmedAt) < periodThirds .el50)
    ∧ (let s := modTrain 0 (fun t => { t with readySent := some 1 }) (trains .e1 true none)
       (q0 s).link.up = false ∧ etoonMode (q0 s) = some .el50 ∧ (q0 s).train.restartAfter = 0 ∧ (q0 s).train.readySent = some (0 + 1)
       ∧ (q0 s).link.phase = .e1 ∧ (q0 s).link.leader = true)
    ∧ ((q0 (trains .e2 true none)).link.phase = .e2 ∧ (q0 (trains .e2 true none)).link.leader = true
      ∧ (q0 (trains .e2 true none)).train.since < 999000000001)
    ∧ (∀ ph ∈ [Phase.a, .x, .f], let s := modTrain 0 (fun t => { t with readySent := some 0, readyAt := some 999500000000 }) (trains ph true none)
       (q0 s).link.phase = ph ∧ (q0 s).train.readySent = some 0 ∧ (q0 s).train.readyAt = some 999500000000 ∧ (q0 s).train.restartAfter = 0
       ∧ (q0 s).link.up = false ∧ (q0 s).train.rxStarted = false ∧ (q0 s).train.synced = false
       ∧ 6 * 999500000000 ≤ 6 * 999500000000 + periodThirds .el50 ∧ 6 * 0 + periodThirds .el50 < 6 * 999500000000)
    ∧ (∀ b : Bool, let s := modTrain 0 (fun t => { t with limitPassed := true, synced := b, partnerSynced := b }) (trains .x true none)
       (q0 s).train.limitPassed = true ∧ (q0 s).link.phase = .x ∧ (q0 s).train.synced = b ∧ (q0 s).train.partnerSynced = b
       ∧ (q0 s).dsp.locked = true ∧ portClocked s 0 = true ∧ (q0 s).link.up = false ∧ etoonMode (q0 s) = some .el50 ∧ inputCut (q0 s) = false) := by
  decide +kernel

theorem test_witness_TrainingPhases_limits :
    (let s := modTrain 0 (fun t => { t with since := 1000000000000 }) (trains .e1 true none)
     etoonMode (q0 s) = some .el50 ∧ (q0 s).link.relink ≠ some .fast ∧ (q0 s).link.up = false
       ∧ phaseLimit .el50 true false .e1 = some 4000000 ∧ s.aon.tally < (q0 s).train.since + 4000000)
    ∧ (∀ k ∈ [(Phase.x, false), (.a, false), (.e1, false), (.e1, true)],
       let s := modTrain 0 (fun t => { t with since := 0, begun := 0, critMet := k.2 }) (trains k.1 true none)
       (q0 s).link.phase = k.1 ∧ (q0 s).train.since + 10000000 ≤ s.aon.tally ∧ (q0 s).train.begun + trainingTotal .el50 ≤ s.aon.tally
       ∧ (q0 s).train.critMet = k.2 ∧ exitBeatsLimit (q0 s) = k.2 ∧ autonegAllowed s 0 = true
       ∧ (phaseLimit .el50 true false k.1).isSome = true)
    ∧ (let s := modTrain 0 (fun t => { t with begun := 999999000000, critMet := true }) (trains .e1 true none)
       (q0 s).link.phase ≠ .x ∧ exitBeatsLimit (q0 s) = true ∧ s.aon.tally < (q0 s).train.begun + trainingTotal .el50) := by
  decide +kernel

theorem test_witness_LinkDownAndRelink :
    ((q0 snap).link.up = true ∧ (q0 snap).mc.role = .none
      ∧ (q0 (changing (fun m => { m with role := .requester }) snap)).mc.role ≠ .none ∧ (q0 snap).sieve.disarms = [])
    ∧ (takesEvents snap 2 ∧ (q0 snap).link.mcOwed = none ∧ (q0 snap).link.downTold = false
      ∧ (q0 (modLink 0 (fun l => { l with downTold := true }) snap)).link.downTold = true
      ∧ (q0 (modLink 0 (fun l => { l with mcOwed := some { role := .requester } }) snap)).link.mcOwed = some { role := .requester }
      ∧ ({ role := .requester } : ModeChange).rollEpoch = none)
    ∧ (let s := modLink 0 (fun l => { l with choosing := true, downTold := true }) (trains .q true none)
       (q0 s).link.choosing = true ∧ s.clk.failing = none
       ∧ ({ s with clk := { s.clk with failing := some 2 } } : State).clk.failing.isSome = true
       ∧ portClocked { s with clk := { s.clk with onInput1 := [] } } 0 = false ∧ (q0 s).link.downTold = true)
    ∧ (∀ k ∈ [(DownCause.uncorrectableRun, true, Relink.fast), (.uncorrectableRun, false, .full), (.partnerAutoneg, true, .autoneg)],
       let s := modLink 0 (fun l => { l with choosing := true, downCause := k.1 }) (if k.2.1 then trains .q true none else
         modPort 0 (fun q => { q with store := {} }) (trains .q true none))
       (q0 s).link.choosing = true ∧ s.clk.failing = none ∧ etoonMode (q0 s) = some .el50
       ∧ relinkMode s 0 .el50 = .el50 ∧ (q0 s).link.retrainMode = none ∧ (q0 s).sieve.disarms = [] ∧ portClocked s 0 = true ∧ chooseRelink s 0 = (k.2.2, false)
       ∧ autonegAllowed s 0 = true)
    ∧ (snapshotFor (q0 snap).store .el50).isSome = true := by
  decide +kernel

theorem test_witness_FastRelinkLimits :
    (let s := modTrain 0 (fun t => { t with confirmed := some 600, confirmedAt := 999999000000 }) (trains .f true (some .fast))
     (q0 s).link.up = false ∧ etoonMode (q0 s) = some .el50 ∧ (q0 s).link.phase = .f ∧ (q0 s).train.reloaded = false
     ∧ snapshotFor (q0 s).store .el50 = some { tally := 1 }
     ∧ snapshotFor (q0 (modPort 0 (fun q => { q with store := {} }) s)).store .el50 = none
     ∧ (q0 (modTrain 0 (fun t => { t with reloaded := true }) s)).train.reloaded = true
     ∧ (q0 s).train.confirmed.isSome = true
     ∧ 4 * periodThirds .el50 ≤ 3 * (s.aon.tally - (q0 s).train.confirmedAt) ∧ (-3000 : Int) < -2999
     ∧ episodeOver s 0 = false ∧ (q0 s).link.relink = some .fast ∧ (q0 s).link.cap = none ∧ (q0 s).train.critMet = false
     ∧ (q0 s).train.confirmedAt + 55000 ≤ s.aon.tally)
    ∧ (let s := trains .s true (some .fast)
       (q0 s).link.relink = some .fast ∧ episodeOver s 0 = false ∧ (q0 s).link.phase = .s ∧ (q0 s).train.since + 25000 ≤ s.aon.tally)
    ∧ (∀ r ∈ [Relink.full, .fast], let s := modLink 0 (fun l => { l with episode := some 0 }) (trains .q true (some r))
       (q0 s).link.choosing = false ∧ (q0 s).link.relink = some r ∧ episodeOver s 0 = true
       ∧ autonegAllowed s 0 = true ∧ etoonMode (q0 s) = some .el50 ∧ (q0 s).link.up = false) := by
  decide +kernel

/-- Port 0 asleep. -/
def asleep : State := modLink 0 (fun l => { l with asleep := true }) (trains .asleep false none)

theorem test_witness_SleepAndWake :
    (let s := modLink 0 (fun l => { l with sleepWait := some 990000000000 }) up
     (q0 s).link.sleepWait = some 990000000000 ∧ inStd (q0 s) = false ∧ 990000000000 + 10000000 ≤ s.aon.tally)
    ∧ (let s := modLink 0 (fun l => { l with sleepWait := some 990000000000 }) (upIn (.std .b1g) 0 run)
       (q0 s).link.sleepWait = some 990000000000 ∧ inStd (q0 s) = true ∧ 990000000000 + sleepLimit (q0 s) ≤ s.aon.tally)
    ∧ (let s := modLink 0 (fun l => { l with sleepWait := some 999999999999 }) up
       (q0 s).link.sleepWait = some 999999999999 ∧ s.aon.tally < 999999999999 + 10000000)
    ∧ ((q0 (modLink 0 (fun l => { l with wakePulse := some 999999000001 }) asleep)).link.wakePulse = some 999999000001
      ∧ run.aon.tally < 999999000001 + 1000000)
    ∧ (let s := modLink 0 (fun l => { l with wakePulse := some 999999000000 }) asleep
       bayOpen s 0 = true ∧ (q0 s).link.adminEnabled = true ∧ bayTesting s 0 = false ∧ s.rcp.active.isSome = true
       ∧ portClocked s 0 = true ∧ (q0 s).link.wakePulse = some 999999000000 ∧ 999999000000 + 1000000 ≤ s.aon.tally ∧ (q0 s).link.asleep = true ∧ s.pwr.state = .boil
       ∧ s.pwr.transition = none ∧ s.pwr.passed = false ∧ s.pwr.thermalRest = false) := by
  decide +kernel

/-- Port 0 up in a standard mode. -/
def std : State := upIn (.std .b10g) 0 run

theorem test_witness_StandardModes :
    (inStd (q0 std) = true ∧ (q0 std).link.up = true ∧ inputCut (q0 std) = false ∧ inputCut (q0 (cut std)) = true)
    ∧ (let s := modLink 0 (fun l => { l with up := false, phase := .autoneg }) std
       inStd (q0 s) = true ∧ (q0 s).link.up = false ∧ (q0 s).link.phase = .autoneg ∧ inputCut (q0 s) = false
       ∧ Domain.fab ∈ s.clk.onInput1) := by
  decide +kernel

/-! ## Writes, losses and roll calls -/

theorem test_witness_PortWrites :
    (ownerWrites snap 0 0 = true ∧ unlocked snap 0 0 = true ∧ (q0 snap).link.up = true ∧ (etoonMode (q0 snap)).isSome = true
      ∧ (q0 snap).link.choosing = false ∧ (q0 snap).link.mcStatus ≠ .noSnapshot ∧ (q0 snap).link.linkPolicy.getLsbD 2 = true
      ∧ (q0 snap).link.mode = some (.etoon .el50) ∧ lpiOk snap 0 = true ∧ lpiOk { snap with roll := run.roll } 0 = false
      ∧ snap.cal.run = none)
    ∧ (q0 (upIn (.std .b1g) 0 run)).link.mode = some (.std .b1g)
    ∧ (ownerWrites asleep 0 0 = true ∧ (q0 asleep).link.up = false ∧ (q0 asleep).link.asleep = true)
    ∧ (ownerWrites run 0 0 = true ∧ unlocked run 0 0 = true ∧ (q0 run).link.up = false ∧ (q0 run).link.choosing = false
      ∧ (q0 run).link.asleep = false)
    ∧ ((0x1F07 : BitVec 16) &&& ~~~0x1F07#16 = 0 ∧ snap.roll.status ≠ 1 ∧ (q0 snap).mc.role = .none ∧ EMode.el50 ≠ .el25
      ∧ (q0 snap).link.withdrawn = 0 ∧ mcObstacle snap 0 .el50 .el25 = none ∧ gateOpen snap 0 = true ∧ bayTesting snap 0 = false
      ∧ (2 : Byte).getLsbD 0 = false ∧ (q0 snap).dsp.nearest = 0xFF) := by
  decide +kernel

theorem test_witness_NearestNeighbourFollowsMask :
    ownerWrites joining 0 0 = true ∧ unlocked joining 0 0 = true ∧ (q0 joining).dsp.nearest ≠ 0xFF
    ∧ ((4 : Byte).getLsbD 0 = false ∧ (4 : Byte).getLsbD (q0 joining).dsp.nearest.toNat = false)
    ∧ ((2 : Byte).getLsbD 0 = false ∧ (2 : Byte).getLsbD (q0 joining).dsp.nearest.toNat = true) := by
  decide +kernel

/-- Ports locked by channel 1's ConfigLock. -/
def locked : State := modChan 1 (fun c => { c with configLock := some 0xFF }) up

theorem test_witness_RefusedWritesChangeNothing :
    served { run with gate := {} } 0 = true ∧ served locked 0 = true
    ∧ (∃ o f w, findField (newProfile { run with gate := {} } 0) (splitIndex 0x3030).1 (5 : Byte).toNat = .ok (o, f) ∧ f.w = some w
        ∧ o.index ≠ 0x2005 ∧ holderGate o (splitIndex 0x3030).2 { run with gate := {} } = some abGated)
    ∧ (∃ o f w, findField (newProfile locked 0) (splitIndex 0x3020).1 (1 : Byte).toNat = .ok (o, f) ∧ f.w = some w ∧ o.index ≠ 0x2005
        ∧ holderGate o (splitIndex 0x3020).2 locked = none
        ∧ writeForbidden o f w (splitIndex 0x3020).2 (1 : Byte).toNat (leBytes 2 1518) 0 locked = some abLocked)
    ∧ findField (newProfile run 0) (splitIndex 0x1FFF).1 (0 : Byte).toNat = .error 0x06020000 :=
  ⟨by decide +kernel, by decide +kernel, ⟨_, _, _, rfl, rfl, by decide, by decide +kernel⟩,
    ⟨_, _, _, rfl, rfl, by decide, by decide +kernel, by decide +kernel⟩, rfl⟩

/-- A loss waits at the head of class 2, and the receive ledger holds entry 1. -/
def lossy : State :=
  modPort 0 (fun q => { q with
    rx := q.rx.set 2 { ready := [.loss { cause := .tagError, bytes := 9 }] }
    led := { q.led with
      rx := ledgerPush true 2 { cause := .tagError, bytes := 9 } 5 q.led.rx, select := q.led.select.set 0 0x80000001 } }) up

theorem test_witness_LossLedger :
    ((q0 lossy).rx[(2 : Cls)].ready = .loss { cause := .tagError, bytes := 9 } :: [] ∧ (q0 lossy).rx[(1 : Cls)].ready = [])
    ∧ served lossy 0 = true ∧ gateOpen lossy 0 = true ∧ bayTesting lossy 0 = false
    ∧ selectedEntry lossy 0 ((q0 lossy).led.select.getD 0 1) = some (ledgerNew 1 true 2 { cause := .tagError, bytes := 9 } 5) := by
  decide +kernel

/-- A roll call of a kind with an argument names bays 0 and 1 and is not yet applied. -/
def rollNow (kind arg : Byte) (s : State) : State :=
  { s with roll := { s.roll with order := orderWord 1 kind arg 3 0, epoch := 1, status := 1, bays := List.replicate 8 0x10000 } }

theorem test_witness_RollCalls :
    (served (ses .workshop run) 0 = true ∧ life (ses .workshop run) ≠ .ended ∧ hasSession (ses .workshop run) 0 = true
      ∧ (ses .workshop run).roll.status ≠ 1 ∧ (3 : Byte) ≠ 0 ∧ 1 ≤ ((1 : BitVec 16) - (ses .workshop run).roll.epoch).toNat
      ∧ ((32767 : BitVec 16) - (ses .workshop run).roll.epoch).toNat ≤ 32767 ∧ 1 ≤ (1 : Byte).toNat ∧ (3 : Byte).toNat ≤ 3)
    ∧ (let s := { rollNow 3 0 run with gate := {} }
       rollPending s.roll 0 = true ∧ s.roll.bays.length = 8 ∧ s.heat.orderDue = false ∧ bayInTest s 0 = false ∧ bayOpen s 0 = false) := by
  decide +kernel

theorem test_witness_RollCalls_bays :
    (rollPending (rollNow 3 0 up).roll 0 = true ∧ (rollNow 3 0 up).roll.bays.length = 8 ∧ (rollNow 3 0 up).heat.orderDue = false
      ∧ bayInTest (rollNow 3 0 up) 0 = false ∧ bayOpen (rollNow 3 0 up) 0 = true ∧ orderKind (rollNow 3 0 up).roll.order = 3
      ∧ orderKind (rollNow 4 0 up).roll.order = 4)
    ∧ (rollPending (rollNow 1 0 up).roll 0 = true ∧ orderKind (rollNow 1 0 up).roll.order = 1 ∧ (q0 (rollNow 1 0 up)).link.up = true
      ∧ etoonMode (q0 (rollNow 1 0 up)) = some .el50 ∧ (q0 (rollNow 1 0 up)).mc.role = .none ∧ nextLower .el50 = some .el25
      ∧ mcObstacle (rollNow 1 0 up) 0 .el50 .el25 = none)
    ∧ (rollPending (rollNow 2 2 run).roll 0 = true ∧ bayOpen (rollNow 2 2 run) 0 = true ∧ orderKind (rollNow 2 2 run).roll.order = 2
      ∧ emodeOf (orderArg (rollNow 2 2 run).roll.order) = some .el25 ∧ (q0 (rollNow 2 2 run)).link.up = false) := by
  decide +kernel

/-! ## Sieve, signature and seal -/

/-- Port 0's sieve with kinds in force. -/
def sieving (k : BitVec 8) : State :=
  modPort 0 (fun q => { q with sieve := { q.sieve with live := k, interrupting := k.getLsbD 3, episode := some 999999000000 } }) (ses .workshop up)

theorem test_witness_Sieve :
    (∀ s ∈ [ses .workshop up, ses .maker run], sieveWrites s 0 = true ∧ bayInTest s 0 = false ∧ (q0 s).sieve.disarms = []
      ∧ (q0 s).sieve.arm &&& 0xC0#8 = 0 ∧ ∀ k ∈ List.range 6, (q0 s).sieve.arm.getLsbD k = false)
    ∧ dropArgOk (q0 up).sieve.dropMode (q0 up).sieve.dropArg.toNat = true
    ∧ corruptArgOk (q0 up).sieve.corruptMode (q0 up).sieve.corruptArg.toNat = true ∧ dropArgOk 1 1 = false ∧ corruptArgOk 1 0x0117 = false
    ∧ (sieveWrites (sieving 1) 0 = true ∧ slotsRun (q0 (sieving 1)) = true ∧ (q0 (sieving 1)).sieve.live ≠ 0 ∧ slotsRun (q0 run) = false)
    ∧ ((q0 (sieving 8)).sieve.interrupting = true ∧ (q0 (sieving 8)).sieve.intSince + (q0 (sieving 8)).sieve.iLength ≤ (sieving 8).aon.tally
      ∧ (sieving 8).aon.tally < (q0 (modSieve 0 (fun v => { v with intSince := 999999999999 , iLength := 2 }) (sieving 8))).sieve.intSince + 2)
    ∧ (sieveLive (q0 (sieving 16)) kindHostIn = true ∧ blocksPassed (q0 (sieving 16)) (q0 (sieving 16)).sieve.hInInterval (q0 (sieving 16)).sieve.hostInAt (sieving 16).aon.tally = true)
    ∧ (let s := modHost 0 (fun h => { h with busy := some (.frame 1 [1, 2, 3] false) }) (sieving 32)
       sieveLive (q0 s) kindHostOut = true ∧ blocksPassed (q0 s) (q0 s).sieve.hOutInterval (q0 s).sieve.hostOutAt s.aon.tally = true
       ∧ (q0 s).host.busy = some (.frame 1 [1, 2, 3] false))
    ∧ (let s := modHost 0 (fun h => { h with busy := some (.sealFrame [1]) }) (sieving 32)
       sieveLive (q0 s) kindHostOut = true ∧ (q0 s).host.busy = some (.sealFrame [1]))
    ∧ blocksPassed (q0 run) 1000000 0 0 = false
    ∧ inEpisode run 0 = false ∧ inEpisode (sieving 1) 0 = true := by
  decide +kernel

/-- What a probe of a quiet line meets, its samples left out. -/
def quietLine : ProbeIn := { power := -4501, bursts := [], energy := false }

/-- Port 0 up, compared with a stored LINE reference, after n comparisons over each threshold. -/
def compared (l : SigLevel) (n : Nat) : State :=
  modPort 0 (fun q => { q with
    dsp := { q.dsp with snapSinceUp := true }
    sig := { q.sig with level := l, lineRef := { active := some { mode := 1, last := 1244 } }, anomRun := n, anomSegs := [0], tampRun := n
                        tampSegs := [0] } }) (ses .workshop up)

/-- Copies that hold no wrong bit. -/
def noErrs : RefErrors := { lineActive := [], lineOther := [], probeActive := [], probeOther := [] }

theorem test_witness_SignatureComparisons :
    (let s := modLink 0 (fun l => { l with up := false }) (compared .normal 0)
     let x : RefErrors := { noErrs with lineActive := [3], lineOther := [1, 4] }
     (q0 s).link.up = false ∧ refLost (readRefs x (q0 s).sig).lineRef = true ∧ refLost (readRefs x (q0 s).sig).probeRef = false)
    ∧ (let s := modSig 0 (fun g => { g with skip := true }) (compared .normal 0)
     etoonMode (q0 s) = some .el50 ∧ (q0 s).link.up = true ∧ refOf (readRefs noErrs (q0 s).sig).lineRef = some { mode := 1, last := 1244 }
     ∧ refLost (readRefs noErrs (q0 s).sig).probeRef = false ∧ (q0 s).sig.lineCap = none ∧ windowSkipped (q0 s) = true)
    ∧ (∀ k ∈ [(SigLevel.tamper, 0, (-6000 : Int)), (.normal, 2, 0), (.normal, 2, -1950), (.normal, 0, -1950), (.anomaly, 2, -1950)],
       let s := compared k.1 k.2.1
       etoonMode (q0 s) = some .el50 ∧ (q0 s).link.up = true ∧ refOf (readRefs noErrs (q0 s).sig).lineRef = some { mode := 1, last := 1244 }
       ∧ refLost (readRefs noErrs (q0 s).sig).probeRef = false ∧ (q0 s).sig.lineCap = none ∧ windowSkipped (q0 s) = false
       ∧ (q0 s).sig.level = k.1) := by
  decide +kernel

/-- A pending capture of port 0's slot, asked for by channel 0 at an instant. -/
def capturing (k : RefSlot) (at_ : Nat) : State :=
  modSig 0 (fun g => match k with
    | .line => { g with lineCap := some (0, at_), lineRes := .pending }
    | .probe => { g with probeCap := some (0, at_), probeRes := .pending }) (ses .workshop up)

theorem test_witness_SignatureWrites :
    (let s := ses .workshop up
     sessionWrites s 0 = true ∧ bayTesting s 0 = false ∧ thresholdsOk 0xF448F830 = true ∧ thresholdsOk 0xF448F448 = false ∧ 0 < rebaselinesLeft s
     ∧ (q0 s).sig.lineCap = none ∧ (q0 s).sig.probeCap = none ∧ (q0 s).sig.level ≠ .tamper
     ∧ (let t := { s with fus := { s.fus with rebase := [] } }; sessionWrites t 0 = true ∧ bayTesting t 0 = false ∧ rebaselinesLeft t = 0)
     ∧ sessionWrites (compared .tamper 0) 0 = true ∧ (q0 (compared .tamper 0)).sig.level = .tamper)
    ∧ (∀ k ∈ [RefSlot.line, .probe], captureOf (q0 (capturing k 990000000000)).sig k = some (0, 990000000000)
        ∧ 990000000000 + 10000000000 ≤ (capturing k 990000000000).aon.tally
        ∧ captureOf (q0 (capturing k 990000000001)).sig k = some (0, 990000000001)
        ∧ (capturing k 990000000001).aon.tally < 990000000001 + 10000000000) := by
  decide +kernel

/-- SIMMER, with a PROBE reference on port 0. -/
def simmer : State :=
  modSig 0 (fun g => { g with probeRef := { active := some { slot := .probe, mode := 3, last := 4095 } } })
    { run with pwr := { run.pwr with state := .simmer } }

theorem test_witness_Probes :
    (lineQuiet quietLine = true ∧ quietLine.energy = false ∧ lineQuiet { quietLine with power := -4500 } = false ∧ refLost (q0 run).sig.lineRef = false ∧ refLost (q0 run).sig.probeRef = false)
    ∧ (let s := capturing .probe 990000000001
       s.pwr.state = .boil ∧ (q0 s).sig.probeCap = some (0, 990000000001) ∧ (q0 s).sig.probeRef.active = none)
    ∧ (run.pwr.state = .boil ∧ (q0 run).sig.probesLeft = 0)
    ∧ (let s := modSig 0 (fun g => { g with probesLeft := 2 }) run
       s.pwr.state = .boil ∧ 0 < (q0 s).sig.probesLeft ∧ (q0 s).sig.probeCap = none)
    ∧ (tickDue simmer = true ∧ simmer.pwr.state = .simmer ∧ simmer.pwr.transition = none
       ∧ (∀ f ∈ [fun w : Power => { w with probeEnable := false }, fun w => { w with probeTick := simmerWindow simmer }],
           tickDue { simmer with pwr := f simmer.pwr } = false)
       ∧ nextProbePort simmer simmer.pwr.nextProbe = some 0 ∧ (q0 simmer).sig.probeCap = none ∧ simmer.pwr.thermalRest = false
       ∧ refLost (q0 simmer).sig.lineRef = false ∧ refLost (q0 simmer).sig.probeRef = false) := by
  decide +kernel

/-- Port 0 sealed, its window 1 open since 900 ms ago, ended windows behind it. -/
def sealing (ended : List SealWindow) : State :=
  modSeal 0 (fun q => { q with enable := true, window := some { number := 1, start := 999100000000 }, ended := ended, anchorEnd := some 999000000000 })
    (ses .workshop up)

theorem test_witness_SealChainsAndRoots :
    (ownerWrites up 0 0 = true ∧ unlocked up 0 0 = true ∧ (q0 up).sealing.enable = false ∧ sealUnitOpen up = true
      ∧ (let s := { up with gate := { gates := 0xDFFFF, isOpen := 0xDFFFF } }
         ownerWrites s 0 0 = true ∧ (q0 s).sealing.enable = false ∧ sealUnitOpen s = false))
    ∧ (ownerWrites (sealing []) 0 0 = true ∧ (q0 (sealing [])).sealing.enable = true ∧ hasSession (sealing []) 0 = true
      ∧ (q0 (sealing [])).host.busy = none ∧ (q0 (sealing [])).sealing.window = some { number := 1, start := 999100000000 }
      ∧ 999100000000 + 100 * 1000000 ≤ (sealing []).aon.tally)
    ∧ (let s := modSeal 0 (fun q => { q with enable := true, t0 := some 1000000000000, window := some {} }) up
       (q0 s).sealing.t0 = some 1000000000000 ∧ 1000000000000 ≤ s.aon.tally ∧ (q0 s).sealing.enable = true ∧ sealUnitOpen s = true)
    ∧ (q0 up).sealing.t0 = none
    ∧ (let w : SealWindow := { finish := 999100000000 }
       let s := sealing [w]
       (q0 s).sealing.ended = w :: [] ∧ w.awaiting = false ∧ leavesKnown s 0 w = true ∧ anchorNeeded s 0 w = false
       ∧ leavesKnown { s with hashWork := [{ port := 0, window := 0, len := 64, quarters := 4 }] } 0 w = false)
    ∧ (let w : SealWindow := { finish := 999100000000, chainStart := true }
       let s := sealing [w]
       (q0 s).sealing.ended = w :: [] ∧ w.awaiting = false ∧ leavesKnown s 0 w = true ∧ anchorNeeded s 0 w = true
       ∧ takesEvents s 1) := by
  decide +kernel

/-! ## The host lane -/

/-- A frame is arriving on HRX0, of class 1, with n bytes so far. -/
def arriving (n : Nat) (s : State) : State :=
  modHost 0 (fun h => { h with arriving := some { total := n, bytes := List.replicate n 1, cls := some 1 } }) s

theorem test_witness_HostFramesArrive :
    ((q0 up).host.up = true ∧ (q0 up).host.arriving = none ∧ laneClosing up 0 = false ∧ (q0 run).host.up = false
      ∧ laneClosing { up with gate := { up.gate with pending := 0x100 } } 0 = true)
    ∧ (let s := modHost 0 (fun h => { h with arriving := some {} }) std
       (q0 s).host.arriving = some {} ∧ (0 : Nat) + 9216 ≤ 9216 ∧ inStd (q0 s) = true ∧ laneFec (q0 s).host = true)
    ∧ (let s := modTx 0 1 (fun t => { t with openP := some { bytes := List.replicate 20 1 } }) (arriving 16 up)
       (q0 s).host.arriving = some { total := 16, bytes := List.replicate 16 1, cls := some 1 } ∧ 16 + 235 ≤ 9216 ∧ inStd (q0 s) = false
       ∧ (q0 s).tx[(1 : Cls)].openP = some { bytes := List.replicate 20 1 } ∧ 20 + 235 < 256)
    ∧ ((q0 (arriving 0 up)).host.arriving = some { total := 0, bytes := [], cls := some 1 }) := by
  decide +kernel

/-- A frame of class 1 waits for HTX0. -/
def waiting : State := modRx 0 1 (fun r => { r with ready := [.frame { bytes := List.replicate 64 1 }] }) up

theorem test_witness_HostLane :
    ((q0 waiting).host.up = true ∧ (q0 waiting).host.pendingMode = none ∧ (q0 waiting).host.pfcOwed = [] ∧ (q0 waiting).sealing.notices = []
      ∧ (q0 waiting).sealing.frames = [] ∧ (q0 waiting).sealing.cutDue = false ∧ (q0 waiting).rx[(0 : Cls)].ready = []
      ∧ (q0 waiting).rx[(2 : Cls)].ready = [] ∧ (q0 waiting).rx[(3 : Cls)].ready = []
      ∧ (q0 waiting).rx[(1 : Cls)].ready = [.frame { bytes := List.replicate 64 1 }] ∧ (q0 waiting).host.busy = none
      ∧ (q0 waiting).sieve.hostOutDue = false ∧ laneClosing waiting 0 = false
      ∧ ptpEvent (q0 waiting).ptp.mask (List.replicate 64 1) = none ∧ (q0 waiting).sealing.window = none)
    ∧ (let s := modSeal 0 (fun q => { q with window := some {} }) waiting
       (q0 s).sealing.window = some {} ∧ hashable s 0 64 = true ∧ (q0 s).rx[(1 : Cls)].ready = [.frame { bytes := List.replicate 64 1 }])
    ∧ (let s := modHost 0 (fun h => { h with busy := some (.frame 1 [1] false) }) up
       (q0 s).rx[(1 : Cls)].ready = [] ∧ (q0 s).host.busy = some (.frame 1 [1] false))
    ∧ (let s := modHost 0 (fun h => { h with active := some .r50 }) run
       laneGateOpen s 0 = true ∧ (q0 s).host.up = false ∧ (q0 s).host.active.isSome = true ∧ s.pwr.passed = false)
    ∧ ((q0 up).host.up = true ∧ (q0 up).host.arriving = none ∧ (q0 up).host.active ≠ some .x1000)
    ∧ (modHost 0 (fun h => { h with rxLpi := true }) up).ports[(0 : PortId)].host.rxLpi = true
    ∧ (let s := modPort 0 (fun q => { q with
          host := { q.host with paused := [true, false] }, cfg := { q.cfg with pfcEnable := 1, pfcSource := 1, pfcXon := 0 }
          tx := q.tx.set 2 { openP := some {} } }) (upIn (.etoon .el25) 0 up)
       pfcIndex 2 = some 0 ∧ (q0 s).host.paused.getD 0 false = true ∧ pfcAllowed (q0 s) 0 = true
       ∧ (q0 s).cfg.pfcXon < occupancy (q0 s).tx[(2 : Cls)]
       ∧ halfPause (q0 s) ≤ 100 * (s.aon.tally - (q0 s).host.pausedAt.getD 0 0)
       ∧ (q0 s).host.begunAt + 1000 * (q0 s).host.idleTime ≤ s.aon.tally
       ∧ s.aon.tally < (q0 (modHost 0 (fun h => { h with begunAt := 1000000000000, idleTime := 1 }) s)).host.begunAt + 1000 * 1) := by
  decide +kernel

/-! ## The dictionary server -/

/-- Channel 0 with a transfer open. -/
def xfer (x : Xfer) (s : State) : State := modChan 0 (fun c => { c with xfer := x, profile := 0x0101, heardAt := 999000000000 }) s

/-- The request carried out. -/
def done {ε α : Type} (e : Except ε α) : Bool := match e with | .ok _ => true | .error _ => false

theorem test_witness_ExpeditedTransfers :
    (served up 0 = true ∧ inTime up 0 = true ∧ inBlock up.chans[(0 : Chan)].xfer = false ∧ 1 ≤ ([100, 0] : List Byte).length ∧ ([100, 0] : List Byte).length ≤ 4)
    ∧ (dictWrite 0 0x1017 0 [100, 0] (requested 0 (framed 0 up))).toOption.map (fun t => decide (t.clk.pending.length ≤ up.clk.pending.length)) = some true
    ∧ (dictWrite 0 0x2101 1 [0] (requested 0 (framed 0 up))).toOption.map (fun t => t.clk.pending) = some (up.clk.pending ++ [(.ctl, false)])
    ∧ done (dictWrite 0 0x1017 0 [5, 0] (requested 0 (framed 0 up))) = false
    ∧ (dictRead 0 0x1017 0 (requested 0 (framed 0 up))).toOption.map (fun r => r.1.length) = some 2
    ∧ (dictRead 0 0x3000 7 (requested 0 (framed 0 up))).toOption.map (fun r => decide (4 < r.1.length)) = some true
    ∧ done (dictRead 0 0x1FFF 0 (requested 0 (framed 0 up))) = false := by
  decide +kernel

theorem test_witness_SegmentedAndBlockTransfers :
    (served up 0 = true ∧ inTime up 0 = true ∧ inBlock up.chans[(0 : Chan)].xfer = false ∧ 40 < 2 ^ 32 ∧ tooShort up 0 0x3000 7 = false)
    ∧ (let s := xfer (.segDown 0x3000 7 (some 40) (List.replicate 33 0) false) up
       served s 0 = true ∧ inTime s 0 = true ∧ s.chans[(0 : Chan)].xfer = .segDown 0x3000 7 (some 40) (List.replicate 33 0) false
       ∧ 40 = (List.replicate 33 (0 : Byte)).length + 7
       ∧ (dictWrite 0 0x3000 7 (List.replicate 33 0 ++ List.replicate 7 0) (setXfer 0 .none (framed 0 s))).toOption.map
           (fun t => decide (t.clk.pending.length ≤ s.clk.pending.length)) = some true)
    ∧ (7 < (List.replicate 8 (0 : Byte)).length ∧ (List.replicate 7 (0 : Byte)).length ≤ 7
        ∧ (xfer (.segUp 0x3000 7 (List.replicate 8 0) true) up).chans[(0 : Chan)].xfer = .segUp 0x3000 7 (List.replicate 8 0) true)
    ∧ ((xfer (.blkDown 0x3000 7 none true [] 126 false) up).chans[(0 : Chan)].xfer = .blkDown 0x3000 7 none true [] 126 false
        ∧ (List.replicate 7 (0 : Byte)).length = 7 ∧ 1 ≤ 126 ∧ 126 < 127)
    ∧ ((dictRead 0 0x3000 7 (requested 0 (framed 0 up))).toOption.map (fun r => decide (0 < r.1.length) && !tooShort r.2 0 0x3000 7) = some true)
    ∧ ((xfer (.blkUp 0x3000 7 [1, 2, 3] 0 127 false 0 true) up).chans[(0 : Chan)].xfer = .blkUp 0x3000 7 [1, 2, 3] 0 127 false 0 true)
    ∧ (let s := xfer (.segUp 0x3000 7 [1] false) up
       xferTarget s.chans[(0 : Chan)].xfer = some (0x3000, 7) ∧ s.chans[(0 : Chan)].heardAt + 1000000000 ≤ s.aon.tally
       ∧ up.chans[(0 : Chan)].xfer = .none ∧ up.chans[(0 : Chan)].heardAt + 1000000000 ≤ up.aon.tally)
    ∧ (let s := modChan 0 (fun c => { c with heardAt := 999000000001 }) (xfer (.segUp 0x3000 7 [1] false) up)
       served s 0 = true ∧ inTime s 0 = true ∧ s.aon.tally < s.chans[(0 : Chan)].heardAt + 1000000000) := by
  decide +kernel

theorem test_witness_WideTransfers :
    (let s := xfer (.wideDown 0x3000 7 200 [1] false) up
     served s 0 = true ∧ inTime s 0 = true ∧ newProfile s 0 = true ∧ s.chans[(0 : Chan)].xfer = .wideDown 0x3000 7 200 [1] false ∧ 1 + 63 < 200
     ∧ (List.replicate 56 (0 : Byte)).length = 56 ∧ (List.replicate 63 (0 : Byte)).length = 63 ∧ 56 < 57 ∧ 1048576 ≤ 1048576)
    ∧ (let s := xfer .none up
       inTime s 0 = true ∧ (dictWrite 0 0x1017 0 ((List.replicate 56 100).take 2) (requested 0 (framed 0 s))).toOption.map
         (fun t => decide (t.clk.pending.length ≤ s.clk.pending.length)) = some true)
    ∧ (let s := xfer .none (ses .maker up)
       newProfile s 0 = true ∧ (dictRead 0 0x3030 8 (requested 0 (framed 0 s))).toOption.map (fun r => decide (56 < r.1.length)) = some true)
    ∧ (let s := xfer (.wideUp 0x3000 7 (List.replicate 64 1) none) up
       s.chans[(0 : Chan)].xfer = .wideUp 0x3000 7 (List.replicate 64 1) none ∧ 63 < (List.replicate 64 (1 : Byte)).length
       ∧ (List.replicate 63 (1 : Byte)).length ≤ 63) := by
  decide +kernel

theorem test_witness_DictionaryClassWrites :
    served up 0 = true ∧ ownsAny up 0 = true ∧ (0 : BitVec 16).toNat = 0 ∧ 10 ≤ (10 : BitVec 16).toNat
    ∧ ownerWrites up 0 0 = true ∧ unlocked up 0 0 = true ∧ 64 ≤ (64 : BitVec 16).toNat ∧ (16000 : BitVec 16).toNat ≤ 16000
    ∧ (q0 up).link.counters.length = 10 := by
  decide +kernel

/-- A device with posted writes that wait. -/
def posted (l : List Posted) : State := { run with aon := { run.aon with posted := l } }

theorem test_witness_PostedWrites :
    (served run 0 = true ∧ life run ≠ .ended ∧ ownsAny run 0 = true ∧ run.chans[(0 : Chan)].busy = false
      ∧ (modChan 0 (fun c => { c with busy := true }) run).chans[(0 : Chan)].busy = true
      ∧ hasSession run 0 = false ∧ (maskPorts ((0xFE : Byte) ^^^ maskPending run)).all (owns run 0) = true
      ∧ (let s := sealedBound { run with can := { run.can with owners := 1 } }
         served s 0 = true ∧ life s ≠ .ended ∧ hasSession s 0 = false ∧ s.chans[(0 : Chan)].busy = false ∧ ownsAny s 0 = true ∧ (maskPorts ((0xFE : Byte) ^^^ maskPending s)).all (owns s 0) = false))
    ∧ ((2000000000 : BitVec 64).toInt ≠ 0 ∧ (2000000001 : BitVec 64).toInt ≠ 0 ∧ 0 ≤ civilAhead run ∧ civilAhead run + 2000000001 < 2 ^ 64
      ∧ 0 ≤ civilAhead run + (-1500000000 : BitVec 64).toInt)
    ∧ hasSession (ses .maker run) 0 = true ∧ hasSession run 0 = false
    ∧ stepNeed (2000000000 : BitVec 64).toInt ≤ run.aon.allowanceHeld ∧ run.aon.allowanceHeld < stepNeed (2000000001 : BitVec 64).toInt
    ∧ ((posted [.retention 0 1]).pwr.on = true ∧ (posted [.retention 0 1]).aon.posted = .retention 0 1 :: [])
    ∧ (posted [.civil 0 1 5]).aon.posted = .civil 0 1 5 :: [] ∧ run.aon.posted = [] ∧ takesEvents run 1 := by
  decide +kernel

/-- New bit rates taken up at an instant. -/
def newRates (since : Nat) : State := { run with can := { run.can with ratesSince := some since, errorPassive := true, inUse := (250, 2000) } }

theorem test_witness_CanSettings :
    (sessionWrites (ses .workshop run) 0 = true ∧ (1000 : BitVec 16).toNat ∈ [125, 250, 500, 1000] ∧ 1000 ≤ (ses .workshop run).can.dataRate
      ∧ (500 : BitVec 16).toNat ∈ [500, 1000, 2000, 4000, 5000] ∧ (ses .workshop run).can.arbRate ≤ 500)
    ∧ (cobOk (2 * 0 + 0) (0x680 : BitVec 32).toNat (ses .workshop run) = true ∧ cobOk (2 * 2 + 1) (0x80000000 : BitVec 32).toNat (ses .workshop run) = true)
    ∧ (let s := modChan 0 (fun c => { c with profile := 0x0101 }) run
       served s 0 = true ∧ life s ≠ .ended ∧ s.chans[(0 : Chan)].profile = 0x0101 ∧ ownsAny s 0 = true ∧ (∀ p : PortId, owns s 0 p = true)
       ∧ s.chans[(0 : Chan)].configLock = none)
    ∧ locked.chans[(1 : Chan)].configLock = some 0xFF
    ∧ ((newRates 999000000000).can.ratesSince = some 999000000000 ∧ (newRates 999000000000).aon.tally < 999000000000 + 2000000000
        ∧ (newRates 999000000000).can.errorPassive = true ∧ (newRates 999000000000).can.goodFrame = false)
    ∧ (998000000000 + 2000000000 ≤ (newRates 998000000000).aon.tally) := by
  decide +kernel

/-! ## Sessions and the CAN stack -/

/-- An answer to the nonce of sixteen zero bytes on channel 0 of node 0x47, signed outside the model: the anchor key is 2, the session
key 3, valid for every serial number until 10^9 s. -/
def answer : List Byte := beBytes 272
  0x010100007cf27b188d034f7e8a52380304b51ac3c08969e277f21b35a60b48fc4766997807775510db8ed040293d9ac69f7430dbba7dade63ce982299e04b79d227873d15ecbe4d1a6330a44c8f7ef951d4bf165e6c6b721efada985fb41661bc6e7fd6c8734640c4998ff7e374b06ce1a64a2ecd82ab036384fb83d9a79b127a27d5032000000003b9aca000000000051590b7a515140d2d784c85608668fdfef8c82fd1f5be52421554a0dc3d033ed1754d43f338b32f42ff917653f6981b47cd3f41c369a3c2ffd820fb88a79b5058e533b6fa0bf7b4625bb30667c01fb607ef9f8b8a80fef5b300628703187b2a3045a093fd60873fac0e1fe6065d19f3cc275a87378a953288d6be10d25658e6b

/-- The hash of that anchor. -/
def anchor : List Byte := beBytes 32 0xd07aeb134840b15242e12d4a06ce3ab493cbd020ebc3bd5aaecd822f51e0c3d8

/-- A device that waits for the answer. -/
def asked : State :=
  modChan 0 (fun c => { c with nonce := some (List.replicate 16 0, 1000000000001) }) { run with fus := { run.fus with workshopHash := some anchor } }

/-- R299 to R301: a signed answer passes every check; the same answer to another nonce fails check 5. -/
theorem test_answer_verifies : authCheck asked 0 answer = none := by decide +kernel

theorem test_answer_to_another_nonce_fails :
    authCheck (modChan 0 (fun c => { c with nonce := some (List.replicate 16 1, 1000000000001) }) asked) 0 answer = some 5 := by decide +kernel

theorem test_witness_SessionsOpenAndEnd :
    (served asked 0 = true ∧ asked.aon.lockout ≤ asked.aon.tally
      ∧ ({ asked with aon := { asked.aon with lockout := 1000000000001 } } : State).aon.tally < 1000000000001)
    ∧ (answer.length = 272 ∧ authLifeDenied asked (answer.getD 1 0).toNat = false ∧ asked.chans[(0 : Chan)].session = none
      ∧ asked.aon.authRun ≠ 4 ∧ ({ asked with aon := { asked.aon with authRun := 4 } } : State).aon.authRun = 4)
    ∧ asked.chans[(0 : Chan)].nonce = some (List.replicate 16 0, 1000000000001)
    ∧ (let s := { sieving 1 with sieveHolder := some 0, cal := { run.cal with run := some { kind := .levels, ch := 0, started := 0, since := 0 } } }
       s.chans[(0 : Chan)].session = some { role := .workshop, expiry := 1000000001000, keyId := [1, 2, 3, 4] } ∧ served s 0 = true
       ∧ s.aon.tally < 1000000001000 ∧ s.sieveHolder = some 0 ∧ (q0 s).sieve.live ≠ 0
       ∧ s.cal.run = some { kind := .levels, ch := 0, started := 0, since := 0 }
       ∧ 1000000001000 ≤ ({ s with aon := { s.aon with tally := 1000000001000 } } : State).aon.tally)
    ∧ (∀ r ∈ [Role.workshop, .maker], served (sealedUnbound (ses r run)) 0 = true ∧ hasSession (sealedUnbound (ses r run)) 0 = true
        ∧ life (sealedUnbound (ses r run)) = .sealedUnbound ∧ life (sealedBound (ses r run)) = .sealedBound
        ∧ ∃ c ∈ (sealedUnbound (ses r run)).fus.bound, c.st = .fresh ∧ c.good = true)
    ∧ (∀ c ∈ (List.replicate 4 { good := false } : List Cell), c.st = .fresh → c.good = false) := by
  decide +kernel

/-- EMCY messages wait, k of them dropped before. -/
def emcies (k : Nat) : State :=
  { run with can := { run.can with emcy := [{ code := 0xFF00, err := 1, mask := 1, info := 7 }], dropped := k } }

theorem test_witness_NmtAndCan :
    run.can.nmt ≠ .initialising ∧ busDriven run = true ∧ busDriven { run with pwr := { run.pwr with inReset := true } } = false ∧ (0x47 : Byte) = run.can.node ∧ run.can.nmt ≠ .operational
    ∧ run.can.nmt = .preOperational ∧ takesEvents run 1 ∧ run.can.heartbeat ≠ 0
    ∧ (emcies 0).can.emcy = { code := 0xFF00, err := 1, mask := 1, info := 7 } :: [] ∧ (emcies 0).can.dropped = 0 ∧ 0 < (emcies 3).can.dropped := by
  decide +kernel

/-! ## Gates, reset and the recorder -/

theorem test_witness_GatesAndReset :
    (served run 0 = true ∧ life run ≠ .ended ∧ (0xFFFFF : BitVec 32).toNat < 2 ^ 20 ∧ ownsAny run 0 = true ∧ ownsAll run 0 = true
      ∧ (∀ g ∈ gateBits 0xFFFFF, mayGate run 0 g = true) ∧ clearsLocked 0xFFFFF run = false ∧ sealHeldOpen run = false
      ∧ (∀ p : PortId, bayInTest run p = false ∧ run.gate.isOpen.getLsbD (8 + p.val) = true) ∧ run.bist.results.length = 8
      ∧ (let s := { run with gate := { gates := 0xFFFFF } }
         served s 0 = true ∧ (∀ g ∈ gateBits 0x100, mayGate s 0 g = true) ∧ clearsLocked 0x100 s = false ∧ s.gate.isOpen.getLsbD 8 = false))
    ∧ (let s := sealedBound (sealing [])
       served s 0 = true ∧ hasSession s 0 = true ∧ (0x20000 : BitVec 32).getLsbD 17 = true ∧ sealHeldOpen s = true)
    ∧ (let s := { run with gate := { gates := 0xFFFFF } }
       ∀ g : GateId, s.gate.gates.getLsbD g.val = true ∧ s.gate.isOpen.getLsbD g.val = false ∧ gateReady s g.val = true)
    ∧ (let s := { run with gate := { isOpen := 0xFFFFF, pending := 0xFFFFF } }
       ∀ g : GateId, s.gate.pending.getLsbD g.val = true ∧ closeReady s g.val = true) := by
  decide +kernel

/-- One record held. -/
def oneRec : State := { run with crock := { run.crock with recs := [{ slot := 0, seq := 1, sev := 3, bytes := List.replicate 64 0 }], newest := 1 } }

theorem test_witness_RecorderReads :
    (served (ses .maker oneRec) 0 = true ∧ (ses .maker oneRec).chans[(0 : Chan)].profile = 0x0101 ∧ (ses .maker oneRec).crock.started = true
      ∧ recordsFrom (recordsSeen (ses .maker oneRec)) (ses .maker oneRec).chans[(0 : Chan)].recordSelect.toNat ≠ []
      ∧ recordsFrom (recordsSeen (ses .maker run)) (ses .maker run).chans[(0 : Chan)].recordSelect.toNat = []
      ∧ life (ses .maker oneRec) = .manufacture ∧ hasMaker (ses .maker oneRec) 0 = true ∧ oneRec.aon.witnessLost = none
      ∧ (∀ p : PortId, ∀ w ∈ (ses .maker oneRec).ports[p].sealing.ended, w.awaiting = false))
    ∧ (let s := { oneRec with crock := { oneRec.crock with started := false } }
       served s 0 = true ∧ s.crock.started = false) := by
  decide +kernel

/-- One event waits to be committed, in a crock whose slot 0 is bad or good. -/
def oneEvent (bad : Bool) : State :=
  let t := raise (bayEv 0 0x0001 1 [0, 1, 1]) run
  { t with env := { t.env with badMram := if bad then [(0, .readBack)] else [] } }

theorem test_witness_RecorderCommits :
    (running run = true ∧ takesEvents run [bayEv 0 0x0001 1 [0, 1, 1]].length
      ∧ run.crock.queue = [] ∧ run.crock.owed = [] ∧ run.crock.scanning = false)
    ∧ (let s := oneEvent false
       s.crock.scanning = false ∧ s.pwr.state = .boil ∧ s.aon.witnessLost = none ∧ s.crock.owed = [] ∧ s.crock.queue.length = 1
       ∧ placeSlot (crockRead s.env s.crock) 1 = some 0 ∧ slotFails s.env 0 = none ∧ (∀ n ∈ s.crock.droppedQ, n = 0) ∧ anchorPort (bayEv 0 0x0001 1 [0, 1, 1]) = none)
    ∧ (let s := oneEvent true
       slotFails s.env 0 = some .readBack ∧ s.crock.bad.length < 4096 ∧ s.crock.failRun < 7
       ∧ placeSlot (crockRead s.env s.crock) 1 = some 0 ∧ ∀ n ∈ s.crock.droppedQ, n = 0)
    ∧ (let s := { run with aon := { run.aon with witnessLost := some 5, lastAttempt := 990000000000 } }
       s.aon.witnessLost = some 5 ∧ s.crock.scanning = false ∧ s.aon.lastAttempt + 10000000000 ≤ s.aon.tally
       ∧ placeSlot (crockRead s.env s.crock) 7 = some 0 ∧ slotFails s.env 0 = none
       ∧ s.aon.tally < ({ s with aon := { s.aon with lastAttempt := 990000000001 } } : State).aon.lastAttempt + 10000000000)
    ∧ (State.reset.crock.scanning = true ∧ deviceHeld State.reset = false ∧ State.reset.aon.witnessLost = none
       ∧ State.reset.env.badMram = [] ∧ State.reset.env.badRead = [] ∧ deviceHeld { run with pwr := { run.pwr with inReset := true } } = true
       ∧ (placeSlot State.reset.crock (startEvent State.reset false).ev.sev.val).isSome = true) := by
  decide +kernel

/-! ## Clocks, power and heat -/

/-- The clock network changed. -/
def clocked (f : Clocks → Clocks) (s : State) : State := { s with clk := f s.clk }

theorem test_witness_ClockNetwork :
    (running State.reset = true ∧ State.reset.clk.ref = .starting ∧ State.reset.clk.recovering = false ∧ State.reset.clk.slowSource = 1
      ∧ State.reset.clk.armed = false ∧ State.reset.can.nmt = .initialising ∧ State.reset.pwr.transition = none
      ∧ deviceHeld State.reset = false ∧ busDriven State.reset = true)
    ∧ ((∀ b : Bool, let s := clocked (fun k => { k with pll := .starting, recovering := b }) State.reset
          let t := clocked (fun k => { k with ref := .running }) s
          deviceHeld t = false ∧ t.clk.ref = .running ∧ t.clk.pll = .starting ∧ t.clk.recovering = b ∧ t.can.nmt = .initialising
          ∧ t.pwr.transition = none ∧ busDriven t = true ∧ wantsInput1 t.clk .eng = true)
      ∧ (clocked (fun k => { k with ref := .failed }) run).clk.ref = .failed)
    ∧ (run.clk.armed = true ∧ run.clk.ref = .running ∧ run.clk.pll ≠ .off ∧ run.clk.pll = .running ∧ run.clk.hostPll.getD 0 .off = .running
      ∧ Domain.ctl ∈ run.clk.onInput1 ∧ (∀ d ∈ [Domain.ctl, .eng, .fab, .slow], d ∈ run.clk.onInput1) ∧ inStd (q0 std) = true
      ∧ run.clk.failing = none ∧ run.clk.pending = [] ∧ domainStopped run .eng = false)
    ∧ (let s := clocked (fun k => { k with pending := [(.eng, false), (.ctl, true)] }) up
       s.clk.pending.find? (fun x => decide (x.1 = .eng)) = some (.eng, false)
       ∧ s.clk.pending.find? (fun x => decide (x.1 = .ctl)) = some (.ctl, true) ∧ (Domain.eng, false) ∈ s.clk.pending
       ∧ switchCompletes s (.eng, false) = true ∧ switchCompletes s (.ctl, true) = true
       ∧ switchCompletes (clocked (fun k => { k with retrim := true, rc := .starting }) s) (.eng, false) = false
       ∧ (etoonMode (q0 s)).isSome = true ∧ s.clk.retrim = false
       ∧ (clocked (fun k => { k with retrim := true }) s).clk.retrim = true)
    ∧ (let s := clocked (fun k => { k with onInput1 := [] }) run
       Domain.ctl ∉ s.clk.onInput1 ∧ (∀ x ∈ s.clk.pending, x.1 ≠ .ctl) ∧ wantsInput1 s.clk .ctl = true ∧ input1Runs s.clk .ctl = true) := by
  decide +kernel

theorem test_witness_ClockSettings :
    (served run 0 = true ∧ ownsAny run 0 = true ∧ life run ≠ .ended ∧ run.clk.ctlSource ≠ 0 ∧ run.clk.slowSource ≠ 0 ∧ run.clk.rc = .running
      ∧ run.clk.pll = .running ∧ run.clk.ref = .running ∧ (∀ x ∈ run.clk.pending, x.1 ≠ .ctl ∧ x.1 ≠ .slow))
    ∧ ((clocked (fun k => { k with pll := .failed, ctlSource := 0 }) run).clk.ctlSource ≠ 1
      ∧ served (clocked (fun k => { k with pll := .failed, ctlSource := 0 }) run) 0 = true)
    ∧ (clkOutOk (0x03 : Byte).toNat run.clk.clkDivide = true ∧ clkOutOk run.clk.clkSelect.toNat (4096 : BitVec 16).toNat = true
      ∧ clkOutOk (0x13 : Byte).toNat run.clk.clkDivide = false) := by
  decide +kernel

/-- A transition under way. -/
def turning (t : PState) (passed : Bool) : State := { run with pwr := { run.pwr with transition := some t, passed := passed, askedBy := some 0 } }

theorem test_witness_PowerStates :
    (served run 0 = true ∧ ownsAll run 0 = true ∧ run.pwr.transition = none ∧ refusing run = []
      ∧ refusing (modChan 2 (fun c => { c with keepAwake := 1 }) run) = (2, 3) :: [] ∧ (turning .simmer false).pwr.transition ≠ none)
    ∧ ((turning .simmer false).pwr.transition = some .simmer ∧ PState.simmer ≠ .boil ∧ (turning .simmer false).pwr.passed = false
      ∧ pointReached (turning .simmer false) = true ∧ takesEvents (turning .simmer false) 1
      ∧ busDriven (turning .rest true) = true ∧ (turning .rest true).pwr.latched = false ∧ (turning .rest true).pwr.passed = true ∧ (turning .rest true).crock.queue = [] ∧ (turning .rest true).crock.owed = [])
    ∧ pointReached (modChan 2 (fun c => { c with keepAwake := 1 }) (turning .rest false)) = false
    ∧ (oneEvent false).crock.queue ≠ []
    ∧ (simmer.pwr.state ≠ .boil ∧ simmer.pwr.transition = none ∧ simmer.pwr.state = .simmer)
    ∧ (let s := { turning .boil false with pwr := { (turning .boil false).pwr with state := .rest } }
       s.pwr.transition = some .boil ∧ s.pwr.state ≠ .boil ∧ s.clk.pll = .running ∧ deviceHeld s = false ∧ s.can.arbRate ≤ 500
       ∧ s.can.dataRate ≤ 2000)
    ∧ ((turning .boil false).pwr.state = .boil ∧ (turning .boil false).pwr.transition = some .boil) := by
  decide +kernel

theorem test_witness_ResetsAndSupply :
    ((let s : State := { run with pwr := { run.pwr with on := false, vinUp := false } }
      s.pwr.on = false ∧ s.pwr.vinUp = false) ∧ run.pwr.on = true ∧ running run = true)
    ∧ (∀ b : Bool, let s : State := { run with pwr := { run.pwr with inReset := true, on := b } }
       s.pwr.inReset = true ∧ s.pwr.on = b ∧ s.pwr.vinUp = true)
    ∧ (sealedUnbound run).fus.sealed.getD 0 {} ≠ {} ∧ ((sealedUnbound run).fus.sealed.getD 0 {}).st ≠ .fresh
    ∧ (let s := { run with bist := { run.bist with checking := true } }
       running s = true ∧ s.bist.checking = true ∧ s.crock.scanning = false ∧ s.pwr.thermalRest = false ∧ takesEvents s 1
       ∧ ({ s with pwr := { s.pwr with thermalRest := true } } : State).pwr.thermalRest = true) := by
  decide +kernel

/-- Stage 1, the highest reading 120 °C now and a reading one second ago. -/
def warmed (ago : Int) : State := { run with heat := { run.heat with stage := 1, sensors := List.replicate 9 12000, lastSecond := ago } }

theorem test_witness_HeatFollowsReadings :
    ((List.replicate 9 (12000 : Int)).length = 9 ∧ run.pwr.on = true ∧ running run = true ∧ run.pwr.state = .boil ∧ controlPowered run = true
      ∧ (let s := { turning .boil false with pwr := { (turning .boil false).pwr with state := .simmer } }
         running s = true ∧ controlPowered s = true ∧ s.pwr.state ≠ .boil))
    ∧ ((warmed 11975).heat.stage = 1 ∧ (warmed 11975).pwr.state = .boil ∧ (warmed 11975).pwr.transition = none
      ∧ (warmed 11975).heat.lastSecond + 25 ≤ (highest (warmed 11975).heat).2 ∧ (highest (warmed 11976).heat).2 < (warmed 11976).heat.lastSecond + 25
      ∧ (warmed 11975).roll.status ≠ 1 ∧ (warmed 11975).gate.isOpen.toNat % 256 ≠ 0 ∧ (rollNow 3 0 run).roll.status = 1)
    ∧ run.heat.stage = 0 ∧ run.pwr.shutdown = false ∧ (13500 : Int) ≤ 13500 ∧ (13499 : Int) < 13500
    ∧ (let s := { run with pwr := { run.pwr with shutdown := true }, heat := { run.heat with coolSince := some 999900000000 } }
       s.pwr.shutdown = true ∧ s.pwr.inReset = false ∧ s.pwr.on = true ∧ cooledDown s = true ∧ cooledDown run = false) := by
  decide +kernel

/-! ## Life cycle, calibration, self-test, recipes and test access -/

/-- Both hashes burned. -/
def hashed (s : State) : State := { s with fus := { s.fus with makerHash := some anchor, workshopHash := some anchor } }

theorem test_witness_LifeCycleTransitions :
    (sessionWrites (ses .maker run) 0 = true ∧ life (ses .maker run) = .manufacture ∧ sealConditions (ses .maker run) = false
      ∧ sealConditions (hashed (ses .maker run)) = true ∧ sessionWrites (hashed (ses .maker run)) 0 = true
      ∧ (∃ c ∈ run.fus.sealed, c.st = .fresh ∧ c.good = true) ∧ (∃ c ∈ run.fus.returned, c.st = .fresh ∧ c.good = true)
      ∧ (∃ c ∈ run.fus.ended, c.st = .fresh ∧ c.good = true) ∧ portGatesClosed run = false
      ∧ portGatesClosed { run with gate := {} } = true ∧ 1 ≤ ([1] : List Byte).length ∧ (List.replicate 512 (0 : Byte)).length ≤ 512)
    ∧ (let s := sealedBound (ses .workshop { run with life := { token := some [1] } })
       sessionWrites s 0 = true ∧ life s = .sealedBound ∧ hasWorkshop s 0 = true ∧ s.life.token = some [1] ∧ s.crock.started = true
       ∧ activeLevel s.rcp ≤ s.fus.rollback.length ∧ s.crock.startCommitted = false
       ∧ ({ s with crock := { s.crock with startCommitted := true } } : State).crock.startCommitted = true)
    ∧ (run.pwr.on = true ∧ life run = .manufacture)
    ∧ (let c : Cell := { st := .unverified }
       let s := { run with fus := { run.fus with sealed := c :: List.replicate 3 {} } }
       s.pwr.on = true ∧ life s = .manufacture ∧ life { s with fus := { s.fus with sealed := s.fus.sealed.map verifyCell } } = .sealedUnbound) := by
  decide +kernel

/-- A calibration run of a kind, its first measurement taken. -/
def measuring (k : CalKind) (f : Option (Int × Nat)) (since : Nat) (s : State) : State :=
  { s with cal := { s.cal with run := some { kind := k, ch := 0, started := 985000000000, first := f, since := since } }
           env := { s.env with refin := 10000000000 } }

theorem test_witness_CalibrationRuns :
    (let s := { ses .workshop run with env := { run.env with refin := 10000000000 } }
     sessionWrites s 0 = true ∧ calCheck .timebase s = none ∧ calCheck .levels s = some abGeneral)
    ∧ (let s := measuring .timebase none 985000000000 run
       s.cal.run = some { kind := .timebase, ch := 0, started := 985000000000, since := 985000000000 }
       ∧ calReady { kind := .timebase, ch := 0, started := 985000000000, since := 985000000000 } s = true
       ∧ calResult .timebase (.refCount 100000000100) s = some (-1) ∧ calResult .timebase (.amplitude 1) s = none
       ∧ calExpired s = true ∧ calExpired run = false
       ∧ calQuiet .levels { s with env := { s.env with linePower := List.replicate 8 0 } } = false ∧ calQuiet .levels s = true)
    ∧ (let r : CalRun := { kind := .timebase, ch := 0, started := 985000000000, first := some (-51, 998000000000), since := 999000000000 }
       let s := measuring .timebase (some (-51, 998000000000)) 999000000000 run
       s.cal.run = some r ∧ r.first = some (-51, 998000000000) ∧ calReady r s = true ∧ calAgrees .timebase (-51) (-1) = true
       ∧ calAgrees .timebase (-52) (-1) = false ∧ life s = .manufacture ∧ calExpired s = false
       ∧ s.aon.tally < (measuring .timebase none 1000000000001 run).cal.run.elim 0 CalRun.since)
    ∧ (let s := sealedUnbound (measuring .timebase (some (-51, 998000000000)) 999000000000 run)
       life s ≠ .manufacture ∧ s.fus.calib = {} :: List.replicate 31 {} ∧ ({} : CalSlot).cell.st = .fresh ∧ ({} : CalSlot).cell.good = true) := by
  decide +kernel

/-- Self-test objects set for bays 0 and 2, whose ports are disabled. -/
def testing : State :=
  modLink 2 (fun l => { l with adminEnabled := false }) (modLink 0 (fun l => { l with adminEnabled := false })
    { ses .workshop run with bist := { run.bist with mask := 5 } })

theorem test_witness_SelfTestRecipesAndTap :
    (sessionWrites testing 0 = true ∧ gateOpen testing 19 = true ∧ testing.bist.results.length = 8 ∧ selfTestCheck testing = none
      ∧ selfTestCheck { testing with bist := run.bist } = some 0x06090030 ∧ testing.bist.mask.getLsbD 2 = true
      ∧ testing.bist.mask.getLsbD 1 = false ∧ testing.bist.results.getD 1 .none ≠ .waiting)
    ∧ (let s := { testing with bist := { testing.bist with results := [.running, .none, .none, .none, .none, .none, .none, .none] } }
       bayTesting s 0 = true ∧ bayTesting s 1 = false
       ∧ ∀ q : PortId, q ≠ 0 → s.bist.results.getD q.val .none ≠ .running ∧ s.bist.results.getD q.val .none ≠ .waiting)
    ∧ (sessionWrites (ses .maker run) 0 = true ∧ 1 ≤ ([0] : List Byte).length)
    ∧ (run.env.trstLow = false ∧ ({ run with env := { run.env with trstLow := true } } : State).env.trstLow = true)
    ∧ (anchor.length = 32 ∧ life run = .manufacture ∧ life (sealedBound run) ≠ .manufacture) := by
  decide +kernel

/-- A recipe image of 4 bytes and rollback level 2, signed outside the model with the anchor's key. -/
def image : List Byte := beBytes 188
  0x4b54524301020000085001000f01000f1f070000000000049f64a747e1b97f131fabb6b447296c9b6f0201e79fb3c5356e6c77e89b6a806a7cf27b188d034f7e8a52380304b51ac3c08969e277f21b35a60b48fc4766997807775510db8ed040293d9ac69f7430dbba7dade63ce982299e04b79d227873d1ea68d7b6fedf0b71878938d51d71f8729e0acb8c2c6df8b3d79e8a4b90949ee0797d9da2f7241332a5f1da9a76c3b59e8b75dfbda86d79c3e94e12b8081c931101020304

/-- R401: the image's signature, digest and fixed fields check. -/
theorem test_image_verifies : imageSigned (hashed run) image = true := by decide +kernel

/-! ## Single rules -/

theorem test_witness_EventFields :
    (let v := evtSet 0x28 {}
     v.last.length = 16 ∧ 1 ≤ ((3 : BitVec 16) - v.ctr).toNat ∧ ((3 : BitVec 16) - v.ctr).toNat ≤ 32767
     ∧ ((1 : BitVec 16) - v.ctr).toNat = 0 ∧ 32768 ≤ ((0 : BitVec 16) - v.ctr).toNat)
    ∧ (served run 0 = true ∧ life run ≠ .ended ∧ ownsAny run 0 = true)
    ∧ ((evtClear 0x00000028 run.clk.events).isSome = true ∧ evtClear 0x00010028 run.clk.events = none
      ∧ (evtClear 0x00000028 run.heat.events).isSome = true ∧ evtClear 0x00010028 run.heat.events = none) := by
  decide +kernel

theorem test_witness_WideFramesNeedProfile11 :
    served run 0 = true ∧ inTime run 0 = true ∧ run.chans[(0 : Chan)].profile = 0x0100 ∧ ({ fd := true, data := [] } : CanFrame).fd = true := by
  decide +kernel

theorem test_witness_WireFormatsRoundTrip :
    ({ cls := 1, length := 16383 } : Tag).length < 16384 ∧ ([(1, 3, 256)] : List (Cls × Seq × Nat)).length ≤ 60
    ∧ (∀ e ∈ ([(1, 3, 256)] : List (Cls × Seq × Nat)), 1 ≤ e.2.2 ∧ e.2.2 ≤ 256) ∧ 531440 < 531441 := by
  decide +kernel

theorem test_witness_SlotsGiveBackWhatWasSent :
    (List.replicate 263 (0 : Byte)).length = 263 ∧ ctlAssigned (ctlArg (.idle true)) = true ∧ (List.replicate 256 (0 : Byte)).length = 256 := by
  decide +kernel

/-! ## Values that the manual states -/

/-- A tryte from its trits, most significant first. -/
def t6 (a b c d e f : Trit) : Tryte := { t5 := a, t4 := b, t3 := c, t2 := d, t1 := e, t0 := f }

/-- Chapter 02, the addition example: α^6 + α^11 has tryte value 32 and field index 44. -/
theorem test_field_addition :
    gfPow gfAlpha 6 = t6 .zero .pos .zero .neg .pos .pos ∧ gfPow gfAlpha 11 = t6 .zero .neg .pos .neg .pos .pos
    ∧ tryteVal (gfAdd (gfPow gfAlpha 6) (gfPow gfAlpha 11)) = 32 ∧ fieldIndex (gfAdd (gfPow gfAlpha 6) (gfPow gfAlpha 11)) = 44 := by
  decide +kernel

/-- Chapter 02, the multiplication and inverse examples. -/
theorem test_field_multiplication :
    gfMul (gfPow gfAlpha 7) (gfPow gfAlpha 9) = gfPow gfAlpha 16 ∧ gfInv gfAlpha = t6 .pos .zero .neg .zero .pos .neg := by
  decide +kernel

/-- Chapter 02, packing one group: 307 907 and its six symbols. -/
theorem test_packing :
    pack12 307907 = (t6 .zero .pos .neg .zero .pos .pos, t6 .zero .neg .neg .pos .pos .pos)
    ∧ fieldIndex (pack12 307907).1 = 139 ∧ fieldIndex (pack12 307907).2 = 229
    ∧ tryteLevels (pack12 307907).1 ++ tryteLevels (pack12 307907).2 = [1, -3, 4, -1, -2, 4] := by
  decide +kernel

/-- R87: the CRC-24 of "123456789". -/
theorem test_crc24 : crc24 [0x31, 0x32, 0x33, 0x34, 0x35, 0x36, 0x37, 0x38, 0x39] = 0x21CF02 := by decide +kernel

/-- Chapter 04, the example of port 3's slot 0: trytes 4 to 7 of a data shingle with these header and payload bytes. -/
theorem test_line_symbols :
    ((slotTrytes 0 none ([0, 0, 0, 0, 0x56, 0xC1, 0x7E, 0x05, 0xEE, 0x20] ++ List.replicate 253 0)).drop 4).take 4
      = [t6 .pos .zero .neg .zero .pos .zero, t6 .neg .pos .zero .pos .zero .pos,
         t6 .zero .zero .pos .zero .zero .pos, t6 .pos .pos .neg .pos .neg .neg] := by
  decide +kernel

/-- Chapter 06, the example of shingle 385: its seven header bytes and the tags 0x8040_0000, 0x805A_4000 and 0x8000_1000. -/
theorem test_header_and_tags :
    headerBytes { cls := 2, seq := 385, replay := false, gap := false, provoked := false, firstTag := 11, ackClass := 0, ackNext := 64 }
      = [0x81, 0x81, 0x00, 0x00, 0x16, 0x00, 0x40]
    ∧ tagBytes { cls := 2, length := 64 } = [0x80, 0x40, 0x00, 0x00]
    ∧ tagBytes { cls := 2, length := 90, ptp := true } = [0x80, 0x5A, 0x40, 0x00]
    ∧ tagBytes { cls := 2, length := 0, pad := true } = [0x80, 0x00, 0x10, 0x00] := by
  decide +kernel

/-- R303's example: the field reads 0x0013_0028; the write 0x0013_0028 clears both bits; 0x0030_0020 is out of the window. -/
theorem test_event_field :
    let v : Evt16 := { ctr := 19, bits := 0x28, last := [0, 0, 0, 17, 0, 19, 0, 0, 0, 0, 0, 0, 0, 0, 0, 0] }
    evtRead v = 0x00130028 ∧ (evtClear 0x00130028 v).map (fun w => evtRead (evtSet 0x20 w)) = some 0x00140020
    ∧ evtClear 0x00300020 v = none := by
  decide +kernel

/-- R361's example: ClkOutSelect 0x13 takes a divider of 72 and none of 71. -/
theorem test_clkout : clkOutOk 0x13 72 = true ∧ clkOutOk 0x13 71 = false := by decide +kernel

/-- R212's example: Order 0x0007_0100_0F00_0000 is DOWNSHIFT_ONE in epoch 7 for ports 0 to 3; an APPLIED bay reads 0x0007_0100. -/
theorem test_order_word :
    orderWord 7 1 0 0x0F 0 = 0x000701000F000000 ∧ bayEntry 7 resApplied 0 = 0x00070100 ∧ bayEntry 7 resRefused 0x81 = 0x00078081 := by
  decide +kernel

/-- R369's example: a vote of channel 2 and port 5's payloads refuse an entry: LastRefuser 0x03, elements 2 and 9. -/
theorem test_entry_refused :
    let s := modTx 5 3 (fun t => { t with launched := [{ seq := 0, pay := {}, lastLaunch := 0 }] })
      (upIn (.etoon .el50) 5 (modChan 2 (fun c => { c with keepAwake := 1 }) run))
    refusing s = [(2, 0x03), (9, 0x15)] := by
  decide +kernel

/-- R339's example: a step of −1.5 s needs 1 500 000 µs. -/
theorem test_step_need : stepNeed (-1500000000) = 1500000 ∧ stepNeed (-600000000) = 600000 := by decide +kernel

/-- R240: the first 17 trits of a probe burst. -/
theorem test_probe_burst :
    (probeDigits 17 [1, 0, 0, 0, 0, 0, 0, 0]).map probeTrit = [1, 0, 0, 0, 0, 0, 0, 0, 1, 0, 0, -1, 0, 0, 1, 0, 1] := by decide +kernel

/-- Chapter 09, the example of port 1's cable: Lev_12 = −13.98 dB, Lev_13 = −33.01 dB, and a centroid of 623.4 samples lies at 6.081 m. -/
theorem test_signature_example :
    segLevel 16 400 = -1398 ∧ segLevel 1 2000 = -3301 ∧ sigLocation 6234 10 120000 512000 = 6081 := by decide +kernel

/-- Chapter 03, the example of port 2's battens: EL-50 with seven neighbours, then EL-25. -/
theorem test_batten_allocation :
    let s := fun m => modDsp 2 (fun d => { d with neighboursInUse := 0xFB, neighbours := 0xFB }) (upIn (.etoon m) 2 run)
    battenCodes (s .el50) 2 = [0x8181, 0x0202, 0x0202, 0x0202, 0x0303, 0x0303, 0x8484, 0x0584]
    ∧ (battenCodes (s .el25) 2).drop 5 = [0, 0, 0] := by decide +kernel

/-- Chapter 04, the example of a control shingle with argument 12: word value 524 300 and its levels. -/
theorem test_control_word :
    trytesLevels [(pack12 524300).1, (pack12 524300).2] = [4, 3, 4, -3, 3, 1] := by decide +kernel

/-- R117: the training state of a follower's fast relink with seed 5. -/
theorem test_training_state : trainState 5 .fast false = 0x017FFFFFFFFFFF#58 := by decide +kernel

/-- FIPS 180-4's published digest of the three bytes "abc". -/
theorem test_sha256_abc : beVal (sha256 [0x61, 0x62, 0x63]) = 0xBA7816BF8F01CFEA414140DE5DAE2223B00361A396177A9CB410FF61F20015AD := by
  decide +kernel

/-! ## Operands that cannot occur -/

theorem test_ill_formed_refused :
    (Instr.dataShingle 0 (hdr 0) (List.replicate 255 0) 0 0).wellFormed = false
    ∧ (Instr.dataShingle 0 { hdr 0 with firstTag := 0x40 } (List.replicate 256 0) 0 0).wellFormed = false
    ∧ (Instr.nak 0 ack [] 0).wellFormed = false
    ∧ (Instr.adaptUpdate 0 { (default : AdaptIn) with couplings := [] }).wellFormed = false
    ∧ (Instr.xtalkJoinDone 1 1 600).wellFormed = false ∧ (Instr.xtalkJoinRetry 1 1).wellFormed = false
    ∧ (Instr.startConfirmed 0 0 1001).wellFormed = false ∧ (Instr.preEmption 0 1001).wellFormed = false
    ∧ (Instr.probeRun 0 quietLine).wellFormed = false
    ∧ (Instr.probeRepeat 0 quietLine).wellFormed = false ∧ (Instr.simmerProbeWake quietLine).wellFormed = false
    ∧ (Instr.calibrationMeasurement (.bursts quietLine)).wellFormed = false
    ∧ (Instr.eventRaise [bayEv 0 1 1 (List.replicate 21 0)]).wellFormed = false
    ∧ (Instr.sensorConversion [1]).wellFormed = false
    ∧ (Instr.tapInstructionLoad (.burnMakerHash [])).wellFormed = false ∧ (Instr.tapInstructionLoad (.burnWorkshopHash [])).wellFormed = false := by
  decide +kernel

theorem test_ill_formed_frames_refused :
    ∀ f ∈ [({ fd := false, data := List.replicate 9 0 } : CanFrame), { fd := true, data := List.replicate 9 0 }],
      ∀ i ∈ [Instr.sdoInitiateDownload 0 f, .sdoDownloadSegment 0 f, .sdoInitiateUpload 0 f, .sdoUploadSegment 0 f, .sdoBlockDownload 0 f,
        .sdoBlockUpload 0 f, .sdoAbort 0 f, .wideInitiateDownload 0 f, .wideInitiateUpload 0 f, .wideSegment 0 f, .wideConfirm 0 f],
        i.wellFormed = false := by
  decide +kernel

theorem test_too_long_data_refused (d : List Byte) (h : d.length = 1048577) :
    ∀ i ∈ [Instr.authResponse 0 d, .recipeImageWrite 0 d, .returnTokenWrite 0 d, .genericWrite 0 0 0 d, .counterZero 0 0 0 d, .postedWrite 0 0 0 d],
      i.wellFormed = false := by
  intro i hi
  simp only [List.mem_cons, List.not_mem_nil, or_false] at hi
  rcases hi with rfl | rfl | rfl | rfl | rfl | rfl <;> simp [Instr.wellFormed, h]

theorem test_well_formed_accepted :
    (Instr.dataShingle 0 (hdr 0) (List.replicate 256 0) 0 0).wellFormed = true ∧ (Instr.nak 0 ack (List.replicate 248 0) 0).wellFormed = true
    ∧ (Instr.sdoAbort 0 { fd := true, data := List.replicate 64 0 }).wellFormed = true ∧ Instr.heartbeat.wellFormed = true := by
  decide +kernel

end Sys2Proof.Tests
end

section
/-! PROOF. What a command of one port's line, lane, training, sieve or seal leaves alone (R8, R10). `elsewhere p s` is the state without
port p and without what its bay may hand over. Each operation of the model keeps it, shown bottom up in the order of the model's files,
and so does each command of `lineCommand`; LineCommandsStayInTheirPort reads the frame off. -/

namespace Sys2Proof.Machine

/-! ## The rest of the device as one port's bay sees it -/

/-- The state with port p blanked, and with it what its bay hands to the device's services. What is left is what PortFrame says that a
command of p's line keeps. -/
def elsewhere (p : PortId) (s : State) : State :=
  { s with
    ports := s.ports.set p {}, free := 0, roll := {}, hashWork := [], sieveHolder := none
    bayLoads := [], battenLoads := [], peakLoad := 0
    cal := { s.cal with run := none }
    heat := { s.heat with orderDue := false }
    crock := { s.crock with queue := [], dropTally := [], droppedQ := [] } }

variable (p : PortId) (s : State)

/-- Two vectors of ports that agree once p is blanked agree at every other port. -/
theorem getElem_of_set_eq {v w : Vector Port 8} {x : Port} (h : v.set p x = w.set p x) (q : PortId) (hq : q ≠ p) : v[q] = w[q] := by
  have hne : (p : Nat) ≠ q := fun e => hq (Fin.ext e.symm)
  have hv : (v.set p x)[(q : Nat)] = v[(q : Nat)] := Vector.getElem_set_ne p.isLt q.isLt hne
  have hw : (w.set p x)[(q : Nat)] = w[(q : Nat)] := Vector.getElem_set_ne p.isLt q.isLt hne
  exact hv.symm.trans ((congrArg (fun u : Vector Port 8 => u[(q : Nat)]) h).trans hw)

/-- A state with the blanked values of `elsewhere` taken from t. -/
def putBack (t u : State) : State :=
  { u with
    ports := t.ports, free := t.free, roll := t.roll, hashWork := t.hashWork, sieveHolder := t.sieveHolder
    bayLoads := t.bayLoads, battenLoads := t.battenLoads, peakLoad := t.peakLoad
    cal := { u.cal with run := t.cal.run }
    heat := { u.heat with orderDue := t.heat.orderDue }
    crock := { u.crock with queue := t.crock.queue, dropTally := t.crock.dropTally, droppedQ := t.crock.droppedQ } }

theorem putBack_elsewhere (t : State) : putBack t (elsewhere p t) = t := rfl

/-- A state that has kept `elsewhere` is within port p's frame. -/
theorem portFrame_of_elsewhere {t : State} (h : elsewhere p t = elsewhere p s) : PortFrame p s t := by
  have rest : t = putBack t (elsewhere p s) := (putBack_elsewhere p t).symm.trans (congrArg (putBack t) h)
  exact ⟨rest, fun q hq => getElem_of_set_eq p (congrArg State.ports h) q hq⟩

theorem elsewhere_with_free (n : Nat) : elsewhere p { s with free := n } = elsewhere p s := rfl

theorem elsewhere_with_hashWork (js : List HashJob) : elsewhere p { s with hashWork := js } = elsewhere p s := rfl

theorem elsewhere_with_roll (r : Roll) : elsewhere p { s with roll := r } = elsewhere p s := rfl

theorem elsewhere_ite (b : Prop) [Decidable b] (t u : State) :
    elsewhere p (if b then t else u) = if b then elsewhere p t else elsewhere p u := apply_ite (elsewhere p) b t u

/-! ## Shared operations (Ops.lean) -/

@[simp] theorem elsewhere_modPort (f : Port → Port) : elsewhere p (modPort p f s) = elsewhere p s := by
  simp only [elsewhere, modPort, Vector.set_set]

@[simp] theorem elsewhere_modLink (f : Link → Link) : elsewhere p (modLink p f s) = elsewhere p s := elsewhere_modPort p s _

@[simp] theorem elsewhere_modTrain (f : Train → Train) : elsewhere p (modTrain p f s) = elsewhere p s :=
  elsewhere_modPort p s _

@[simp] theorem elsewhere_modMc (f : ModeChange → ModeChange) : elsewhere p (modMc p f s) = elsewhere p s :=
  elsewhere_modPort p s _

@[simp] theorem elsewhere_modLine (f : Line → Line) : elsewhere p (modLine p f s) = elsewhere p s :=
  elsewhere_modPort p s _

@[simp] theorem elsewhere_modCnt (f : Counters → Counters) : elsewhere p (modCnt p f s) = elsewhere p s :=
  elsewhere_modPort p s _

@[simp] theorem elsewhere_modHost (f : HostLane → HostLane) : elsewhere p (modHost p f s) = elsewhere p s :=
  elsewhere_modPort p s _

@[simp] theorem elsewhere_modDsp (f : Dsp → Dsp) : elsewhere p (modDsp p f s) = elsewhere p s := elsewhere_modPort p s _

@[simp] theorem elsewhere_modSig (f : Sig → Sig) : elsewhere p (modSig p f s) = elsewhere p s := elsewhere_modPort p s _

@[simp] theorem elsewhere_modSeal (f : Seal → Seal) : elsewhere p (modSeal p f s) = elsewhere p s := elsewhere_modPort p s _

@[simp] theorem elsewhere_modSieve (f : SievePort → SievePort) : elsewhere p (modSieve p f s) = elsewhere p s :=
  elsewhere_modPort p s _

@[simp] theorem elsewhere_modTx (c : Cls) (f : TxCls → TxCls) : elsewhere p (modTx p c f s) = elsewhere p s :=
  elsewhere_modPort p s _

@[simp] theorem elsewhere_modRx (c : Cls) (f : RxCls → RxCls) : elsewhere p (modRx p c f s) = elsewhere p s :=
  elsewhere_modPort p s _

theorem elsewhere_foldl {α : Type} (f : State → α → State) (h : ∀ t a, elsewhere p (f t a) = elsewhere p t) (l : List α) :
    elsewhere p (l.foldl f s) = elsewhere p s := by
  induction l generalizing s with
  | nil => rfl
  | cons a l ih => exact (ih (f s a)).trans (h s a)

theorem elsewhere_forClasses (f : Cls → State → State) (h : ∀ c t, elsewhere p (f c t) = elsewhere p t) :
    elsewhere p (forClasses f s) = elsewhere p s := elsewhere_foldl p s _ (fun t c => h c t) _

@[simp] theorem elsewhere_afterDraw : elsewhere p (afterDraw s) = elsewhere p s := rfl

@[simp] theorem elsewhere_dropEv (e : Ev) : elsewhere p (dropEv e s) = elsewhere p s := rfl

@[simp] theorem elsewhere_raise (e : Ev) : elsewhere p (raise e s) = elsewhere p s := by
  unfold raise
  split
  · rfl
  · split <;> rfl

/-! ## Seals (Seal.lean) -/

@[simp] theorem elsewhere_modWindow (f : SealWindow → SealWindow) : elsewhere p (modWindow p f s) = elsewhere p s :=
  elsewhere_modSeal p s _

@[simp] theorem elsewhere_cutWindow : elsewhere p (cutWindow p s) = elsewhere p s :=
  elsewhere_modSeal p s _

@[simp] theorem elsewhere_cutAtEnd : elsewhere p (cutAtEnd p s) = elsewhere p s := by
  simp only [cutAtEnd, elsewhere_cutWindow, elsewhere_ite, ite_self]

@[simp] theorem elsewhere_addLeaf (leaf : List Byte) (f : SealWindow → SealWindow) :
    elsewhere p (addLeaf p leaf f s) = elsewhere p s :=
  elsewhere_modWindow p s _

@[simp] theorem elsewhere_frameLeaf (bytes : List Byte) (errored provoked : Bool) :
    elsewhere p (frameLeaf p bytes errored provoked s) = elsewhere p s := by
  unfold frameLeaf
  split
  · rfl
  · split
    · simp only [elsewhere_with_hashWork, elsewhere_modSeal, elsewhere_addLeaf]
    · simp only [elsewhere_modSeal, elsewhere_addLeaf]

@[simp] theorem elsewhere_gapLeaf (c : Cls) (l : RxLoss) (entry : Nat) : elsewhere p (gapLeaf p c l entry s) = elsewhere p s := by
  unfold gapLeaf
  split
  · rfl
  · simp only [elsewhere_modSeal, elsewhere_addLeaf]

@[simp] theorem elsewhere_modStarted (start : Nat) (f : SealWindow → SealWindow) :
    elsewhere p (modStarted p start f s) = elsewhere p s :=
  elsewhere_modSeal p s _

@[simp] theorem elsewhere_cutLeaf (c : Cls) (l : RxLoss) (entry : Nat) (at_ : Nat × Nat) :
    elsewhere p (cutLeaf p c l entry at_ s) = elsewhere p s := by
  simp only [cutLeaf, elsewhere_modStarted, elsewhere_modSeal]

@[simp] theorem elsewhere_finishSeal (root : List Byte) (anchor : Option Nat) (failed : Bool) :
    elsewhere p (finishSeal p root anchor failed s) = elsewhere p s := by
  unfold finishSeal
  split
  · rfl
  · dsimp only
    rw [elsewhere_modSeal, elsewhere_with_free]

@[simp] theorem elsewhere_rootWindow : elsewhere p (rootWindow p s) = elsewhere p s := by
  unfold rootWindow
  split
  · rfl
  · simp only [elsewhere_ite, elsewhere_finishSeal, elsewhere_raise, elsewhere_modSeal, ite_self]

/-! ## Ledger, provocation and calibration gap (Modes.lean, Datapath.lean, Ledger.lean) -/

@[simp] theorem elsewhere_gapAbandoned (t : State) : elsewhere p (gapAbandoned s t) = elsewhere p t := by
  unfold gapAbandoned
  split
  · rfl
  · split <;> rfl

@[simp] theorem elsewhere_release (g : Seg) : elsewhere p (release p g s) = elsewhere p s := elsewhere_modPort p s _

@[simp] theorem elsewhere_provoke : elsewhere p (provoke p s) = elsewhere p s :=
  elsewhere_modSieve p s _

@[simp] theorem elsewhere_modLedger (rx : Bool) (f : LedgerPart → LedgerPart) :
    elsewhere p (modLedger p rx f s) = elsewhere p s :=
  elsewhere_modPort p s _

@[simp] theorem elsewhere_ledgerAdd (rx : Bool) (c : Cls) (l : RxLoss) (t : Nat) :
    elsewhere p (ledgerAdd p rx c l t s) = elsewhere p s := by
  unfold ledgerAdd
  dsimp only
  split
  · simp only [elsewhere_ite, elsewhere_modLedger, elsewhere_raise, ite_self]
  · simp only [elsewhere_raise, elsewhere_modLedger]

@[simp] theorem elsewhere_ledgerMore (c : Cls) (number n : Nat) : elsewhere p (ledgerMore p c number n s) = elsewhere p s :=
  elsewhere_modLedger p s _ _

/-! ## Sieve (Sieve.lean) -/

@[simp] theorem elsewhere_releaseHolder : elsewhere p (releaseHolder s) = elsewhere p s := by
  unfold releaseHolder
  split <;> rfl

@[simp] theorem elsewhere_skipSwap (down : Bool) : elsewhere p (skipSwap p down s) = elsewhere p s := by
  unfold skipSwap
  split
  · rfl
  · simp only [elsewhere_modTx, elsewhere_modSieve]

@[simp] theorem elsewhere_disarmNow (kinds keep cause : BitVec 8) :
    elsewhere p (disarmNow p kinds keep cause s) = elsewhere p s := by
  simp only [disarmNow, elsewhere_skipSwap, elsewhere_releaseHolder, elsewhere_raise, elsewhere_modSieve, elsewhere_ite,
    ite_self]

@[simp] theorem elsewhere_modNewest (f : Seg → Seg) : elsewhere p (modNewest p f s) = elsewhere p s :=
  elsewhere_modLine p s _

@[simp] theorem elsewhere_endInterruption : elsewhere p (endInterruption p s) = elsewhere p s := by
  simp only [endInterruption, elsewhere_modSieve, elsewhere_modNewest, elsewhere_ite, ite_self]

@[simp] theorem elsewhere_disarmDue : elsewhere p (disarmDue p s) = elsewhere p s :=
  (elsewhere_foldl p _ _ (fun t _ => elsewhere_disarmNow p t _ _ _) _).trans (elsewhere_modSieve p s _)

@[simp] theorem elsewhere_startInterruption : elsewhere p (startInterruption p s) = elsewhere p s := by
  simp only [startInterruption, elsewhere_modPort, elsewhere_provoke, elsewhere_modNewest, elsewhere_ite, ite_self]

@[simp] theorem elsewhere_startIfNoSlot : elsewhere p (startIfNoSlot p s) = elsewhere p s := by
  simp only [startIfNoSlot, elsewhere_startInterruption, elsewhere_ite, ite_self]

@[simp] theorem elsewhere_dropDone : elsewhere p (dropDone p s) = elsewhere p s := by
  simp only [dropDone, elsewhere_disarmNow, elsewhere_ite, ite_self]

@[simp] theorem elsewhere_sieveDrop (ctl : Bool) (c : Cls) : elsewhere p (sieveDrop p ctl c s).2 = elsewhere p s := by
  unfold sieveDrop
  split
  · dsimp only
    split
    · simp only [elsewhere_dropDone, elsewhere_provoke, elsewhere_modSieve]
    · exact elsewhere_modSieve p s _
  · rfl

@[simp] theorem elsewhere_sieveCorrupt (ctl : Bool) (c : Cls) : elsewhere p (sieveCorrupt p ctl c s).2 = elsewhere p s := by
  unfold sieveCorrupt
  split
  · exact elsewhere_modSieve p s _
  · rfl

/-! ## Signal processing (Echo.lean, Dsp.lean) -/

@[simp] theorem elsewhere_xtalkBoundary : elsewhere p (xtalkBoundary p s) = elsewhere p s := elsewhere_modDsp p s _

@[simp] theorem elsewhere_dspBoundary : elsewhere p (dspBoundary p s) = elsewhere p s := by
  simp only [dspBoundary, elsewhere_modDsp, elsewhere_xtalkBoundary]

@[simp] theorem elsewhere_adapt (u : AdaptIn) : elsewhere p (adapt p u s) = elsewhere p s := by
  unfold adapt
  dsimp only
  split
  · rfl
  · exact elsewhere_modDsp p s _

@[simp] theorem elsewhere_noteDecode (bad : Bool) : elsewhere p (noteDecode p bad s) = elsewhere p s :=
  elsewhere_modDsp p s _

@[simp] theorem elsewhere_takeSnapshot (m : EMode) : elsewhere p (takeSnapshot p m s) = elsewhere p s :=
  elsewhere_modPort p s _

@[simp] theorem elsewhere_measureLoads : elsewhere p (measureLoads p s) = elsewhere p s := rfl

/-! ## Holding store (Hold.lean) -/

@[simp] theorem elsewhere_pfcCheck : elsewhere p (pfcCheck p s) = elsewhere p s := elsewhere_modPort p s _

theorem elsewhere_of_withdrawOne {c : Cls} {t : State} (h : withdrawOne p c s = some t) : elsewhere p t = elsewhere p s := by
  simp only [withdrawOne] at h
  split at h
  · cases h
    simp only [elsewhere_modCnt, elsewhere_modTx]
  · split at h
    · split at h
      · cases h
      · cases h
        exact elsewhere_modTx p s _ _
    · cases h

@[simp] theorem elsewhere_grantOpen (c : Cls) : elsewhere p (grantOpen p c s) = elsewhere p s := elsewhere_modPort p s _

@[simp] theorem elsewhere_ensureSlot (c : Cls) (fuel : Nat) : elsewhere p (ensureSlot p c fuel s).1 = elsewhere p s := by
  induction fuel generalizing s with
  | zero => rfl
  | succ fuel ih =>
    unfold ensureSlot
    split
    · rfl
    · split
      · exact elsewhere_grantOpen p s c
      · split
        · rfl
        · split
          · rfl
          next t ht => exact (ih t).trans (elsewhere_of_withdrawOne p s ht)

@[simp] theorem elsewhere_openSlot (c : Cls) : elsewhere p (openSlot p c s).1 = elsewhere p s :=
  elsewhere_ensureSlot p s _ _

@[simp] theorem elsewhere_modOpen (c : Cls) (f : Payload → Payload) : elsewhere p (modOpen p c f s) = elsewhere p s :=
  elsewhere_modTx p s _ _

@[simp] theorem elsewhere_closeFull (c : Cls) : elsewhere p (closeFull p c s) = elsewhere p s := by
  simp only [closeFull, elsewhere_openSlot, elsewhere_modTx, elsewhere_ite, ite_self]

@[simp] theorem elsewhere_putBytes (c : Cls) (held : Bool) (fuel : Nat) (bs : List Byte) :
    elsewhere p (putBytes p c held fuel bs s).1 = elsewhere p s := by
  induction fuel generalizing bs s with
  | zero => cases bs <;> rfl
  | succ fuel ih =>
    cases bs with
    | nil => rfl
    | cons b bs =>
      unfold putBytes
      dsimp only
      split
      · simp only [ih, elsewhere_closeFull, elsewhere_modOpen, elsewhere_openSlot]
      · exact elsewhere_openSlot p s c

@[simp] theorem elsewhere_putAll (c : Cls) (held : Bool) (bs : List Byte) :
    elsewhere p (putAll p c held bs s).1 = elsewhere p s :=
  elsewhere_putBytes p s _ _ _ _

@[simp] theorem elsewhere_putLoss (c : Cls) (held : Bool) (l : TxLoss) : elsewhere p (putLoss p c held l s).1 = elsewhere p s := by
  unfold putLoss
  dsimp only
  split
  · simp only [elsewhere_putAll, elsewhere_modOpen, elsewhere_openSlot]
  · exact elsewhere_openSlot p s c

@[simp] theorem elsewhere_putLosses (c : Cls) (ls : List TxLoss) : elsewhere p (putLosses p c ls s).1 = elsewhere p s := by
  induction ls generalizing s with
  | nil => rfl
  | cons l ls ih =>
    unfold putLosses
    dsimp only
    split
    · exact (ih _).trans (elsewhere_putLoss p s c true l)
    · exact elsewhere_putLoss p s c true l

@[simp] theorem elsewhere_modArriving (f : Arriving → Arriving) : elsewhere p (modArriving p f s) = elsewhere p s :=
  elsewhere_modHost p s _

@[simp] theorem elsewhere_unpack : elsewhere p (unpack p s) = elsewhere p s := by
  unfold unpack
  split
  · rfl
  · split
    · rfl
    · simp only [elsewhere_modArriving, elsewhere_modTx]

@[simp] theorem elsewhere_dropArriving : elsewhere p (dropArriving p s) = elsewhere p s := by
  simp only [dropArriving, elsewhere_modArriving, elsewhere_unpack]

@[simp] theorem elsewhere_reserveTag (c : Cls) (ptp : Bool) (at_ : Nat) :
    elsewhere p (reserveTag p c ptp at_ s).1 = elsewhere p s := by
  simp only [reserveTag, apply_ite Prod.fst, elsewhere_ite, elsewhere_putAll, elsewhere_modOpen, elsewhere_modArriving,
    elsewhere_openSlot, elsewhere_closeFull, ite_self]

@[simp] theorem elsewhere_layFrame (ptp : Bool) : elsewhere p (layFrame p ptp s) = elsewhere p s := by
  unfold layFrame
  split
  · rfl
  · simp only [apply_ite Prod.fst, elsewhere_ite, elsewhere_dropArriving, elsewhere_putAll, elsewhere_reserveTag,
      elsewhere_putLosses, elsewhere_modTx, elsewhere_modArriving, elsewhere_openSlot, ite_self]

@[simp] theorem elsewhere_grantOwed (c : Cls) : elsewhere p (grantOwed p c s) = elsewhere p s := by
  simp only [grantOwed, elsewhere_grantOpen, elsewhere_ite, ite_self]

@[simp] theorem elsewhere_flushOwed (c : Cls) (ls : List TxLoss) : elsewhere p (flushOwed p c ls s) = elsewhere p s := by
  induction ls generalizing s with
  | nil => rfl
  | cons l ls ih =>
    unfold flushOwed
    dsimp only
    split
    · simp only [ih, elsewhere_putLoss, elsewhere_modTx, elsewhere_grantOwed]
    · exact elsewhere_grantOwed p s c

@[simp] theorem elsewhere_flushLosses (c : Cls) : elsewhere p (flushLosses p c s) = elsewhere p s := by
  simp only [flushLosses, elsewhere_flushOwed, elsewhere_ite, ite_self]

theorem elsewhere_of_withdrawStd {c : Cls} {t : State} (h : withdrawStd p c s = some t) : elsewhere p t = elsewhere p s := by
  unfold withdrawStd at h
  split at h
  · cases h
  · cases h
    simp only [elsewhere_ledgerAdd, elsewhere_modTx]

@[simp] theorem elsewhere_stdRoom (c : Cls) (n fuel : Nat) : elsewhere p (stdRoom p c n fuel s).1 = elsewhere p s := by
  induction fuel generalizing s with
  | zero => rfl
  | succ fuel ih =>
    unfold stdRoom
    split
    · rfl
    · split
      · rfl
      · split
        · rfl
        next t ht => exact (ih t).trans (elsewhere_of_withdrawStd p s ht)

@[simp] theorem elsewhere_countIn (c : Cls) (errored : Bool) : elsewhere p (countIn p c errored s) = elsewhere p s :=
  elsewhere_modCnt p s _

@[simp] theorem elsewhere_storeStd (a : Arriving) : elsewhere p (storeStd p a s) = elsewhere p s := by
  simp only [storeStd, elsewhere_stdRoom, elsewhere_pfcCheck, elsewhere_countIn, elsewhere_modTx, elsewhere_ledgerAdd,
    elsewhere_ite, ite_self]

@[simp] theorem elsewhere_sealFrame : elsewhere p (sealFrame p s) = elsewhere p s := by
  unfold sealFrame
  split
  · rfl
  · split
    · rfl
    · simp only [elsewhere_ite, elsewhere_modPort, elsewhere_countIn, elsewhere_modTx, elsewhere_putAll, ite_self]

@[simp] theorem elsewhere_oweLoss (c : Cls) (cause : LossCause) (a : Arriving) :
    elsewhere p (oweLoss p c cause a s) = elsewhere p s :=
  elsewhere_modTx p s _ _

@[simp] theorem elsewhere_endArriving : elsewhere p (endArriving p s) = elsewhere p s := elsewhere_modHost p s _

@[simp] theorem elsewhere_endLost (c : Cls) (cause : LossCause) (a : Arriving) :
    elsewhere p (endLost p c cause a s) = elsewhere p s := by
  simp only [endLost, elsewhere_oweLoss, elsewhere_endArriving, elsewhere_pfcCheck, elsewhere_flushLosses, elsewhere_ite,
    ite_self]

@[simp] theorem elsewhere_relay (a : Arriving) : elsewhere p (relay p a s) = elsewhere p s := by
  simp only [relay, elsewhere_layFrame, elsewhere_unpack, elsewhere_ite, ite_self]

@[simp] theorem elsewhere_endWhole (a : Arriving) : elsewhere p (endWhole p a s) = elsewhere p s := by
  unfold endWhole
  dsimp only
  split
  · simp only [elsewhere_ite, elsewhere_layFrame, elsewhere_relay, ite_self]
  · simp only [elsewhere_ite, elsewhere_endLost, elsewhere_pfcCheck, elsewhere_endArriving, elsewhere_sealFrame, elsewhere_layFrame,
      elsewhere_relay, ite_self]

@[simp] theorem elsewhere_frameEnd (errored : Bool) : elsewhere p (frameEnd p errored s) = elsewhere p s := by
  unfold frameEnd
  split
  · rfl
  · simp only [elsewhere_ite, elsewhere_modHost, elsewhere_modArriving, elsewhere_endArriving, elsewhere_ledgerAdd,
      elsewhere_endLost, elsewhere_storeStd, elsewhere_endWhole, ite_self]

@[simp] theorem elsewhere_cutOversize : elsewhere p (cutOversize p s) = elsewhere p s := by
  unfold cutOversize
  split
  · rfl
  · simp only [elsewhere_ite, elsewhere_pfcCheck, elsewhere_modArriving, elsewhere_unpack, ite_self]

@[simp] theorem elsewhere_frameBytes (bs : List Byte) : elsewhere p (frameBytes p bs s) = elsewhere p s := by
  unfold frameBytes
  split
  · rfl
  · dsimp only
    split
    · exact elsewhere_modArriving p s _
    · split
      · simp only [elsewhere_cutOversize, elsewhere_modArriving]
      · split
        · simp only [elsewhere_cutOversize, elsewhere_modArriving]
        · split
          · simp only [elsewhere_ite, elsewhere_pfcCheck, elsewhere_modArriving, elsewhere_relay, elsewhere_dropArriving,
              elsewhere_putAll, elsewhere_cutOversize, ite_self]
          · simp only [elsewhere_ite, elsewhere_pfcCheck, elsewhere_modArriving, elsewhere_layFrame, elsewhere_cutOversize,
              ite_self]

@[simp] theorem elsewhere_frameBegin (at_ : Nat) (powered : Bool) : elsewhere p (frameBegin p at_ powered s) = elsewhere p s :=
  elsewhere_modPort p s _

/-! ## Roll calls and mode changes (Roll.lean, ModeChange.lean) -/

@[simp] theorem elsewhere_rollIssue (issuer : BitVec 8) (o : BitVec 64) : elsewhere p (rollIssue issuer o s) = elsewhere p s :=
  elsewhere_raise p _ _

@[simp] theorem elsewhere_issueThermal : elsewhere p (issueThermal s) = elsewhere p s := by
  unfold issueThermal
  split
  · rfl
  · split
    · rfl
    · exact elsewhere_rollIssue p _ _ _

@[simp] theorem elsewhere_rollComplete : elsewhere p (rollComplete s) = elsewhere p s := by
  unfold rollComplete
  split
  · simp only [elsewhere_ite, elsewhere_issueThermal, elsewhere_raise, elsewhere_with_roll, ite_self]
  · rfl

@[simp] theorem elsewhere_rollReport (result reason : Nat) : elsewhere p (rollReport p result reason s) = elsewhere p s :=
  elsewhere_rollComplete p _

@[simp] theorem elsewhere_mcClear (st : McStatus) : elsewhere p (mcClear p st s) = elsewhere p s :=
  elsewhere_modPort p s _

@[simp] theorem elsewhere_mcTell (mc : ModeChange) (st : McStatus) : elsewhere p (mcTell p mc st s) = elsewhere p s := by
  unfold mcTell
  dsimp only
  split
  · simp only [elsewhere_ite, elsewhere_rollReport, elsewhere_raise, ite_self]
  · exact elsewhere_raise p s _

@[simp] theorem elsewhere_mcEnd (st : McStatus) : elsewhere p (mcEnd p st s) = elsewhere p s := by
  simp only [mcEnd, elsewhere_mcTell, elsewhere_mcClear]

@[simp] theorem elsewhere_mcStart (target : EMode) (roll : Option (BitVec 16)) :
    elsewhere p (mcStart p target roll s) = elsewhere p s := by
  unfold mcStart
  split
  · rfl
  · dsimp only
    split
    · simp only [elsewhere_mcEnd, elsewhere_modMc]
    · simp only [elsewhere_modPort, elsewhere_modMc]

@[simp] theorem elsewhere_mcCount : elsewhere p (mcCount p s) = elsewhere p s := elsewhere_modPort p s _

@[simp] theorem elsewhere_mcApply : elsewhere p (mcApply p s) = elsewhere p s := by
  simp only [mcApply, elsewhere_pfcCheck, elsewhere_mcEnd, elsewhere_gapAbandoned, elsewhere_modLink, elsewhere_ite, ite_self]

@[simp] theorem elsewhere_mcTransmitEpoch : elsewhere p (mcTransmitEpoch p s) = elsewhere p s := by
  simp only [mcTransmitEpoch, elsewhere_mcApply, elsewhere_modMc]

@[simp] theorem elsewhere_mcReceiveEpoch : elsewhere p (mcReceiveEpoch p s) = elsewhere p s := by
  simp only [mcReceiveEpoch, elsewhere_mcApply, elsewhere_xtalkBoundary, elsewhere_modPort]

@[simp] theorem elsewhere_oweCtl (c : Ctl) : elsewhere p (oweCtl p c s) = elsewhere p s := elsewhere_modLine p s _

@[simp] theorem elsewhere_mcRefuse (r : RefuseReason) (ep : BitVec 8) : elsewhere p (mcRefuse p r ep s) = elsewhere p s := by
  simp only [mcRefuse, elsewhere_oweCtl, elsewhere_modLink]

@[simp] theorem elsewhere_mcRespond (cur target : EMode) (ep : BitVec 8) :
    elsewhere p (mcRespond p cur target ep s) = elsewhere p s := by
  unfold mcRespond
  split
  · exact elsewhere_mcRefuse p s _ _
  · exact elsewhere_modPort p s _

@[simp] theorem elsewhere_mcRequested (m : EMode) (ep : BitVec 8) : elsewhere p (mcRequested p m ep s) = elsewhere p s := by
  unfold mcRequested
  dsimp only
  split
  · rfl
  · split
    · rfl
    · split
      · exact elsewhere_mcRespond p s _ _ _
      · simp only [elsewhere_ite, elsewhere_mcRefuse, elsewhere_oweCtl, ite_self]
      · simp only [elsewhere_ite, elsewhere_mcRefuse, elsewhere_mcCount, elsewhere_modLink, elsewhere_modMc, elsewhere_mcRespond,
          ite_self]

@[simp] theorem elsewhere_mcAccepted (m : EMode) (ep : BitVec 8) : elsewhere p (mcAccepted p m ep s) = elsewhere p s := by
  simp only [mcAccepted, elsewhere_modPort, elsewhere_mcCount, elsewhere_modLink, elsewhere_ite, ite_self]

@[simp] theorem elsewhere_mcRefused (ep : BitVec 8) : elsewhere p (mcRefused p ep s) = elsewhere p s := by
  simp only [mcRefused, elsewhere_mcEnd, elsewhere_ite, ite_self]

@[simp] theorem elsewhere_mcMark (k : Nat) (ep : BitVec 8) : elsewhere p (mcMark p k ep s) = elsewhere p s := by
  simp only [mcMark, elsewhere_modPort, elsewhere_ite, ite_self]

@[simp] theorem elsewhere_mcFollow : elsewhere p (mcFollow p s) = elsewhere p s := elsewhere_modMc p s _

@[simp] theorem elsewhere_mcPrepared : elsewhere p (mcPrepared p s) = elsewhere p s := by
  unfold mcPrepared
  dsimp only
  split
  · rfl
  · split
    · rfl
    · simp only [elsewhere_oweCtl, elsewhere_modMc]
    · simp only [elsewhere_ite, elsewhere_mcFollow, elsewhere_mcCount, elsewhere_modMc, ite_self]

@[simp] theorem elsewhere_mcAcceptLaunched : elsewhere p (mcAcceptLaunched p s) = elsewhere p s := by
  simp only [mcAcceptLaunched, elsewhere_mcCount, elsewhere_ite, ite_self]

@[simp] theorem elsewhere_mcRetry : elsewhere p (mcRetry p s) = elsewhere p s := by
  simp only [mcRetry, elsewhere_mcEnd, elsewhere_oweCtl, elsewhere_modMc, elsewhere_ite, ite_self]

/-! ## Link startup (Link.lean) -/

@[simp] theorem elsewhere_restartUncertain (c : Cls) : elsewhere p (restartUncertain p c s) = elsewhere p s := by
  unfold restartUncertain
  split
  · rfl
  · exact elsewhere_ledgerAdd p s _ _ _ _

@[simp] theorem elsewhere_restartDiscard (c : Cls) : elsewhere p (restartDiscard p c s) = elsewhere p s := by
  simp only [restartDiscard, elsewhere_ledgerAdd, elsewhere_ite, ite_self]

@[simp] theorem elsewhere_restartOwed (c : Cls) : elsewhere p (restartOwed p c s) = elsewhere p s :=
  elsewhere_foldl p s _ (fun t _ => elsewhere_ledgerAdd p t _ _ _ _) _

@[simp] theorem elsewhere_restartMissing (c : Cls) : elsewhere p (restartMissing p c s) = elsewhere p s := by
  simp only [restartMissing, elsewhere_ledgerAdd, elsewhere_gapLeaf, elsewhere_ite, ite_self]

@[simp] theorem elsewhere_restartEntries : elsewhere p (restartEntries p s) = elsewhere p s := by
  have entries (c : Cls) (t : State) :
      elsewhere p (restartMissing p c (restartOwed p c (restartDiscard p c (restartUncertain p c t)))) = elsewhere p t := by
    simp only [elsewhere_restartMissing, elsewhere_restartOwed, elsewhere_restartDiscard, elsewhere_restartUncertain]
  unfold restartEntries
  dsimp only
  rw [elsewhere_modPort, elsewhere_forClasses p s _ entries]

@[simp] theorem elsewhere_beginAutoneg : elsewhere p (beginAutoneg p s) = elsewhere p s := by
  unfold beginAutoneg
  dsimp only
  rw [elsewhere_pfcCheck, elsewhere_afterDraw, elsewhere_modPort, elsewhere_afterDraw, elsewhere_restartEntries]

@[simp] theorem elsewhere_tryAutoneg : elsewhere p (tryAutoneg p s) = elsewhere p s := by
  simp only [tryAutoneg, elsewhere_disarmDue, elsewhere_startIfNoSlot, elsewhere_beginAutoneg, elsewhere_modLink,
    elsewhere_ite, ite_self]

@[simp] theorem elsewhere_mcAbandon : elsewhere p (mcAbandon p s) = elsewhere p s := by
  simp only [mcAbandon, elsewhere_mcClear, elsewhere_modLink, elsewhere_ite, ite_self]

@[simp] theorem elsewhere_declareDown (cause : DownCause) : elsewhere p (declareDown p cause s) = elsewhere p s := by
  simp only [declareDown, elsewhere_skipSwap, elsewhere_modPort, elsewhere_startIfNoSlot, elsewhere_pfcCheck,
    elsewhere_mcAbandon, elsewhere_disarmDue, elsewhere_ite, ite_self]

@[simp] theorem elsewhere_raiseDown (r : Relink) : elsewhere p (raiseDown p r s) = elsewhere p s := by
  unfold raiseDown
  split
  · rfl
  · dsimp only
    split
    · simp only [elsewhere_mcTell, elsewhere_modLink, elsewhere_raise]
    · simp only [elsewhere_modLink, elsewhere_raise]

@[simp] theorem elsewhere_fallAsleep : elsewhere p (fallAsleep p s) = elsewhere p s := by
  simp only [fallAsleep, elsewhere_modLink, elsewhere_declareDown, elsewhere_modLine, elsewhere_release, elsewhere_ite,
    ite_self]

@[simp] theorem elsewhere_oweBeacons (full : Bool) (m : EMode) : elsewhere p (oweBeacons p full m s) = elsewhere p s :=
  elsewhere_modLine p s _

@[simp] theorem elsewhere_sendPeriod : elsewhere p (sendPeriod p s) = elsewhere p s := by
  simp only [sendPeriod, elsewhere_release, elsewhere_ite, ite_self]

@[simp] theorem elsewhere_enterPhase (ph : Phase) : elsewhere p (enterPhase p ph s) = elsewhere p s := by
  simp only [enterPhase, elsewhere_disarmDue, elsewhere_modPort, elsewhere_dspBoundary, elsewhere_startIfNoSlot,
    elsewhere_sendPeriod, elsewhere_ite, ite_self]

@[simp] theorem elsewhere_beginFull : elsewhere p (beginFull p s) = elsewhere p s := by
  simp only [beginFull, elsewhere_enterPhase, elsewhere_modPort]

@[simp] theorem elsewhere_beginFast : elsewhere p (beginFast p s) = elsewhere p s := by
  simp only [beginFast, elsewhere_enterPhase, elsewhere_modPort]

@[simp] theorem elsewhere_takeRelinkMode (m : EMode) : elsewhere p (takeRelinkMode p m s) = elsewhere p s := by
  simp only [takeRelinkMode, elsewhere_pfcCheck, elsewhere_gapAbandoned, elsewhere_modLink]

@[simp] theorem elsewhere_chooseAndBegin : elsewhere p (chooseAndBegin p s) = elsewhere p s := by
  unfold chooseAndBegin
  split
  · rfl
  · dsimp only
    split
    · simp only [elsewhere_raiseDown, elsewhere_modLink]
    · split
      · simp only [elsewhere_beginFast, elsewhere_oweBeacons, elsewhere_takeRelinkMode, elsewhere_raiseDown, elsewhere_modLink]
      · simp only [elsewhere_beginFull, elsewhere_oweBeacons, elsewhere_takeRelinkMode, elsewhere_raiseDown, elsewhere_modLink]
      · simp only [elsewhere_tryAutoneg, elsewhere_raiseDown, elsewhere_modLink]

@[simp] theorem elsewhere_restartFull (beacons : Bool) : elsewhere p (restartFull p beacons s) = elsewhere p s := by
  unfold restartFull
  split
  · rfl
  · simp only [elsewhere_ite, elsewhere_beginFull, elsewhere_oweBeacons, elsewhere_pfcCheck, elsewhere_gapAbandoned,
      elsewhere_modLink, ite_self]

@[simp] theorem elsewhere_fastGivesWay (beacons : Bool) : elsewhere p (fastGivesWay p beacons s) = elsewhere p s := by
  simp only [fastGivesWay, elsewhere_restartFull, elsewhere_modLink]

/-! ## Launching (Launch.lean) -/

@[simp] theorem elsewhere_wakeRequest : elsewhere p (wakeRequest p s) = elsewhere p s := elsewhere_modLine p s _

@[simp] theorem elsewhere_wakeIfOwed : elsewhere p (wakeIfOwed p s) = elsewhere p s := by
  simp only [wakeIfOwed, elsewhere_wakeRequest, elsewhere_ite, ite_self]

@[simp] theorem elsewhere_closeToQuiet : elsewhere p (closeToQuiet p s) = elsewhere p s := elsewhere_modLine p s _

@[simp] theorem elsewhere_enterQuiet : elsewhere p (enterQuiet p s) = elsewhere p s :=
  elsewhere_modPort p s _

@[simp] theorem elsewhere_quietSlot : elsewhere p (quietSlot p s) = elsewhere p s := by
  simp only [quietSlot, elsewhere_modLine, elsewhere_release]

@[simp] theorem elsewhere_putSlot (beacon : Bool) (x : SlotContent) (drop corrupt : Bool) :
    elsewhere p (putSlot p beacon x drop corrupt s) = elsewhere p s := by
  simp only [putSlot, elsewhere_release, elsewhere_modPort]

@[simp] theorem elsewhere_noteCorrupt (corrupt : Bool) : elsewhere p (noteCorrupt p corrupt s) = elsewhere p s := by
  simp only [noteCorrupt, elsewhere_provoke, elsewhere_modSieve, elsewhere_ite, ite_self]

@[simp] theorem elsewhere_slotChoices (ctl : Bool) (c : Cls) : elsewhere p (slotChoices p ctl c s).2.2 = elsewhere p s := by
  simp only [slotChoices, elsewhere_sieveDrop, elsewhere_sieveCorrupt, elsewhere_noteCorrupt]

@[simp] theorem elsewhere_putControl (k : Ctl) : elsewhere p (putControl p k s) = elsewhere p s := by
  unfold putControl
  dsimp only
  rw [elsewhere_modPort, elsewhere_putSlot, elsewhere_slotChoices]

@[simp] theorem elsewhere_enterLosses (c : Cls) (e : LaunchedSh) : elsewhere p (enterLosses p c e s) = elsewhere p s :=
  elsewhere_foldl p s _ (fun t _ => elsewhere_ledgerAdd p t _ _ _ _) _

@[simp] theorem elsewhere_putData (c : Cls) (n : Seq) (again : Bool) (at_ : Nat) :
    elsewhere p (putData p c n again at_ s) = elsewhere p s := by
  unfold putData
  split
  · rfl
  · simp only [elsewhere_ite, elsewhere_modCnt, elsewhere_modTx, elsewhere_modRx, elsewhere_putSlot, elsewhere_slotChoices,
      elsewhere_enterLosses, ite_self]

@[simp] theorem elsewhere_numberNext (c : Cls) : elsewhere p (numberNext p c s).1 = elsewhere p s := by
  unfold numberNext
  dsimp only
  split
  · exact elsewhere_modTx p s _ _
  · split
    · rfl
    · split
      · rfl
      · exact elsewhere_modTx p s _ _

@[simp] theorem elsewhere_closeAtBoundary (c : Cls) (n : Nat) : elsewhere p (closeAtBoundary p c n s) = elsewhere p s := by
  simp only [closeAtBoundary, elsewhere_modTx, elsewhere_ite, ite_self]

@[simp] theorem elsewhere_putSwap (c : Cls) (at_ : Nat) : elsewhere p (putSwap p c at_ s) = elsewhere p s := by
  unfold putSwap
  dsimp only
  split
  · simp only [elsewhere_putData, elsewhere_provoke, elsewhere_modSieve, elsewhere_modTx, elsewhere_numberNext]
  · simp only [elsewhere_numberNext]

@[simp] theorem elsewhere_putSwapped (c : Cls) (n : Seq) (at_ : Nat) : elsewhere p (putSwapped p c n at_ s) = elsewhere p s := by
  simp only [putSwapped, elsewhere_modSieve, elsewhere_putData, elsewhere_modTx]

@[simp] theorem elsewhere_putFresh (c : Cls) (at_ : Nat) : elsewhere p (putFresh p c at_ s) = elsewhere p s := by
  unfold putFresh
  split
  · exact elsewhere_putSwapped p s _ _ _
  · split
    · simp only [elsewhere_putSwap, elsewhere_closeAtBoundary]
    · dsimp only
      split
      · simp only [elsewhere_putData, elsewhere_numberNext, elsewhere_ite, elsewhere_modSieve, elsewhere_closeAtBoundary, ite_self]
      · simp only [elsewhere_numberNext, elsewhere_ite, elsewhere_modSieve, elsewhere_closeAtBoundary, ite_self]

@[simp] theorem elsewhere_putClass (c : Cls) (at_ : Nat) : elsewhere p (putClass p c at_ s) = elsewhere p s := by
  unfold putClass
  split
  · exact elsewhere_putData p s _ _ _ _
  · exact elsewhere_putFresh p s _ _

@[simp] theorem elsewhere_putNak : elsewhere p (putNak p s) = elsewhere p s :=
  (elsewhere_forClasses p _ _ (fun c t => elsewhere_modRx p t c _)).trans (elsewhere_putControl p s _)

@[simp] theorem elsewhere_putIdle : elsewhere p (putIdle p s) = elsewhere p s :=
  elsewhere_putControl p s _

@[simp] theorem elsewhere_afterControl (k : Ctl) : elsewhere p (afterControl p k s) = elsewhere p s := by
  unfold afterControl
  split
  · exact elsewhere_mcAcceptLaunched p s
  · simp only [elsewhere_closeToQuiet, elsewhere_modLink]
  · exact elsewhere_fallAsleep p s
  · rfl

@[simp] theorem elsewhere_putExit : elsewhere p (putExit p s) = elsewhere p s := by
  simp only [putExit, elsewhere_putControl, elsewhere_modLine]

@[simp] theorem elsewhere_putFirst (at_ : Nat) : elsewhere p (putFirst p at_ s) = elsewhere p s := by
  unfold putFirst
  dsimp only
  split
  · simp only [elsewhere_putControl, elsewhere_modMc]
  · split
    · simp only [elsewhere_afterControl, elsewhere_putControl, elsewhere_modLine]
    · simp only [elsewhere_ite, elsewhere_putClass, elsewhere_putNak, elsewhere_putIdle, ite_self]

@[simp] theorem elsewhere_putQuiet : elsewhere p (putQuiet p s) = elsewhere p s := by
  unfold putQuiet
  dsimp only
  split
  · rfl
  · simp only [elsewhere_ite, elsewhere_modLine, elsewhere_putIdle, elsewhere_quietSlot, elsewhere_enterQuiet, ite_self]
  · simp only [elsewhere_ite, elsewhere_modLine, elsewhere_putIdle, elsewhere_quietSlot, ite_self]
  · exact elsewhere_putExit p s
  · simp only [elsewhere_modLine, elsewhere_putIdle]
  · simp only [elsewhere_ite, elsewhere_putExit, elsewhere_quietSlot, elsewhere_enterQuiet, ite_self]
  · simp only [elsewhere_ite, elsewhere_modLine, elsewhere_putIdle, elsewhere_putExit, ite_self]

@[simp] theorem elsewhere_swapCheck : elsewhere p (swapCheck p s) = elsewhere p s := by
  unfold swapCheck
  split
  · simp only [elsewhere_ite, elsewhere_skipSwap, ite_self]
  · rfl

@[simp] theorem elsewhere_boundary : elsewhere p (boundary p s) = elsewhere p s := by
  simp only [boundary, elsewhere_dspBoundary, elsewhere_disarmDue, elsewhere_startInterruption, elsewhere_mcTransmitEpoch,
    elsewhere_skipSwap, elsewhere_swapCheck, elsewhere_modSieve, elsewhere_ite, ite_self]

@[simp] theorem elsewhere_sleepPoll : elsewhere p (sleepPoll p s) = elsewhere p s := by
  simp only [sleepPoll, elsewhere_oweCtl, elsewhere_modLink, elsewhere_wakeRequest, elsewhere_ite, ite_self]

@[simp] theorem elsewhere_driverOff : elsewhere p (driverOff p s) = elsewhere p s := elsewhere_modLine p s _

@[simp] theorem elsewhere_launch (at_ : Nat) : elsewhere p (launch p at_ s) = elsewhere p s := by
  have flushed (t : State) : elsewhere p (forClasses (fun c u => flushLosses p c u) t) = elsewhere p t :=
    elsewhere_forClasses p t _ (fun c u => elsewhere_flushLosses p u c)
  unfold launch
  dsimp only
  split
  · simp only [elsewhere_ite, elsewhere_putFirst, elsewhere_pfcCheck, flushed, elsewhere_putQuiet, elsewhere_sleepPoll,
      elsewhere_boundary, ite_self]
  · split
    · split
      · simp only [elsewhere_putControl, elsewhere_modLine]
      · rfl
    · simp only [elsewhere_ite, elsewhere_putIdle, elsewhere_boundary, elsewhere_driverOff, ite_self]

@[simp] theorem elsewhere_stdForward (at_ : Nat) (cs : List Cls) : elsewhere p (stdForward p at_ cs s) = elsewhere p s := by
  induction cs with
  | nil => rfl
  | cons c cs ih =>
    unfold stdForward
    split
    · exact ih
    · simp only [elsewhere_pfcCheck, elsewhere_modPort]

/-! ## Receiving (Receive.lean) -/

@[simp] theorem elsewhere_takePayload (c : Cls) (h : HeldSh) (slots : List Nat) (own : Bool) :
    elsewhere p (takePayload p c h slots own s) = elsewhere p s := by
  simp only [takePayload, elsewhere_ledgerMore, elsewhere_modRx, elsewhere_modCnt, elsewhere_ite, ite_self]

@[simp] theorem elsewhere_freshSlot : elsewhere p (freshSlot p s).2 = elsewhere p s := elsewhere_modPort p s _

@[simp] theorem elsewhere_takeHeld (c : Cls) (fuel : Nat) : elsewhere p (takeHeld p c fuel s) = elsewhere p s := by
  induction fuel generalizing s with
  | zero => rfl
  | succ fuel ih =>
    unfold takeHeld
    dsimp only
    split
    · rfl
    · simp only [ih, elsewhere_takePayload, elsewhere_modRx, elsewhere_freshSlot]

@[simp] theorem elsewhere_takeInOrder (c : Cls) (h : HeldSh) (slots : List Nat) (own : Bool) :
    elsewhere p (takeInOrder p c h slots own s) = elsewhere p s := by
  simp only [takeInOrder, elsewhere_takePayload, elsewhere_modRx, elsewhere_takeHeld]

@[simp] theorem elsewhere_sequence (c : Cls) (h : HeldSh) : elsewhere p (sequence p c h s) = elsewhere p s := by
  simp only [sequence, elsewhere_modCnt, elsewhere_takeInOrder, elsewhere_freshSlot, elsewhere_modRx, elsewhere_ite, ite_self]

@[simp] theorem elsewhere_acceptAck (c : Cls) (a : Seq) : elsewhere p (acceptAck p c a s) = elsewhere p s := by
  simp only [acceptAck, elsewhere_grantOwed, elsewhere_modTx, elsewhere_modCnt, elsewhere_ite, ite_self]

@[simp] theorem elsewhere_acceptBlock (a : AckBlock) : elsewhere p (acceptBlock p a s) = elsewhere p s :=
  (elsewhere_pfcCheck p _).trans (elsewhere_forClasses p s _ (fun c t => elsewhere_acceptAck p t c _))

@[simp] theorem elsewhere_slotGood (corr : Fin 9) : elsewhere p (slotGood p corr s) = elsewhere p s := by
  simp only [slotGood, elsewhere_modPort, elsewhere_noteDecode]

@[simp] theorem elsewhere_slotBad (r : UncReason) : elsewhere p (slotBad p r s) = elsewhere p s := by
  simp only [slotBad, elsewhere_modPort, elsewhere_noteDecode, elsewhere_declareDown, elsewhere_ite, ite_self]

@[simp] theorem elsewhere_partnerAwake : elsewhere p (partnerAwake p s) = elsewhere p s := elsewhere_modLine p s _

@[simp] theorem elsewhere_linkUp (ph : Phase) (how : HowUp) : elsewhere p (linkUp p ph how s) = elsewhere p s := by
  simp only [linkUp, elsewhere_modPort, elsewhere_raise]

@[simp] theorem elsewhere_checkLinkUp : elsewhere p (checkLinkUp p s) = elsewhere p s := by
  simp only [checkLinkUp, elsewhere_linkUp, elsewhere_ite, ite_self]

/-- What follows a good slot keeps `elsewhere` if the slot's own effect f does. -/
theorem elsewhere_onSlot (f : State → State) (h : ∀ t, elsewhere p (f t) = elsewhere p t) :
    elsewhere p (onSlot p f s) = elsewhere p s := by
  unfold onSlot
  split
  · rfl
  · split
    · exact elsewhere_slotBad p s _
    · exact (elsewhere_checkLinkUp p _).trans (h s)

@[simp] theorem elsewhere_controlIn (a : AckBlock) (corr : Fin 9) : elsewhere p (controlIn p a corr s) = elsewhere p s := by
  simp only [controlIn, elsewhere_acceptBlock, elsewhere_slotGood]

theorem elsewhere_onControl (a : AckBlock) (corr : Fin 9) (f : State → State) (h : ∀ t, elsewhere p (f t) = elsewhere p t) :
    elsewhere p (onControl p a corr f s) = elsewhere p s :=
  elsewhere_onSlot p s _ (fun t => (h _).trans (elsewhere_controlIn p t a corr))

@[simp] theorem elsewhere_applyNak (n : Cls × Seq × Nat) : elsewhere p (applyNak p s n) = elsewhere p s := elsewhere_modTx p s _ _

@[simp] theorem elsewhere_partnerQuiets : elsewhere p (partnerQuiets p s) = elsewhere p s := elsewhere_modPort p s _

theorem elsewhere_onTc10 (f : State → State) (h : ∀ t, elsewhere p (f t) = elsewhere p t) :
    elsewhere p (onTc10 p f s) = elsewhere p s := by
  unfold onTc10
  split
  · rfl
  · exact h s

@[simp] theorem elsewhere_beaconInS (full : Bool) (m : EMode) : elsewhere p (beaconInS p full m s) = elsewhere p s := by
  simp only [beaconInS, elsewhere_restartFull, elsewhere_beginFast, elsewhere_ite, ite_self]

@[simp] theorem elsewhere_beaconLate (full : Bool) (m : EMode) : elsewhere p (beaconLate p full m s) = elsewhere p s := by
  unfold beaconLate
  dsimp only
  split
  · rfl
  · simp only [elsewhere_ite, elsewhere_fastGivesWay, elsewhere_beginFast, elsewhere_restartFull, elsewhere_beaconInS,
      elsewhere_pfcCheck, elsewhere_gapAbandoned, elsewhere_modLink, ite_self]

@[simp] theorem elsewhere_beaconIn (full : Bool) (m : EMode) : elsewhere p (beaconIn p full m s) = elsewhere p s := by
  simp only [beaconIn, elsewhere_modLink, elsewhere_declareDown, elsewhere_beaconLate, elsewhere_ite, ite_self]

@[simp] theorem elsewhere_onBeacon (full : Bool) (m : EMode) (a : AckBlock) (corr : Fin 9) :
    elsewhere p (onBeacon p full m a corr s) = elsewhere p s := by
  have slot (t : State) : elsewhere p (beaconIn p full m (controlIn p a corr t)) = elsewhere p t :=
    (elsewhere_beaconIn p _ full m).trans (elsewhere_controlIn p t a corr)
  unfold onBeacon
  split
  · exact elsewhere_onSlot p s _ slot
  · simp only [elsewhere_ite, elsewhere_beaconIn, elsewhere_acceptBlock, elsewhere_modCnt, ite_self]

@[simp] theorem elsewhere_codewordCut : elsewhere p (codewordCut p s) = elsewhere p s := by
  simp only [codewordCut, elsewhere_modPort, elsewhere_ite, ite_self]

@[simp] theorem elsewhere_loseLock (c : LockCriterion) : elsewhere p (loseLock p c s) = elsewhere p s := by
  simp only [loseLock, elsewhere_modSig, elsewhere_modDsp, elsewhere_codewordCut, elsewhere_declareDown]

@[simp] theorem elsewhere_passLoss (c : Cls) : elsewhere p (passLoss p c s) = elsewhere p s := by
  unfold passLoss
  split
  · simp only [elsewhere_gapLeaf, elsewhere_modRx, elsewhere_ledgerAdd]
  · rfl

@[simp] theorem elsewhere_passLosses (c : Cls) (fuel : Nat) : elsewhere p (passLosses p c fuel s) = elsewhere p s := by
  induction fuel generalizing s with
  | zero => rfl
  | succ fuel ih =>
    unfold passLosses
    split
    · exact (ih _).trans (elsewhere_passLoss p s c)
    · rfl

/-! ## Signature and host lane (Signature.lean, HostLane.lean) -/

@[simp] theorem elsewhere_setCapture (k : RefSlot) (r : CapResult) : elsewhere p (setCapture p k r s) = elsewhere p s :=
  elsewhere_modSig p s _

@[simp] theorem elsewhere_cutDelivery (provoked : Bool) : elsewhere p (cutDelivery p provoked s) = elsewhere p s := by
  unfold cutDelivery
  split
  · rfl
  · dsimp only
    split
    · rw [elsewhere_cutAtEnd]
      split
      · simp only [elsewhere_cutLeaf, elsewhere_modHost, elsewhere_ledgerAdd]
      · simp only [elsewhere_modHost, elsewhere_ledgerAdd]
    · exact elsewhere_modHost p s _

@[simp] theorem elsewhere_laneDown (htxStops : Bool) : elsewhere p (laneDown p htxStops s) = elsewhere p s := by
  simp only [laneDown, elsewhere_ite, elsewhere_raise, elsewhere_modHost, elsewhere_cutDelivery, elsewhere_frameEnd, ite_self]

@[simp] theorem elsewhere_applyLane : elsewhere p (applyLane p s) = elsewhere p s := by
  unfold applyLane
  split
  · rfl
  · simp only [elsewhere_ite, elsewhere_pfcCheck, elsewhere_modHost, elsewhere_laneDown, ite_self]

@[simp] theorem elsewhere_resolveLane (m : LineMode) : elsewhere p (resolveLane p m s) = elsewhere p s := by
  simp only [resolveLane, elsewhere_modHost, elsewhere_applyLane, elsewhere_ite, ite_self]

@[simp] theorem elsewhere_putHtx (x : HtxItem) : elsewhere p (putHtx p x s) = elsewhere p s := elsewhere_modHost p s _

@[simp] theorem elsewhere_noteMdi (c : Cls) (f : RxFrame) : elsewhere p (noteMdi p c f s) = elsewhere p s :=
  elsewhere_modRx p s _ _

@[simp] theorem elsewhere_deliver (c : Cls) (at_ : Nat) : elsewhere p (deliver p c at_ s) = elsewhere p s := by
  unfold deliver
  split
  · simp only [elsewhere_frameLeaf, elsewhere_modHost, elsewhere_putHtx, elsewhere_noteMdi, elsewhere_modPort, elsewhere_ite,
      elsewhere_afterDraw, ite_self]
  · rfl

@[simp] theorem elsewhere_putPfc (x : Cls × Bool) (rest : List (Cls × Bool)) :
    elsewhere p (putPfc p x rest s) = elsewhere p s := by
  simp only [putPfc, elsewhere_putHtx, elsewhere_modPort]

@[simp] theorem elsewhere_htxNext (at_ : Nat) : elsewhere p (htxNext p at_ s) = elsewhere p s := by
  unfold htxNext
  dsimp only
  split
  · exact elsewhere_putPfc p s _ _
  · split
    · exact elsewhere_deliver p s _ _
    · split
      · exact elsewhere_putPfc p s _ _
      · split
        · simp only [elsewhere_putHtx, elsewhere_modSeal]
        · split
          · simp only [elsewhere_putHtx, elsewhere_modSeal]
          · simp only [elsewhere_ite, elsewhere_deliver, ite_self]

@[simp] theorem elsewhere_htxDone : elsewhere p (htxDone p s) = elsewhere p s := by
  unfold htxDone
  split
  · rfl
  · simp only [elsewhere_cutAtEnd, elsewhere_modHost]

@[simp] theorem elsewhere_passAllLosses : elsewhere p (passAllLosses p s) = elsewhere p s :=
  elsewhere_forClasses p s _ (fun c t => elsewhere_passLosses p t c _)

@[simp] theorem elsewhere_invalidBytes (bytes : List Byte) : elsewhere p (invalidBytes p bytes s) = elsewhere p s := by
  simp only [invalidBytes, elsewhere_frameBytes, elsewhere_modArriving]

@[simp] theorem elsewhere_countFec (i : Nat) : elsewhere p (countFec p i s) = elsewhere p s := elsewhere_modHost p s _

@[simp] theorem elsewhere_hostOutHit : elsewhere p (hostOutHit p s) = elsewhere p s := by
  unfold hostOutHit
  split
  · exact elsewhere_modSieve p s _
  · exact elsewhere_modSieve p s _
  · simp only [elsewhere_cutDelivery, elsewhere_provoke, elsewhere_modSieve]

/-! ## Training (Train.lean) -/

@[simp] theorem elsewhere_toStdClass (c : Cls) : elsewhere p (toStdClass p c s) = elsewhere p s := by
  simp only [toStdClass, elsewhere_restartOwed, elsewhere_modTx]

@[simp] theorem elsewhere_toStd : elsewhere p (toStd p s) = elsewhere p s :=
  (elsewhere_forClasses p _ _ (fun c t => elsewhere_toStdClass p t c)).trans (elsewhere_unpack p s)

@[simp] theorem elsewhere_msFault : elsewhere p (msFault p s) = elsewhere p s :=
  elsewhere_modLink p s _

@[simp] theorem elsewhere_resolvedEtoon (m : EMode) (lv sv : BitVec 4 × BitVec 4) (leader : Bool) (partnerSeed : BitVec 12) :
    elsewhere p (resolvedEtoon p m lv sv leader partnerSeed s) = elsewhere p s := by
  simp only [resolvedEtoon, elsewhere_modPort, elsewhere_enterPhase, elsewhere_pfcCheck, elsewhere_resolveLane,
    elsewhere_gapAbandoned]

@[simp] theorem elsewhere_resolvedStd (m : SMode) (leader : Bool) : elsewhere p (resolvedStd p m leader s) = elsewhere p s := by
  simp only [resolvedStd, elsewhere_modLink, elsewhere_pfcCheck, elsewhere_resolveLane, elsewhere_toStd, elsewhere_gapAbandoned]

@[simp] theorem elsewhere_autonegResolve (sent : PartnerPages) (std : BitVec 5) (ms : MsOutcome) :
    elsewhere p (autonegResolve p sent std ms s) = elsewhere p s := by
  unfold autonegResolve
  dsimp only
  split
  · rfl
  · split
    · simp only [elsewhere_msFault, elsewhere_modLink]
    · split
      · simp only [elsewhere_resolvedEtoon, elsewhere_modLink]
      · split
        · simp only [elsewhere_resolvedStd, elsewhere_modLink]
        · simp only [elsewhere_modLink]

@[simp] theorem elsewhere_noteFailure (r : FailReason) : elsewhere p (noteFailure p r s) = elsewhere p s := by
  simp only [noteFailure, elsewhere_raise, elsewhere_modLink]

@[simp] theorem elsewhere_noteModeFailed (m : EMode) : elsewhere p (noteModeFailed p m s) = elsewhere p s := by
  simp only [noteModeFailed, elsewhere_modLink, elsewhere_raise, elsewhere_ite, ite_self]

@[simp] theorem elsewhere_fastFail (r : FailReason) (beacons : Bool) : elsewhere p (fastFail p r beacons s) = elsewhere p s := by
  simp only [fastFail, elsewhere_modLink, elsewhere_noteFailure, elsewhere_tryAutoneg, elsewhere_restartFull, elsewhere_ite,
    ite_self]

@[simp] theorem elsewhere_trainFail (r : FailReason) : elsewhere p (trainFail p r s) = elsewhere p s := by
  unfold trainFail
  dsimp only
  split
  · simp only [elsewhere_tryAutoneg, elsewhere_modLink, elsewhere_noteFailure]
  · simp only [elsewhere_tryAutoneg, elsewhere_noteModeFailed, elsewhere_modLink, elsewhere_noteFailure]
  · simp only [elsewhere_tryAutoneg, elsewhere_modLink, elsewhere_noteFailure]

@[simp] theorem elsewhere_noteConfirmed (corr : Nat) : elsewhere p (noteConfirmed p corr s) = elsewhere p s :=
  elsewhere_modTrain p s _

@[simp] theorem elsewhere_joinFast : elsewhere p (joinFast p s) = elsewhere p s := by
  unfold joinFast
  split
  · rfl
  · simp only [elsewhere_ite, elsewhere_beginFast, elsewhere_sendPeriod, elsewhere_disarmDue, elsewhere_modTrain, ite_self]

@[simp] theorem elsewhere_startConfirmed (k : BitVec 58) (corr : Nat) :
    elsewhere p (startConfirmed p k corr s) = elsewhere p s := by
  unfold startConfirmed
  dsimp only
  split
  · rfl
  · split
    · rfl
    · split
      · exact elsewhere_fastGivesWay p s _
      · rfl
      · exact elsewhere_noteConfirmed p s _
      · simp only [elsewhere_ite, elsewhere_noteConfirmed, elsewhere_joinFast, ite_self]
      · simp only [elsewhere_ite, elsewhere_noteConfirmed, elsewhere_enterPhase, ite_self]
      · simp only [elsewhere_ite, elsewhere_noteConfirmed, elsewhere_enterPhase, ite_self]
      · exact elsewhere_noteConfirmed p s _

@[simp] theorem elsewhere_exitCriterion (m : Criterion) : elsewhere p (exitCriterion p m s) = elsewhere p s := by
  simp only [exitCriterion, elsewhere_enterPhase, elsewhere_modTrain, elsewhere_ite, ite_self]

@[simp] theorem elsewhere_enterS : elsewhere p (enterS p s) = elsewhere p s := by
  simp only [enterS, elsewhere_checkLinkUp, elsewhere_enterPhase, elsewhere_modPort]

@[simp] theorem elsewhere_leavePhase (m : EMode) : elsewhere p (leavePhase p m s) = elsewhere p s := by
  unfold leavePhase
  dsimp only
  split
  · simp only [elsewhere_ite, elsewhere_enterPhase, ite_self]
  · simp only [elsewhere_ite, elsewhere_enterPhase, ite_self]
  · simp only [elsewhere_ite, elsewhere_enterPhase, ite_self]
  · simp only [elsewhere_ite, elsewhere_enterS, ite_self]
  · simp only [elsewhere_ite, elsewhere_enterS, ite_self]
  · rfl

@[simp] theorem elsewhere_periodBoundary (partnerReady : Option Nat) :
    elsewhere p (periodBoundary p partnerReady s) = elsewhere p s := by
  unfold periodBoundary
  dsimp only
  split
  · rfl
  · simp only [elsewhere_ite, elsewhere_enterPhase, elsewhere_modTrain, elsewhere_sendPeriod, elsewhere_leavePhase,
      elsewhere_dspBoundary, ite_self]

@[simp] theorem elsewhere_phaseLimitExpiry (m : Criterion) : elsewhere p (phaseLimitExpiry p m s) = elsewhere p s := by
  unfold phaseLimitExpiry
  dsimp only
  split
  · rfl
  · split
    · rfl
    · simp only [elsewhere_ite, elsewhere_modTrain, elsewhere_trainFail, ite_self]

@[simp] theorem elsewhere_fastLimit (m : Criterion) : elsewhere p (fastLimit p m s) = elsewhere p s := by
  simp only [fastLimit, elsewhere_fastFail, elsewhere_ite, ite_self]

@[simp] theorem elsewhere_reloadDone : elsewhere p (reloadDone p s) = elsewhere p s := by
  unfold reloadDone
  dsimp only
  split
  · rfl
  · split
    · rfl
    · split
      · exact elsewhere_fastFail p s _ _
      · simp only [elsewhere_sendPeriod, elsewhere_xtalkBoundary, elsewhere_modPort]

@[simp] theorem elsewhere_echoCheck (near far : Int) : elsewhere p (echoCheck p near far s) = elsewhere p s := by
  unfold echoCheck
  dsimp only
  split
  · rfl
  · simp only [elsewhere_ite, elsewhere_fastFail, ite_self]

@[simp] theorem elsewhere_chooseAutoneg : elsewhere p (chooseAutoneg p s) = elsewhere p s := by
  simp only [chooseAutoneg, elsewhere_chooseAndBegin, elsewhere_modLink]

@[simp] theorem elsewhere_wakePort : elsewhere p (wakePort p s) = elsewhere p s := by
  simp only [wakePort, elsewhere_tryAutoneg, elsewhere_modLine, elsewhere_modLink]

@[simp] theorem elsewhere_leaderSilent : elsewhere p (leaderSilent p s) = elsewhere p s := by
  simp only [leaderSilent, elsewhere_enterPhase, elsewhere_modTrain, elsewhere_ite, ite_self]

@[simp] theorem elsewhere_stdFail (cut : Option (Cls × Nat)) : elsewhere p (stdFail p cut s) = elsewhere p s := by
  unfold stdFail
  split
  · dsimp only
    split
    · simp only [elsewhere_declareDown, elsewhere_modRx]
    · exact elsewhere_declareDown p s _
  · rfl

/-! ## The commands -/

/-- The outcome is a next state that differs from s in port p, and in what its bay hands over, alone. -/
def StaysIn (o : Host.Outcome State Fault Refusal) : Prop := ∃ t, o = .next t ∧ elsewhere p t = elsewhere p s

theorem staysIn_next {p : PortId} {s t : State} (h : elsewhere p t = elsewhere p s) : StaysIn p s (.next t) := ⟨t, rfl, h⟩

theorem StaysIn.portFrame {p : PortId} {s t : State} {o : Host.Outcome State Fault Refusal} (h : StaysIn p s o) (ho : o = .next t) :
    PortFrame p s t := by
  obtain ⟨u, hu, hk⟩ := h
  cases hu.symm.trans ho
  exact portFrame_of_elsewhere p s hk

theorem staysIn_execLaunchSlot (at_ : Nat) : StaysIn p s (execLaunchSlot p at_ s) :=
  staysIn_next (by simp only [elsewhere_ite, elsewhere_stdForward, elsewhere_launch, ite_self])

theorem staysIn_execDataShingle (h : ShHdr) (payload : List Byte) (corr : Fin 9) (at_ : Nat) :
    StaysIn p s (execDataShingle p h payload corr at_ s) :=
  staysIn_next (elsewhere_onSlot p s _ (fun t => by
    simp only [elsewhere_wakeIfOwed, elsewhere_sequence, elsewhere_pfcCheck, elsewhere_acceptAck, elsewhere_partnerAwake,
      elsewhere_slotGood]))

theorem staysIn_execUncorrectableSlot (r : UncReason) : StaysIn p s (execUncorrectableSlot p r s) :=
  staysIn_next (by simp only [elsewhere_slotBad, elsewhere_ite, ite_self])

theorem staysIn_execIdle (synced : Bool) (a : AckBlock) (corr : Fin 9) : StaysIn p s (execIdle p synced a corr s) :=
  staysIn_next (elsewhere_onControl p s a corr _ (fun t => elsewhere_modTrain p t _))

theorem staysIn_execNak (a : AckBlock) (body : List Byte) (corr : Fin 9) : StaysIn p s (execNak p a body corr s) :=
  staysIn_next (elsewhere_onControl p s a corr _ (fun t => by
    rw [elsewhere_wakeIfOwed, elsewhere_foldl p _ _ (elsewhere_applyNak p), elsewhere_partnerAwake]))

theorem staysIn_execLpiEntry (a : AckBlock) (corr : Fin 9) : StaysIn p s (execLpiEntry p a corr s) :=
  staysIn_next (elsewhere_onControl p s a corr _ (elsewhere_partnerQuiets p))

theorem staysIn_execLpiExit (a : AckBlock) (corr : Fin 9) : StaysIn p s (execLpiExit p a corr s) :=
  staysIn_next (elsewhere_onControl p s a corr _ (fun t => (elsewhere_wakeIfOwed p _).trans (elsewhere_partnerAwake p t)))

theorem staysIn_execSleepRequest (a : AckBlock) (corr : Fin 9) : StaysIn p s (execSleepRequest p a corr s) := by
  refine staysIn_next ?_
  split
  · exact elsewhere_onTc10 p s _ (elsewhere_fallAsleep p)
  · refine elsewhere_onControl p s a corr _ (fun t => ?_)
    simp only [elsewhere_ite, elsewhere_oweCtl, elsewhere_wakeRequest, elsewhere_partnerQuiets, ite_self]

theorem staysIn_execSleepAck (a : AckBlock) (corr : Fin 9) : StaysIn p s (execSleepAck p a corr s) := by
  have asleep (t : State) : elsewhere p (if t.ports[p].link.sleepSent then fallAsleep p t else t) = elsewhere p t := by
    simp only [elsewhere_ite, elsewhere_fallAsleep, ite_self]
  refine staysIn_next ?_
  split
  · exact elsewhere_onTc10 p s _ asleep
  · exact elsewhere_onControl p s a corr _ asleep

theorem staysIn_execSleepReject (a : AckBlock) (corr : Fin 9) : StaysIn p s (execSleepReject p a corr s) := by
  refine staysIn_next ?_
  dsimp only
  split
  · exact elsewhere_onTc10 p s _ (fun t => elsewhere_modLink p t _)
  · exact elsewhere_onControl p s a corr _ (fun t => elsewhere_modLink p t _)

theorem staysIn_execBeaconFast (m : EMode) (a : AckBlock) (corr : Fin 9) : StaysIn p s (execBeaconFast p m a corr s) :=
  staysIn_next (elsewhere_onBeacon p s false m a corr)

theorem staysIn_execBeaconFull (m : EMode) (a : AckBlock) (corr : Fin 9) : StaysIn p s (execBeaconFull p m a corr s) :=
  staysIn_next (elsewhere_onBeacon p s true m a corr)

theorem staysIn_execRequest (m : EMode) (ep : Byte) (a : AckBlock) (corr : Fin 9) : StaysIn p s (execRequest p m ep a corr s) :=
  staysIn_next (elsewhere_onControl p s a corr _ (fun t => (elsewhere_mcRequested p _ m _).trans (elsewhere_partnerAwake p t)))

theorem staysIn_execAccept (m : EMode) (ep : Byte) (a : AckBlock) (corr : Fin 9) : StaysIn p s (execAccept p m ep a corr s) :=
  staysIn_next (elsewhere_onControl p s a corr _ (fun t => (elsewhere_mcAccepted p _ m _).trans (elsewhere_partnerAwake p t)))

theorem staysIn_execRefuse (r : RefuseReason) (ep : Byte) (a : AckBlock) (corr : Fin 9) :
    StaysIn p s (execRefuse p r ep a corr s) :=
  staysIn_next (elsewhere_onControl p s a corr _ (fun t => (elsewhere_mcRefused p _ _).trans (elsewhere_partnerAwake p t)))

theorem staysIn_execMark (k : Fin 8) (ep : Byte) (a : AckBlock) (corr : Fin 9) : StaysIn p s (execMark p k ep a corr s) :=
  staysIn_next (elsewhere_onControl p s a corr _ (fun t => (elsewhere_mcMark p _ _ _).trans (elsewhere_partnerAwake p t)))

theorem staysIn_execReceiveEpoch : StaysIn p s (execReceiveEpoch p s) :=
  staysIn_next (by simp only [elsewhere_mcReceiveEpoch, elsewhere_ite, ite_self])

theorem staysIn_execEpochExemptionEnd : StaysIn p s (execEpochExemptionEnd p s) := staysIn_next (elsewhere_modLine p s _)

theorem staysIn_execModeRequestRetry : StaysIn p s (execModeRequestRetry p s) :=
  staysIn_next (elsewhere_mcRetry p s)

theorem staysIn_execModePrepareDone : StaysIn p s (execModePrepareDone p s) := staysIn_next (elsewhere_mcPrepared p s)

theorem staysIn_execAutoDownshiftWindow (meanSnr : Int) : StaysIn p s (execAutoDownshiftWindow p meanSnr s) := by
  refine staysIn_next ?_
  dsimp only
  split
  · split
    · exact elsewhere_modLine p s _
    · split
      · simp only [elsewhere_mcStart, elsewhere_modLine]
      · exact elsewhere_modLine p s _
  · exact elsewhere_modLine p s _

theorem staysIn_execReplayTimer (c : Cls) (seq : Seq) : StaysIn p s (execReplayTimer p c seq s) :=
  staysIn_next (elsewhere_modTx p s _ _)

theorem staysIn_execNakRepeat (c : Cls) (seq : Seq) : StaysIn p s (execNakRepeat p c seq s) :=
  staysIn_next (by simp only [elsewhere_wakeIfOwed, elsewhere_modRx])

theorem staysIn_execLossPasses (c : Cls) : StaysIn p s (execLossPasses p c s) := staysIn_next (elsewhere_passLoss p s _)

theorem staysIn_execHostFrameStart (at_ : Nat) : StaysIn p s (execHostFrameStart p at_ s) :=
  staysIn_next (by simp only [elsewhere_frameEnd, elsewhere_wakeRequest, elsewhere_modHost, elsewhere_frameBegin, elsewhere_ite,
    ite_self])

theorem staysIn_execHostFrameData (bytes : List Byte) (b : LaneBlock) : StaysIn p s (execHostFrameData p bytes b s) := by
  refine staysIn_next ?_
  cases b with
  | clean => exact elsewhere_frameBytes p s bytes
  | corrected => simp only [elsewhere_frameBytes, elsewhere_countFec]
  | invalid => exact elsewhere_invalidBytes p s bytes
  | uncorrectable => simp only [elsewhere_invalidBytes, elsewhere_countFec]

theorem staysIn_execHostFrameEnd (e : FrameEnd) : StaysIn p s (execHostFrameEnd p e s) :=
  staysIn_next (elsewhere_frameEnd p s _)

theorem staysIn_execHtxFrameBoundary (at_ : Nat) : StaysIn p s (execHtxFrameBoundary p at_ s) :=
  staysIn_next (by simp only [elsewhere_passAllLosses, elsewhere_applyLane, elsewhere_htxDone, elsewhere_htxNext,
    elsewhere_hostOutHit, elsewhere_ite, ite_self])

theorem staysIn_execPfcRepeat (c : Cls) : StaysIn p s (execPfcRepeat p c s) := by
  refine staysIn_next ?_
  dsimp only
  split
  · rfl
  · simp only [elsewhere_ite, elsewhere_modHost, ite_self]

theorem staysIn_execHostLaneDown (e : LaneLoss) : StaysIn e.port s (execHostLaneDown e s) :=
  staysIn_next (by simp only [elsewhere_ite, elsewhere_modHost, elsewhere_laneDown, ite_self])

theorem staysIn_execHostLpiBegin : StaysIn p s (execHostLpiBegin p s) :=
  staysIn_next (by simp only [elsewhere_modHost, elsewhere_ite, ite_self])

theorem staysIn_execHostLpiEnd : StaysIn p s (execHostLpiEnd p s) :=
  staysIn_next (by simp only [elsewhere_wakeRequest, elsewhere_modHost, elsewhere_ite, ite_self])

theorem staysIn_execHostIdleTimeout : StaysIn p s (execHostIdleTimeout p s) :=
  staysIn_next (by simp only [elsewhere_modHost, elsewhere_ite, ite_self])

theorem staysIn_execLpiEnter : StaysIn p s (execLpiEnter p s) :=
  staysIn_next (by simp only [elsewhere_closeToQuiet, elsewhere_putControl, elsewhere_boundary, elsewhere_ite, ite_self])

theorem staysIn_execLpiRefresh : StaysIn p s (execLpiRefresh p s) :=
  staysIn_next (by simp only [elsewhere_modLine, elsewhere_ite, ite_self])

theorem staysIn_execEnergyDetect : StaysIn p s (execEnergyDetect p s) :=
  staysIn_next (by simp only [elsewhere_modLine, elsewhere_ite, ite_self])

theorem staysIn_execLpiFalseWake : StaysIn p s (execLpiFalseWake p s) :=
  staysIn_next (by simp only [elsewhere_modPort, elsewhere_ite, ite_self])

theorem staysIn_execLpiRefreshMissed : StaysIn p s (execLpiRefreshMissed p s) :=
  staysIn_next (by simp only [elsewhere_declareDown, elsewhere_modPort, elsewhere_ite, ite_self])

theorem staysIn_execLockLoss (c : LockCriterion) : StaysIn p s (execLockLoss p c s) :=
  staysIn_next (by simp only [elsewhere_loseLock, elsewhere_ite, ite_self])

theorem staysIn_execAdaptUpdate (u : AdaptIn) : StaysIn p s (execAdaptUpdate p u s) := staysIn_next (elsewhere_adapt p s _)

theorem staysIn_execSnapshotWindowEnd : StaysIn p s (execSnapshotWindowEnd p s) := by
  refine staysIn_next ?_
  split
  · rfl
  · dsimp only
    rw [elsewhere_modDsp, elsewhere_measureLoads]
    split
    · simp only [elsewhere_ite, elsewhere_takeSnapshot, ite_self]
    · rfl

theorem staysIn_execSnapshotServe : StaysIn p s (execSnapshotServe p s) := by
  refine staysIn_next ?_
  dsimp only
  split
  · rfl
  · rw [elsewhere_raise, elsewhere_modDsp]
    split
    · simp only [elsewhere_ite, elsewhere_takeSnapshot, ite_self]
    · rfl

theorem staysIn_execXtalkJoinDone (m : PortId) (centiDb : Int) : StaysIn p s (execXtalkJoinDone p m centiDb s) :=
  staysIn_next (by simp only [elsewhere_modDsp, elsewhere_ite, ite_self])

theorem staysIn_execXtalkJoinRetry (m : PortId) : StaysIn p s (execXtalkJoinRetry p m s) :=
  staysIn_next (by simp only [elsewhere_modDsp, elsewhere_ite, ite_self])

theorem staysIn_execAutonegStart : StaysIn p s (execAutonegStart p s) :=
  staysIn_next (by simp only [elsewhere_beginAutoneg, elsewhere_ite, ite_self])

theorem staysIn_execAutonegResolve (pages : PartnerPages) (stdModes : BitVec 5) (ms : MsOutcome) :
    StaysIn p s (execAutonegResolve p pages stdModes ms s) :=
  staysIn_next (elsewhere_autonegResolve p s _ _ _)

theorem staysIn_execClause98Pages : StaysIn p s (execClause98Pages p s) :=
  staysIn_next (by simp only [elsewhere_declareDown, elsewhere_chooseAutoneg, elsewhere_tryAutoneg, elsewhere_ite, ite_self])

theorem staysIn_execStartCandidate (power : Int) : StaysIn p s (execStartCandidate p power s) :=
  staysIn_next (by simp only [elsewhere_modTrain, elsewhere_ite, ite_self])

theorem staysIn_execStartConfirmed (k : BitVec 58) (corr : Nat) : StaysIn p s (execStartConfirmed p k corr s) :=
  staysIn_next (elsewhere_startConfirmed p s _ _)

theorem staysIn_execFalseStart : StaysIn p s (execFalseStart p s) :=
  staysIn_next (by simp only [elsewhere_modLink, elsewhere_modTrain, elsewhere_ite, ite_self])

theorem staysIn_execPreEmption (corr : Nat) : StaysIn p s (execPreEmption p corr s) := by
  refine staysIn_next ?_
  dsimp only
  split
  · simp only [elsewhere_ite, elsewhere_modLink, elsewhere_modTrain, ite_self]
  · rfl

theorem staysIn_execExitCriterionMet (m : Criterion) : StaysIn p s (execExitCriterionMet p m s) :=
  staysIn_next (elsewhere_exitCriterion p s _)

theorem staysIn_execPeriodBoundary (partnerReady : Option Nat) : StaysIn p s (execPeriodBoundary p partnerReady s) :=
  staysIn_next (by simp only [elsewhere_periodBoundary, elsewhere_ite, ite_self])

theorem staysIn_execPhaseLimitExpiry (m : Criterion) : StaysIn p s (execPhaseLimitExpiry p m s) :=
  staysIn_next (elsewhere_phaseLimitExpiry p s _)

theorem staysIn_execRelinkChoose : StaysIn p s (execRelinkChoose p s) :=
  staysIn_next (elsewhere_chooseAndBegin p s)

theorem staysIn_execSnapshotReload : StaysIn p s (execSnapshotReload p s) := staysIn_next (elsewhere_reloadDone p s)

theorem staysIn_execEchoChangeCheck (near far : Int) : StaysIn p s (execEchoChangeCheck p near far s) :=
  staysIn_next (elsewhere_echoCheck p s _ _)

theorem staysIn_execFastRelinkLimit (m : Criterion) : StaysIn p s (execFastRelinkLimit p m s) :=
  staysIn_next (elsewhere_fastLimit p s _)

theorem staysIn_execEpisodeLimit : StaysIn p s (execEpisodeLimit p s) :=
  staysIn_next (by simp only [elsewhere_tryAutoneg, elsewhere_modLink, elsewhere_noteFailure, elsewhere_ite, ite_self])

theorem staysIn_execSleepWaitTimeout : StaysIn p s (execSleepWaitTimeout p s) := by
  refine staysIn_next ?_
  split
  · simp only [elsewhere_ite, elsewhere_modLink, ite_self]
  · rfl

theorem staysIn_execWakePulseDone : StaysIn p s (execWakePulseDone p s) := by
  refine staysIn_next ?_
  split
  · simp only [elsewhere_ite, elsewhere_wakePort, ite_self]
  · rfl

theorem staysIn_execInterruptionEnd : StaysIn p s (execInterruptionEnd p s) :=
  staysIn_next (by simp only [elsewhere_releaseHolder, elsewhere_disarmNow, elsewhere_endInterruption, elsewhere_ite, ite_self])

theorem staysIn_execHostInCorruption : StaysIn p s (execHostInCorruption p s) :=
  staysIn_next (by simp only [elsewhere_provoke, elsewhere_modPort, elsewhere_ite, ite_self])

theorem staysIn_execHostOutCorruption : StaysIn p s (execHostOutCorruption p s) :=
  staysIn_next (by simp only [elsewhere_hostOutHit, elsewhere_modSieve, elsewhere_ite, ite_self])

theorem staysIn_execProvocationEpisodeEnd : StaysIn p s (execProvocationEpisodeEnd p s) :=
  staysIn_next (by simp only [elsewhere_modSieve, elsewhere_ite, ite_self])

theorem staysIn_execCaptureTimeout (slot : RefSlot) : StaysIn p s (execCaptureTimeout p slot s) := by
  refine staysIn_next ?_
  split
  · simp only [elsewhere_ite, elsewhere_setCapture, ite_self]
  · rfl

theorem staysIn_execChainStart : StaysIn p s (execChainStart p s) := by
  refine staysIn_next ?_
  split
  · rfl
  · simp only [elsewhere_ite, elsewhere_modSeal, elsewhere_cutWindow, ite_self]

theorem staysIn_execSealWindowEnd : StaysIn p s (execSealWindowEnd p s) := by
  refine staysIn_next ?_
  split
  · rfl
  · simp only [elsewhere_ite, elsewhere_modSeal, ite_self]

theorem staysIn_execSealRoot : StaysIn p s (execSealRoot p s) := staysIn_next (elsewhere_rootWindow p s)

theorem staysIn_execStandardUp : StaysIn p s (execStandardUp p s) :=
  staysIn_next (by simp only [elsewhere_linkUp, elsewhere_ite, ite_self])

theorem staysIn_execStandardLinkFail (cut : Option (Cls × Nat)) : StaysIn p s (execStandardLinkFail p cut s) :=
  staysIn_next (elsewhere_stdFail p s _)

theorem staysIn_execStandardPcsFrame (c : Cls) (bytes : List Byte) (errored : Bool) (at_ : Nat) :
    StaysIn p s (execStandardPcsFrame p c bytes errored at_ s) :=
  staysIn_next (by simp only [elsewhere_modCnt, elsewhere_modRx, elsewhere_ite, ite_self])

theorem staysIn_execLeaderSilence : StaysIn p s (execLeaderSilence p s) := staysIn_next (elsewhere_leaderSilent p s)

/-- A command of port p's line or lane stays in port p: one line for each row of `lineCommand`, in its order. -/
theorem staysIn_exec {c : Instr} {p : PortId} (h : lineCommand c = some p) : StaysIn p s (exec c s) := by
  unfold lineCommand at h
  split at h <;> cases h
  · exact staysIn_execLaunchSlot _ s _
  · exact staysIn_execDataShingle _ s _ _ _ _
  · exact staysIn_execUncorrectableSlot _ s _
  · exact staysIn_execIdle _ s _ _ _
  · exact staysIn_execNak _ s _ _ _
  · exact staysIn_execLpiEntry _ s _ _
  · exact staysIn_execLpiExit _ s _ _
  · exact staysIn_execSleepRequest _ s _ _
  · exact staysIn_execSleepAck _ s _ _
  · exact staysIn_execSleepReject _ s _ _
  · exact staysIn_execBeaconFast _ s _ _ _
  · exact staysIn_execBeaconFull _ s _ _ _
  · exact staysIn_execRequest _ s _ _ _ _
  · exact staysIn_execAccept _ s _ _ _ _
  · exact staysIn_execRefuse _ s ‹_› _ _ _
  · exact staysIn_execMark _ s _ _ _ _
  · exact staysIn_execReceiveEpoch _ s
  · exact staysIn_execEpochExemptionEnd _ s
  · exact staysIn_execModeRequestRetry _ s
  · exact staysIn_execModePrepareDone _ s
  · exact staysIn_execAutoDownshiftWindow _ s _
  · exact staysIn_execReplayTimer _ s _ _
  · exact staysIn_execNakRepeat _ s _ _
  · exact staysIn_execLossPasses _ s _
  · exact staysIn_execHostFrameStart _ s _
  · exact staysIn_execHostFrameData _ s _ _
  · exact staysIn_execHostFrameEnd _ s _
  · exact staysIn_execHtxFrameBoundary _ s _
  · exact staysIn_execPfcRepeat _ s _
  · exact staysIn_execHostLaneDown s _
  · exact staysIn_execHostLpiBegin _ s
  · exact staysIn_execHostLpiEnd _ s
  · exact staysIn_execHostIdleTimeout _ s
  · exact staysIn_execLpiEnter _ s
  · exact staysIn_execLpiRefresh _ s
  · exact staysIn_execEnergyDetect _ s
  · exact staysIn_execLpiFalseWake _ s
  · exact staysIn_execLpiRefreshMissed _ s
  · exact staysIn_execLockLoss _ s _
  · exact staysIn_execAdaptUpdate _ s _
  · exact staysIn_execSnapshotWindowEnd _ s
  · exact staysIn_execSnapshotServe _ s
  · exact staysIn_execXtalkJoinDone _ s _ _
  · exact staysIn_execXtalkJoinRetry _ s _
  · exact staysIn_execAutonegStart _ s
  · exact staysIn_execAutonegResolve _ s _ _ _
  · exact staysIn_execClause98Pages _ s
  · exact staysIn_execStartCandidate _ s _
  · exact staysIn_execStartConfirmed _ s _ _
  · exact staysIn_execFalseStart _ s
  · exact staysIn_execPreEmption _ s _
  · exact staysIn_execExitCriterionMet _ s _
  · exact staysIn_execPeriodBoundary _ s _
  · exact staysIn_execPhaseLimitExpiry _ s _
  · exact staysIn_execRelinkChoose _ s
  · exact staysIn_execSnapshotReload _ s
  · exact staysIn_execEchoChangeCheck _ s _ _
  · exact staysIn_execFastRelinkLimit _ s _
  · exact staysIn_execEpisodeLimit _ s
  · exact staysIn_execSleepWaitTimeout _ s
  · exact staysIn_execWakePulseDone _ s
  · exact staysIn_execInterruptionEnd _ s
  · exact staysIn_execHostInCorruption _ s
  · exact staysIn_execHostOutCorruption _ s
  · exact staysIn_execProvocationEpisodeEnd _ s
  · exact staysIn_execCaptureTimeout _ s _
  · exact staysIn_execChainStart _ s
  · exact staysIn_execSealWindowEnd _ s
  · exact staysIn_execSealRoot _ s
  · exact staysIn_execStandardUp _ s
  · exact staysIn_execStandardLinkFail _ s _
  · exact staysIn_execStandardPcsFrame _ s _ _ _ _
  · exact staysIn_execLeaderSilence _ s

/-- Settles O3: what each operation leaves of the rest of the device (`elsewhere`) composes along the command, and what `elsewhere` holds
is what the frame keeps. -/
theorem lineCommandsStayInTheirPort : Obligations.LineCommandsStayInTheirPort := by
  intro c p s t hc ht
  exact (staysIn_exec s hc).portFrame ht

end Sys2Proof.Machine
end

section
/-! PROOF. Bytes and bits, written and read again: values in a radix, the fields of headers, tags, acks and NAK entries, the packing of
words and the symbols of a tryte (chapters 02 and 06). WireFormatsRoundTrip collects them. -/

namespace Sys2Proof.Machine

/-! ## Values of bytes and of bits -/

/-- A fold that appends digits to a value in a radix gives the value's digits their place above the list's own. -/
theorem foldl_radix {α : Type} (radix : Nat) (digit : α → Nat) (l : List α) (start : Nat) :
    l.foldl (fun a b => radix * a + digit b) start
      = start * radix ^ l.length + l.foldl (fun a b => radix * a + digit b) 0 := by
  induction l generalizing start with
  | nil => simp
  | cons b l ih =>
    simp only [List.foldl_cons, List.length_cons]
    rw [ih (radix * start + digit b), ih (radix * 0 + digit b)]
    ring

theorem beVal_cons (b : Byte) (bs : List Byte) : beVal (b :: bs) = b.toNat * 256 ^ bs.length + beVal bs := by
  simpa [beVal] using foldl_radix 256 BitVec.toNat bs b.toNat

theorem bitsVal_cons (b : Bool) (bs : List Bool) : bitsVal (b :: bs) = b.toNat * 2 ^ bs.length + bitsVal bs := by
  simpa [bitsVal] using foldl_radix 2 Bool.toNat bs b.toNat

@[simp] theorem length_beBytes (n v : Nat) : (beBytes n v).length = n := by
  induction n with
  | zero => rfl
  | succ n ih => simp [beBytes, ih]

@[simp] theorem length_bitsOf (n v : Nat) : (bitsOf n v).length = n := by
  induction n with
  | zero => rfl
  | succ n ih => simp [bitsOf, ih]

theorem beVal_beBytes (n v : Nat) : beVal (beBytes n v) = v % 256 ^ n := by
  induction n with
  | zero => simp [beBytes, beVal, Nat.mod_one]
  | succ n ih =>
    rw [beBytes, beVal_cons, ih, length_beBytes, BitVec.toNat_ofNat, Nat.mod_pow_succ (b := 256), add_comm, mul_comm]

theorem bitsVal_bitsOf (n v : Nat) : bitsVal (bitsOf n v) = v % 2 ^ n := by
  induction n with
  | zero => simp [bitsOf, bitsVal, Nat.mod_one]
  | succ n ih =>
    rw [bitsOf, bitsVal_cons, ih, length_bitsOf, Nat.toNat_testBit, Nat.mod_pow_succ, mul_comm, add_comm]

theorem bitsVal_lt (bs : List Bool) : bitsVal bs < 2 ^ bs.length := by
  induction bs with
  | nil => decide
  | cons b bs ih =>
    rw [bitsVal_cons, List.length_cons, pow_succ]
    cases b <;> simp only [Bool.toNat_false, Bool.toNat_true] <;> omega

/-- Only the low bits are written. -/
theorem bitsOf_congr {n v w : Nat} (h : ∀ i < n, v.testBit i = w.testBit i) : bitsOf n v = bitsOf n w := by
  induction n with
  | zero => rfl
  | succ n ih => rw [bitsOf, bitsOf, h n n.lt_succ_self, ih (fun i hi => h i (hi.trans n.lt_succ_self))]

theorem bitsOf_mod (n v : Nat) : bitsOf n (v % 2 ^ n) = bitsOf n v :=
  bitsOf_congr (fun i hi => by simp [Nat.testBit_mod_two_pow, hi])

theorem bitsOf_add (m n v : Nat) : bitsOf (m + n) v = bitsOf m (v / 2 ^ n) ++ bitsOf n v := by
  induction m with
  | zero => simp [bitsOf]
  | succ m ih => rw [Nat.succ_add, bitsOf, bitsOf, ih, Nat.testBit_div_two_pow, List.cons_append]

theorem bitsOf_bitsVal (bs : List Bool) : bitsOf bs.length (bitsVal bs) = bs := by
  induction bs with
  | nil => rfl
  | cons b bs ih =>
    have low : bitsVal (b :: bs) % 2 ^ bs.length = bitsVal bs := by
      rw [bitsVal_cons, Nat.mul_add_mod_of_lt (bitsVal_lt bs)]
    have top : (bitsVal (b :: bs)).testBit bs.length = b := by
      rw [bitsVal_cons, mul_comm, Nat.testBit_two_pow_mul_add _ (bitsVal_lt bs)]
      cases b <;> simp
    rw [List.length_cons, bitsOf, top, ← bitsOf_mod, low, ih]

/-! ## Headers and tags -/

theorem headerVal_lt (h : ShHdr) : headerVal h < 256 ^ 7 := by
  have := h.cls.isLt; have := h.seq.isLt; have := h.firstTag.isLt; have := h.ackClass.isLt; have := h.ackNext.isLt
  have := h.replay.toNat_lt; have := h.gap.toNat_lt; have := h.provoked.toNat_lt
  unfold headerVal; omega

theorem tagVal_lt (t : Tag) : tagVal t < 256 ^ 4 := by
  have := t.cls.isLt
  have := t.errored.toNat_lt; have := t.ptp.toNat_lt; have := t.loss.toNat_lt; have := t.pad.toNat_lt
  have := t.provoked.toNat_lt
  unfold tagVal; omega

theorem ofNat_four_eq {v : Nat} {c : Fin 4} (h : v % 4 = c) : Fin.ofNat 4 v = c := Fin.ext h

theorem bitVec_ofNat_eq {n v : Nat} {x : BitVec n} (h : v % 2 ^ n = x.toNat) : BitVec.ofNat n v = x := BitVec.eq_of_toNat_eq h

/-- A flag is read back from its bit. -/
theorem testBit_eq_of_digit {v i : Nat} {b : Bool} (h : v / 2 ^ i % 2 = b.toNat) : v.testBit i = b := by
  rw [Nat.testBit_eq_decide_div_mod_eq, h]
  cases b <;> rfl

theorem headerOf_headerVal (h : ShHdr) : headerOf (headerVal h) = h := by
  obtain ⟨cls, seq, replay, gap, provoked, firstTag, ackClass, ackNext⟩ := h
  have := cls.isLt; have := seq.isLt; have := firstTag.isLt; have := ackClass.isLt; have := ackNext.isLt
  have := replay.toNat_lt; have := gap.toNat_lt; have := provoked.toNat_lt
  simp only [headerOf, headerVal, ShHdr.mk.injEq]
  refine ⟨ofNat_four_eq ?_, bitVec_ofNat_eq ?_, testBit_eq_of_digit ?_, testBit_eq_of_digit ?_, testBit_eq_of_digit ?_,
    bitVec_ofNat_eq ?_, ofNat_four_eq ?_, bitVec_ofNat_eq ?_⟩ <;> omega

theorem tagOf_tagVal (t : Tag) (ht : t.length < 16384) : tagOf (tagVal t) = t := by
  obtain ⟨cls, length, errored, ptp, loss, pad, provoked⟩ := t
  have := cls.isLt
  have := errored.toNat_lt; have := ptp.toNat_lt; have := loss.toNat_lt; have := pad.toNat_lt; have := provoked.toNat_lt
  simp only [tagOf, tagVal, Tag.mk.injEq] at ht ⊢
  refine ⟨ofNat_four_eq ?_, ?_, testBit_eq_of_digit ?_, testBit_eq_of_digit ?_, testBit_eq_of_digit ?_,
    testBit_eq_of_digit ?_, testBit_eq_of_digit ?_⟩ <;> omega

/-- R151, R152: the seven bytes of a header. -/
theorem headerOf_headerBytes (h : ShHdr) : headerOf (beVal (headerBytes h)) = h := by
  rw [headerBytes, beVal_beBytes, Nat.mod_eq_of_lt (headerVal_lt h), headerOf_headerVal]

/-- R154: the four bytes of a tag. -/
theorem tagOf_tagBytes (t : Tag) (ht : t.length < 16384) : tagOf (beVal (tagBytes t)) = t := by
  rw [tagBytes, beVal_beBytes, Nat.mod_eq_of_lt (tagVal_lt t), tagOf_tagVal t ht]

/-! ## The bodies of control shingles -/

/-- Lists of one length after another are cut apart again at the multiples of that length. -/
theorem take_drop_flatMap {α β : Type} {f : α → List β} {n : Nat} (hf : ∀ a, (f a).length = n) (l : List α) (rest : List β)
    (i : Nat) (hi : i < l.length) : ((l.flatMap f ++ rest).drop (n * i)).take n = f l[i] := by
  induction l generalizing i with
  | nil => simp at hi
  | cons a l ih =>
    rw [List.flatMap_cons, List.append_assoc]
    cases i with
    | zero => simp [← hf a]
    | succ i =>
      have step : n * (i + 1) = (f a).length + n * i := by rw [hf]; ring
      rw [step, ← List.drop_drop, List.drop_left]
      exact ih i (by simpa using hi)

/-- R161: the value of a class in the ack block. -/
theorem ofNat_beVal_beBytes_seq (a : Seq) : BitVec.ofNat 14 (beVal (beBytes 2 a.toNat)) = a := by
  have := a.isLt
  refine bitVec_ofNat_eq ?_
  rw [beVal_beBytes]
  omega

theorem ackOf_ackBytes (a b c d : Seq) (rest : List Byte) :
    ackOf (ackBytes [a, b, c, d] ++ rest) = { a0 := a, a1 := b, a2 := c, a3 := d } := by
  have field (i : Nat) (hi : i < [a, b, c, d].length) :
      BitVec.ofNat 14 (beVal (((ackBytes [a, b, c, d] ++ rest).drop (2 * i)).take 2)) = [a, b, c, d][i] := by
    rw [ackBytes, take_drop_flatMap (fun x : Seq => length_beBytes 2 x.toNat) _ rest i hi, ofNat_beVal_beBytes_seq]
  exact congr (congr (congr (congrArg AckBlock.mk (field 0 (by simp))) (field 1 (by simp))) (field 2 (by simp))) (field 3 (by simp))

/-- The class, the first missing number and the run length of a NAK entry's four bytes (Table 6-5). -/
def nakEntryOf (v : Nat) : Cls × Seq × Nat :=
  (Fin.ofNat 4 (v / 2 ^ 30), BitVec.ofNat 14 (v / 2 ^ 16), v / 2 ^ 8 % 256 + 1)

theorem nakEntryOf_nakEntry (e : Cls × Seq × Nat) (he : 1 ≤ e.2.2 ∧ e.2.2 ≤ 256) : nakEntryOf (beVal (nakEntry e)) = e := by
  obtain ⟨c, q, n⟩ := e
  have := c.isLt; have := q.isLt
  simp only [nakEntryOf, nakEntry, beVal_beBytes, Prod.mk.injEq] at he ⊢
  refine ⟨ofNat_four_eq ?_, bitVec_ofNat_eq ?_, ?_⟩ <;> omega

@[simp] theorem length_nakEntry (e : Cls × Seq × Nat) : (nakEntry e).length = 4 := length_beBytes 4 _

/-- R427: a count of at most 60 entries, read by `nakEntryOf` from byte 4 on. -/
theorem nakEntries_eq {body : List Byte} (h : (body.headD 0).toNat ≤ 60) :
    nakEntries body = (List.range (body.headD 0).toNat).map (fun i => nakEntryOf (beVal ((body.drop (4 + 4 * i)).take 4))) :=
  if_neg (Nat.not_lt.mpr h)

/-- A NAK body of at most 60 entries holds them all: the cut at 248 bytes falls into the fill. -/
theorem ctlBody_nak {es : List (Cls × Seq × Nat)} (h : es.length ≤ 60) :
    ∃ rest, ctlBody (.nak es) = BitVec.ofNat 8 es.length :: 0 :: 0 :: 0 :: (es.flatMap nakEntry ++ rest) := by
  have len : (es.flatMap nakEntry).length ≤ 240 := by simp [List.length_flatMap]; omega
  refine ⟨(List.replicate 248 0).take (244 - (es.flatMap nakEntry).length), ?_⟩
  change BitVec.ofNat 8 es.length :: 0 :: 0 :: 0 :: (es.flatMap nakEntry ++ List.replicate 248 0).take 244 = _
  rw [List.take_append, List.take_of_length_le (len.trans (by decide))]

theorem nakEntries_ctlBody (es : List (Cls × Seq × Nat)) (hn : es.length ≤ 60) (he : ∀ e ∈ es, 1 ≤ e.2.2 ∧ e.2.2 ≤ 256) :
    nakEntries (ctlBody (.nak es)) = es := by
  obtain ⟨rest, hbody⟩ := ctlBody_nak hn
  have count : ((ctlBody (.nak es)).headD 0).toNat = es.length := by
    rw [hbody, List.headD_cons, BitVec.toNat_ofNat]; omega
  rw [nakEntries_eq (count.trans_le hn), count]
  refine List.ext_getElem (by simp) (fun i _ hi => ?_)
  have cut : ((ctlBody (.nak es)).drop (4 + 4 * i)).take 4 = nakEntry es[i] := by
    rw [hbody, ← List.drop_drop]
    exact take_drop_flatMap length_nakEntry es rest i hi
  rw [List.getElem_map, List.getElem_range, cut, nakEntryOf_nakEntry _ (he _ (List.getElem_mem hi))]

/-! ## Words, trytes and symbols -/

theorem tritOfUnsigned_unsignedOfTrit (t : Trit) : tritOfUnsigned (unsignedOfTrit t) = t := by cases t <;> rfl

theorem unsignedOfTrit_lt (t : Trit) : unsignedOfTrit t < 3 := by cases t <;> decide

theorem unsignedOfTrit_tritOfUnsigned {d : Nat} (hd : d < 3) : unsignedOfTrit (tritOfUnsigned d) = d := by
  interval_cases d <;> rfl

theorem unsignedOfTryte_lt (a : Tryte) : unsignedOfTryte a < 729 := by
  have := unsignedOfTrit_lt a.t5; have := unsignedOfTrit_lt a.t4; have := unsignedOfTrit_lt a.t3
  have := unsignedOfTrit_lt a.t2; have := unsignedOfTrit_lt a.t1; have := unsignedOfTrit_lt a.t0
  unfold unsignedOfTryte; omega

/-- A trit is read back from its unsigned digit. -/
theorem tritOfUnsigned_of_digit {d : Nat} {t : Trit} (h : d = unsignedOfTrit t) : tritOfUnsigned d = t :=
  h ▸ tritOfUnsigned_unsignedOfTrit t

theorem tryteOfUnsigned_unsignedOfTryte (a : Tryte) : tryteOfUnsigned (unsignedOfTryte a) = a := by
  obtain ⟨t5, t4, t3, t2, t1, t0⟩ := a
  have := unsignedOfTrit_lt t5; have := unsignedOfTrit_lt t4; have := unsignedOfTrit_lt t3
  have := unsignedOfTrit_lt t2; have := unsignedOfTrit_lt t1; have := unsignedOfTrit_lt t0
  simp only [tryteOfUnsigned, unsignedOfTryte, Tryte.mk.injEq]
  refine ⟨?_, ?_, ?_, ?_, ?_, ?_⟩ <;> refine tritOfUnsigned_of_digit ?_ <;> omega

theorem unsignedOfTryte_tryteOfUnsigned {u : Nat} (hu : u < 729) : unsignedOfTryte (tryteOfUnsigned u) = u := by
  have digit (d : Nat) : unsignedOfTrit (tritOfUnsigned (d % 3)) = d % 3 :=
    unsignedOfTrit_tritOfUnsigned (d.mod_lt (by decide))
  simp only [unsignedOfTryte, tryteOfUnsigned, digit]
  omega

theorem unpack12_pack12 {u : Nat} (hu : u < 531441) : unpack12 (pack12 u) = u := by
  simp only [unpack12, pack12]
  rw [unsignedOfTryte_tryteOfUnsigned (by omega), unsignedOfTryte_tryteOfUnsigned (by omega)]
  omega

theorem pack12_unpack12 (w : Tryte × Tryte) : pack12 (unpack12 w) = w := by
  have high := unsignedOfTryte_lt w.1
  have low := unsignedOfTryte_lt w.2
  have hdiv : unpack12 w / 729 % 729 = unsignedOfTryte w.1 := by unfold unpack12; omega
  have hmod : unpack12 w % 729 = unsignedOfTryte w.2 := by unfold unpack12; omega
  rw [pack12, hdiv, hmod, tryteOfUnsigned_unsignedOfTryte, tryteOfUnsigned_unsignedOfTryte]

theorem levelTrits_pamLevel (hi lo : Trit) : levelTrits (pamLevel hi lo) = (hi, lo) := by
  cases hi <;> cases lo <;> rfl

theorem levelsTrytes_tryteLevels (a : Tryte) : levelsTrytes 1 (tryteLevels a) = [a] := by
  simp only [tryteLevels, levelsTrytes, tryteOfLevels, levelTrits_pamLevel]

/-- Settles O56: the round trip of each format. -/
theorem wireFormatsRoundTrip : Obligations.WireFormatsRoundTrip :=
  ⟨headerOf_headerBytes, tagOf_tagBytes, ackOf_ackBytes, nakEntries_ctlBody, fun _ => unpack12_pack12, pack12_unpack12,
    levelsTrytes_tryteLevels⟩

end Sys2Proof.Machine
end

section
/-! PROOF. GF(729) and the Reed–Solomon code (chapters 02 and 04): the maps that respect the field's addition, its multiplication
by x and by a trit; polynomials at a point; every codeword that the register of R92 makes has the 16 roots of the generator, so it decodes
to itself. -/

namespace Sys2Proof.Machine

/-! ## Trits and trytes -/

theorem tritAdd_comm (a b : Trit) : tritAdd a b = tritAdd b a := by cases a <;> cases b <;> rfl

theorem tritAdd_assoc (a b c : Trit) : tritAdd (tritAdd a b) c = tritAdd a (tritAdd b c) := by
  cases a <;> cases b <;> cases c <;> rfl

theorem tritMul_comm (a b : Trit) : tritMul a b = tritMul b a := by cases a <;> cases b <;> rfl

theorem tritMul_assoc (a b c : Trit) : tritMul (tritMul a b) c = tritMul a (tritMul b c) := by
  cases a <;> cases b <;> cases c <;> rfl

theorem tritMul_add (a b c : Trit) : tritMul a (tritAdd b c) = tritAdd (tritMul a b) (tritMul a c) := by
  cases a <;> cases b <;> cases c <;> rfl

@[simp] theorem tritMul_zero (a : Trit) : tritMul a .zero = .zero := by cases a <;> rfl

theorem tritMul_pos (a : Trit) : tritMul a .pos = a := by cases a <;> rfl

theorem tritNeg_eq_mul (a : Trit) : tritNeg a = tritMul .neg a := by cases a <;> rfl

theorem tritAdd_zero (a : Trit) : tritAdd a .zero = a := by cases a <;> rfl

theorem tritZero_add (a : Trit) : tritAdd .zero a = a := rfl

theorem tritNeg_add_self (a : Trit) : tritAdd (tritNeg a) a = .zero := by cases a <;> rfl

theorem gfAdd_comm (a b : Tryte) : gfAdd a b = gfAdd b a := by simp only [gfAdd, tritAdd_comm]

theorem gfAdd_assoc (a b c : Tryte) : gfAdd (gfAdd a b) c = gfAdd a (gfAdd b c) := by simp only [gfAdd, tritAdd_assoc]

theorem gfAdd_left_comm (a b c : Tryte) : gfAdd a (gfAdd b c) = gfAdd b (gfAdd a c) := by
  rw [← gfAdd_assoc, gfAdd_comm a b, gfAdd_assoc]

theorem gfAdd_gfAdd_comm (a b c d : Tryte) : gfAdd (gfAdd a b) (gfAdd c d) = gfAdd (gfAdd a c) (gfAdd b d) := by
  rw [gfAdd_assoc, gfAdd_left_comm b, ← gfAdd_assoc]

@[simp] theorem gfZero_add (a : Tryte) : gfAdd gfZero a = a := rfl

@[simp] theorem gfAdd_zero (a : Tryte) : gfAdd a gfZero = a := by rw [gfAdd_comm, gfZero_add]

@[simp] theorem gfNeg_add_self (a : Tryte) : gfAdd (gfNeg a) a = gfZero := by simp only [gfAdd, gfNeg, tritNeg_add_self, gfZero]

theorem gfNeg_eq_scale : gfNeg = gfScale .neg := by
  funext a
  simp only [gfNeg, gfScale, tritNeg_eq_mul]

/-! ## Linear maps of the field -/

/-- A map of GF(729) that respects addition, the multiplication by x (R27) and the multiplication by a trit. -/
structure GfLinear (L : Tryte → Tryte) : Prop where
  add (a b : Tryte) : L (gfAdd a b) = gfAdd (L a) (L b)
  mulX (a : Tryte) : L (gfMulX a) = gfMulX (L a)
  scale (k : Trit) (a : Tryte) : L (gfScale k a) = gfScale k (L a)

theorem gfScale_add (k : Trit) (a b : Tryte) : gfScale k (gfAdd a b) = gfAdd (gfScale k a) (gfScale k b) := by
  simp only [gfScale, gfAdd, tritMul_add]

theorem gfScale_scale (k l : Trit) (a : Tryte) : gfScale k (gfScale l a) = gfScale (tritMul k l) a := by
  simp only [gfScale, tritMul_assoc]

theorem gfAdd_scale (k l : Trit) (a : Tryte) : gfScale (tritAdd k l) a = gfAdd (gfScale k a) (gfScale l a) := by
  simp only [gfScale, gfAdd, tritMul_comm _ _, tritMul_add]

/-- The shift of R27's multiplication by x, before the reduction. -/
def gfShift (a : Tryte) : Tryte := ⟨a.t4, a.t3, a.t2, a.t1, a.t0, .zero⟩

/-- x^6 in the field (R27). -/
def gfX6 : Tryte := ⟨.zero, .pos, .zero, .neg, .pos, .pos⟩

theorem gfMulX_eq (a : Tryte) : gfMulX a = gfAdd (gfShift a) (gfScale a.t5 gfX6) := rfl

theorem gfMulX_add (a b : Tryte) : gfMulX (gfAdd a b) = gfAdd (gfMulX a) (gfMulX b) := by
  have shift : gfShift (gfAdd a b) = gfAdd (gfShift a) (gfShift b) := rfl
  have top : (gfAdd a b).t5 = tritAdd a.t5 b.t5 := rfl
  rw [gfMulX_eq, gfMulX_eq, gfMulX_eq, shift, top, gfAdd_scale, gfAdd_gfAdd_comm]

theorem gfLinear_scale (k : Trit) : GfLinear (gfScale k) where
  add := gfScale_add k
  mulX a := by
    have shift : gfScale k (gfShift a) = gfShift (gfScale k a) := by simp only [gfScale, gfShift, tritMul_zero]
    rw [gfMulX_eq, gfScale_add, shift, gfScale_scale, gfMulX_eq]
    rfl
  scale l a := by rw [gfScale_scale, gfScale_scale, tritMul_comm]

theorem gfLinear_mulX : GfLinear gfMulX where
  add := gfMulX_add
  mulX _ := rfl
  scale k a := ((gfLinear_scale k).mulX a).symm

theorem gfLinear_neg : GfLinear gfNeg := gfNeg_eq_scale ▸ gfLinear_scale .neg

section
variable {L M : Tryte → Tryte}

theorem GfLinear.zero (h : GfLinear L) : L gfZero = gfZero := h.scale .zero gfZero

theorem GfLinear.comp (h : GfLinear L) (g : GfLinear M) : GfLinear (L ∘ M) where
  add a b := by simp only [Function.comp_apply, g.add, h.add]
  mulX a := by simp only [Function.comp_apply, g.mulX, h.mulX]
  scale k a := by simp only [Function.comp_apply, g.scale, h.scale]

/-- The sum of two linear maps, which Horner's rule for a product needs. -/
theorem GfLinear.sum (h : GfLinear L) (g : GfLinear M) : GfLinear (fun a => gfAdd (L a) (M a)) where
  add a b := by rw [h.add, g.add, gfAdd_gfAdd_comm]
  mulX a := by rw [h.mulX, g.mulX, gfMulX_add]
  scale k a := by rw [h.scale, g.scale, gfScale_add]

theorem GfLinear.iterate (h : GfLinear L) (n : Nat) : GfLinear L^[n] := by
  induction n with
  | zero => exact ⟨fun _ _ => rfl, fun _ => rfl, fun _ _ => rfl⟩
  | succ n ih => exact ih.comp h

/-- A product is a sum of multiples of powers of x, so a linear map passes to its second factor. -/
theorem GfLinear.mul (h : GfLinear L) (a b : Tryte) : L (gfMul a b) = gfMul a (L b) := by
  simp only [gfMul, h.add, h.mulX, h.scale]

end

/-- A product by Horner's rule is built of linear maps. -/
theorem gfLinear_mul (a : Tryte) : GfLinear (gfMul a) :=
  have step {L : Tryte → Tryte} (h : GfLinear L) (k : Trit) : GfLinear (fun b => gfAdd (gfMulX (L b)) (gfScale k b)) :=
    (gfLinear_mulX.comp h).sum (gfLinear_scale k)
  step (step (step (step (step (gfLinear_scale a.t5) a.t4) a.t3) a.t2) a.t1) a.t0

/-- With leading trit 0, the multiplication by x is the shift alone. -/
theorem gfMulX_of_zero (b c d e f : Trit) : gfMulX ⟨.zero, b, c, d, e, f⟩ = ⟨b, c, d, e, f, .zero⟩ := gfAdd_zero _

theorem gfMul_one (a : Tryte) : gfMul a gfOne = a := by
  have digit (k : Trit) : gfScale k gfOne = ⟨.zero, .zero, .zero, .zero, .zero, k⟩ := by
    simp only [gfScale, gfOne, tritMul_zero, tritMul_pos]
  simp only [gfMul, digit, gfMulX_of_zero, gfAdd, tritAdd_zero, tritZero_add]

/-! ## Polynomials at a point -/

@[simp] theorem polyEval_nil (x : Tryte) : polyEval [] x = gfZero := rfl

@[simp] theorem polyEval_cons (c : Tryte) (p : List Tryte) (x : Tryte) :
    polyEval (c :: p) x = gfAdd c (gfMul x (polyEval p x)) := rfl

theorem polyEval_append (p q : List Tryte) (x : Tryte) :
    polyEval (p ++ q) x = gfAdd (polyEval p x) ((gfMul x)^[p.length] (polyEval q x)) := by
  induction p with
  | nil => simp
  | cons c p ih =>
    rw [List.cons_append, polyEval_cons, ih, (gfLinear_mul x).add, polyEval_cons, gfAdd_assoc, List.length_cons,
      Function.iterate_succ_apply']

theorem polyEval_concat (p : List Tryte) (c x : Tryte) :
    polyEval (p ++ [c]) x = gfAdd (polyEval p x) ((gfMul x)^[p.length] c) := by
  rw [polyEval_append, polyEval_cons, polyEval_nil, (gfLinear_mul x).zero, gfAdd_zero]

theorem polyEval_map {L : Tryte → Tryte} (h : GfLinear L) (p : List Tryte) (x : Tryte) :
    polyEval (p.map L) x = L (polyEval p x) := by
  induction p with
  | nil => exact h.zero.symm
  | cons c p ih => rw [List.map_cons, polyEval_cons, ih, polyEval_cons, h.add, h.mul]

theorem polyEval_zipWith_sub {p q : List Tryte} (h : p.length = q.length) (x : Tryte) :
    polyEval (List.zipWith gfSub p q) x = gfSub (polyEval p x) (polyEval q x) := by
  induction p generalizing q with
  | nil => cases q with
    | nil => rfl
    | cons d q => simp at h
  | cons c p ih => cases q with
    | nil => simp at h
    | cons d q =>
      rw [List.zipWith_cons_cons, polyEval_cons, ih (by simpa using h), polyEval_cons, polyEval_cons]
      simp only [gfSub, gfLinear_neg.add, gfLinear_neg.mul, (gfLinear_mul x).add]
      exact gfAdd_gfAdd_comm _ _ _ _

theorem polyEval_replicate_zero (n : Nat) (x : Tryte) : polyEval (List.replicate n gfZero) x = gfZero := by
  induction n with
  | zero => rfl
  | succ n ih => rw [List.replicate_succ, polyEval_cons, ih, (gfLinear_mul x).zero, gfAdd_zero]

theorem gfSub_self (a : Tryte) : gfSub a a = gfZero := by rw [gfSub, gfAdd_comm, gfNeg_add_self]

/-- The multiplication by (y − a) multiplies the value at x by x − a. -/
theorem polyEval_polyMulRoot (g : List Tryte) (a x : Tryte) :
    polyEval (polyMulRoot g a) x = gfSub (gfMul x (polyEval g x)) (gfMul a (polyEval g x)) := by
  have last : polyEval (g.map (gfMul a) ++ [gfZero]) x = gfMul a (polyEval g x) := by
    rw [polyEval_concat, ((gfLinear_mul x).iterate _).zero, gfAdd_zero, polyEval_map (gfLinear_mul a)]
  rw [polyMulRoot, polyEval_zipWith_sub (by simp), last, polyEval_cons, gfZero_add]

/-! ## The generator and the register of R92 -/

/-- R91: a product of factors (y − a) vanishes at every a, and where its start vanishes. -/
theorem polyEval_foldl_polyMulRoot (as g : List Tryte) (x : Tryte) (h : x ∈ as ∨ polyEval g x = gfZero) :
    polyEval (as.foldl polyMulRoot g) x = gfZero := by
  induction as generalizing g with
  | nil => exact h.resolve_left List.not_mem_nil
  | cons a as ih =>
    refine ih (polyMulRoot g a) ?_
    rw [polyEval_polyMulRoot, List.mem_cons] at *
    rcases h with (rfl | h) | h
    · exact .inr (gfSub_self _)
    · exact .inl h
    · exact .inr (by rw [h, (gfLinear_mul x).zero, (gfLinear_mul a).zero, gfSub_self])

/-- R91: the generator vanishes at α^1 to α^16. -/
theorem polyEval_rsGenerator {x : Tryte} (hx : x ∈ gfPowers 16 gfAlpha) : polyEval rsGenerator x = gfZero :=
  polyEval_foldl_polyMulRoot _ _ x (.inl hx)

/-- R91: the generator has degree 16 and leading coefficient 1. -/
theorem rsGenerator_monic : rsGenerator.length = 17 ∧ rsGenerator = rsGenerator.take 16 ++ [gfOne] := by decide +kernel

theorem length_take_rsGenerator : (rsGenerator.take 16).length = 16 := by
  rw [List.length_take, rsGenerator_monic.1]; rfl

/-- At a root of the generator, x^16 is the negative of what the lower coefficients make. -/
theorem polyEval_take_rsGenerator {x : Tryte} (hx : x ∈ gfPowers 16 gfAlpha) :
    gfNeg (polyEval (rsGenerator.take 16) x) = (gfMul x)^[16] gfOne := by
  have root := polyEval_rsGenerator hx
  rw [rsGenerator_monic.2, polyEval_concat, length_take_rsGenerator] at root
  rw [← gfAdd_zero (gfNeg _), ← root, ← gfAdd_assoc, gfNeg_add_self, gfZero_add]

theorem length_rsStep {r : List Tryte} (hr : r.length = 16) (m : Tryte) :
    (rsStep (rsGenerator.take 16) r m).length = 16 := by
  simp [rsStep, hr, rsGenerator_monic.1]

/-- R92: the register shifts up, and the multiple m + r[15] of the generator is taken away. -/
theorem rsStep_concat (g low : List Tryte) (top m : Tryte) :
    rsStep g (low ++ [top]) m = List.zipWith gfSub (gfZero :: low) (g.map (gfMul (gfAdd m top))) := by
  simp only [rsStep, List.zipWith_map_right, List.getLastD_concat, List.dropLast_concat]

/-- R92: a message tryte m takes the register r(y) to y·r(y) + m·y^16 modulo the generator, seen at a root x. -/
theorem polyEval_rsStep {x : Tryte} (hx : x ∈ gfPowers 16 gfAlpha) {r : List Tryte} (hr : r.length = 16) (m : Tryte) :
    polyEval (rsStep (rsGenerator.take 16) r m) x = gfAdd (gfMul x (polyEval r x)) ((gfMul x)^[16] m) := by
  obtain rfl | ⟨low, top, rfl⟩ := r.eq_nil_or_concat'
  · simp at hr
  have hlow : low.length = 15 := by simpa using hr
  have x16 := (gfLinear_mul x).iterate 16
  have feedback : gfNeg (gfMul (gfAdd m top) (polyEval (rsGenerator.take 16) x)) = gfAdd ((gfMul x)^[16] m) ((gfMul x)^[16] top) := by
    rw [gfLinear_neg.mul, polyEval_take_rsGenerator hx, ← x16.mul, gfMul_one, x16.add]
  rw [rsStep_concat, polyEval_zipWith_sub (by simp [hlow, rsGenerator_monic.1]), polyEval_map (gfLinear_mul _), gfSub, feedback,
    polyEval_cons, gfZero_add, polyEval_concat, hlow, (gfLinear_mul x).add, ← Function.iterate_succ_apply' (gfMul x), gfAdd_assoc,
    gfAdd_comm ((gfMul x)^[16] m)]

/-- R92: the register after the message trytes, r[0] to r[15]. -/
def rsRegister (msg : List Tryte) : List Tryte := msg.foldl (rsStep (rsGenerator.take 16)) (List.replicate 16 gfZero)

theorem rsEncode_eq (msg : List Tryte) : rsEncode msg = msg ++ ((rsRegister msg).map gfNeg).reverse := rfl

theorem rsRegister_concat (msg : List Tryte) (m : Tryte) :
    rsRegister (msg ++ [m]) = rsStep (rsGenerator.take 16) (rsRegister msg) m := List.foldl_concat _ _ _ _

theorem length_rsRegister (msg : List Tryte) : (rsRegister msg).length = 16 := by
  induction msg using List.reverseRecOn with
  | nil => rfl
  | append_singleton msg m ih => rw [rsRegister_concat, length_rsStep ih]

/-- R92: the register is the remainder of message·y^16 modulo the generator: they agree at the generator's roots. -/
theorem polyEval_rsRegister {x : Tryte} (hx : x ∈ gfPowers 16 gfAlpha) (msg : List Tryte) :
    polyEval (rsRegister msg) x = (gfMul x)^[16] (polyEval msg.reverse x) := by
  have x16 := (gfLinear_mul x).iterate 16
  induction msg using List.reverseRecOn with
  | nil => rw [List.reverse_nil, polyEval_nil, x16.zero]; exact polyEval_replicate_zero 16 x
  | append_singleton msg m ih =>
    rw [rsRegister_concat, polyEval_rsStep hx (length_rsRegister msg), ih, List.reverse_concat, polyEval_cons, x16.add, x16.mul,
      gfAdd_comm]

/-- R93: a codeword has all syndromes zero. -/
theorem rsSyndromes_rsEncode (msg : List Tryte) : (rsSyndromes (rsEncode msg)).all (· = gfZero) = true := by
  rw [rsSyndromes, List.all_map, List.all_eq_true]
  intro x hx
  simp only [Function.comp_apply, decide_eq_true_eq]
  rw [rsEncode_eq, List.reverse_append, List.reverse_reverse, polyEval_append, polyEval_map gfLinear_neg, List.length_map,
    length_rsRegister, polyEval_rsRegister hx, gfNeg_add_self]

/-- R93: a codeword decodes to itself with nothing corrected. -/
theorem rsDecode_rsEncode (msg : List Tryte) : rsDecode (rsEncode msg) = some (rsEncode msg, 0) :=
  if_pos (rsSyndromes_rsEncode msg)

end Sys2Proof.Machine
end

section
/-! PROOF. A slot from its bytes to its trytes and back (chapters 02 and 04): bits cut into bytes and words, the scrambler undone by the
same keystream, the 24 bits of the CRC, words in and out of message trytes; with `rsDecode_rsEncode` they make SlotsGiveBackWhatWasSent. -/

namespace Sys2Proof.Machine

/-! ## Bits in bytes and words -/

theorem length_bytesBits (bytes : List Byte) : (bytesBits bytes).length = 8 * bytes.length := by
  simp [bytesBits, List.length_flatMap, mul_comm]

theorem bytesBits_append (bs cs : List Byte) : bytesBits (bs ++ cs) = bytesBits bs ++ bytesBits cs := List.flatMap_append

/-- Bytes written most significant first have the bits of their value (R81). -/
theorem bytesBits_beBytes (n v : Nat) : bytesBits (beBytes n v) = bitsOf (8 * n) v := by
  induction n with
  | zero => rfl
  | succ n ih =>
    have high : bitsOf 8 (BitVec.ofNat 8 (v / 256 ^ n)).toNat = bitsOf 8 (v / 2 ^ (8 * n)) := by
      rw [BitVec.toNat_ofNat, bitsOf_mod, pow_mul, show (256 : Nat) = 2 ^ 8 from rfl]
    rw [beBytes, bytesBits, List.flatMap_cons, ← bytesBits, ih, high, Nat.mul_succ, add_comm, bitsOf_add]

/-- Bytes are read back from their bits, whatever follows. -/
theorem bitsBytes_bytesBits (bytes : List Byte) (rest : List Bool) :
    bitsBytes bytes.length (bytesBits bytes ++ rest) = bytes := by
  induction bytes with
  | nil => rfl
  | cons b bytes ih =>
    have split : bytesBits (b :: bytes) ++ rest = bitsOf 8 b.toNat ++ (bytesBits bytes ++ rest) := by
      rw [bytesBits, List.flatMap_cons, ← bytesBits, List.append_assoc]
    have first : BitVec.ofNat 8 (bitsVal (bitsOf 8 b.toNat)) = b := by
      rw [bitsVal_bitsOf, Nat.mod_eq_of_lt b.isLt, BitVec.ofNat_toNat, BitVec.setWidth_eq]
    rw [split, bitsBytes, List.length_cons, chunks, List.map_cons, List.take_left' (length_bitsOf 8 _),
      List.drop_left' (length_bitsOf 8 _), first, ← bitsBytes, ih]

theorem length_chunks {α : Type} (n k : Nat) (l : List α) : (chunks n k l).length = k := by
  induction k generalizing l with
  | zero => rfl
  | succ k ih => rw [chunks, List.length_cons, ih]

/-- A word of n bits lies below 2^n. -/
theorem bitsVal_lt_of_mem_chunks {n k : Nat} {l c : List Bool} (hc : c ∈ chunks n k l) : bitsVal c < 2 ^ n := by
  induction k generalizing l with
  | zero => simp [chunks] at hc
  | succ k ih =>
    obtain rfl | hc := List.mem_cons.mp hc
    · exact (bitsVal_lt _).trans_le (Nat.pow_le_pow_right (by decide) (List.length_take_le n l))
    · exact ih hc

/-- The words of n bits hold the bits that were cut into them. -/
theorem flatMap_bitsOf_words (n k : Nat) (l : List Bool) (hl : l.length = n * k) :
    ((chunks n k l).map bitsVal).flatMap (bitsOf n) = l := by
  induction k generalizing l with
  | zero => exact (List.eq_nil_of_length_eq_zero hl).symm
  | succ k ih =>
    have htake : (l.take n).length = n := by rw [List.length_take, hl]; exact min_eq_left (Nat.le_mul_of_pos_right n k.succ_pos)
    have hfirst : bitsOf n (bitsVal (l.take n)) = l.take n := by simpa only [htake] using bitsOf_bitsVal (l.take n)
    have hdrop : (l.drop n).length = n * k := by rw [List.length_drop, hl, Nat.mul_succ, Nat.add_sub_cancel]
    rw [chunks, List.map_cons, List.flatMap_cons, hfirst, ih _ hdrop, List.take_append_drop]

/-! ## Scrambler and CRC -/

@[simp] theorem length_keyBits (n : Nat) (r : BitVec 58) : (keyBits n r).length = n := by
  induction n generalizing r with
  | zero => rfl
  | succ n ih => rw [keyBits, List.length_cons, ih]

theorem length_slotKeystream (slot : Nat) : (slotKeystream slot).length = 2128 := length_keyBits _ _

/-- R89: the same keystream undoes the scrambler. -/
theorem zipWith_xor_cancel {bits key : List Bool} (h : bits.length ≤ key.length) :
    List.zipWith xor (List.zipWith xor bits key) key = bits := by
  induction bits generalizing key with
  | nil => rfl
  | cons b bits ih => cases key with
    | nil => simp at h
    | cons k key => simp [ih (by simpa using h)]

theorem crcShift_lt {c : Nat} (hc : c < 2 ^ 24) : crcShift c < 2 ^ 24 := by
  have hd : 2 * c < 2 ^ 25 := by omega
  by_cases top : (2 * c).testBit 24
  · rw [crcShift, if_pos top]
    refine Nat.lt_pow_two_of_testBit _ (fun i hi => ?_)
    obtain rfl | hi := hi.eq_or_lt
    · rw [Nat.testBit_xor, top]; decide
    · have high : 2 ^ 25 ≤ 2 ^ i := Nat.pow_le_pow_right (by decide) hi
      rw [Nat.testBit_xor, Nat.testBit_lt_two_pow (hd.trans_le high),
        Nat.testBit_lt_two_pow ((by decide : 0x1864CFB < 2 ^ 25).trans_le high), Bool.xor_false]
  · rw [crcShift, if_neg top]
    rw [Nat.testBit_eq_decide_div_mod_eq, decide_eq_true_eq] at top
    omega

/-- R84: the CRC has 24 bits. -/
theorem crc24_lt (bytes : List Byte) : crc24 bytes < 2 ^ 24 := by
  refine List.foldlRecOn bytes _ (motive := fun c => c < 2 ^ 24) (by decide) (fun c hc b _ => ?_)
  have byte : b.toNat <<< 16 < 2 ^ 24 := by
    have := b.isLt
    rw [Nat.shiftLeft_eq]; omega
  iterate 8 refine crcShift_lt ?_
  exact Nat.xor_lt_two_pow hc byte

/-! ## The bits of a shingle -/

section
variable {bytes : List Byte} (h : bytes.length = 263)
include h

theorem length_shingleBits : (shingleBits bytes).length = 2128 := by
  rw [shingleBits, List.length_append, length_bytesBits, length_bitsOf, h]

theorem bitsBytes_shingleBits : bitsBytes 263 (shingleBits bytes) = bytes := h ▸ bitsBytes_bytesBits bytes _

/-- R84: b[2104] to b[2127] hold the CRC. -/
theorem bitsVal_drop_shingleBits : bitsVal ((shingleBits bytes).drop 2104) = crc24 bytes := by
  rw [shingleBits, List.drop_left' (by rw [length_bytesBits, h]), bitsVal_bitsOf, Nat.mod_eq_of_lt (crc24_lt bytes)]

end

/-- R85: b[0] to b[18] of a control shingle hold its argument. -/
theorem take_shingleBits_ctlHead (e : Nat) (payload : List Byte) : (shingleBits (ctlHead e ++ payload)).take 19 = bitsOf 19 e := by
  have head : bytesBits (ctlHead e) = bitsOf 19 e ++ bitsOf 37 (e * 2 ^ 37) := by
    rw [ctlHead, bytesBits_beBytes, bitsOf_add 19 37, Nat.mul_div_cancel _ (by decide)]
  rw [shingleBits, bytesBits_append, head, List.append_assoc, List.append_assoc, List.take_left' (length_bitsOf 19 e)]

/-! ## The words of a slot -/

/-- R34: words are read back from their message trytes, whatever parity follows. -/
theorem trytesWords_wordsTrytes (ws : List Nat) (hws : ∀ w ∈ ws, w < 531441) (parity : List Tryte) :
    trytesWords ws.length (wordsTrytes ws ++ parity) = ws := by
  induction ws with
  | nil => rfl
  | cons w ws ih =>
    have split : wordsTrytes (w :: ws) ++ parity = (pack12 w).1 :: (pack12 w).2 :: (wordsTrytes ws ++ parity) := rfl
    rw [split, List.length_cons, trytesWords, ih (fun v hv => hws v (List.mem_cons_of_mem w hv)),
      unpack12_pack12 (hws w List.mem_cons_self)]

/-- R36: a data word is no escape. -/
theorem lt_escapeBase_of_mem_words {k w : Nat} {l : List Bool} (hw : w ∈ (chunks 19 k l).map bitsVal) : w < escapeBase := by
  obtain ⟨c, hc, rfl⟩ := List.mem_map.mp hw
  exact bitsVal_lt_of_mem_chunks hc

/-- R162: an assigned argument is at most 71. -/
theorem le_of_ctlAssigned {e : Nat} (he : ctlAssigned e = true) : e ≤ 71 := by
  simp only [ctlAssigned, List.contains_iff_mem] at he
  revert e
  decide

/-- R86: the bits of a shingle launched in a slot, scrambled. -/
def scrambledBits (slot : Nat) (bytes : List Byte) : List Bool := List.zipWith xor (shingleBits bytes) (slotKeystream slot)

section
variable (slot : Nat) (ctl : Option Nat) {bytes : List Byte}

theorem slotTrytes_eq : slotTrytes slot ctl bytes = rsEncode (wordsTrytes (shingleWords ctl (scrambledBits slot bytes))) := rfl

theorem length_shingleWords (l : List Bool) : (shingleWords ctl l).length = 112 := by
  cases ctl with
  | none => rw [shingleWords, List.length_map, length_chunks]
  | some e => rw [shingleWords, List.length_cons, List.length_drop, List.length_map, length_chunks]

/-- R36: behind word 0 stand data words. -/
theorem mem_chunks_of_mem_drop_shingleWords {w : Nat} {l : List Bool} (hw : w ∈ (shingleWords ctl l).drop 1) :
    w ∈ (chunks 19 112 l).map bitsVal := by
  cases ctl with
  | none => exact List.mem_of_mem_drop hw
  | some e => exact List.mem_of_mem_drop hw

theorem any_isEscape_drop_shingleWords (l : List Bool) : ((shingleWords ctl l).drop 1).any isEscape = false := by
  rw [List.any_eq_false]
  intro w hw
  have := lt_escapeBase_of_mem_words (mem_chunks_of_mem_drop_shingleWords ctl hw)
  simpa [isEscape] using this

/-- R36, R162: every word fits two trytes, the escape of an assigned argument too. -/
theorem shingleWords_lt (hctl : ∀ e ∈ ctl, e ≤ 71) {w : Nat} {l : List Bool} (hw : w ∈ shingleWords ctl l) : w < 531441 := by
  have data {v : Nat} (hv : v ∈ (chunks 19 112 l).map bitsVal) : v < 531441 :=
    (lt_escapeBase_of_mem_words hv).trans (by decide)
  cases ctl with
  | none => exact data hw
  | some e =>
    obtain rfl | hw := List.mem_cons.mp hw
    · have := hctl e rfl
      unfold escapeBase; omega
    · exact data (List.mem_of_mem_drop hw)

/-- R34, R93: a slot received without error gives back its words. -/
theorem trytesWords_slotTrytes (hctl : ∀ e ∈ ctl, e ≤ 71) :
    trytesWords 112 (slotTrytes slot ctl bytes) = shingleWords ctl (scrambledBits slot bytes) := by
  rw [slotTrytes_eq, rsEncode_eq, ← length_shingleWords ctl (scrambledBits slot bytes)]
  exact trytesWords_wordsTrytes _ (fun _ => shingleWords_lt ctl hctl) _

/-- R85, R89: the words descramble to the bits of the shingle; those of a control shingle's word 0 are its argument's. -/
theorem descramble_shingleWords (h : bytes.length = 263) (hctl : ∀ e ∈ ctl, (shingleBits bytes).take 19 = bitsOf 19 e) :
    descramble slot ctl (shingleWords ctl (scrambledBits slot bytes)) = shingleBits bytes := by
  have lbits := length_shingleBits h
  have lkey := length_slotKeystream slot
  have lscr : (scrambledBits slot bytes).length = 2128 := by rw [scrambledBits, List.length_zipWith, lbits, lkey]; rfl
  cases ctl with
  | none =>
    rw [descramble, shingleWords, flatMap_bitsOf_words 19 112 _ lscr]
    exact zipWith_xor_cancel (lbits.trans lkey.symm).le
  | some e =>
    have tail : (((chunks 19 112 (scrambledBits slot bytes)).map bitsVal).drop 1).flatMap (bitsOf 19)
        = (scrambledBits slot bytes).drop 19 := flatMap_bitsOf_words 19 111 _ (by rw [List.length_drop, lscr])
    have undo : List.zipWith xor ((scrambledBits slot bytes).drop 19) ((slotKeystream slot).drop 19)
        = (shingleBits bytes).drop 19 := by
      rw [scrambledBits, List.drop_zipWith]
      exact zipWith_xor_cancel (by rw [List.length_drop, List.length_drop, lbits, lkey])
    rw [descramble, shingleWords, List.drop_one, List.tail_cons, tail, undo, ← hctl e rfl, List.take_append_drop]

end

/-! ## What the receiver makes of the slot -/

/-- R37: word 0 names the control argument, if there is one. -/
theorem escape_of_shingleWords (ctl : Option Nat) (l : List Bool) :
    (if isEscape ((shingleWords ctl l).headD 0) then some ((shingleWords ctl l).headD 0 - escapeBase) else none) = ctl := by
  cases ctl with
  | none =>
    have data : bitsVal (l.take 19) < escapeBase := lt_escapeBase_of_mem_words (k := 112) List.mem_cons_self
    have word : (shingleWords none l).headD 0 = bitsVal (l.take 19) := rfl
    rw [word, isEscape, decide_eq_false (Nat.not_le.mpr data), if_neg Bool.false_ne_true]
  | some e =>
    have word : (shingleWords (some e) l).headD 0 = escapeBase + e := rfl
    rw [word, isEscape, decide_eq_true (Nat.le_add_right _ _), if_pos rfl, Nat.add_sub_cancel_left]

section
variable (assigned : Nat → Bool) (slot : Nat) {bytes : List Byte} (h : bytes.length = 263)
include h

theorem receiveSlot_slotTrytes_data : receiveSlot assigned slot (slotTrytes slot none bytes) = .data bytes 0 := by
  have decoded : rsDecode (slotTrytes slot none bytes) = some (slotTrytes slot none bytes, 0) := rsDecode_rsEncode _
  have words := trytesWords_slotTrytes (bytes := bytes) slot none (by simp)
  have bits := descramble_shingleWords slot none h (by simp)
  simp only [receiveSlot, decoded, words, escape_of_shingleWords, any_isEscape_drop_shingleWords, bits, bitsBytes_shingleBits h,
    bitsVal_drop_shingleBits h, Bool.false_eq_true, if_false, ne_eq, not_true_eq_false]
  rfl

theorem receiveSlot_slotTrytes_control {e : Nat} (he : assigned e = true) (hle : e ≤ 71)
    (head : (shingleBits bytes).take 19 = bitsOf 19 e) :
    receiveSlot assigned slot (slotTrytes slot (some e) bytes) = .control e bytes 0 := by
  have decoded : rsDecode (slotTrytes slot (some e) bytes) = some (slotTrytes slot (some e) bytes, 0) := rsDecode_rsEncode _
  have words := trytesWords_slotTrytes (bytes := bytes) slot (some e) (by simpa using hle)
  have bits := descramble_shingleWords slot (some e) h (by simpa using head)
  simp only [receiveSlot, decoded, words, escape_of_shingleWords, any_isEscape_drop_shingleWords, bits, bitsBytes_shingleBits h,
    bitsVal_drop_shingleBits h, he, Bool.not_true, Bool.false_eq_true, if_false, ne_eq, not_true_eq_false]
  rfl

end

/-- Settles O57: R37 and R38 for the two kinds of shingle. -/
theorem slotsGiveBackWhatWasSent : Obligations.SlotsGiveBackWhatWasSent := by
  refine ⟨fun slot bytes h => receiveSlot_slotTrytes_data ctlAssigned slot h, fun slot e payload he hp => ?_⟩
  exact receiveSlot_slotTrytes_control ctlAssigned slot (by rw [List.length_append, ctlHead, length_beBytes, hp]) he
    (le_of_ctlAssigned he) (take_shingleBits_ctlHead e payload)

end Sys2Proof.Machine
end

section
/-! PROOF. The owner's writes to a port's objects (R296, R308, R319): what the common checks ask of such a write, and the effects of
PortCommand, AdminState, ModeMask, TargetMode, SNAPSHOT_GO and NeighbourMask (chapters 03 and 05). -/

namespace Sys2Proof.Machine

/-! ## One port changed twice, or in two ways that agree -/

theorem modPort_congr {p : PortId} {f g : Port → Port} {s : State} (h : f s.ports[p] = g s.ports[p]) :
    modPort p f s = modPort p g s := by
  rw [modPort, modPort, h]

theorem modDsp_congr {p : PortId} {f g : Dsp → Dsp} {s : State} (h : f s.ports[p].dsp = g s.ports[p].dsp) :
    modDsp p f s = modDsp p g s :=
  modPort_congr (congrArg (fun d => { s.ports[p] with dsp := d }) h)

theorem modPort_modPort (p : PortId) (f g : Port → Port) (s : State) :
    modPort p f (modPort p g s) = modPort p (fun q => f (g q)) s := by
  simp [modPort]

/-! ## The checks of R308 on an owner's field -/

/-- A row of a port's object tables: a CTRL field that OWNER and WORKSHOP write, in either profile. The objects with checks of their own
(SignatureControl, SealConfig) are left out. -/
structure OwnerField (base sub : Nat) (o : Obj) (f : Field) : Prop where
  range   : 0x3000 ≤ base ∧ base < 0x3100 ∧ base ≠ 0x3050 ∧ base ≠ 0x3090
  found   : ∀ new, findField new base sub = .ok (o, f)
  index   : o.index = base
  perPort : o.perPort = true
  kind    : f.cls = .ctrl
  writers : f.w = some wOW
  holder  : o.holder = .always ∨ o.holder = .bay

theorem splitIndex_portIndex {base : Nat} (h : 0x3000 ≤ base ∧ base < 0x3100) (p : PortId) :
    splitIndex (portIndex base p) = (base, p) := by
  have hp := p.isLt
  have value : (portIndex base p).toNat = base + 256 * p.val := by
    rw [portIndex, if_neg (by omega), BitVec.toNat_ofNat, Nat.mod_eq_of_lt (by omega)]
  unfold splitIndex
  rw [value, if_neg (by omega), if_pos (by omega)]
  have port : (base + 256 * p.val) / 256 % 16 % 8 = p.val := by omega
  exact Prod.ext (by dsimp only; omega) (Fin.ext port)

section
variable {s t : State} {ch : Chan} {p : PortId}

theorem ownerWrites_iff :
    ownerWrites s ch p = true ↔ served s ch = true ∧ life s ≠ .ended ∧ (owns s ch p = true ∨ hasWorkshop s ch = true) := by
  simp only [ownerWrites, Bool.and_eq_true, Bool.or_eq_true, decide_eq_true_eq, and_assoc]

section
variable {base sub : Nat} {o : Obj} {f : Field} {d : List Byte} (r : OwnerField base sub o f)
include r

/-- R390: out of ENDED, no state of the life cycle forbids a write to a port's object. -/
theorem OwnerField.lifeForbids_eq (h : life s ≠ .ended) (v : Nat) : lifeForbids o.index sub v s = false := by
  obtain ⟨low, high, -⟩ := r.range
  have h1 : base ≠ 0x2006 := by omega
  have h2 : base ≠ 0x4006 := by omega
  simp [lifeForbids, r.index, h1, h2, h]

theorem OwnerField.roleGrants_eq (h : owns s ch p = true ∨ hasWorkshop s ch = true) (v : Nat) :
    roleGrants o f wOW p sub v ch s = true := by
  obtain ⟨low, high, -, hseal⟩ := r.range
  have order : base ≠ 0x2600 := by omega
  have sieve : o.holder ≠ .sieve := by rcases r.holder with e | e <;> simp [e]
  have grants : accessGrants o wOW p ch s = true := by
    rcases h with own | ws
    · simp [accessGrants, wOW, ownerOf, r.perPort, own]
    · simp [accessGrants, wOW, ws]
  have extra : roleExtra base sub v ch s = true := by
    unfold roleExtra
    split
    case h_5 => rfl
    all_goals omega
  have own : wOW.own = false := rfl
  simp [roleGrants, r.index, order, sieve, grants, extra, own]

/-- R308, step 6: only a bay's own test keeps an owner from its objects. -/
theorem OwnerField.underTest_eq (h : o.holder = .always ∨ bayTesting s p = false) : underTest o p s = false := by
  obtain ⟨low, high, -⟩ := r.range
  have crock : ¬ 0x4000 ≤ base := by omega
  rcases h with h | h <;> simp [underTest, r.index, crock, h]

theorem OwnerField.serviceUnderTest_eq (v : Nat) : serviceUnderTest o.index p sub v s = false := by
  obtain ⟨low, high, hsig, -⟩ := r.range
  have sieve : base ≠ 0x2510 := by omega
  have cal : base ≠ 0x2302 := by omega
  simp [serviceUnderTest, armsTested, asksUnderTest, r.index, sieve, cal, hsig]

theorem OwnerField.valueOk_eq : valueOk o f p sub d s = portValueOk base p sub d s.ports[p] := by
  obtain ⟨low, high, -⟩ := r.range
  have sieve : base ≠ 0x2510 := by omega
  simp [valueOk, r.kind, r.index, r.perPort, sieve]

theorem OwnerField.lockForbids_eq (h : unlocked s ch p = true ∨ lockCovers base sub = false) (v : Nat) :
    lockForbids o f p sub v ch s = false := by
  obtain ⟨low, high, -⟩ := r.range
  have gates : base ≠ 0x2103 := by omega
  rcases h with h | h
  · have free : portLocked s p = true → hasSession s ch = true := by
      intro e; simpa [unlocked, e] using h
    simpa [lockForbids, r.index, gates, r.kind] using fun _ => free
  · simp [lockForbids, r.index, gates, h]

/-- R318: the gate of the bay that holds the object is open. -/
theorem OwnerField.holderGate_eq (h : o.holder = .always ∨ gateOpen s p.val = true) : holderGate o p s = none := by
  rcases h with h | h
  · simp [holderGate, h]
  · rcases r.holder with e | e <;> simp [holderGate, e, h]

end

/-- R308: an owner's write of a value within its range, unlocked and with its bay in reach, has its field's effect. -/
theorem dictCommand_ownerField {base : Nat} {sub : Byte} {o : Obj} {f : Field} {d : List Byte} (r : OwnerField base sub.toNat o f)
    (hw : ownerWrites s ch p = true) (hb : o.holder = .always ∨ gateOpen s p.val = true ∧ bayTesting s p = false)
    (hd : lengthOk f.len d.length = true) (hv : portValueOk base p sub.toNat d s.ports[p] = true)
    (hl : unlocked s ch p = true ∨ lockCovers base sub.toNat = false)
    (w : writePort ch base p sub.toNat d (requested ch s) = .ok t) :
    dictCommand ch (portIndex base p) sub d s = answered ch t := by
  obtain ⟨srv, alive, role⟩ := ownerWrites_iff.mp hw
  have sieve : (decide (o.holder = .sieve) && otherHolder ch (requested ch s)) = false := by
    rcases r.holder with e | e <;> simp [e]
  have hl' : unlocked (requested ch s) ch p = true ∨ lockCovers base sub.toNat = false := by
    simpa only [unlocked, portLocked_requested, hasSession_requested] using hl
  have hb' : o.holder = .always ∨ gateOpen (requested ch s) p.val = true ∧ bayTesting (requested ch s) p = false := hb
  have test : (underTest o p (requested ch s) || serviceUnderTest o.index p sub.toNat (leVal d) (requested ch s)) = false := by
    rw [r.underTest_eq (hb'.imp_right And.right), r.serviceUnderTest_eq]
    rfl
  have passes : writeForbidden o f wOW p sub.toNat d ch (requested ch s) = none :=
    writeForbidden_none (r.lifeForbids_eq (by simpa using alive) _) (r.roleGrants_eq (by simpa using role) _) sieve
      test hd (r.valueOk_eq.trans hv) (r.lockForbids_eq hl' _)
  refine dictCommand_ok srv ?_
  rw [dictWrite_passes p base (splitIndex_portIndex ⟨r.range.1, r.range.2.1⟩ p) (r.found _) r.writers
    (r.holderGate_eq (hb'.imp_right And.left)) (by rw [r.index]; have := r.range; omega) passes, writeField, r.kind, r.index, r.perPort]
  exact w

/-! ## The objects -/

theorem ownerField_adminState : OwnerField 0x3001 1 portObjects[1] (ctrls 1 4 1 wOW) :=
  ⟨by decide, fun new => by cases new <;> rfl, rfl, rfl, rfl, rfl, .inl rfl⟩

theorem ownerField_portCommand : OwnerField 0x3001 2 portObjects[1] (ctrls 1 4 1 wOW) :=
  ⟨by decide, fun new => by cases new <;> rfl, rfl, rfl, rfl, rfl, .inl rfl⟩

theorem ownerField_modeMask : OwnerField 0x3010 1 portObjects[2] (ctrl 1 2 wOW) :=
  ⟨by decide, fun new => by cases new <;> rfl, rfl, rfl, rfl, rfl, .inl rfl⟩

theorem ownerField_targetMode : OwnerField 0x3011 4 portObjects[3] (ctrl 4 1 wOW) :=
  ⟨by decide, fun new => by cases new <;> rfl, rfl, rfl, rfl, rfl, .inl rfl⟩

theorem ownerField_adaptControl : OwnerField 0x3040 13 portObjects[9] (ctrl 13 1 wOW) :=
  ⟨by decide, fun new => by cases new <;> rfl, rfl, rfl, rfl, rfl, .inr rfl⟩

theorem ownerField_neighbourMask : OwnerField 0x3041 1 portObjects[10] (ctrls 1 2 1 wOW) :=
  ⟨by decide, fun new => by cases new <;> rfl, rfl, rfl, rfl, rfl, .inl rfl⟩

/-! ## What the owner's writes do -/

theorem leVal_byte (v : Byte) : leVal [v] = v.toNat := by simp [leVal]

theorem byteOf_toNat (v : Byte) : byteOf v.toNat = v := by simp [byteOf]

/-- R127, R146: a write of PortCommand, which no ConfigLock covers. -/
theorem dictCommand_portCommand (hw : ownerWrites s ch p = true) {v : Byte} (hv : v.toNat ≤ 0x0F) :
    dictCommand ch (portIndex 0x3001 p) 2 [v] s = answered ch (writeCommand p v (requested ch s)) := by
  refine dictCommand_ownerField ownerField_portCommand hw (.inl rfl) rfl ?_ (.inr rfl) ?_
  · simp [portValueOk, leVal_byte, hv]
  · simp [writePort, leVal_byte, byteOf_toNat]

theorem dictCommand_adminState (hw : ownerWrites s ch p = true) (hl : unlocked s ch p = true) {v : Byte} (hv : v.toNat ≤ 1) :
    dictCommand ch (portIndex 0x3001 p) 1 [v] s = answered ch (writeAdmin p v.toNat (requested ch s)) := by
  refine dictCommand_ownerField ownerField_adminState hw (.inl rfl) rfl ?_ (.inl hl) ?_
  · simp [portValueOk, leVal_byte, hv]
  · simp [writePort, leVal_byte]

theorem dictCommand_modeMask (hw : ownerWrites s ch p = true) (hl : unlocked s ch p = true) {v : BitVec 16}
    (hv : v &&& ~~~0x1F07#16 = 0) :
    dictCommand ch (portIndex 0x3010 p) 1 (leBytes 2 v.toNat) s = answered ch (writeModeMask p v (requested ch s)) := by
  have value : leVal (leBytes 2 v.toNat) = v.toNat := by
    have := v.isLt
    simp [leVal, leBytes]; omega
  refine dictCommand_ownerField ownerField_modeMask hw (.inl rfl) rfl ?_ (.inl hl) ?_
  · simpa [portValueOk, value] using hv
  · simp [writePort, value]

/-- R140, R210: a write of TargetMode while no roll call is in progress. -/
theorem dictCommand_targetMode (hw : ownerWrites s ch p = true) (hr : s.roll.status ≠ 1) {v : Byte}
    (hv : 1 ≤ v.toNat ∧ v.toNat ≤ 3) :
    dictCommand ch (portIndex 0x3011 p) 4 [v] s = answered ch (writeTarget p v (requested ch s)) := by
  refine dictCommand_ownerField ownerField_targetMode hw (.inl rfl) rfl ?_ (.inr rfl) ?_
  · simp [portValueOk, leVal_byte, hv]
  · have free : ¬ ((requested ch s).roll.status = 1 ∧ maskBit (orderMask (requested ch s).roll.order) p = true) := fun h => hr h.1
    simp only [writePort, leVal_byte, byteOf_toNat, writeTargetMode, if_neg free]

theorem dictCommand_adaptControl (hw : ownerWrites s ch p = true) (hg : gateOpen s p.val = true) (ht : bayTesting s p = false)
    {v : Byte} (hv : v.toNat ≤ 3) :
    dictCommand ch (portIndex 0x3040 p) 0x0D [v] s = answered ch (writeAdapt p v (requested ch s)) := by
  refine dictCommand_ownerField ownerField_adaptControl hw (.inr ⟨hg, ht⟩) rfl ?_ (.inr rfl) ?_
  · simp [portValueOk, leVal_byte, hv]
  · simp [writePort, leVal_byte, byteOf_toNat]

theorem dictCommand_neighbourMask (hw : ownerWrites s ch p = true) (hl : unlocked s ch p = true) {v : Byte}
    (hv : v.getLsbD p.val = false) :
    dictCommand ch (portIndex 0x3041 p) 1 [v] s = answered ch (writeNeighbours p v (requested ch s)) := by
  refine dictCommand_ownerField ownerField_neighbourMask hw (.inl rfl) rfl ?_ (.inl hl) ?_
  · simpa [portValueOk, leVal_byte] using hv
  · simp [writePort, leVal_byte, byteOf_toNat]

/-! ## PortCommand and AdminState -/

/-- R127: RETRAIN_GO takes an Etoon link down. -/
theorem retrainGo_up (hu : s.ports[p].link.up = true) (he : (etoonMode s.ports[p]).isSome = true)
    (hc : s.ports[p].link.choosing = false) (hn : s.ports[p].link.mcStatus ≠ .noSnapshot) :
    retrainGo p s = declareDown p .hostRetrain s := by
  simp only [retrainGo, hu, he, hc, hn, Bool.false_eq_true, if_true, if_false]

theorem restartAnGo_up (hu : s.ports[p].link.up = true) :
    restartAnGo p s = declareDown p .hostRestartAn (modLink p (fun l => { l with withdrawn := 0 }) s) := by
  rw [Fin.getElem_fin] at hu
  simp [restartAnGo, hu]

theorem sleepGo_etoon {m : EMode} (hu : s.ports[p].link.up = true) (ht : s.ports[p].link.linkPolicy.getLsbD 2 = true)
    (hm : s.ports[p].link.mode = some (.etoon m)) :
    sleepGo p s = modLink p (fun l => { l with sleepWait := some s.aon.tally }) s := by
  simp only [sleepGo, hu, ht, hm]
  rfl

theorem sleepGo_b1g (hu : s.ports[p].link.up = true) (ht : s.ports[p].link.linkPolicy.getLsbD 2 = true)
    (hm : s.ports[p].link.mode = some (.std .b1g)) :
    sleepGo p s = modLink p (fun l => { l with sleepSent := true, sleepWait := some s.aon.tally }) s := by
  simp only [sleepGo, hu, ht, hm]
  rfl

theorem localWake_asleep (hu : s.ports[p].link.up = false) (ha : s.ports[p].link.asleep = true) : localWake p s = startPulse p s := by
  simp only [localWake, hu, ha, Bool.false_eq_true, if_true, if_false]

theorem adminDisable_up (hu : s.ports[p].link.up = true) :
    adminDisable p s = declareDown p .hostDisable (modLink p (fun l => { l with adminEnabled := false }) s) := by
  rw [Fin.getElem_fin] at hu
  simp [adminDisable, hu]

theorem adminDisable_down (hu : s.ports[p].link.up = false) (hc : s.ports[p].link.choosing = false)
    (ha : s.ports[p].link.asleep = false) :
    adminDisable p s = modLink p (fun l => { l with adminEnabled := false, phase := .disabled, relink := none }) s := by
  rw [Fin.getElem_fin] at hu hc ha
  simp only [adminDisable, Fin.getElem_fin, modLink_self, hu, hc, ha, Bool.false_eq_true, or_self, if_false]
  exact modPort_modPort p _ _ s

/-- R109, R392: with no calibration run under way, ENABLED abandons none. -/
theorem writeAdmin_enable (hc : s.cal.run = none) : writeAdmin p 1 s = modLink p (fun l => { l with adminEnabled := true }) s := by
  simp [writeAdmin, adminEnable, abandonCalPort, hc]

/-! ## TargetMode -/

theorem targetOf_emodeCode (m : EMode) : targetOf (BitVec.ofNat 8 (emodeCode m)) = some m := by cases m <;> rfl

theorem emodeCode_bounds (m : EMode) : 1 ≤ (BitVec.ofNat 8 (emodeCode m)).toNat ∧ (BitVec.ofNat 8 (emodeCode m)).toNat ≤ 3 := by
  cases m <;> decide

/-- R142: a written target is no obstacle to a change. -/
theorem mcObstacle_modLink_target (v : Byte) (cur m : EMode) :
    mcObstacle (modLink p (fun l => { l with target := v }) s) p cur m = mcObstacle s p cur m := by
  simp only [mcObstacle, Fin.getElem_fin, modLink_self]
  rfl

/-- R140, R141: without an obstacle, a change is asked for with the next epoch number. -/
theorem mcStart_clear {cur m : EMode} (he : etoonMode s.ports[p] = some cur) (ho : mcObstacle s p cur m = none) :
    mcStart p m none s = modPort p (fun q => { q with
      mc := { role := .requester, target := m, old := cur, epoch := q.link.epoch + 1, requests := 1 }
      link := { q.link with mcStatus := .requested }
      line := { q.line with owed := q.line.owed ++ [.request m (q.link.epoch + 1)] } }) s := by
  simp only [mcStart, he, ho]
  exact modPort_modPort p _ _ s

/-- R138, R140: on a port that is up, with no change under way and no mode withdrawn, a target other than the mode in use starts a
change. -/
theorem writeTarget_starts {cur m : EMode} (hu : s.ports[p].link.up = true) (hr : s.ports[p].mc.role = .none)
    (he : etoonMode s.ports[p] = some cur) (hne : cur ≠ m) (hw : s.ports[p].link.withdrawn = 0) (ho : mcObstacle s p cur m = none) :
    writeTarget p (BitVec.ofNat 8 (emodeCode m)) s = modPort p (fun q => { q with
      mc := { role := .requester, target := m, old := cur, epoch := q.link.epoch + 1, requests := 1 }
      link := { q.link with target := BitVec.ofNat 8 (emodeCode m), mcStatus := .requested }
      line := { q.line with owed := q.line.owed ++ [.request m (q.link.epoch + 1)] } }) s := by
  have aimed : modLink p (fun l => { l with withdrawn := l.withdrawn &&& ~~~(1#16 <<< emodeBit m) })
      (modLink p (fun l => { l with target := BitVec.ofNat 8 (emodeCode m) }) s)
      = modLink p (fun l => { l with target := BitVec.ofNat 8 (emodeCode m) }) s := by
    refine (modPort_modPort p _ _ s).trans (modPort_congr ?_)
    simp only [hw, BitVec.ofNat_eq_ofNat, BitVec.zero_and]
  have self := modLink_self s p (fun l => { l with target := BitVec.ofNat 8 (emodeCode m) })
  have start := mcStart_clear (s := modLink p (fun l => { l with target := BitVec.ofNat 8 (emodeCode m) }) s) (cur := cur) (m := m)
    ((congrArg etoonMode self).trans he) (by rwa [mcObstacle_modLink_target])
  have idle : ¬ (mcBusy s.ports[p] || decide (etoonMode s.ports[p] = some m)) = true := by
    simp only [mcBusy, hr, he]
    simpa using hne
  simp only [writeTarget, targetOf_emodeCode, aimed]
  rw [if_neg (by simpa using hu), if_neg (by rw [Fin.getElem_fin, self]; exact idle), start]
  exact modPort_modPort p _ _ s

/-! ## AdaptControl and NeighbourMask -/

/-- R67, R75: a write that leaves HOLD as it is and sets SNAPSHOT_GO. -/
theorem writeAdapt_snapshotGo {h : Bool} (hh : s.ports[p].dsp.hold = h) :
    writeAdapt p (byteOf (2 + h.toNat)) s = modDsp p (fun d => { d with snapGo := true }) s := by
  have bits : (byteOf (2 + h.toNat)).getLsbD 0 = h ∧ (byteOf (2 + h.toNat)).getLsbD 1 = true := by cases h <;> decide
  refine modDsp_congr ?_
  simp only [bits, Bool.or_true]
  rw [← hh]

/-- R76: the nearest neighbour stays where none is named or its bit stays set. -/
theorem writeNeighbours_keeps {v : Byte}
    (h : s.ports[p].dsp.nearest = 0xFF ∨ v.getLsbD s.ports[p].dsp.nearest.toNat = true) :
    writeNeighbours p v s = modDsp p (fun d => { d with neighbours := v }) s := by
  refine modDsp_congr ?_
  have stays : ¬ (s.ports[p].dsp.nearest ≠ 0xFF ∧ v.getLsbD s.ports[p].dsp.nearest.toNat = false) := by
    rintro ⟨named, clear⟩
    exact h.elim named fun set => Bool.false_ne_true (clear.symm.trans set)
  simp only [if_neg stays]

/-- R76: a write that clears the nearest neighbour's bit names none. -/
theorem writeNeighbours_drops {v : Byte} (hn : s.ports[p].dsp.nearest ≠ 0xFF) (h : v.getLsbD s.ports[p].dsp.nearest.toNat = false) :
    writeNeighbours p v s = modDsp p (fun d => { d with neighbours := v, nearest := 0xFF }) s := by
  refine modDsp_congr ?_
  simp only [if_pos (And.intro hn h)]

/-! ## The instructions -/

theorem exec_retrainGo (hw : ownerWrites s ch p = true) :
    exec (.retrainGo ch p) s = .next (answered ch (retrainGo p (requested ch s))) :=
  congrArg Host.Outcome.next (dictCommand_portCommand hw (v := 0x01) (by decide))

theorem exec_restartAnGo (hw : ownerWrites s ch p = true) :
    exec (.restartAnGo ch p) s = .next (answered ch (restartAnGo p (requested ch s))) :=
  congrArg Host.Outcome.next (dictCommand_portCommand hw (v := 0x02) (by decide))

theorem exec_sleepGo (hw : ownerWrites s ch p = true) :
    exec (.sleepGo ch p) s = .next (answered ch (sleepGo p (requested ch s))) :=
  congrArg Host.Outcome.next (dictCommand_portCommand hw (v := 0x04) (by decide))

theorem exec_wakeGo (hw : ownerWrites s ch p = true) :
    exec (.wakeGo ch p) s = .next (answered ch (localWake p (requested ch s))) :=
  congrArg Host.Outcome.next (dictCommand_portCommand hw (v := 0x08) (by decide))

theorem exec_adminDisable (hw : ownerWrites s ch p = true) (hl : unlocked s ch p = true) :
    exec (.adminDisable ch p) s = .next (answered ch (adminDisable p (requested ch s))) :=
  congrArg Host.Outcome.next (dictCommand_adminState hw hl (v := 0) (by decide))

theorem exec_adminEnable (hw : ownerWrites s ch p = true) (hl : unlocked s ch p = true) :
    exec (.adminEnable ch p) s = .next (answered ch (writeAdmin p 1 (requested ch s))) :=
  congrArg Host.Outcome.next (dictCommand_adminState hw hl (v := 1) (by decide))

theorem exec_modeMaskWrite (hw : ownerWrites s ch p = true) (hl : unlocked s ch p = true) {v : BitVec 16}
    (hv : v &&& ~~~0x1F07#16 = 0) : exec (.modeMaskWrite ch p v) s = .next (answered ch (writeModeMask p v (requested ch s))) :=
  congrArg Host.Outcome.next (dictCommand_modeMask hw hl hv)

theorem exec_targetModeWrite (hw : ownerWrites s ch p = true) (hr : s.roll.status ≠ 1) (m : EMode) :
    exec (.targetModeWrite ch p (BitVec.ofNat 8 (emodeCode m))) s
      = .next (answered ch (writeTarget p (BitVec.ofNat 8 (emodeCode m)) (requested ch s))) :=
  congrArg Host.Outcome.next (dictCommand_targetMode hw hr (emodeCode_bounds m))

theorem exec_snapshotGo (hw : ownerWrites s ch p = true) (hg : gateOpen s p.val = true) (ht : bayTesting s p = false) :
    exec (.snapshotGo ch p) s = .next (answered ch (writeAdapt p (byteOf (2 + s.ports[p].dsp.hold.toNat)) (requested ch s))) := by
  have range : ∀ h : Bool, (byteOf (2 + h.toNat)).toNat ≤ 3 := by decide
  exact congrArg Host.Outcome.next (dictCommand_adaptControl hw hg ht (range _))

theorem exec_neighbourMaskWrite (hw : ownerWrites s ch p = true) (hl : unlocked s ch p = true) {v : Byte}
    (hv : v.getLsbD p.val = false) :
    exec (.neighbourMaskWrite ch p v) s = .next (answered ch (writeNeighbours p v (requested ch s))) :=
  congrArg Host.Outcome.next (dictCommand_neighbourMask hw hl hv)

end

/-- Settles O25: every one of these writes passes the checks of R308, and then has its field's own effect. The sleep request of
1000BASE-T1 is log entry 35's. -/
theorem portWrites : Obligations.PortWrites := by
  unfold Obligations.PortWrites
  refine ⟨fun s ch p hw => ⟨fun hu he hc hn => ?retrain, fun hu => ?restart, fun m hu ht hm => ?sleep, fun hu ht hm => ?sleepB1g,
    fun hu ha => ?wake, fun hl => ⟨fun hu => ?disableUp, fun hu hc ha => ?disableDown, fun hc => ?enable⟩⟩,
    fun s ch p hw => ⟨fun v hl hv => ?modes, fun m cur hr hu hrole he hne hwd ho => ?target, fun hg ht => ?snapshot,
      fun v hl hv hn => ?neighbours⟩⟩
  case retrain => rw [exec_retrainGo hw, retrainGo_up (s := requested ch s) hu he hc hn]
  case restart => rw [exec_restartAnGo hw, restartAnGo_up (s := requested ch s) hu]
  case sleep => rw [exec_sleepGo hw, sleepGo_etoon (s := requested ch s) hu ht hm, requested_aon]
  case sleepB1g => rw [exec_sleepGo hw, sleepGo_b1g (s := requested ch s) hu ht hm, requested_aon]
  case wake => rw [exec_wakeGo hw, localWake_asleep (s := requested ch s) hu ha]
  case disableUp => rw [exec_adminDisable hw hl, adminDisable_up (s := requested ch s) hu]
  case disableDown => rw [exec_adminDisable hw hl, adminDisable_down (s := requested ch s) hu hc ha]
  case enable => rw [exec_adminEnable hw hl, writeAdmin_enable (s := requested ch s) hc]
  case modes => rw [exec_modeMaskWrite hw hl hv, writeModeMask]
  case target => rw [exec_targetModeWrite hw hr m, writeTarget_starts (s := requested ch s) hu hrole he hne hwd ho]
  case snapshot => rw [exec_snapshotGo hw hg ht, writeAdapt_snapshotGo (s := requested ch s) (h := s.ports[p].dsp.hold) rfl]
  case neighbours => rw [exec_neighbourMaskWrite hw hl hv, writeNeighbours_keeps (s := requested ch s) (.inl hn)]

/-- Settles O59: the write passes the checks of R308, and the nearest neighbour goes by the bit of its port (R76). -/
theorem nearestNeighbourFollowsMask : Obligations.NearestNeighbourFollowsMask := by
  unfold Obligations.NearestNeighbourFollowsMask
  intro s ch p v hw hl hv hn
  rw [exec_neighbourMaskWrite hw hl hv]
  refine ⟨fun clear => ?_, fun stays => ?_⟩
  · rw [writeNeighbours_drops (s := requested ch s) hn clear]
  · rw [writeNeighbours_keeps (s := requested ch s) (.inr stays)]

end Sys2Proof.Machine
end

section
/-! PROOF. Calibration runs (R391): the checks of a GO write are not R391's alone, for a bay's own self-test keeps its calibration off with
UNDER_TEST (R308, step 6; log entry 90). -/

namespace Sys2Proof.Machine

/-- A device in MANUFACTURE whose calibration port, port 0, is disabled and terminated with 100 ohms, while bay 0 runs its self-test.
CTL has a MAKER's session. -/
def bayUnderTest : State :=
  let s := State.reset
  { s with
    clk := { s.clk with armed := true, onInput1 := [.ctl] }
    gate := { gates := 0xFFFFF, isOpen := 0xFFFFF }
    can := { s.can with nmt := .preOperational }
    env := { s.env with term := List.replicate 8 100000 }
    bist := { s.bist with results := .running :: List.replicate 7 .none }
    chans := s.chans.set 0 { s.chans[0] with session := some { role := .maker, expiry := 0, keyId := [] } }
    ports := s.ports.set 0 { s.ports[0] with link := { s.ports[0].link with adminEnabled := false } } }

/-- What channel 0 answers where an instruction is carried out. -/
def ctlResponse : Host.Outcome State Fault Refusal → Option Resp
  | .next t => some t.chans[0].resp
  | _ => none

theorem sessionWrites_bayUnderTest : sessionWrites bayUnderTest 0 = true := by decide +kernel

theorem calCheck_bayUnderTest : calCheck .levels bayUnderTest = none := by decide +kernel

theorem levelsGo_bayUnderTest : ctlResponse (exec (.levelsGo 0) bayUnderTest) = some (.abort abUnderTest) := by decide +kernel

/-- Refutes O53: while the self-test of the calibration port's bay runs, LEVELS_GO passes every check of R391 and is aborted with
UNDER_TEST all the same (R308, step 6; log entry 90), so that it starts no run. -/
theorem not_calibrationRuns : ¬ Obligations.CalibrationRuns := by
  unfold Obligations.CalibrationRuns
  intro h
  obtain ⟨go, -⟩ := h bayUnderTest 0
  obtain ⟨accepted, -⟩ := go (.levelsGo 0) .levels 2 (by simp) sessionWrites_bayUnderTest
  have answer := levelsGo_bayUnderTest
  rw [accepted calCheck_bayUnderTest] at answer
  exact absurd answer (by decide +kernel)

end Sys2Proof.Machine
end

section
/-! PROOF. Snapshots of the filters and joins of the crosstalk cancellers (R59, R69, R75). -/

namespace Sys2Proof.Machine

variable {s : State} {p : PortId}

/-! ## Snapshots -/

/-- R69: a snapshot comes first in its mode's pair. -/
theorem snapSlots_storeSnapshot (m : EMode) (x : Snapshot) (k : CoefStore) :
    snapSlots (storeSnapshot m x k) m = (x :: snapSlots k m).take 2 := by
  cases m <;> rfl

theorem snapSlots_storeSnapshot_other {m n : EMode} (h : n ≠ m) (x : Snapshot) (k : CoefStore) :
    snapSlots (storeSnapshot m x k) n = snapSlots k n := by
  cases m <;> cases n <;> simp [snapSlots, storeSnapshot] at h ⊢

/-- R69, R75: port p after a snapshot of mode m. -/
theorem takeSnapshot_self (m : EMode) (s : State) : (takeSnapshot p m s).ports[(p : Nat)] = { s.ports[p] with
    store := storeSnapshot m (snapshotOf s p m) s.ports[p].store
    dsp := { s.ports[p].dsp with snapRefused := false, snapSinceUp := true } } :=
  modPort_self s p _

@[simp] theorem measureLoads_ports (s : State) : (measureLoads p s).ports = s.ports := rfl

/-- A port's window as it starts afresh at a whole millisecond (R69). -/
def freshWindow (up : Bool) (now : Nat) (d : Dsp) : Dsp :=
  { d with winWhole := up, winClean := true, winLocked := d.locked, winIndex := now / 1000000 }

/-- R69: the window that ends was clean and whole, so that it gives a snapshot. -/
theorem exec_snapshotWindowEnd_clean {m : EMode} (hm : rxMode s.ports[p] = some m) (hi : s.ports[p].dsp.winIndex < s.aon.tally / 1000000)
    (hu : s.ports[p].link.up = true) (hc : windowClean s.ports[p] = true) (hw : s.ports[p].dsp.winWhole = true) :
    exec (.snapshotWindowEnd p) s = .next (modDsp p (freshWindow true s.aon.tally) (measureLoads p (takeSnapshot p m s))) := by
  have later : ¬ s.aon.tally / 1000000 ≤ s.ports[p].dsp.winIndex := Nat.not_le.mpr hi
  change execSnapshotWindowEnd p s = _
  simp only [execSnapshotWindowEnd, later, hm, hu, hc, hw, if_false, if_true, Bool.and_self]
  rfl

/-- R69: a window that was not clean, or not whole, gives none. -/
theorem exec_snapshotWindowEnd_unclean {m : EMode} (hm : rxMode s.ports[p] = some m)
    (hi : s.ports[p].dsp.winIndex < s.aon.tally / 1000000) (h : windowClean s.ports[p] = false ∨ s.ports[p].dsp.winWhole = false) :
    exec (.snapshotWindowEnd p) s = .next (modDsp p (freshWindow s.ports[p].link.up s.aon.tally) (measureLoads p s)) := by
  have later : ¬ s.aon.tally / 1000000 ≤ s.ports[p].dsp.winIndex := Nat.not_le.mpr hi
  have unfit : ¬ (s.ports[p].link.up && s.ports[p].dsp.winWhole && windowClean s.ports[p]) = true := by
    rcases h with h | h <;> rw [h] <;> simp
  change execSnapshotWindowEnd p s = _
  simp only [execSnapshotWindowEnd, later, hm, unfit, if_false]
  rfl

/-- The port after its request for a snapshot was served (R75). -/
def servedGo (p : PortId) (done : Bool) (s : State) : State :=
  raise (bayEv p 0x0010 0 [BitVec.ofNat 8 p.val, if done then 1 else 2])
    (modDsp p (fun d => { d with snapGo := false, snapRefused := !done }) s)

theorem servedGo_self (done : Bool) (s : State) : (servedGo p done s).ports[(p : Nat)] =
    { s.ports[p] with dsp := { s.ports[p].dsp with snapGo := false, snapRefused := !done } } := by
  rw [servedGo, raise_ports]
  exact modDsp_self s p _

/-- R75: the request is judged over the running window. -/
theorem exec_snapshotServe {m : EMode} (hm : rxMode s.ports[p] = some m) (hg : s.ports[p].dsp.snapGo = true) :
    exec (.snapshotServe p) s = .next (servedGo p (s.ports[p].link.up && windowClean s.ports[p] && (etoonMode s.ports[p]).isSome)
      (if (s.ports[p].link.up && windowClean s.ports[p]) = true then takeSnapshot p m s else s)) := by
  change execSnapshotServe p s = _
  simp only [execSnapshotServe, hg, hm, Bool.not_true, Bool.false_eq_true, if_false]
  rfl

/-! ## Joins -/

/-- R59: 6 dB within 5 ms, on a canceller that is still wanted, adds it at the subtraction point. -/
theorem exec_xtalkJoinDone_reached {m : PortId} {db : Int} (h : s.ports[p].dsp.joins.getD m.val .none = .joining) (hdb : 600 ≤ db)
    (hw : xtalkWanted s p m = true) (ho : joinOpen s p m = true) :
    exec (.xtalkJoinDone p m db) s = .next (modDsp p (fun d => { d with joins := d.joins.set m.val .cancelling }) s) :=
  congrArg Host.Outcome.next (if_pos ⟨h, hdb, hw, ho⟩)

theorem exec_xtalkJoinDone_missed {m : PortId} {db : Int} (h : db < 600 ∨ joinOpen s p m = false) :
    exec (.xtalkJoinDone p m db) s = .next s := by
  refine congrArg Host.Outcome.next (if_neg fun ⟨_, hdb, _, ho⟩ => ?_)
  rcases h with h | h
  · exact absurd hdb (by omega)
  · exact Bool.false_ne_true (h.symm.trans ho)

/-- Settles O16: one outcome of each command at a time. -/
theorem snapshotsAndCrosstalkJoins : Obligations.SnapshotsAndCrosstalkJoins := by
  unfold Obligations.SnapshotsAndCrosstalkJoins
  refine ⟨fun s p m hm => ⟨fun hi => ⟨fun hu hc hw => ?clean, fun h => ?unclean⟩, fun hi => ?early, fun hg => ?serve⟩,
    fun s p m db hj => ⟨fun hdb hw ho => exec_xtalkJoinDone_reached hj hdb hw ho, fun hdb => exec_xtalkJoinDone_missed (.inl hdb),
      fun ho => ?runs, fun ho => ⟨exec_xtalkJoinDone_missed (.inr ho), ?again⟩⟩⟩
  case clean =>
    refine ⟨_, exec_snapshotWindowEnd_clean hm hi hu hc hw, ?_⟩
    simp only [Fin.getElem_fin, modDsp_self, measureLoads_ports, takeSnapshot_self, freshWindow, snapSlots_storeSnapshot, true_and,
      and_true]
    exact fun n h => snapSlots_storeSnapshot_other h _ _
  case unclean =>
    refine ⟨_, exec_snapshotWindowEnd_unclean hm hi h, ?_⟩
    simp [freshWindow]
  case early => exact congrArg Host.Outcome.next (if_pos hi)
  case serve =>
    refine ⟨_, exec_snapshotServe hm hg, by simp [servedGo_self], fun hu hc he => ?_, fun h => ?_⟩
    · have fit : (s.ports[p].link.up && windowClean s.ports[p]) = true := by rw [hu, hc, Bool.and_self]
      rw [fit, he]
      simp [servedGo_self, takeSnapshot_self, snapSlots_storeSnapshot]
    · have unfit : (s.ports[p].link.up && windowClean s.ports[p]) = false := by rcases h with h | h <;> rw [h] <;> simp
      rw [unfit]
      simp [servedGo_self]
  case runs => exact congrArg Host.Outcome.next (if_neg fun ⟨_, h⟩ => Bool.false_ne_true (h.symm.trans ho))
  case again => exact congrArg Host.Outcome.next (if_pos ⟨hj, ho⟩)

end Sys2Proof.Machine
end

section
/-! PROOF. One shingle's samples through the receive chain (R40 to R50, R62 to R67): what a symbol keeps of the coefficients where its law
does not adapt them, and where the updates that wait were discarded. -/

namespace Sys2Proof.Machine

/-! ## Updates from an error of 0 -/

@[simp] theorem sgn_zero : sgn 0 = 0 := rfl

theorem signSign_zero (mu : Int) (w x : List Int) : signSign mu 0 w x = w := by
  refine List.ext_getElem (by simp [signSign]) fun i _ _ => ?_
  simp [signSign]

theorem adaptTrims_zero (mu : Int) (j : Nat) (x before : Int) (trims : List Int) : adaptTrims mu 0 j x before trims = trims := by
  have same : (fun v : Int => v) = id := rfl
  simp [adaptTrims, same]

/-! ## What a symbol keeps -/

/-- What stands of the receive chain after some symbols: LOCKED, FreezeCount, and every part that does not adapt (R66, R67). -/
structure KeepsIdle (w : Works) (d t : Dsp) : Prop where
  locked      : t.locked = d.locked
  freezeCount : t.freezeCount = d.freezeCount
  ffe         : w.ffe = false → t.ffe = d.ffe
  dfe         : w.dfe = false → t.dfe = d.dfe
  lev         : w.lev = false → t.d = d.d
  ne          : w.echo = false → t.ne = d.ne
  farEcho     : w.echo = false → t.farEcho = d.farEcho
  trims       : w.trims = false → t.trims = d.trims
  xtalks      : w.xtalk = false → t.xtalks = d.xtalks
  loopInteg   : w.timing = false → t.loopInteg = d.loopInteg

theorem KeepsIdle.refl (w : Works) (d : Dsp) : KeepsIdle w d d := by constructor <;> intros <;> rfl

theorem KeepsIdle.trans {w : Works} {d t u : Dsp} (a : KeepsIdle w d t) (b : KeepsIdle w t u) : KeepsIdle w d u where
  locked := b.locked.trans a.locked
  freezeCount := b.freezeCount.trans a.freezeCount
  ffe h := (b.ffe h).trans (a.ffe h)
  dfe h := (b.dfe h).trans (a.dfe h)
  lev h := (b.lev h).trans (a.lev h)
  ne h := (b.ne h).trans (a.ne h)
  farEcho h := (b.farEcho h).trans (a.farEcho h)
  trims h := (b.trims h).trans (a.trims h)
  xtalks h := (b.xtalks h).trans (a.xtalks h)
  loopInteg h := (b.loopInteg h).trans (a.loopInteg h)

/-- R51, R58: the beginning of a block changes the far-echo canceller, the crosstalk cancellers and their replicas only. -/
theorem blockBegin_eq (cx : Ctx) (k : Nat) (d : Dsp) : ∃ far xs c,
    blockBegin cx k d = { d with farEcho := far, xtalks := xs, chain := c } ∧ c.err = d.chain.err
    ∧ (cx.works.echo = false → far = d.farEcho) ∧ (cx.works.xtalk = false → xs = d.xtalks) := by
  refine ⟨_, _, _, rfl, rfl, fun h => by simp [h], fun h => ?_⟩
  refine List.ext_getElem (by simp) fun i _ _ => ?_
  simp only [List.getElem_mapIdx, h, Bool.false_and, Bool.false_eq_true, if_false]
  split <;> rfl

/-- R42: a symbol of the timing loop changes the loop only. -/
theorem timingSymbol_cases {cx : Ctx} {x level before : Int} {d t : Dsp} (h : timingSymbol cx x level before d = t) : ∃ g ph c,
    t = { d with loopInteg := g, loopPhase := ph, chain := c } ∧ c.err = d.chain.err
    ∧ (cx.works.timing = false → g = d.loopInteg) := by
  subst h
  cases h : cx.works.timing with
  | false => exact ⟨d.loopInteg, d.loopPhase, d.chain, by simp [timingSymbol, h], rfl, fun _ => rfl⟩
  | true =>
    simp only [timingSymbol, h, Bool.not_true, Bool.false_eq_true, if_false]
    split
    · exact ⟨_, _, _, rfl, rfl, nofun⟩
    · exact ⟨d.loopInteg, d.loopPhase, _, rfl, rfl, nofun⟩

/-- Table 3-1: a symbol's changes: the blocks that begin with it, the updates that were pending, the timing loop, and one new slicer
error. -/
theorem chainSymbol_eq (cx : Ctx) (d : Dsp) (u : Nat × BitVec 8 × Option Int) : ∃ far xs c₀ g ph c e,
    chainSymbol cx d u =
      { applyPending cx u.1 { d with farEcho := far, xtalks := xs, chain := c₀ } with loopInteg := g, loopPhase := ph, chain := c }
    ∧ c₀.err = d.chain.err ∧ c.err = (e :: d.chain.err).take 1024
    ∧ (cx.works.echo = false → far = d.farEcho) ∧ (cx.works.xtalk = false → xs = d.xtalks)
    ∧ (cx.works.timing = false → g = d.loopInteg) := by
  have begun : ∃ far xs c, (if d.chain.blk = 0 then blockBegin cx u.1 d else d) = { d with farEcho := far, xtalks := xs, chain := c }
      ∧ c.err = d.chain.err ∧ (cx.works.echo = false → far = d.farEcho) ∧ (cx.works.xtalk = false → xs = d.xtalks) := by
    split
    · exact blockBegin_eq cx u.1 d
    · exact ⟨d.farEcho, d.xtalks, d.chain, rfl, rfl, fun _ => rfl, fun _ => rfl⟩
  obtain ⟨far, xs, c₀, block, err₀, hfar, hxs⟩ := begun
  generalize symbol : chainSymbol cx d u = t
  simp only [chainSymbol, block] at symbol
  obtain ⟨g, ph, c, rfl, err, hg⟩ := timingSymbol_cases symbol
  exact ⟨far, xs, c₀, g, ph, c, _, rfl, err₀, err.trans (congrArg (fun l => (_ :: l).take 1024) err₀), hfar, hxs, hg⟩

theorem chainSymbol_keepsIdle (cx : Ctx) (d : Dsp) (u : Nat × BitVec 8 × Option Int) : KeepsIdle cx.works d (chainSymbol cx d u) := by
  obtain ⟨far, xs, c₀, g, ph, c, e, symbol, -, -, hfar, hxs, hg⟩ := chainSymbol_eq cx d u
  rw [symbol]
  exact {
    locked := rfl, freezeCount := rfl, farEcho := hfar, xtalks := hxs, loopInteg := hg
    ffe := fun h => by simp [applyPending, h]
    dfe := fun h => by simp [applyPending, h]
    lev := fun h => by simp [applyPending, h]
    ne := fun h => by simp [applyPending, h]
    trims := fun h => by simp [applyPending, h] }

theorem foldl_chainSymbol_keepsIdle (cx : Ctx) (l : List (Nat × BitVec 8 × Option Int)) (d : Dsp) :
    KeepsIdle cx.works d (l.foldl (chainSymbol cx) d) := by
  induction l generalizing d with
  | nil => exact .refl _ d
  | cons u l ih => exact (chainSymbol_keepsIdle cx d u).trans (ih _)

/-! ## Discarded updates (R65) -/

/-- The coefficients that the last shingle's updates would move stand as at `d`, and the slicer errors whose turn is still to come are 0,
from the `n`-th newest to the 720th. -/
structure Discarded (d : Dsp) (n : Nat) (t : Dsp) : Prop where
  ffe   : t.ffe = d.ffe
  dfe   : t.dfe = d.dfe
  ne    : t.ne = d.ne
  lev   : t.d = d.d
  trims : t.trims = d.trims
  zeros : ∀ i, n ≤ i → i < 720 → t.chain.err.getD i 0 = 0

theorem getD_take_replicate_append {i n : Nat} (hi : i < n) (k : Nat) (l : List Int) :
    ((List.replicate n 0 ++ l).take k).getD i 0 = 0 := by
  rw [List.getD_eq_getElem?_getD, List.getElem?_take]
  split
  · rw [List.getElem?_append_left (by simpa using hi), List.getElem?_replicate_of_lt hi]
    rfl
  · rfl

theorem dropPending_discarded (d : Dsp) : Discarded d 0 (dropPending d) where
  ffe := rfl
  dfe := rfl
  ne := rfl
  lev := rfl
  trims := rfl
  zeros _ _ hi := getD_take_replicate_append hi _ _

/-- R62, R65: updates from an error of 0 leave coefficients within their ranges as they are. -/
theorem chainSymbol_discarded {cx : Ctx} {d t : Dsp} {n : Nat} (hn : n < 720) (hffe : clamp24 d.ffe = d.ffe)
    (hdfe : clampDfe d.dfe = d.dfe) (hne : clamp24 d.ne = d.ne) (h : Discarded d n t) (u : Nat × BitVec 8 × Option Int) :
    Discarded d (n + 1) (chainSymbol cx t u) := by
  obtain ⟨far, xs, c₀, g, ph, c, e, symbol, err₀, err, -⟩ := chainSymbol_eq cx t u
  have zero : c₀.err.getD 719 0 = 0 := by rw [err₀]; exact h.zeros 719 (by omega) (by omega)
  rw [symbol]
  exact {
    ffe := by simp only [applyPending, zero, signSign_zero, h.ffe, hffe, ite_self]
    dfe := by simp only [applyPending, zero, signSign_zero, h.dfe, hdfe, ite_self]
    ne := by simp only [applyPending, zero, signSign_zero, h.ne, hne, ite_self]
    lev := by simp only [applyPending, zero, sgn_zero, mul_zero, zero_mul, add_zero, h.lev, ite_self]
    trims := by simp only [applyPending, zero, adaptTrims_zero, h.trims, ite_self]
    zeros := fun i hi hi' => by
      obtain ⟨i, rfl⟩ : ∃ k, i = k + 1 := ⟨i - 1, by omega⟩
      have older := h.zeros i (by omega) (by omega)
      simp only [err, List.getD_eq_getElem?_getD, List.getElem?_take] at older ⊢
      rw [if_pos (by omega), List.getElem?_cons_succ, older] }

theorem foldl_chainSymbol_discarded {cx : Ctx} {d : Dsp} (hffe : clamp24 d.ffe = d.ffe) (hdfe : clampDfe d.dfe = d.dfe)
    (hne : clamp24 d.ne = d.ne) (l : List (Nat × BitVec 8 × Option Int)) {n : Nat} (hl : n + l.length ≤ 720) {t : Dsp}
    (h : Discarded d n t) : Discarded d (n + l.length) (l.foldl (chainSymbol cx) t) := by
  induction l generalizing n t with
  | nil => exact h
  | cons u l ih =>
    rw [List.length_cons] at hl ⊢
    have rest := ih (n := n + 1) (by omega) (chainSymbol_discarded (cx := cx) (by omega) hffe hdfe hne h u)
    rwa [Nat.add_assoc, Nat.add_comm 1] at rest

/-! ## What adapts -/

theorem worksOf_paused {q : Port} (h : adaptPaused q = true) : worksOf q = {} := by simp [worksOf, h]

/-- R67: HOLD on a port that is up keeps the equaliser, its feedback taps and the level spacing. -/
theorem worksOf_held {q : Port} (h : holdInEffect q = true) (up : q.link.phase = .up) :
    (worksOf q).ffe = false ∧ (worksOf q).dfe = false ∧ (worksOf q).lev = false := by
  simp only [worksOf, h, up]
  split
  · exact ⟨rfl, rfl, rfl⟩
  · split <;> exact ⟨rfl, rfl, rfl⟩

/-- R66, R104: while the partner is quiet, a refresh adapts neither feedback taps, trims nor the level spacing. -/
theorem worksOf_refresh {q : Port} (h : refreshOnly q = true) (up : q.link.phase = .up) :
    (worksOf q).dfe = false ∧ (worksOf q).trims = false ∧ (worksOf q).lev = false := by
  simp only [worksOf, h, up]
  split <;> exact ⟨rfl, rfl, rfl⟩

/-! ## The shingle -/

/-- Port p's receive chain after the samples of a shingle (R40, R65). -/
def afterSamples (s : State) (p : PortId) (m : EMode) (u : AdaptIn) : Dsp :=
  ((List.range u.samples.length).zip (u.samples.zip (knownLevels s.ports[p] u))).foldl (chainSymbol (chainCtx s p m u))
    (if s.ports[p].dsp.lastBad || adaptPaused s.ports[p] then dropPending s.ports[p].dsp else s.ports[p].dsp)

/-- Port p's receive chain after the samples, with the estimates and the marks that the shingle leaves (R43, R65). -/
def adaptedDsp (q : Port) (u : AdaptIn) (d : Dsp) : Dsp :=
  let d := reportDsp q.link.leader u d
  { d with
    locked := acquiresLock q d, lastBad := false
    freezeCount := if q.dsp.lastBad then sat32 (d.freezeCount + 1) else d.freezeCount
    tapAtLimit := dfeAtLimit d.dfe
    adapting := !q.dsp.lastBad && !adaptPaused q }

theorem adapt_receiving {s : State} {p : PortId} {m : EMode} (h : rxMode s.ports[p] = some m) (u : AdaptIn) :
    adapt p u s = modDsp p (fun _ => adaptedDsp s.ports[p] u (afterSamples s p m u)) s := by
  simp only [adapt, h]
  rfl

theorem afterSamples_keepsIdle (s : State) (p : PortId) (m : EMode) (u : AdaptIn) :
    KeepsIdle (worksOf s.ports[p]) s.ports[p].dsp (afterSamples s p m u) := by
  have start : KeepsIdle (worksOf s.ports[p]) s.ports[p].dsp
      (if s.ports[p].dsp.lastBad || adaptPaused s.ports[p] then dropPending s.ports[p].dsp else s.ports[p].dsp) := by
    split
    · constructor <;> intros <;> rfl
    · exact .refl _ _
  exact start.trans (foldl_chainSymbol_keepsIdle (chainCtx s p m u) _ _)

/-- R65: after a bad decode, the updates of a shingle's 720 symbols are all discarded. -/
theorem afterSamples_discarded {s : State} {p : PortId} {m : EMode} {u : AdaptIn} (bad : s.ports[p].dsp.lastBad = true)
    (hl : u.samples.length ≤ 720) (hffe : clamp24 s.ports[p].dsp.ffe = s.ports[p].dsp.ffe)
    (hdfe : clampDfe s.ports[p].dsp.dfe = s.ports[p].dsp.dfe) (hne : clamp24 s.ports[p].dsp.ne = s.ports[p].dsp.ne) :
    ∃ n, Discarded s.ports[p].dsp n (afterSamples s p m u) := by
  simp only [afterSamples, bad, Bool.true_or, if_true]
  refine ⟨_, foldl_chainSymbol_discarded hffe hdfe hne _ ?_ (dropPending_discarded _)⟩
  simp only [List.length_zip, List.length_range]
  omega

theorem acquiresLock_of_locked {q : Port} {d : Dsp} (h : d.locked = true) : acquiresLock q d = true := by simp [acquiresLock, h]

/-- R43: LOCKED keeps its value while the partner is silent by plan. -/
theorem acquiresLock_silent {q : Port} (h : silentByPlan q = true) (d : Dsp) : acquiresLock q d = d.locked := by simp [acquiresLock, h]

/-- Settles O15: over the symbols of a shingle, what does not adapt stays (`KeepsIdle`), and so does what was discarded (`Discarded`). -/
theorem adaptationByShingle : Obligations.AdaptationByShingle := by
  unfold Obligations.AdaptationByShingle
  intro s p u m
  refine ⟨fun off => ?_, fun on => ?_⟩
  · change Host.Outcome.next (adapt p u s) = _
    simp only [adapt, off]
  have idle := afterSamples_keepsIdle s p m u
  have self : (adapt p u s).ports[p] = { s.ports[p] with dsp := adaptedDsp s.ports[p] u (afterSamples s p m u) } := by
    rw [adapt_receiving on]
    exact modDsp_self s p _
  refine ⟨_, rfl, ?frame, by rw [self], by rw [self]; rfl, by rw [self]; rfl, by rw [self]; rfl, by rw [self]; rfl, by rw [self]; rfl,
    by rw [self]; rfl, fun l => ?locked, fun quiet => ?silent, fun bad => ?discarded, fun good => ?applied, fun paused => ?paused,
    fun held up => ?held, fun refresh up => ?refresh⟩
  case frame =>
    rw [adapt_receiving on]
    exact ⟨rfl, fun q hq => modDsp_other s p _ q hq⟩
  case locked =>
    rw [self]
    exact acquiresLock_of_locked (idle.locked.trans l)
  case silent =>
    rw [self]
    exact (acquiresLock_silent quiet _).trans idle.locked
  case discarded =>
    rw [self]
    refine ⟨?_, ?_, fun hl hffe hdfe hne => ?_⟩
    · exact (if_pos bad).trans (congrArg (fun n => sat32 (n + 1)) idle.freezeCount)
    · exact (congrArg (fun b => !b && !adaptPaused s.ports[p]) bad).trans (Bool.false_and _)
    · obtain ⟨n, kept⟩ := afterSamples_discarded (m := m) bad hl hffe hdfe hne
      exact ⟨kept.ffe, kept.dfe, kept.ne, kept.lev, kept.trims⟩
  case applied =>
    rw [self]
    refine ⟨(if_neg (by rw [good]; exact Bool.false_ne_true)).trans idle.freezeCount, ?_⟩
    exact (congrArg (fun b => !b && !adaptPaused s.ports[p]) good).trans (Bool.true_and _)
  case paused =>
    rw [worksOf_paused paused] at idle
    rw [self]
    exact ⟨idle.ffe rfl, idle.dfe rfl, idle.lev rfl, idle.ne rfl, idle.farEcho rfl, idle.xtalks rfl, idle.trims rfl, idle.loopInteg rfl⟩
  case held =>
    obtain ⟨ffe, dfe, lev⟩ := worksOf_held held up
    rw [self]
    exact ⟨idle.ffe ffe, idle.dfe dfe, idle.lev lev⟩
  case refresh =>
    obtain ⟨dfe, trims, lev⟩ := worksOf_refresh refresh up
    rw [self]
    exact ⟨idle.dfe dfe, idle.trims trims, idle.lev lev⟩

end Sys2Proof.Machine
end

section
/-! PROOF. What stays of a port while other things happen to it. `bare` is all of the port but what a shingle boundary's disarms and sieve
choices change; `lineRecord` is what a link-down leaves, with its own marks; `slotNotes` is what a received slot has counted, whatever
follows the slot. Each view is read off the one before, and each operation of the model is shown once to keep it, in the order of the
model's files. -/

namespace Sys2Proof.Machine

variable (p : PortId) (s : State)

/-! ## The bare port -/

/-- A launched shingle without the marks of a swap that was given up (R224). -/
def unswapped (e : LaunchedSh) : LaunchedSh := { e with due := false, parted := false }

/-- A class's transmit side, its shingles without those marks. -/
def bareTx (t : TxCls) : TxCls := { t with launched := t.launched.map unswapped }

/-- A port without its sieve, without the marks of a swap, and of its receive chain only LOCKED and the marks of bad decodes. -/
def bareOf (q : Port) : Port :=
  { q with
    sieve := {}, tx := q.tx.map bareTx
    dsp := { locked := q.dsp.locked, lastBad := q.dsp.lastBad, winClean := q.dsp.winClean } }

/-- Port p, bare, and the roll call in progress. -/
def bare (s : State) : Port × Roll := (bareOf s.ports[p], s.roll)

theorem bare_modPort {f : Port → Port} (h : ∀ q, bareOf (f q) = bareOf q) : bare p (modPort p f s) = bare p s :=
  Prod.ext ((congrArg bareOf (modPort_self s p f)).trans (h _)) rfl

theorem bare_ite (b : Prop) [Decidable b] (t u : State) : bare p (if b then t else u) = if b then bare p t else bare p u :=
  apply_ite (bare p) b t u

@[simp] theorem bare_modSieve (f : SievePort → SievePort) : bare p (modSieve p f s) = bare p s := bare_modPort p s fun _ => rfl

theorem bare_modDsp {f : Dsp → Dsp} (h : ∀ q : Port, bareOf { q with dsp := f q.dsp } = bareOf q) :
    bare p (modDsp p f s) = bare p s := bare_modPort p s h

theorem bare_modTx {c : Cls} {f : TxCls → TxCls} (h : ∀ t, bareTx (f t) = bareTx t) : bare p (modTx p c f s) = bare p s := by
  refine bare_modPort p s fun q => ?_
  have same : (q.tx.set c (f q.tx[c])).map bareTx = q.tx.map bareTx := by
    refine Vector.ext fun i hi => ?_
    by_cases hc : (c : Nat) = i
    · subst hc
      simp [h]
    · simp [hc]
  exact congrArg (fun tx => { bareOf q with tx := tx }) same

theorem bare_foldl {α : Type} (f : State → α → State) (h : ∀ t a, bare p (f t a) = bare p t) (l : List α) :
    bare p (l.foldl f s) = bare p s := by
  induction l generalizing s with
  | nil => rfl
  | cons a l ih => exact (ih (f s a)).trans (h s a)

@[simp] theorem bare_raise (e : Ev) : bare p (raise e s) = bare p s := by
  simp only [bare, raise_ports, raise_roll]

@[simp] theorem bare_releaseHolder : bare p (releaseHolder s) = bare p s := by
  unfold releaseHolder
  split <;> rfl

@[simp] theorem bare_provoke : bare p (provoke p s) = bare p s := bare_modSieve p s _

/-- R224: giving a swap up marks launched shingles only. -/
@[simp] theorem bare_skipSwap (down : Bool) : bare p (skipSwap p down s) = bare p s := by
  unfold skipSwap
  split
  · rfl
  · refine (bare_modTx p _ fun t => ?_).trans (bare_modSieve p s _)
    simp only [bareTx, List.map_map]
    congr 1
    refine List.map_congr_left fun e _ => ?_
    simp only [Function.comp, unswapped]
    split <;> rfl

@[simp] theorem bare_disarmNow (kinds keep cause : BitVec 8) : bare p (disarmNow p kinds keep cause s) = bare p s := by
  simp only [disarmNow, bare_ite, bare_releaseHolder, bare_raise, bare_modSieve, bare_skipSwap, ite_self]

@[simp] theorem bare_disarmDue : bare p (disarmDue p s) = bare p s :=
  (bare_foldl p _ _ (fun t _ => bare_disarmNow p t _ _ _) _).trans (bare_modSieve p s _)

@[simp] theorem bare_dropDone : bare p (dropDone p s) = bare p s := by
  simp only [dropDone, bare_disarmNow, bare_ite, ite_self]

@[simp] theorem bare_sieveDrop (ctl : Bool) (c : Cls) : bare p (sieveDrop p ctl c s).2 = bare p s := by
  unfold sieveDrop
  split
  · dsimp only
    split
    · simp only [bare_dropDone, bare_provoke, bare_modSieve]
    · exact bare_modSieve p s _
  · rfl

@[simp] theorem bare_sieveCorrupt (ctl : Bool) (c : Cls) : bare p (sieveCorrupt p ctl c s).2 = bare p s := by
  unfold sieveCorrupt
  split
  · exact bare_modSieve p s _
  · rfl

@[simp] theorem bare_noteCorrupt (corrupt : Bool) : bare p (noteCorrupt p corrupt s) = bare p s := by
  simp only [noteCorrupt, bare_provoke, bare_modSieve, bare_ite, ite_self]

@[simp] theorem bare_slotChoices (ctl : Bool) (c : Cls) : bare p (slotChoices p ctl c s).2.2 = bare p s := by
  simp only [slotChoices, bare_sieveDrop, bare_sieveCorrupt, bare_noteCorrupt]

@[simp] theorem bare_dspBoundary : bare p (dspBoundary p s) = bare p s :=
  (bare_modDsp p _ fun _ => rfl).trans (bare_modDsp p s fun _ => rfl)

@[simp] theorem bare_swapCheck : bare p (swapCheck p s) = bare p s := by
  unfold swapCheck
  split
  · simp only [bare_skipSwap, bare_ite, ite_self]
  · rfl

/-- No interruption waits for the next boundary of port p. -/
def NoneWaits (s : State) : Prop := s.ports[(p : Nat)].sieve.intWaiting = false

theorem noneWaits_skipSwap {down : Bool} (h : NoneWaits p s) : NoneWaits p (skipSwap p down s) := by
  unfold skipSwap
  split
  · exact h
  · simpa [NoneWaits] using h

theorem noneWaits_disarmNow {kinds keep cause : BitVec 8} (h : NoneWaits p s) : NoneWaits p (disarmNow p kinds keep cause s) := by
  have ports (t : State) : (releaseHolder t).ports = t.ports := by unfold releaseHolder; split <;> rfl
  have swapped : NoneWaits p (if kinds.getLsbD kindSwap then skipSwap p false s else s) := by
    split
    · exact noneWaits_skipSwap p s h
    · exact h
  unfold disarmNow
  split
  · exact h
  · simp only [NoneWaits, ports, raise_ports, modSieve_self, Bool.and_eq_false_imp]
    intro waits
    exact absurd (swapped.symm.trans waits) Bool.false_ne_true

theorem noneWaits_disarmDue (h : NoneWaits p s) : NoneWaits p (disarmDue p s) := by
  have start : NoneWaits p (modSieve p (fun v => { v with disarms := [], rearmed := 0 }) s) := by simpa [NoneWaits] using h
  exact List.foldlRecOn _ _ start fun t ht _ _ => noneWaits_disarmNow p t ht

theorem noneWaits_dspBoundary (h : NoneWaits p s) : NoneWaits p (dspBoundary p s) := by
  simpa [NoneWaits, dspBoundary, xtalkBoundary] using h

/-- A boundary at which no interruption starts and no transmit epoch passes keeps the port bare. -/
theorem bare_boundary (hi : s.ports[p].sieve.intWaiting = false) (hm : s.ports[p].mc.marks = none) :
    bare p (boundary p s) = bare p s := by
  have first : bare p (dspBoundary p (disarmDue p s)) = bare p s := by simp only [bare_dspBoundary, bare_disarmDue]
  have waits : NoneWaits p (dspBoundary p (disarmDue p s)) := noneWaits_dspBoundary p _ (noneWaits_disarmDue p s hi)
  have marks : (dspBoundary p (disarmDue p s)).ports[p].mc.marks = none :=
    (congrArg (fun b : Port × Roll => b.1.mc.marks) first).trans hm
  have still : ¬ (dspBoundary p (disarmDue p s)).ports[p].sieve.intWaiting = true := Bool.eq_false_iff.mp waits
  unfold boundary
  dsimp only
  rw [if_neg still, if_neg (by rw [marks]; nofun)]
  simp only [bare_modSieve, bare_swapCheck, first]

/-! ## What a link-down leaves -/

/-- Counters, training, LOCKED, the marks of bad decodes, the slots received and launched, and the marks of the last link-down. -/
structure LineRecord where
  cnt       : Counters
  train     : Train
  locked    : Bool
  lastBad   : Bool
  winClean  : Bool
  rxSlot    : Nat
  launches  : Nat
  up        : Bool
  choosing  : Bool
  downCause : DownCause
  lastDown  : Nat

def lineRecordOf (q : Port) : LineRecord :=
  { cnt := q.cnt, train := q.train, locked := q.dsp.locked, lastBad := q.dsp.lastBad, winClean := q.dsp.winClean
    rxSlot := q.line.rxSlot, launches := q.line.launches
    up := q.link.up, choosing := q.link.choosing, downCause := q.link.downCause, lastDown := q.link.lastDown }

def lineRecord (s : State) : LineRecord := lineRecordOf s.ports[p]

theorem lineRecord_eq_of_bare {t : State} (h : bare p t = bare p s) : lineRecord p t = lineRecord p s :=
  congrArg (fun b : Port × Roll => lineRecordOf b.1) h

theorem lineRecord_eq_of_ports {t : State} (h : t.ports = s.ports) : lineRecord p t = lineRecord p s :=
  congrArg (fun v : Vector Port 8 => lineRecordOf v[p]) h

theorem lineRecord_modPort {f : Port → Port} (h : ∀ q, lineRecordOf (f q) = lineRecordOf q) :
    lineRecord p (modPort p f s) = lineRecord p s :=
  (congrArg lineRecordOf (modPort_self s p f)).trans (h _)

theorem lineRecord_ite (b : Prop) [Decidable b] (t u : State) :
    lineRecord p (if b then t else u) = if b then lineRecord p t else lineRecord p u := apply_ite (lineRecord p) b t u

@[simp] theorem lineRecord_modSieve (f : SievePort → SievePort) : lineRecord p (modSieve p f s) = lineRecord p s :=
  lineRecord_modPort p s fun _ => rfl

@[simp] theorem lineRecord_modMc (f : ModeChange → ModeChange) : lineRecord p (modMc p f s) = lineRecord p s :=
  lineRecord_modPort p s fun _ => rfl

@[simp] theorem lineRecord_modSig (f : Sig → Sig) : lineRecord p (modSig p f s) = lineRecord p s :=
  lineRecord_modPort p s fun _ => rfl

@[simp] theorem lineRecord_skipSwap (down : Bool) : lineRecord p (skipSwap p down s) = lineRecord p s :=
  lineRecord_eq_of_bare p s (bare_skipSwap p s down)

@[simp] theorem lineRecord_disarmDue : lineRecord p (disarmDue p s) = lineRecord p s :=
  lineRecord_eq_of_bare p s (bare_disarmDue p s)

@[simp] theorem lineRecord_slotChoices (ctl : Bool) (c : Cls) : lineRecord p (slotChoices p ctl c s).2.2 = lineRecord p s :=
  lineRecord_eq_of_bare p s (bare_slotChoices p s ctl c)

@[simp] theorem lineRecord_dspBoundary : lineRecord p (dspBoundary p s) = lineRecord p s :=
  lineRecord_eq_of_bare p s (bare_dspBoundary p s)

@[simp] theorem lineRecord_swapCheck : lineRecord p (swapCheck p s) = lineRecord p s :=
  lineRecord_eq_of_bare p s (bare_swapCheck p s)

@[simp] theorem lineRecord_modNewest (f : Seg → Seg) : lineRecord p (modNewest p f s) = lineRecord p s :=
  lineRecord_modPort p s fun _ => rfl

@[simp] theorem lineRecord_startInterruption : lineRecord p (startInterruption p s) = lineRecord p s := by
  have started (f : Port → SievePort) (g : Port → Sig) :
      lineRecord p (modPort p (fun q => { q with sieve := f q, sig := g q }) s) = lineRecord p s := lineRecord_modPort p s fun _ => rfl
  simp only [startInterruption, provoke, lineRecord_modSieve, lineRecord_ite, lineRecord_modNewest, started, ite_self]

@[simp] theorem lineRecord_startIfNoSlot : lineRecord p (startIfNoSlot p s) = lineRecord p s := by
  simp only [startIfNoSlot, lineRecord_startInterruption, lineRecord_ite, ite_self]

theorem lineRecordOf_pfcCheckOne (c : Cls) (i : Nat) (q : Port) : lineRecordOf (pfcCheckOne c i q) = lineRecordOf q := by
  unfold pfcCheckOne
  dsimp only
  split
  · split <;> rfl
  · split <;> rfl

@[simp] theorem lineRecord_pfcCheck : lineRecord p (pfcCheck p s) = lineRecord p s :=
  lineRecord_modPort p s fun _ => (lineRecordOf_pfcCheckOne _ _ _).trans (lineRecordOf_pfcCheckOne _ _ _)

@[simp] theorem lineRecord_mcClear (st : McStatus) : lineRecord p (mcClear p st s) = lineRecord p s :=
  lineRecord_modPort p s fun _ => rfl

@[simp] theorem lineRecord_mcAbandon : lineRecord p (mcAbandon p s) = lineRecord p s := by
  have owed (f : Link → Option ModeChange) : lineRecord p (modLink p (fun l => { l with mcOwed := f l }) s) = lineRecord p s :=
    lineRecord_modPort p s fun _ => rfl
  simp only [mcAbandon, lineRecord_mcClear, owed, lineRecord_ite, ite_self]

/-! ## Reports of a mode change (R144, R211) -/

theorem issueThermal_ports : (issueThermal s).ports = s.ports := by
  unfold issueThermal
  split
  · rfl
  · split
    · rfl
    · exact raise_ports _ _

theorem rollComplete_ports : (rollComplete s).ports = s.ports := by
  unfold rollComplete
  dsimp only
  simp only [apply_ite State.ports, issueThermal_ports, raise_ports, ite_self]

@[simp] theorem mcTell_ports (mc : ModeChange) (st : McStatus) : (mcTell p mc st s).ports = s.ports := by
  have report (result reason : Nat) (t : State) : (rollReport p result reason t).ports = t.ports := rollComplete_ports _
  unfold mcTell
  dsimp only
  split
  · simp only [apply_ite State.ports, report, raise_ports, ite_self]
  · exact raise_ports _ _

@[simp] theorem gapAbandoned_ports (t : State) : (gapAbandoned s t).ports = t.ports := by
  unfold gapAbandoned
  split
  · rfl
  · split <;> rfl

@[simp] theorem lineRecord_mcEnd (st : McStatus) : lineRecord p (mcEnd p st s) = lineRecord p s :=
  (lineRecord_eq_of_ports p _ (mcTell_ports p _ _ st)).trans (lineRecord_mcClear p s st)

@[simp] theorem lineRecord_gapAbandoned (t : State) : lineRecord p (gapAbandoned s t) = lineRecord p t :=
  lineRecord_eq_of_ports p t (gapAbandoned_ports s t)

@[simp] theorem lineRecord_mcApply : lineRecord p (mcApply p s) = lineRecord p s := by
  have mode (m : Option LineMode) : lineRecord p (modLink p (fun l => { l with mode := m, lastMode := m }) s) = lineRecord p s :=
    lineRecord_modPort p s fun _ => rfl
  simp only [mcApply, lineRecord_pfcCheck, lineRecord_mcEnd, lineRecord_gapAbandoned, mode, lineRecord_ite, ite_self]

@[simp] theorem lineRecord_boundary : lineRecord p (boundary p s) = lineRecord p s := by
  simp only [boundary, mcTransmitEpoch, lineRecord_modSieve, lineRecord_swapCheck, lineRecord_mcApply, lineRecord_modMc,
    lineRecord_skipSwap, lineRecord_startInterruption, lineRecord_dspBoundary, lineRecord_disarmDue, lineRecord_ite, ite_self]

/-! ## A link-down (R127) -/

theorem skipSwap_aon (down : Bool) : (skipSwap p down s).aon = s.aon :=
  (congrArg State.aon (elsewhere_skipSwap p s down) :)

theorem declareDown_of_down {c : DownCause} (h : s.ports[p].link.up = false) : declareDown p c s = s := by
  unfold declareDown
  rw [if_pos (by rw [h]; rfl)]

/-- R127: a link that is up goes down with its cause, at this moment, and the relink has still to be chosen. -/
theorem lineRecord_declareDown {c : DownCause} (h : s.ports[p].link.up = true) : lineRecord p (declareDown p c s) =
    { lineRecord p s with up := false, choosing := true, downCause := c, lastDown := s.aon.tally } := by
  have swap := lineRecord_skipSwap p s true
  unfold declareDown
  rw [if_neg (by rw [h]; nofun)]
  simp only [lineRecord_startIfNoSlot, lineRecord_pfcCheck, lineRecord_mcAbandon, lineRecord_disarmDue, skipSwap_aon, ← swap]
  exact congrArg lineRecordOf (modPort_self _ p _)

/-! ## What a received slot has counted -/

/-- The counts of a good slot, the slots received and the mark of a bad decode (R65, R87, R96). -/
structure SlotNotes where
  received  : Nat
  corrected : Nat
  histogram : List Nat
  rxSlot    : Nat
  lastBad   : Bool

def slotNotesOf (q : Port) : SlotNotes :=
  { received := q.cnt.received, corrected := q.cnt.corrected, histogram := q.cnt.histogram
    rxSlot := q.line.rxSlot, lastBad := q.dsp.lastBad }

def slotNotes (s : State) : SlotNotes := slotNotesOf s.ports[p]

theorem slotNotes_eq_of_lineRecord {t : State} (h : lineRecord p t = lineRecord p s) : slotNotes p t = slotNotes p s :=
  congrArg (fun r : LineRecord =>
    { received := r.cnt.received, corrected := r.cnt.corrected, histogram := r.cnt.histogram
      rxSlot := r.rxSlot, lastBad := r.lastBad : SlotNotes }) h

theorem slotNotes_eq_of_ports {t : State} (h : t.ports = s.ports) : slotNotes p t = slotNotes p s :=
  slotNotes_eq_of_lineRecord p s (lineRecord_eq_of_ports p s h)

theorem slotNotes_ite (b : Prop) [Decidable b] (t u : State) :
    slotNotes p (if b then t else u) = if b then slotNotes p t else slotNotes p u := apply_ite (slotNotes p) b t u

theorem slotNotes_modPort {f : Port → Port} (h : ∀ q, slotNotesOf (f q) = slotNotesOf q) :
    slotNotes p (modPort p f s) = slotNotes p s :=
  (congrArg slotNotesOf (modPort_self s p f)).trans (h _)

theorem slotNotes_modLine {f : Line → Line} (h : ∀ l, (f l).rxSlot = l.rxSlot) : slotNotes p (modLine p f s) = slotNotes p s :=
  slotNotes_modPort p s fun q => congrArg (fun n => { slotNotesOf q with rxSlot := n }) (h q.line)

theorem slotNotes_modCnt {f : Counters → Counters}
    (h : ∀ n, (f n).received = n.received ∧ (f n).corrected = n.corrected ∧ (f n).histogram = n.histogram) :
    slotNotes p (modCnt p f s) = slotNotes p s := by
  refine slotNotes_modPort p s fun q => ?_
  obtain ⟨received, corrected, histogram⟩ := h q.cnt
  simp only [slotNotesOf, received, corrected, histogram]

@[simp] theorem slotNotes_modLink (f : Link → Link) : slotNotes p (modLink p f s) = slotNotes p s :=
  slotNotes_modPort p s fun _ => rfl

@[simp] theorem slotNotes_modTrain (f : Train → Train) : slotNotes p (modTrain p f s) = slotNotes p s :=
  slotNotes_modPort p s fun _ => rfl

@[simp] theorem slotNotes_modMc (f : ModeChange → ModeChange) : slotNotes p (modMc p f s) = slotNotes p s :=
  slotNotes_modPort p s fun _ => rfl

@[simp] theorem slotNotes_modTx (c : Cls) (f : TxCls → TxCls) : slotNotes p (modTx p c f s) = slotNotes p s :=
  slotNotes_modPort p s fun _ => rfl

@[simp] theorem slotNotes_modRx (c : Cls) (f : RxCls → RxCls) : slotNotes p (modRx p c f s) = slotNotes p s :=
  slotNotes_modPort p s fun _ => rfl

@[simp] theorem slotNotes_raise (e : Ev) : slotNotes p (raise e s) = slotNotes p s := slotNotes_eq_of_ports p s (raise_ports s e)

@[simp] theorem slotNotes_pfcCheck : slotNotes p (pfcCheck p s) = slotNotes p s :=
  slotNotes_eq_of_lineRecord p s (lineRecord_pfcCheck p s)

@[simp] theorem slotNotes_gapAbandoned (t : State) : slotNotes p (gapAbandoned s t) = slotNotes p t :=
  slotNotes_eq_of_ports p t (gapAbandoned_ports s t)

@[simp] theorem slotNotes_mcEnd (st : McStatus) : slotNotes p (mcEnd p st s) = slotNotes p s :=
  slotNotes_eq_of_lineRecord p s (lineRecord_mcEnd p s st)

@[simp] theorem slotNotes_disarmDue : slotNotes p (disarmDue p s) = slotNotes p s :=
  slotNotes_eq_of_lineRecord p s (lineRecord_disarmDue p s)

@[simp] theorem slotNotes_dspBoundary : slotNotes p (dspBoundary p s) = slotNotes p s :=
  slotNotes_eq_of_lineRecord p s (lineRecord_dspBoundary p s)

@[simp] theorem slotNotes_startIfNoSlot : slotNotes p (startIfNoSlot p s) = slotNotes p s :=
  slotNotes_eq_of_lineRecord p s (lineRecord_startIfNoSlot p s)

/-- R127: a link-down keeps the counts of slots. -/
@[simp] theorem slotNotes_declareDown (c : DownCause) : slotNotes p (declareDown p c s) = slotNotes p s := by
  cases h : s.ports[p].link.up with
  | false => rw [declareDown_of_down p s h]
  | true =>
    exact congrArg (fun r : LineRecord =>
      { received := r.cnt.received, corrected := r.cnt.corrected, histogram := r.cnt.histogram
        rxSlot := r.rxSlot, lastBad := r.lastBad : SlotNotes }) (lineRecord_declareDown p s (c := c) h)

@[simp] theorem slotNotes_release (g : Seg) : slotNotes p (release p g s) = slotNotes p s := slotNotes_modPort p s fun _ => rfl

/-! ### Acknowledgement and sequence (R161 to R179) -/

@[simp] theorem slotNotes_grantOwed (c : Cls) : slotNotes p (grantOwed p c s) = slotNotes p s := by
  have grant : slotNotes p (grantOpen p c s) = slotNotes p s := slotNotes_modPort p s fun _ => rfl
  simp only [grantOwed, grant, slotNotes_ite, ite_self]

@[simp] theorem slotNotes_acceptAck (c : Cls) (a : Seq) : slotNotes p (acceptAck p c a s) = slotNotes p s := by
  have invalid : slotNotes p (modCnt p (fun n => { n with ackInvalid := sat32 (n.ackInvalid + 1) }) s) = slotNotes p s :=
    slotNotes_modCnt p s fun _ => ⟨rfl, rfl, rfl⟩
  simp only [acceptAck, invalid, slotNotes_grantOwed, slotNotes_modTx, slotNotes_ite, ite_self]

theorem slotNotes_foldl {α : Type} (f : State → α → State) (h : ∀ t a, slotNotes p (f t a) = slotNotes p t) (l : List α) :
    slotNotes p (l.foldl f s) = slotNotes p s := by
  induction l generalizing s with
  | nil => rfl
  | cons a l ih => exact (ih (f s a)).trans (h s a)

@[simp] theorem slotNotes_acceptBlock (a : AckBlock) : slotNotes p (acceptBlock p a s) = slotNotes p s :=
  (slotNotes_pfcCheck p _).trans (slotNotes_foldl p s _ (fun t c => slotNotes_acceptAck p t c _) _)

@[simp] theorem slotNotes_partnerAwake : slotNotes p (partnerAwake p s) = slotNotes p s := slotNotes_modLine p s fun _ => rfl

@[simp] theorem slotNotes_wakeRequest : slotNotes p (wakeRequest p s) = slotNotes p s :=
  slotNotes_modLine p s fun _ => by split <;> rfl

@[simp] theorem slotNotes_wakeIfOwed : slotNotes p (wakeIfOwed p s) = slotNotes p s := by
  simp only [wakeIfOwed, slotNotes_wakeRequest, slotNotes_ite, ite_self]

@[simp] theorem slotNotes_freshSlot : slotNotes p (freshSlot p s).2 = slotNotes p s := slotNotes_modPort p s fun _ => rfl

@[simp] theorem slotNotes_takePayload (c : Cls) (h : HeldSh) (slots : List Nat) (own : Bool) :
    slotNotes p (takePayload p c h slots own s) = slotNotes p s := by
  have more (number n : Nat) : slotNotes p (ledgerMore p c number n s) = slotNotes p s := slotNotes_modPort p s fun _ => rfl
  have counted (f g : Counters → _) (t : State) :
      slotNotes p (modCnt p (fun n => { n with framesOut := f n, tagErrors := g n }) t) = slotNotes p t :=
    slotNotes_modCnt p t fun _ => ⟨rfl, rfl, rfl⟩
  simp only [takePayload, counted, slotNotes_modRx, more, slotNotes_ite, ite_self]

@[simp] theorem slotNotes_takeHeld (c : Cls) (fuel : Nat) : slotNotes p (takeHeld p c fuel s) = slotNotes p s := by
  induction fuel generalizing s with
  | zero => rfl
  | succ fuel ih =>
    unfold takeHeld
    dsimp only
    split
    · rfl
    · simp only [ih, slotNotes_takePayload, slotNotes_modRx, slotNotes_freshSlot]

@[simp] theorem slotNotes_takeInOrder (c : Cls) (h : HeldSh) (slots : List Nat) (own : Bool) :
    slotNotes p (takeInOrder p c h slots own s) = slotNotes p s := by
  simp only [takeInOrder, slotNotes_modRx, slotNotes_takeHeld, slotNotes_takePayload]

@[simp] theorem slotNotes_sequence (c : Cls) (h : HeldSh) : slotNotes p (sequence p c h s) = slotNotes p s := by
  have discard : slotNotes p (modCnt p (fun n => { n with reorderDiscards := sat32 (n.reorderDiscards + 1) }) s) = slotNotes p s :=
    slotNotes_modCnt p s fun _ => ⟨rfl, rfl, rfl⟩
  have duplicate : slotNotes p (modCnt p (fun n => { n with duplicates := bump c.val 1 n.duplicates }) s) = slotNotes p s :=
    slotNotes_modCnt p s fun _ => ⟨rfl, rfl, rfl⟩
  have outside : slotNotes p (modCnt p (fun n => { n with outOfWindow := sat32 (n.outOfWindow + 1) }) s) = slotNotes p s :=
    slotNotes_modCnt p s fun _ => ⟨rfl, rfl, rfl⟩
  simp only [sequence, discard, duplicate, outside, slotNotes_takeInOrder, slotNotes_freshSlot, slotNotes_modRx, slotNotes_ite, ite_self]

@[simp] theorem slotNotes_applyNak (n : Cls × Seq × Nat) : slotNotes p (applyNak p s n) = slotNotes p s := slotNotes_modTx p s _ _

/-! ### Quiet, sleep and mode changes (R100, R140 to R149) -/

@[simp] theorem slotNotes_partnerQuiets : slotNotes p (partnerQuiets p s) = slotNotes p s := slotNotes_modPort p s fun _ => rfl

@[simp] theorem slotNotes_fallAsleep : slotNotes p (fallAsleep p s) = slotNotes p s := by
  have off (t : State) : slotNotes p (modLine p (fun l => { l with driver := .off }) t) = slotNotes p t :=
    slotNotes_modLine p t fun _ => rfl
  have zero (t : State) : slotNotes p (modLine p (fun l => { l with driver := .zero, last := none }) t) = slotNotes p t :=
    slotNotes_modLine p t fun _ => rfl
  simp only [fallAsleep, off, zero, slotNotes_release, slotNotes_modLink, slotNotes_declareDown, slotNotes_ite, ite_self]

@[simp] theorem slotNotes_oweCtl (c : Ctl) : slotNotes p (oweCtl p c s) = slotNotes p s := slotNotes_modLine p s fun _ => rfl

@[simp] theorem slotNotes_mcRefuse (r : RefuseReason) (ep : BitVec 8) : slotNotes p (mcRefuse p r ep s) = slotNotes p s := by
  simp only [mcRefuse, slotNotes_oweCtl, slotNotes_modLink]

@[simp] theorem slotNotes_mcRespond (cur target : EMode) (ep : BitVec 8) : slotNotes p (mcRespond p cur target ep s) = slotNotes p s := by
  unfold mcRespond
  split
  · exact slotNotes_mcRefuse p s _ _
  · exact slotNotes_modPort p s fun _ => rfl

@[simp] theorem slotNotes_mcCount : slotNotes p (mcCount p s) = slotNotes p s := slotNotes_modPort p s fun _ => rfl

@[simp] theorem slotNotes_mcRequested (m : EMode) (ep : BitVec 8) : slotNotes p (mcRequested p m ep s) = slotNotes p s := by
  unfold mcRequested
  dsimp only
  split
  · rfl
  · split
    · rfl
    · split
      · exact slotNotes_mcRespond p s _ _ _
      · simp only [slotNotes_ite, slotNotes_mcRefuse, slotNotes_oweCtl, ite_self]
      · simp only [slotNotes_ite, slotNotes_mcRefuse, slotNotes_mcCount, slotNotes_modLink, slotNotes_modMc, slotNotes_mcRespond,
          ite_self]

@[simp] theorem slotNotes_mcAccepted (m : EMode) (ep : BitVec 8) : slotNotes p (mcAccepted p m ep s) = slotNotes p s := by
  have taken (f : Port → ModeChange) (g : Port → List Ctl) :
      slotNotes p (modPort p (fun q => { q with mc := f q, line := { q.line with owed := g q } }) s) = slotNotes p s :=
    slotNotes_modPort p s fun _ => rfl
  simp only [mcAccepted, taken, slotNotes_mcCount, slotNotes_modLink, slotNotes_ite, ite_self]

@[simp] theorem slotNotes_mcRefused (ep : BitVec 8) : slotNotes p (mcRefused p ep s) = slotNotes p s := by
  simp only [mcRefused, slotNotes_mcEnd, slotNotes_ite, ite_self]

@[simp] theorem slotNotes_mcMark (k : Nat) (ep : BitVec 8) : slotNotes p (mcMark p k ep s) = slotNotes p s := by
  unfold mcMark
  dsimp only
  split
  · exact slotNotes_modPort p s fun _ => rfl
  · rfl

/-! ### Link startup (R120 to R134) -/

@[simp] theorem slotNotes_checkLinkUp : slotNotes p (checkLinkUp p s) = slotNotes p s := by
  have up (ph : Phase) (how : HowUp) : slotNotes p (linkUp p ph how s) = slotNotes p s :=
    (slotNotes_raise p _ _).trans (slotNotes_modPort p s fun _ => rfl)
  simp only [checkLinkUp, up, slotNotes_ite, ite_self]

@[simp] theorem slotNotes_sendPeriod : slotNotes p (sendPeriod p s) = slotNotes p s := by
  simp only [sendPeriod, slotNotes_release, slotNotes_ite, ite_self]

@[simp] theorem slotNotes_enterPhase (ph : Phase) : slotNotes p (enterPhase p ph s) = slotNotes p s := by
  have entered (f : Port → Link) (g : Port → Train) (t : State) :
      slotNotes p (modPort p (fun q => { q with link := f q, train := g q }) t) = slotNotes p t := slotNotes_modPort p t fun _ => rfl
  simp only [enterPhase, entered, slotNotes_startIfNoSlot, slotNotes_sendPeriod, slotNotes_dspBoundary, slotNotes_disarmDue,
    slotNotes_ite, ite_self]

@[simp] theorem slotNotes_beginFull : slotNotes p (beginFull p s) = slotNotes p s :=
  (slotNotes_enterPhase p _ _).trans (slotNotes_modPort p s fun _ => rfl)

@[simp] theorem slotNotes_beginFast : slotNotes p (beginFast p s) = slotNotes p s :=
  (slotNotes_enterPhase p _ _).trans (slotNotes_modPort p s fun _ => rfl)

@[simp] theorem slotNotes_restartFull (beacons : Bool) : slotNotes p (restartFull p beacons s) = slotNotes p s := by
  have owe (m : EMode) (t : State) : slotNotes p (oweBeacons p true m t) = slotNotes p t := slotNotes_modLine p t fun _ => rfl
  unfold restartFull
  split
  · rfl
  · simp only [slotNotes_beginFull, owe, slotNotes_pfcCheck, slotNotes_gapAbandoned, slotNotes_modLink, slotNotes_ite, ite_self]

@[simp] theorem slotNotes_fastGivesWay (beacons : Bool) : slotNotes p (fastGivesWay p beacons s) = slotNotes p s := by
  simp only [fastGivesWay, slotNotes_restartFull, slotNotes_modLink]

@[simp] theorem slotNotes_beaconInS (full : Bool) (m : EMode) : slotNotes p (beaconInS p full m s) = slotNotes p s := by
  simp only [beaconInS, slotNotes_restartFull, slotNotes_beginFast, slotNotes_ite, ite_self]

@[simp] theorem slotNotes_beaconLate (full : Bool) (m : EMode) : slotNotes p (beaconLate p full m s) = slotNotes p s := by
  unfold beaconLate
  dsimp only
  split
  · rfl
  · simp only [slotNotes_ite, slotNotes_fastGivesWay, slotNotes_beginFast, slotNotes_restartFull, slotNotes_beaconInS,
      slotNotes_pfcCheck, slotNotes_gapAbandoned, slotNotes_modLink, ite_self]

@[simp] theorem slotNotes_beaconIn (full : Bool) (m : EMode) : slotNotes p (beaconIn p full m s) = slotNotes p s := by
  simp only [beaconIn, slotNotes_modLink, slotNotes_declareDown, slotNotes_beaconLate, slotNotes_ite, ite_self]

end Sys2Proof.Machine
end

section
/-! PROOF. Received slots (R65, R87, R96 to R98, R225): what a good slot counts, what a failed one counts, and the 8th failed one in a
row. -/

namespace Sys2Proof.Machine

/-! ## Slots that pass their tests -/

section
variable {p : PortId} {s : State} {corr : Fin 9}

/-- R65, R87, R96: what a good slot counts. -/
theorem slotNotes_slotGood (s : State) : slotNotes p (slotGood p corr s) =
    { received := sat64 (s.ports[p].cnt.received + 1), corrected := sat64 (s.ports[p].cnt.corrected + corr.val)
      histogram := bump corr.val 1 s.ports[p].cnt.histogram, rxSlot := nextRxSlot s.ports[p]
      lastBad := s.ports[p].dsp.lastBad || decide (6 < corr.val) } := by
  simp only [slotNotes, slotNotesOf, slotGood, noteDecode, Fin.getElem_fin, modDsp_self, modPort_self]
  rfl

/-- The instruction is a slot of port p, received where slots are collected, and what follows a good one keeps its counts. -/
structure ReceivesSlot (p : PortId) (corr : Fin 9) (c : Instr) (s : State) : Prop where
  line    : lineCommand c = some p
  effect  : ∃ g : State → State, exec c s = .next (onSlot p (fun t => g (slotGood p corr t)) s)
    ∧ ∀ t, slotNotes p (g t) = slotNotes p t

theorem receivesSlot_of_onControl {c : Instr} {a : AckBlock} (line : lineCommand c = some p) (f : State → State)
    (effect : exec c s = .next (onControl p a corr f s)) (kept : ∀ t, slotNotes p (f t) = slotNotes p t) : ReceivesSlot p corr c s :=
  ⟨line, fun t => f (acceptBlock p a t), effect, fun t => (kept _).trans (slotNotes_acceptBlock p t a)⟩

theorem ReceivesSlot.others {c : Instr} (h : ReceivesSlot p corr c s) {t : State} (ht : exec c s = .next t) (q : PortId) (hq : q ≠ p) :
    t.ports[q] = s.ports[q] :=
  (lineCommandsStayInTheirPort c p s t h.line ht).2 q hq

/-- A slot that is collected and not cut by the sieve counts as a good one. -/
theorem ReceivesSlot.counts {c : Instr} (h : ReceivesSlot p corr c s) (hc : collects s.ports[p] = true)
    (open_ : inputCut s.ports[p] = false) : ∃ t, exec c s = .next t
      ∧ t.ports[p].cnt.received = sat64 (s.ports[p].cnt.received + 1)
      ∧ t.ports[p].cnt.corrected = sat64 (s.ports[p].cnt.corrected + corr.val)
      ∧ t.ports[p].cnt.histogram = bump corr.val 1 s.ports[p].cnt.histogram
      ∧ t.ports[p].line.rxSlot = nextRxSlot s.ports[p]
      ∧ t.ports[p].dsp.lastBad = (s.ports[p].dsp.lastBad || decide (6 < corr.val))
      ∧ ∀ q : PortId, q ≠ p → t.ports[q] = s.ports[q] := by
  obtain ⟨g, effect, kept⟩ := h.effect
  have notes : slotNotes p (onSlot p (fun t => g (slotGood p corr t)) s) = slotNotes p (slotGood p corr s) := by
    unfold onSlot
    rw [if_neg (by rw [hc]; nofun), if_neg (by rw [open_]; nofun), slotNotes_checkLinkUp, kept]
  rw [slotNotes_slotGood] at notes
  exact ⟨_, effect, congrArg SlotNotes.received notes, congrArg SlotNotes.corrected notes, congrArg SlotNotes.histogram notes,
    congrArg SlotNotes.rxSlot notes, congrArg SlotNotes.lastBad notes, h.others effect⟩

/-- R225: with the receiver's input cut, the slot cannot decode. -/
theorem ReceivesSlot.cut {c : Instr} (h : ReceivesSlot p corr c s) (hc : collects s.ports[p] = true)
    (hs : partnerSilent s.ports[p] = false) (cut : inputCut s.ports[p] = true) :
    exec c s = exec (.uncorrectableSlot p .rsFail) s := by
  obtain ⟨g, effect, -⟩ := h.effect
  have bad : exec (.uncorrectableSlot p .rsFail) s = .next (slotBad p .rsFail s) := congrArg Host.Outcome.next (if_pos ⟨hc, hs⟩)
  rw [effect, bad]
  unfold onSlot
  rw [if_neg (by rw [hc]; nofun), if_pos cut]

/-- R149: a port that collects Etoon slots is not in the 1000BASE-T1 mode, whose sleep signals are its own. -/
theorem tc10Std_of_collects {q : Port} (h : collects q = true) : tc10Std q = false := by
  unfold tc10Std
  cases hm : q.link.mode with
  | none => simp
  | some m =>
    cases m with
    | etoon m => simp
    | std m => simp [collects, slotsRun, etoonMode, hm] at h

/-- Every slot but a beacon. -/
def slotInstrs (p : PortId) (a : AckBlock) (corr : Fin 9) (h : ShHdr) (payload body : List Byte) (at_ : Nat) (b : Bool) (m : EMode)
    (ep : Byte) (r : RefuseReason) (k : Fin 8) : List Instr :=
  [.dataShingle p h payload corr at_, .idle p b a corr, .nak p a body corr, .lpiEntry p a corr, .lpiExit p a corr,
    .sleepRequest p a corr, .sleepAck p a corr, .sleepReject p a corr, .request p m ep a corr, .accept p m ep a corr,
    .refuse p r ep a corr, .mark p k ep a corr]

/-- R161 to R179: what a good data shingle brings: an ack, and a numbered payload. -/
def afterData (p : PortId) (h : ShHdr) (payload : List Byte) (at_ : Nat) (t : State) : State :=
  wakeIfOwed p (sequence p h.cls { seq := h.seq, hdr := h, payload := (payload ++ List.replicate 256 0).take 256, at_ := at_ }
    (pfcCheck p (acceptAck p h.ackClass h.ackNext (partnerAwake p t))))

theorem receivesSlot_dataShingle (h : ShHdr) (payload : List Byte) (at_ : Nat) :
    ReceivesSlot p corr (.dataShingle p h payload corr at_) s := by
  have effect : exec (.dataShingle p h payload corr at_) s = .next (onSlot p (fun t => afterData p h payload at_ (slotGood p corr t)) s) :=
    rfl
  refine ⟨rfl, _, effect, fun t => ?_⟩
  simp only [afterData, slotNotes_wakeIfOwed, slotNotes_sequence, slotNotes_pfcCheck, slotNotes_acceptAck, slotNotes_partnerAwake]

theorem slotNotes_nak (l : List (Cls × Seq × Nat)) (t : State) :
    slotNotes p (wakeIfOwed p (l.foldl (applyNak p) (partnerAwake p t))) = slotNotes p t := by
  rw [slotNotes_wakeIfOwed, slotNotes_foldl p _ _ fun t n => slotNotes_applyNak p t n, slotNotes_partnerAwake]

/-- R147: a sleep request is answered, where the link is up. -/
def answerSleep (p : PortId) (t : State) : State :=
  let t := partnerQuiets p t
  if !t.ports[p].link.up then t
  else oweCtl p (if sleepOk t p then .sleepAck else .sleepReject) (wakeRequest p t)

theorem slotNotes_answerSleep (t : State) : slotNotes p (answerSleep p t) = slotNotes p t := by
  simp only [answerSleep, slotNotes_ite, slotNotes_oweCtl, slotNotes_wakeRequest, slotNotes_partnerQuiets, ite_self]

theorem exec_sleepRequest_etoon {a : AckBlock} (h : tc10Std s.ports[p] = false) :
    exec (.sleepRequest p a corr) s = .next (onControl p a corr (answerSleep p) s) :=
  congrArg Host.Outcome.next (if_neg (by rw [h]; nofun))

/-- R147: SLEEP_ACK takes the end that asked to sleep. -/
def sleepIfAsked (p : PortId) (t : State) : State := if t.ports[p].link.sleepSent then fallAsleep p t else t

theorem slotNotes_sleepIfAsked (t : State) : slotNotes p (sleepIfAsked p t) = slotNotes p t := by
  simp only [sleepIfAsked, slotNotes_ite, slotNotes_fallAsleep, ite_self]

theorem exec_sleepAck_etoon {a : AckBlock} (h : tc10Std s.ports[p] = false) :
    exec (.sleepAck p a corr) s = .next (onControl p a corr (sleepIfAsked p) s) :=
  congrArg Host.Outcome.next (if_neg (by rw [h]; nofun))

theorem exec_sleepReject_etoon {a : AckBlock} (h : tc10Std s.ports[p] = false) : exec (.sleepReject p a corr) s =
    .next (onControl p a corr (modLink p (fun l => { l with sleepSent := false, sleepWait := none })) s) :=
  congrArg Host.Outcome.next (if_neg (by rw [h]; nofun))

theorem receivesSlot_slotInstrs {a : AckBlock} {h : ShHdr} {payload body : List Byte} {at_ : Nat} {b : Bool} {m : EMode} {ep : Byte}
    {r : RefuseReason} {k : Fin 8} (hc : collects s.ports[p] = true) :
    ∀ c ∈ slotInstrs p a corr h payload body at_ b m ep r k, ReceivesSlot p corr c s := by
  have etoon := tc10Std_of_collects hc
  simp only [slotInstrs, List.forall_mem_cons, List.not_mem_nil, false_imp_iff, implies_true, and_true]
  refine ⟨receivesSlot_dataShingle h payload at_, ?idle, ?nak, ?entry, ?exit, ?asks, ?acks, ?rejects, ?request, ?accept, ?refuse, ?mark⟩
  case idle => exact receivesSlot_of_onControl rfl _ rfl fun t => slotNotes_modTrain p t _
  case nak => exact receivesSlot_of_onControl rfl _ rfl (slotNotes_nak _)
  case entry => exact receivesSlot_of_onControl rfl _ rfl (slotNotes_partnerQuiets p)
  case exit =>
    exact receivesSlot_of_onControl rfl _ rfl fun t => (slotNotes_wakeIfOwed p _).trans (slotNotes_partnerAwake p t)
  case asks => exact receivesSlot_of_onControl rfl _ (exec_sleepRequest_etoon etoon) slotNotes_answerSleep
  case acks => exact receivesSlot_of_onControl rfl _ (exec_sleepAck_etoon etoon) slotNotes_sleepIfAsked
  case rejects => exact receivesSlot_of_onControl rfl _ (exec_sleepReject_etoon etoon) fun t => slotNotes_modLink p t _
  case request =>
    exact receivesSlot_of_onControl rfl _ rfl fun t => (slotNotes_mcRequested p _ m ep).trans (slotNotes_partnerAwake p t)
  case accept =>
    exact receivesSlot_of_onControl rfl _ rfl fun t => (slotNotes_mcAccepted p _ m ep).trans (slotNotes_partnerAwake p t)
  case refuse =>
    exact receivesSlot_of_onControl rfl _ rfl fun t => (slotNotes_mcRefused p _ ep).trans (slotNotes_partnerAwake p t)
  case mark =>
    exact receivesSlot_of_onControl rfl _ rfl fun t => (slotNotes_mcMark p _ _ ep).trans (slotNotes_partnerAwake p t)

/-- R128: a beacon where slots run. -/
theorem receivesSlot_beacon {c : Instr} {full : Bool} {m : EMode} {a : AckBlock} (line : lineCommand c = some p)
    (effect : exec c s = .next (onBeacon p full m a corr s)) (hr : slotsRun s.ports[p] = true) : ReceivesSlot p corr c s :=
  receivesSlot_of_onControl line (beaconIn p full m) (effect.trans (congrArg Host.Outcome.next (if_pos hr)))
    fun t => slotNotes_beaconIn p t full m

theorem collects_of_slotsRun {q : Port} (h : slotsRun q = true) : collects q = true := by rw [collects, h, Bool.true_or]

end

/-! ## Slots that fail -/

section
variable (p : PortId) (r : UncReason) (s : State)

/-- R96, R97: port p after an uncorrectable slot, the end of its link not yet judged. -/
def failedSlot : State :=
  let exempt := slotExempt s.ports[p].line
  noteDecode p (rsBad r) (modPort p (fun q => { q with
    cnt := let n := countBad r q.cnt; if exempt then { n with exempt := sat32 (n.exempt + 1) } else n
    line := { q.line with
      rxSlot := nextRxSlot q, badRun := if exempt then q.line.badRun else q.line.badRun + 1
      bad100 := q.line.bad100 + 1, epochExempt := q.line.epochExempt - 1
      wakeWindow := wakeStep q.line.partnerQuiet q.line.wakeWindow }
    train := { q.train with rxStarted := true, goodRun := 0 }
    dsp := { q.dsp with winClean := false }
    sig := { q.sig with skip := true } }) s)

theorem slotBad_eq : slotBad p r s =
    if 8 ≤ (failedSlot p r s).ports[p].line.badRun ∧ (failedSlot p r s).ports[p].link.up
      then declareDown p .uncorrectableRun (failedSlot p r s) else failedSlot p r s := rfl

/-- What an uncorrectable slot adds to the counters (R96, R98). -/
def failedCnt (exempt : Bool) (n : Counters) : Counters :=
  if exempt then { countBad r n with exempt := sat32 ((countBad r n).exempt + 1) } else countBad r n

/-- R96, R97, R65: what is recorded of a failed slot. -/
theorem lineRecord_failedSlot : lineRecord p (failedSlot p r s) = { lineRecord p s with
    cnt := failedCnt r (slotExempt s.ports[p].line) s.ports[p].cnt, rxSlot := nextRxSlot s.ports[p]
    train := { s.ports[p].train with rxStarted := true, goodRun := 0 }
    lastBad := s.ports[p].dsp.lastBad || rsBad r, winClean := false } := by
  simp only [lineRecord, lineRecordOf, failedSlot, noteDecode, failedCnt, Fin.getElem_fin, modDsp_self, modPort_self]

theorem failedCnt_received (exempt : Bool) (n : Counters) : (failedCnt r exempt n).received = n.received := by
  cases r <;> cases exempt <;> rfl

theorem failedCnt_exempt (n : Counters) : (failedCnt r true n).exempt = sat32 (n.exempt + 1) := by
  cases r <;> rfl

/-- An uncorrectable slot counts by its reason (R87, R96, Table 4-9). -/
def CountsReason (n m : Counters) : Prop :=
  match r with
  | .rsFail => m.rsFailures = sat32 (n.rsFailures + 1)
  | .lockLost => m.rsFailures = sat32 (n.rsFailures + 1)
  | .escape k => m.escapes = sat32 (n.escapes + 1) ∧ m.histogram = bump k.val 1 n.histogram
  | .unassigned k => m.escapes = sat32 (n.escapes + 1) ∧ m.histogram = bump k.val 1 n.histogram
  | .crc k => m.crcFailures = sat32 (n.crcFailures + 1) ∧ m.histogram = bump k.val 1 n.histogram

theorem failedCnt_countsReason (exempt : Bool) (n : Counters) : CountsReason r n (failedCnt r exempt n) := by
  cases r <;> cases exempt <;> simp [CountsReason, failedCnt, countBad]

/-- R127: of what a link-down changes, the record shows its own marks only. -/
theorem lineRecord_declareDown_marks (c : DownCause) (s : State) : ∃ up choosing cause last, lineRecord p (declareDown p c s) =
    { lineRecord p s with up := up, choosing := choosing, downCause := cause, lastDown := last } := by
  cases h : s.ports[p].link.up with
  | false => exact ⟨_, _, _, _, congrArg (lineRecord p) (declareDown_of_down p s h)⟩
  | true => exact ⟨_, _, _, _, lineRecord_declareDown p s h⟩

/-- R96, R97: a link-down in the end leaves what the failed slot has recorded. -/
theorem lineRecord_slotBad : ∃ up choosing cause last, lineRecord p (slotBad p r s) =
    { lineRecord p (failedSlot p r s) with up := up, choosing := choosing, downCause := cause, lastDown := last } := by
  rw [slotBad_eq]
  split
  · exact lineRecord_declareDown_marks p _ _
  · exact ⟨_, _, _, _, rfl⟩

theorem badRun_failedSlot : (failedSlot p r s).ports[p].line.badRun =
    if slotExempt s.ports[p].line then s.ports[p].line.badRun else s.ports[p].line.badRun + 1 := by
  simp only [failedSlot, noteDecode, Fin.getElem_fin, modDsp_self, modPort_self]

theorem link_failedSlot : (failedSlot p r s).ports[p].link = s.ports[p].link := by
  simp only [failedSlot, noteDecode, Fin.getElem_fin, modDsp_self, modPort_self]

theorem onlyPort_failedSlot : OnlyPort p s (failedSlot p r s) :=
  ⟨rfl, fun q hq => (modDsp_other _ p _ q hq).trans (modPort_other s p q _ hq)⟩

variable {p r s}

/-- R97: short of the 8th failed slot in a row, the link is not touched. -/
theorem slotBad_short (hr : (failedSlot p r s).ports[p].line.badRun < 8) : slotBad p r s = failedSlot p r s := by
  rw [slotBad_eq, if_neg fun h => absurd h.1 (Nat.not_le.mpr hr)]

/-- R97, R127: the 8th failed slot in a row takes a link that is up down. -/
theorem slotBad_eighth (hr : (failedSlot p r s).ports[p].line.badRun = 8) (hu : s.ports[p].link.up = true) :
    lineRecord p (slotBad p r s) = { lineRecord p (failedSlot p r s) with
      up := false, choosing := true, downCause := .uncorrectableRun, lastDown := s.aon.tally } := by
  have up : (failedSlot p r s).ports[p].link.up = true := by rw [link_failedSlot, hu]
  rw [slotBad_eq, if_pos ⟨hr.ge, up⟩, lineRecord_declareDown p _ up]
  rfl

theorem exec_uncorrectableSlot (hc : collects s.ports[p] = true) (hs : partnerSilent s.ports[p] = false) :
    exec (.uncorrectableSlot p r) s = .next (slotBad p r s) := congrArg Host.Outcome.next (if_pos ⟨hc, hs⟩)

end

/-- Settles O6: a good slot's counts outlive whatever follows the slot (`slotNotes`), and a failed slot's the link-down that it may bring
(`lineRecord`). -/
theorem receivedSlots : Obligations.ReceivedSlots := by
  unfold Obligations.ReceivedSlots
  refine ⟨fun s p a corr h payload body at_ b m ep r k => ⟨fun hc hi c hmem => ?slots, fun hr hi c hmem => ?beacons,
    fun hc hs hi c hmem => ?cut⟩, fun s p r hc hs => ?_⟩
  case slots => exact (receivesSlot_slotInstrs hc c hmem).counts hc hi
  case beacons =>
    have hc := collects_of_slotsRun hr
    simp only [List.mem_cons, List.not_mem_nil, or_false] at hmem
    rcases hmem with rfl | rfl
    · exact (receivesSlot_beacon rfl rfl hr).counts hc hi
    · exact (receivesSlot_beacon rfl rfl hr).counts hc hi
  case cut => exact (receivesSlot_slotInstrs hc c hmem).cut hc hs hi
  rw [exec_uncorrectableSlot hc hs]
  obtain ⟨up, choosing, cause, last, record⟩ := lineRecord_slotBad p r s
  rw [lineRecord_failedSlot] at record
  have cnt : (slotBad p r s).ports[p].cnt = failedCnt r (slotExempt s.ports[p].line) s.ports[p].cnt := congrArg LineRecord.cnt record
  refine ⟨⟨_, rfl, congrArg LineRecord.rxSlot record, congrArg (fun l => l.train.goodRun) record, congrArg LineRecord.lastBad record,
    congrArg LineRecord.winClean record, ?reason, by rw [cnt, failedCnt_received], fun he => by rw [cnt, he, failedCnt_exempt], ?others⟩,
    fun hx hrun => ?short, fun hx hrun hu => ?eighth⟩
  case reason =>
    rw [cnt]
    exact failedCnt_countsReason r _ _
  case others => exact (lineCommandsStayInTheirPort _ p s _ rfl (exec_uncorrectableSlot hc hs)).2
  case short =>
    have run : (failedSlot p r s).ports[p].line.badRun = s.ports[p].line.badRun + 1 := by rw [badRun_failedSlot, if_neg (by rw [hx]; nofun)]
    rw [slotBad_short (by omega)]
    exact ⟨_, rfl, onlyPort_failedSlot p r s, run, link_failedSlot p r s⟩
  case eighth =>
    have run : (failedSlot p r s).ports[p].line.badRun = 8 := by rw [badRun_failedSlot, if_neg (by rw [hx]; nofun), hrun]
    have down := slotBad_eighth run hu
    exact ⟨_, rfl, congrArg LineRecord.up down, congrArg LineRecord.downCause down, congrArg LineRecord.choosing down,
      congrArg LineRecord.lastDown down⟩

end Sys2Proof.Machine
end

section
/-! PROOF. Quiet periods of a port's transmitter and receiver, and the loss of lock (R43, R96, R98 to R104, R127). -/

namespace Sys2Proof.Machine

section
variable {p : PortId} {s : State}

/-! ## Reading the views -/

theorem up_eq_of_lineRecord {t : State} (h : lineRecord p t = lineRecord p s) : t.ports[p].link.up = s.ports[p].link.up :=
  congrArg LineRecord.up h

theorem launches_eq_of_lineRecord {t : State} (h : lineRecord p t = lineRecord p s) :
    t.ports[p].line.launches = s.ports[p].line.launches := congrArg LineRecord.launches h

theorem cnt_eq_of_lineRecord {t : State} (h : lineRecord p t = lineRecord p s) : t.ports[p].cnt = s.ports[p].cnt :=
  congrArg LineRecord.cnt h

theorem line_eq_of_bare {t : State} (h : bare p t = bare p s) : t.ports[p].line = s.ports[p].line :=
  congrArg (fun b : Port × Roll => b.1.line) h

theorem link_eq_of_bare {t : State} (h : bare p t = bare p s) : t.ports[p].link = s.ports[p].link :=
  congrArg (fun b : Port × Roll => b.1.link) h

/-! ## R99 at a boundary -/

theorem clsIdle_bareTx (t : TxCls) : clsIdle (bareTx t) = clsIdle t := by
  simp only [clsIdle, bareTx, List.isEmpty_map]

/-- R99: the conditions of quiet do not depend on the sieve, nor on a swap that was given up. -/
theorem quietReady_bareOf (q : Port) : quietReady (bareOf q) = quietReady q := by
  have idle : (q.tx.map bareTx).toList.all clsIdle = q.tx.toList.all clsIdle := by
    rw [Vector.toList_map, List.all_map]
    exact congrArg (q.tx.toList.all ·) (funext clsIdle_bareTx)
  unfold quietReady
  rw [← idle]
  rfl

theorem lpiOk_eq_of_bare {t : State} (h : bare p t = bare p s) : lpiOk t p = lpiOk s p := by
  have read (u : State) : lpiOk u p = (maskBit (bare p u).2.lpiMask p && (bare p u).1.link.partnerAbil.getLsbD 0
      && quietReady (bare p u).1) := by
    rw [bare, quietReady_bareOf]
    rfl
  rw [read, read, h]

theorem up_of_lpiOk (h : lpiOk s p = true) : s.ports[p].link.up = true := by
  simp only [lpiOk, quietReady, Bool.and_eq_true, and_assoc] at h
  exact h.2.2.1

/-! ## A control shingle on the line (R161) -/

section
variable (beacon : Bool) (x : SlotContent) (drop corrupt : Bool) (s)

theorem putSlot_launches : (putSlot p beacon x drop corrupt s).ports[p].line.launches =
    s.ports[p].line.launches + (if s.ports[p].link.up then 1 else 0) := by
  simp only [putSlot, release, Fin.getElem_fin, modPort_self]

theorem putSlot_control : (putSlot p beacon x drop corrupt s).ports[p].line.last.bind Launched.control = x.control := by
  simp only [putSlot, Fin.getElem_fin, modPort_self, Option.bind_some]

theorem putSlot_quietEntries : (putSlot p beacon x drop corrupt s).ports[p].cnt.quietEntries = s.ports[p].cnt.quietEntries := by
  simp only [putSlot, release, Fin.getElem_fin, modPort_self]

end

/-- R161: a control shingle is put on the line as the sieve's choices leave the port, and its ack block reports every class. -/
theorem putControl_eq (k : Ctl) (s : State) : ∃ beacon x drop corrupt now,
    putControl p k s = modPort p (fun q => { q with rx := q.rx.map (reported now) })
      (putSlot p beacon x drop corrupt (slotChoices p true 0 s).2.2) ∧ x.control = some (ctlArg k) :=
  ⟨_, _, _, _, _, rfl, rfl⟩

theorem putControl_cases (k : Ctl) (s : State) : ∃ beacon x drop corrupt, x.control = some (ctlArg k)
    ∧ (putControl p k s).ports[p].line = (putSlot p beacon x drop corrupt (slotChoices p true 0 s).2.2).ports[p].line
    ∧ (putControl p k s).ports[p].cnt = (putSlot p beacon x drop corrupt (slotChoices p true 0 s).2.2).ports[p].cnt := by
  obtain ⟨beacon, x, drop, corrupt, now, shingle, control⟩ := putControl_eq (p := p) k s
  refine ⟨beacon, x, drop, corrupt, control, ?_, ?_⟩
  · simp only [shingle, Fin.getElem_fin, modPort_self]
  · simp only [shingle, Fin.getElem_fin, modPort_self]

theorem putControl_launches (k : Ctl) (s : State) : (putControl p k s).ports[p].line.launches =
    s.ports[p].line.launches + (if s.ports[p].link.up then 1 else 0) := by
  obtain ⟨beacon, x, drop, corrupt, -, line, -⟩ := putControl_cases (p := p) k s
  have record := lineRecord_slotChoices p s true 0
  rw [line, putSlot_launches, launches_eq_of_lineRecord record, up_eq_of_lineRecord record]

theorem putControl_control (k : Ctl) (s : State) :
    (putControl p k s).ports[p].line.last.bind Launched.control = some (ctlArg k) := by
  obtain ⟨beacon, x, drop, corrupt, control, line, -⟩ := putControl_cases (p := p) k s
  rw [line, putSlot_control, control]

theorem putControl_quietEntries (k : Ctl) (s : State) : (putControl p k s).ports[p].cnt.quietEntries = s.ports[p].cnt.quietEntries := by
  obtain ⟨beacon, x, drop, corrupt, -, -, cnt⟩ := putControl_cases (p := p) k s
  rw [cnt, putSlot_quietEntries, cnt_eq_of_lineRecord (lineRecord_slotChoices p s true 0)]

/-! ## The transmitter's quiet (R99 to R103) -/

/-- R99, R100: LPI_ENTRY goes out, and quiet begins at the next boundary. -/
theorem exec_lpiEnter (ha : s.ports[p].line.txLpi = .active) (hq : lpiOk s p = true) :
    exec (.lpiEnter p) s = .next (closeToQuiet p (putControl p .lpiEntry (boundary p s))) :=
  congrArg Host.Outcome.next (if_pos ⟨ha, hq⟩)

theorem closeToQuiet_self (s : State) : (closeToQuiet p s).ports[p] =
    { s.ports[p] with line := { s.ports[p].line with txLpi := .entering, wakeWanted := false } } := modLine_self s p _

theorem inStd_of_etoonMode {q : Port} (h : (etoonMode q).isSome = true) : inStd q = false := by
  unfold etoonMode at h
  unfold inStd
  cases hm : q.link.mode with
  | none => rfl
  | some m =>
    cases m with
    | etoon m => rfl
    | std m => simp [hm] at h

/-- R168, R170: the boundary of a port that is up in an Etoon mode, with no sleep request waiting and its transmitter not active. -/
theorem exec_launchSlot_quiet {at_ : Nat} (hu : s.ports[p].link.up = true) (he : (etoonMode s.ports[p]).isSome = true)
    (hsl : (boundary p s).ports[p].link.sleepWait = none) (ht : (boundary p s).ports[p].line.txLpi ≠ .active) :
    exec (.launchSlot p at_) s = .next (putQuiet p (boundary p s)) := by
  have etoon : ¬ inStd s.ports[p] = true := by rw [inStd_of_etoonMode he]; nofun
  have awake : sleepPoll p (boundary p s) = boundary p s := by
    unfold sleepPoll
    rw [if_neg (by rw [hsl]; simp)]
  change Host.Outcome.next (if inStd s.ports[p] then _ else launch p at_ s) = _
  rw [if_neg etoon]
  unfold launch
  rw [if_pos (by rw [hu, he]; rfl)]
  simp only [awake, if_neg ht]

/-- R100: where R99 holds and no wake was asked for, quiet begins. -/
theorem putQuiet_entering (ht : s.ports[p].line.txLpi = .entering) (hw : wakeAsked s.ports[p] = false) (hq : lpiOk s p = true) :
    putQuiet p s = quietSlot p (enterQuiet p s) := by
  unfold putQuiet
  simp only [ht, hw, hq]
  rfl

/-- R103: where a wake was asked for, or R99 does not hold any more, the wake's IDLE slots begin (log entry 72). -/
theorem putQuiet_wakes (ht : s.ports[p].line.txLpi = .entering) (hw : wakeAsked s.ports[p] = true ∨ lpiOk s p = false) :
    putQuiet p s = modLine p (fun l => { l with txLpi := .waking 3 }) (putIdle p s) := by
  have go : (wakeAsked s.ports[p] || !lpiOk s p) = true := by rcases hw with h | h <;> rw [h] <;> simp
  unfold putQuiet
  simp only [ht, go]
  rfl

/-- R98, R101: the first quiet slot. -/
theorem quietSlot_enterQuiet_self (s : State) : (quietSlot p (enterQuiet p s)).ports[p].line =
      { s.ports[p].line with txLpi := .quiet, last := none, releasedAt := s.aon.tally
                             released := (.quiet 720 :: s.ports[p].line.released).take 8 }
    ∧ (quietSlot p (enterQuiet p s)).ports[p].cnt =
      { s.ports[p].cnt with quietEntries := sat32 (s.ports[p].cnt.quietEntries + 1) } := by
  simp only [quietSlot, enterQuiet, release, Fin.getElem_fin, modLine_self, modPort_self, modPort_aon, and_self]

/-! ## The receiver's side, and the loss of lock (R43, R96, R104, R127) -/

theorem exec_lpiRefresh (ht : s.ports[p].line.txLpi = .quiet) (hw : s.ports[p].line.wakeWanted = false) :
    exec (.lpiRefresh p) s = .next (modLine p (fun l => { l with txLpi := .refresh 16 }) s) :=
  congrArg Host.Outcome.next (if_pos ⟨ht, hw⟩)

theorem exec_energyDetect (hq : s.ports[p].line.partnerQuiet = true) : exec (.energyDetect p) s =
    .next (modLine p (fun l => { l with wakeWindow := some 0, wakeDecoded := false, wakeSlot := l.rxSlot }) s) :=
  congrArg Host.Outcome.next (if_pos hq)

theorem exec_lpiFalseWake {n : Nat} (hq : s.ports[p].line.partnerQuiet = true) (hd : s.ports[p].line.wakeDecoded = false)
    (hw : s.ports[p].line.wakeWindow = some n) (hn : n ≤ 4) :
    exec (.lpiFalseWake p) s = .next (modPort p (fun q => { q with
      cnt := { q.cnt with falseWakes := sat32 (q.cnt.falseWakes + 1) }
      line := { q.line with wakeWindow := none, rxSlot := q.line.wakeSlot } }) s) :=
  congrArg Host.Outcome.next (if_pos ⟨hq, hd, by rw [hw]; rfl, by rw [hw]; exact hn⟩)

/-- R104: a refresh that does not come ends lock and takes the link down. -/
def refreshLost (p : PortId) (s : State) : State :=
  modPort p (fun q => { q with
    cnt := { q.cnt with refreshMissed := sat32 (q.cnt.refreshMissed + 1) }
    dsp := unlock q.dsp }) s

theorem exec_lpiRefreshMissed (hq : s.ports[p].line.partnerQuiet = true) (hw : s.ports[p].line.wakeWindow = none) :
    exec (.lpiRefreshMissed p) s = .next (declareDown p .refreshMissed (refreshLost p s)) :=
  congrArg Host.Outcome.next (if_pos ⟨hq, by rw [hw]; rfl⟩)

/-- R43, R127: a missed refresh on a link that is up. -/
theorem lineRecord_refreshMissed (hu : s.ports[p].link.up = true) : lineRecord p (declareDown p .refreshMissed (refreshLost p s)) =
    { lineRecord p s with
      cnt := { s.ports[p].cnt with refreshMissed := sat32 (s.ports[p].cnt.refreshMissed + 1) }, locked := false
      up := false, choosing := true, downCause := .refreshMissed, lastDown := s.aon.tally } := by
  have self : (refreshLost p s).ports[p] = _ := modPort_self s p _
  have up : (refreshLost p s).ports[p].link.up = true := by rw [self]; exact hu
  rw [lineRecord_declareDown p _ up]
  simp only [lineRecord, self]
  rfl

theorem exec_lockLoss {c : LockCriterion} (he : (etoonMode s.ports[p]).isSome = true) (hf : lockFails s.ports[p] c = true) :
    exec (.lockLoss p c) s = .next (loseLock p c s) := congrArg Host.Outcome.next (if_pos ⟨he, hf⟩)

/-- R43: a criterion that does not fail ends no lock. -/
theorem exec_lockLoss_holds {c : LockCriterion} (hf : lockFails s.ports[p] c = false) : exec (.lockLoss p c) s = .next s :=
  congrArg Host.Outcome.next (if_neg fun h => Bool.false_ne_true (hf.symm.trans h.2))

theorem codewordCut_link (s : State) : (codewordCut p s).ports[p].link = s.ports[p].link := by
  unfold codewordCut
  split
  · simp only [Fin.getElem_fin, modPort_self]
  · rfl

theorem collects_of_up {q : Port} (hu : q.link.up = true) (he : (etoonMode q).isSome = true) : collects q = true := by
  unfold etoonMode at he
  unfold collects slotsRun
  cases hm : q.link.mode with
  | none => simp [hm] at he
  | some m =>
    cases m with
    | etoon m => simp [hu]
    | std m => simp [hm] at he

/-- R96: the codeword that a loss of lock cuts counts as uncorrectable. -/
theorem codewordCut_counts (hu : s.ports[p].link.up = true) (he : (etoonMode s.ports[p]).isSome = true)
    (hs : partnerSilent s.ports[p] = false) :
    (codewordCut p s).ports[p].cnt.rsFailures = sat32 (s.ports[p].cnt.rsFailures + 1) := by
  unfold codewordCut
  rw [if_pos (by rw [hu, collects_of_up hu he, hs]; rfl)]
  simp only [Fin.getElem_fin, modPort_self]
  split <;> rfl

/-- R43, R127: the loss of lock takes a link that is up down. -/
theorem lineRecord_loseLock {c : LockCriterion} (hu : s.ports[p].link.up = true) : lineRecord p (loseLock p c s) =
    { lineRecord p (codewordCut p s) with
      locked := false, up := false, choosing := true
      downCause := match c with | .frequency => .lockFrequency | .snr => .lockSnr
      lastDown := (codewordCut p s).aon.tally } := by
  have unlocked : lineRecord p (modSig p (fun v => { v with skip := true }) (modDsp p unlock (codewordCut p s))) =
      { lineRecord p (codewordCut p s) with locked := false } := by
    rw [lineRecord_modSig]
    exact congrArg lineRecordOf (modDsp_self _ p unlock)
  have up : (modSig p (fun v => { v with skip := true }) (modDsp p unlock (codewordCut p s))).ports[p].link.up = true := by
    refine (congrArg LineRecord.up unlocked).trans ?_
    exact (congrArg Link.up (codewordCut_link s)).trans hu
  unfold loseLock
  rw [lineRecord_declareDown p _ up, unlocked]
  cases c <;> rfl

end

/-- Settles O13: a boundary that begins or refuses quiet is read off the bare port, a link-down off its record. -/
theorem quietPeriodsAndLockLoss : Obligations.QuietPeriodsAndLockLoss := by
  unfold Obligations.QuietPeriodsAndLockLoss
  refine ⟨fun s p => ⟨fun ha hq => ?enter, fun at_ hu he ht ho hsl hm hi => ?boundary, fun ht hw => exec_lpiRefresh ht hw,
    fun hq => exec_energyDetect hq, fun n hq hd hw hn => exec_lpiFalseWake hq hd hw hn, fun hq hw hu => ?missed⟩,
    fun s p he => ⟨fun hu => ⟨fun ho => ?frequency, fun hs hl hk => ?snr⟩,
      fun ho => exec_lockLoss_holds (decide_eq_false (Nat.not_le.mpr ho)), fun h => exec_lockLoss_holds ?holds⟩⟩
  case enter =>
    have record := lineRecord_boundary p s
    have up := (up_eq_of_lineRecord record).trans (up_of_lpiOk hq)
    refine ⟨_, exec_lpiEnter ha hq, ?_⟩
    rw [closeToQuiet_self]
    refine ⟨rfl, rfl, ?_, putControl_control _ _, ?_⟩
    · exact (putControl_launches _ _).trans (by rw [launches_eq_of_lineRecord record, if_pos up])
    · exact (putControl_quietEntries _ _).trans (by rw [cnt_eq_of_lineRecord record])
  case boundary =>
    have same := bare_boundary p s hi hm
    have line := line_eq_of_bare same
    have link := link_eq_of_bare same
    have cnt := cnt_eq_of_lineRecord (lineRecord_eq_of_bare p s same)
    have ok := lpiOk_eq_of_bare same
    have asked : wakeAsked (boundary p s).ports[p] = s.ports[p].line.wakeWanted := by rw [wakeAsked, line, ho]; exact Bool.or_false _
    have entering : (boundary p s).ports[p].line.txLpi = .entering := by rw [line, ht]
    rw [exec_launchSlot_quiet hu he (by rw [link, hsl]) (by rw [entering]; nofun)]
    refine ⟨fun hw hq => ?_, fun h => ?_⟩
    · rw [putQuiet_entering entering (asked.trans hw) (ok.trans hq)]
      obtain ⟨quietLine, quietCnt⟩ := quietSlot_enterQuiet_self (p := p) (boundary p s)
      refine ⟨_, rfl, ?_⟩
      rw [quietLine, quietCnt, line, cnt]
      exact ⟨rfl, rfl, rfl, rfl, rfl⟩
    · rw [putQuiet_wakes entering (by rwa [asked, ok])]
      have self := modLine_self (putIdle p (boundary p s)) p (fun l => { l with txLpi := .waking 3 })
      refine ⟨_, rfl, ?_⟩
      rw [Fin.getElem_fin, self]
      refine ⟨rfl, (putControl_quietEntries _ _).trans (by rw [cnt]), ?_⟩
      exact (putControl_control _ _).trans (by rw [link, hu]; rfl)
  case missed =>
    have record := lineRecord_refreshMissed hu
    exact ⟨_, exec_lpiRefreshMissed hq hw, congrArg (fun r => r.cnt.refreshMissed) record, congrArg LineRecord.locked record,
      congrArg LineRecord.up record, congrArg LineRecord.downCause record, congrArg LineRecord.choosing record,
      congrArg LineRecord.lastDown record⟩
  case frequency =>
    have record := lineRecord_loseLock (c := .frequency) hu
    refine ⟨_, exec_lockLoss he (decide_eq_true ho), congrArg LineRecord.locked record, congrArg LineRecord.up record,
      congrArg LineRecord.downCause record, fun hs => ?_⟩
    exact (congrArg (fun r => r.cnt.rsFailures) record).trans (codewordCut_counts hu he hs)
  case snr =>
    have record := lineRecord_loseLock (c := .snr) hu
    have fails : lockFails s.ports[p] .snr = true := by rw [lockFails, hs, hk, decide_eq_true hl]; rfl
    exact ⟨_, exec_lockLoss he fails, congrArg LineRecord.locked record, congrArg LineRecord.up record,
      congrArg LineRecord.downCause record⟩
  case holds =>
    rcases h with h | h | h
    · rw [lockFails, h]; rfl
    · rw [lockFails, decide_eq_false (Nat.not_le.mpr h), Bool.and_false]; rfl
    · rw [lockFails, h]; exact Bool.and_false _

end Sys2Proof.Machine
end

section
/-! PROOF. Standard modes (R105, R107, R146, R208): the link that comes up, the link that fails, and the frames received. -/

namespace Sys2Proof.Machine

section
variable {p : PortId} {s : State}

/-! ## What waits toward the host -/

theorem rx_eq_of_bare {t : State} (h : bare p t = bare p s) : t.ports[p].rx = s.ports[p].rx :=
  congrArg (fun b : Port × Roll => b.1.rx) h

theorem pfcCheckOne_eq (c : Cls) (i : Nat) (q : Port) : ∃ paused owed,
    pfcCheckOne c i q = { q with host := { q.host with paused := paused, pfcOwed := owed } } := by
  unfold pfcCheckOne
  dsimp only
  split
  · split <;> exact ⟨_, _, rfl⟩
  · split <;> exact ⟨_, _, rfl⟩

/-- R180: a pause that falls due, or its release, changes the host lane's pauses only. -/
theorem pfcCheck_self (s : State) : ∃ paused owed,
    (pfcCheck p s).ports[p] = { s.ports[p] with host := { s.ports[p].host with paused := paused, pfcOwed := owed } } := by
  obtain ⟨paused2, owed2, two⟩ := pfcCheckOne_eq 2 0 s.ports[p]
  obtain ⟨paused3, owed3, three⟩ := pfcCheckOne_eq 3 1 (pfcCheckOne 2 0 s.ports[p])
  exact ⟨paused3, owed3, (modPort_self s p _).trans (three.trans (by rw [two]))⟩

theorem pfcCheck_rx (s : State) : (pfcCheck p s).ports[p].rx = s.ports[p].rx := by
  obtain ⟨paused, owed, self⟩ := pfcCheck_self (p := p) s
  rw [self]

theorem mcAbandon_rx (s : State) : (mcAbandon p s).ports[p].rx = s.ports[p].rx := by
  unfold mcAbandon
  split
  · simp only [mcClear, Fin.getElem_fin, modPort_self, modLink_self]
  · rfl

theorem startInterruption_rx (s : State) : (startInterruption p s).ports[p].rx = s.ports[p].rx := by
  unfold startInterruption provoke
  dsimp only
  split
  · simp only [modNewest, Fin.getElem_fin, modSieve_self, modLine_self, modPort_self]
  · simp only [Fin.getElem_fin, modSieve_self, modPort_self]

theorem startIfNoSlot_rx (s : State) : (startIfNoSlot p s).ports[p].rx = s.ports[p].rx := by
  unfold startIfNoSlot
  split
  · exact startInterruption_rx s
  · rfl

/-- R127, R204: what waits toward the host stays over a link-down. -/
theorem declareDown_rx (c : DownCause) (s : State) : (declareDown p c s).ports[p].rx = s.ports[p].rx := by
  unfold declareDown
  split
  · rfl
  · dsimp only
    rw [startIfNoSlot_rx, pfcCheck_rx, mcAbandon_rx, rx_eq_of_bare (bare_disarmDue p _), Fin.getElem_fin, modPort_self]
    exact rx_eq_of_bare (bare_skipSwap p s true)

/-! ## The link in a standard mode -/

/-- R122: a port comes up in a phase, at this moment and in its mode. -/
theorem linkUp_link (ph : Phase) (how : HowUp) (s : State) :
    (linkUp p ph how s).ports[p].link.up = true ∧ (linkUp p ph how s).ports[p].link.phase = ph
    ∧ (linkUp p ph how s).ports[p].link.lastUp = s.aon.tally
    ∧ (linkUp p ph how s).ports[p].link.mode = s.ports[p].link.mode := by
  simp only [linkUp, raise_ports, Fin.getElem_fin, modPort_self, and_self]

theorem exec_standardUp (hs : inStd s.ports[p] = true) (hu : s.ports[p].link.up = false)
    (ha : s.ports[p].link.phase = .autoneg) (hc : inputCut s.ports[p] = false) (hf : Domain.fab ∈ s.clk.onInput1) :
    exec (.standardUp p) s = .next (linkUp p .standardUp .standard s) :=
  congrArg Host.Outcome.next (if_pos ⟨hs, hu, ha, hc, List.contains_iff_mem.mpr hf⟩)

/-- R208: the loss of a frame that a failing standard link cuts after `n` bytes. -/
def stdCutLoss (p : PortId) (s : State) (n : Nat) : RxLoss :=
  { cause := .standardLine, seqCount := 0, frames := 1, bytes := n, provoked := inEpisode s p }

/-- R208: that frame is lost in its place in delivery order. -/
def stdCut (p : PortId) (c : Cls) (n : Nat) (s : State) : State :=
  modRx p c (fun r => { r with ready := r.ready ++ [.loss (stdCutLoss p s n)] }) s

theorem stdCut_self (c : Cls) (n : Nat) (s : State) :
    (stdCut p c n s).ports[p].link = s.ports[p].link
    ∧ (stdCut p c n s).ports[p].rx[c].ready = s.ports[p].rx[c].ready ++ [.loss (stdCutLoss p s n)] := by
  simp only [stdCut, Fin.getElem_fin, modRx_self, Vector.getElem_set_self, and_self]

theorem exec_standardLinkFail (hs : inStd s.ports[p] = true) (hu : s.ports[p].link.up = true) :
    exec (.standardLinkFail p none) s = .next (declareDown p .standardLinkFail s) :=
  congrArg Host.Outcome.next (if_pos ⟨hs, hu⟩)

theorem exec_standardLinkFail_cut {c : Cls} {n : Nat} (hs : inStd s.ports[p] = true) (hu : s.ports[p].link.up = true) :
    exec (.standardLinkFail p (some (c, n))) s = .next (declareDown p .standardLinkFail (stdCut p c n s)) :=
  congrArg Host.Outcome.next (if_pos ⟨hs, hu⟩)

/-! ## Frames received whole -/

theorem exec_standardPcsFrame {c : Cls} {bytes : List Byte} {e : Bool} {at_ : Nat} (hs : inStd s.ports[p] = true)
    (hu : s.ports[p].link.up = true) (hc : inputCut s.ports[p] = false) :
    exec (.standardPcsFrame p c bytes e at_) s = .next (modCnt p (fun n => { n with framesOut := bump64 c.val 1 n.framesOut })
      (modRx p c (fun r => { r with ready := r.ready ++ [.frame { bytes := bytes, errored := e, std := true, arrived := at_ }] }) s)) :=
  congrArg Host.Outcome.next (if_pos ⟨hs, hu, hc⟩)

/-- R219, R225: nothing arrives while the sieve cuts the receiver's input. -/
theorem exec_standardPcsFrame_cut {c : Cls} {bytes : List Byte} {e : Bool} {at_ : Nat} (hc : inputCut s.ports[p] = true) :
    exec (.standardPcsFrame p c bytes e at_) s = .next s :=
  congrArg Host.Outcome.next (if_neg fun h => Bool.false_ne_true (h.2.2.symm.trans hc))

end

/-- Settles O24: a link-up shows in the link, a link-down in its record (`LineRecord`), and neither touches what waits toward the host. -/
theorem standardModes : Obligations.StandardModes := by
  unfold Obligations.StandardModes
  intro s p c n at_ bytes e hs
  refine ⟨fun hu ha hc hf => ⟨_, exec_standardUp hs hu ha hc hf, linkUp_link _ _ s⟩,
    fun hu => ⟨?fails, ?cuts, exec_standardPcsFrame_cut, fun hc => ?frame⟩⟩
  case fails =>
    have record := lineRecord_declareDown p s (c := .standardLinkFail) hu
    exact ⟨_, exec_standardLinkFail hs hu, congrArg LineRecord.up record, congrArg LineRecord.downCause record,
      declareDown_rx _ s, congrArg LineRecord.choosing record⟩
  case cuts =>
    obtain ⟨link, ready⟩ := stdCut_self (p := p) c n s
    have record := lineRecord_declareDown p (stdCut p c n s) (c := .standardLinkFail) (by rw [link, hu])
    exact ⟨_, _, exec_standardLinkFail_cut hs hu, congrArg LineRecord.up record,
      (congrArg (fun rx : Vector RxCls 4 => rx[c].ready) (declareDown_rx _ _)).trans ready, rfl, rfl, rfl, rfl⟩
  case frame =>
    rw [exec_standardPcsFrame hs hu hc]
    exact congrArg Host.Outcome.next (modPort_modPort p _ _ s)

end Sys2Proof.Machine
end

section
/-! PROOF. A slot that takes the link of a port in phase S down, and the check of R122 that follows the slot (R122, R147). -/

namespace Sys2Proof.Machine

/-- Port 0 is up in EL-50 with a SLEEP_REQUEST of its own unanswered, and its StartupPhase stands at S. Its receiver is locked and synced, the
partner's is synced, and the clocks of R345 are on input 1. -/
def upInPhaseS : State :=
  let s := State.reset
  { s with
    clk := { s.clk with onInput1 := [.sym 0, .eng, .fab] }
    ports := s.ports.set 0 { s.ports[0] with
      link := { s.ports[0].link with up := true, phase := .s, mode := some (.etoon .el50), sleepSent := true }
      train := { s.ports[0].train with synced := true, partnerSynced := true }
      dsp := { s.ports[0].dsp with locked := true } } }

/-- Whether the link of port 0 is up where an instruction is carried out. -/
def upAfter : Host.Outcome State Fault Refusal → Option Bool
  | .next t => some t.ports[(0 : PortId)].link.up
  | _ => none

theorem sleepAck_upInPhaseS : upAfter (exec (.sleepAck 0 { a0 := 0, a1 := 0, a2 := 0, a3 := 0 } 0) upInPhaseS) = some true := by
  decide +kernel

/-- Refutes O9: SLEEP_ACK takes the link of `upInPhaseS` down, but the port is still in phase S and synced, so that the check of R122 that
follows the slot brings it up again. Nothing in O9 keeps a port that is up out of phase S; R122's own link-up always leaves phase S. -/
theorem not_quietSleepAndBeaconShingles : ¬ Obligations.QuietSleepAndBeaconShingles := by
  unfold Obligations.QuietSleepAndBeaconShingles
  rintro ⟨shingles, -⟩
  obtain ⟨etoon, -⟩ := shingles upInPhaseS 0 { a0 := 0, a1 := 0, a2 := 0, a3 := 0 } 0
  obtain ⟨-, -, -, sleepAck, -⟩ := etoon (by decide +kernel)
  obtain ⟨t, next, down, -⟩ := sleepAck rfl rfl
  have up := sleepAck_upInPhaseS
  rw [next] at up
  exact absurd (down.symm.trans (Option.some.inj up)) Bool.false_ne_true

end Sys2Proof.Machine
end

section
/-! PROOF. What a slot boundary does before its shingle is chosen (R147, R156, R174, R217, R224, R225): nothing is launched, nothing leaves
the lists of launched shingles, and a swap is at most given up. -/

namespace Sys2Proof.Machine

section
variable {p : PortId} {s : State}

/-! ## The view -/

/-- Slots launched while up (Line.launches), and shingles sent (ShinglesSent). -/
structure SlotCounts where
  launches : Nat
  sent     : Nat

def slotCountsOf (q : Port) : SlotCounts := { launches := q.line.launches, sent := q.cnt.sent }

def slotCounts (p : PortId) (s : State) : SlotCounts := slotCountsOf s.ports[p]

/-- What the choice of a slot's shingle starts from: LINK_UP, the transmitter's quiet state, what was launched, the numbers launched and
unacknowledged by class, and the shingle that a swap holds back. -/
structure SlotView where
  up      : Bool
  txLpi   : TxLpi
  counts  : SlotCounts
  seqs    : Vector (List Seq) 4
  swapOut : Option (Cls × Seq × Nat)

/-- The numbers of a class that are launched and unacknowledged. -/
def launchedSeqs (t : TxCls) : List Seq := t.launched.map LaunchedSh.seq

def slotViewOf (q : Port) : SlotView :=
  { up := q.link.up, txLpi := q.line.txLpi, counts := slotCountsOf q, seqs := q.tx.map launchedSeqs, swapOut := q.sieve.swapOut }

def slotView (p : PortId) (s : State) : SlotView := slotViewOf s.ports[p]

theorem slotView_modPort {f : Port → Port} (h : slotViewOf (f s.ports[p]) = slotViewOf s.ports[p]) :
    slotView p (modPort p f s) = slotView p s := (congrArg slotViewOf (modPort_self s p f)).trans h

theorem slotView_of_ports {t : State} (h : t.ports = s.ports) : slotView p t = slotView p s :=
  congrArg (fun v : Vector Port 8 => slotViewOf v[p]) h

theorem map_launchedSeqs_set {v : Vector TxCls 4} {c : Cls} {t : TxCls} (h : launchedSeqs t = launchedSeqs v[c]) :
    (v.set c t).map launchedSeqs = v.map launchedSeqs := by
  refine Vector.ext fun i hi => ?_
  by_cases hc : (c : Nat) = i
  · subst hc
    simpa using h
  · simp [hc]

theorem slotView_modTx {c : Cls} {f : TxCls → TxCls} (h : launchedSeqs (f s.ports[p].tx[c]) = launchedSeqs s.ports[p].tx[c]) :
    slotView p (modTx p c f s) = slotView p s :=
  slotView_modPort (congrArg (fun q => { slotViewOf s.ports[p] with seqs := q }) (map_launchedSeqs_set h))

theorem slotView_ite (b : Prop) [Decidable b] (t u : State) :
    slotView p (if b then t else u) = if b then slotView p t else slotView p u := apply_ite (slotView p) b t u

theorem slotView_foldl {α : Type} {f : State → α → State} (h : ∀ t a, slotView p (f t a) = slotView p t) (l : List α) (s : State) :
    slotView p (l.foldl f s) = slotView p s := by
  induction l generalizing s with
  | nil => rfl
  | cons a l ih => exact (ih (f s a)).trans (h s a)

/-! ## The holding store (R156, R173, R174, R180) -/

@[simp] theorem slotView_pfcCheck (s : State) : slotView p (pfcCheck p s) = slotView p s := by
  obtain ⟨paused, owed, self⟩ := pfcCheck_self (p := p) s
  exact (congrArg slotViewOf self :)

@[simp] theorem slotView_grantOpen (c : Cls) (s : State) : slotView p (grantOpen p c s) = slotView p s :=
  slotView_modPort (congrArg (fun q => { slotViewOf s.ports[p] with seqs := q })
    (map_launchedSeqs_set (t := { s.ports[p].tx[c] with openP := some {} }) rfl))

@[simp] theorem slotView_grantOwed (c : Cls) (s : State) : slotView p (grantOwed p c s) = slotView p s := by
  simp only [grantOwed, slotView_grantOpen, slotView_ite, ite_self]

/-- R173, R182: a withdrawal leaves the shingle's number with the gap shingle that stands for it. -/
theorem withdrawLaunched_seqs (now : Nat) (provoked : Bool) (out : Option Seq) (l : List LaunchedSh) :
    (withdrawLaunched now provoked out l).1.map LaunchedSh.seq = l.map LaunchedSh.seq := by
  induction l with
  | nil => rfl
  | cons e rest ih =>
    unfold withdrawLaunched
    split
    · rfl
    · simp only [List.map_cons, ih]

theorem slotView_withdrawOne {c : Cls} {s t : State} (h : withdrawOne p c s = some t) : slotView p t = slotView p s := by
  unfold withdrawOne at h
  dsimp only at h
  split at h
  · obtain rfl := Option.some.inj h
    exact (slotView_modPort rfl).trans (slotView_modTx (withdrawLaunched_seqs _ _ _ _))
  · split at h
    · split at h
      · cases h
      · obtain rfl := Option.some.inj h
        exact slotView_modTx rfl
    · cases h

@[simp] theorem slotView_ensureSlot (c : Cls) (fuel : Nat) (s : State) : slotView p (ensureSlot p c fuel s).1 = slotView p s := by
  induction fuel generalizing s with
  | zero => rfl
  | succ fuel ih =>
    unfold ensureSlot
    split
    · rfl
    · split
      · exact slotView_grantOpen c s
      · split
        · rfl
        · split
          · rfl
          · next t ht => exact (ih t).trans (slotView_withdrawOne ht)

@[simp] theorem slotView_openSlot (c : Cls) (s : State) : slotView p (openSlot p c s).1 = slotView p s := slotView_ensureSlot c _ s

@[simp] theorem slotView_modOpen (c : Cls) (f : Payload → Payload) (s : State) : slotView p (modOpen p c f s) = slotView p s :=
  slotView_modTx rfl

@[simp] theorem slotView_closeFull (c : Cls) (s : State) : slotView p (closeFull p c s) = slotView p s := by
  unfold closeFull
  split
  · exact (slotView_openSlot c _).trans (slotView_modTx rfl)
  · rfl

@[simp] theorem slotView_putBytes (c : Cls) (held : Bool) (fuel : Nat) (bs : List Byte) (s : State) :
    slotView p (putBytes p c held fuel bs s).1 = slotView p s := by
  induction fuel generalizing bs s with
  | zero => cases bs <;> rfl
  | succ fuel ih =>
    cases bs with
    | nil => rfl
    | cons b bs =>
      unfold putBytes
      dsimp only
      split
      · simp only [ih, slotView_closeFull, slotView_modOpen, slotView_openSlot]
      · exact slotView_openSlot c s

@[simp] theorem slotView_putLoss (c : Cls) (held : Bool) (l : TxLoss) (s : State) :
    slotView p (putLoss p c held l s).1 = slotView p s := by
  unfold putLoss putAll
  dsimp only
  split
  · simp only [slotView_putBytes, slotView_modOpen, slotView_openSlot]
  · exact slotView_openSlot c s

@[simp] theorem slotView_flushOwed (c : Cls) (ls : List TxLoss) (s : State) : slotView p (flushOwed p c ls s) = slotView p s := by
  induction ls generalizing s with
  | nil => rfl
  | cons l rest ih =>
    unfold flushOwed
    dsimp only
    split
    · rw [ih, slotView_putLoss, slotView_modTx rfl, slotView_grantOwed]
    · exact slotView_grantOwed c s

/-- R174: loss tags written at a boundary launch nothing. -/
@[simp] theorem slotView_flushLosses (c : Cls) (s : State) : slotView p (flushLosses p c s) = slotView p s := by
  simp only [flushLosses, slotView_flushOwed, slotView_ite, ite_self]

/-! ## The boundary (R143, R147, R217, R224, R225) -/

/-- Nothing is launched from s to t, and a swap is at most given up. -/
structure Unlaunched (p : PortId) (s t : State) : Prop where
  view : slotView p t = slotView p s ∨ slotView p t = { slotView p s with swapOut := none }

theorem Unlaunched.of_view {t : State} (h : slotView p t = slotView p s) : Unlaunched p s t := ⟨.inl h⟩

theorem Unlaunched.trans {t u : State} (h : Unlaunched p s t) (g : Unlaunched p t u) : Unlaunched p s u := by
  constructor
  rcases h.view with h | h <;> rcases g.view with g | g <;> rw [g, h] <;> simp

theorem Unlaunched.up {t : State} (h : Unlaunched p s t) : t.ports[p].link.up = s.ports[p].link.up := by
  rcases h.view with h | h <;> exact congrArg SlotView.up h

theorem Unlaunched.txLpi {t : State} (h : Unlaunched p s t) : t.ports[p].line.txLpi = s.ports[p].line.txLpi := by
  rcases h.view with h | h <;> exact congrArg SlotView.txLpi h

theorem Unlaunched.counts {t : State} (h : Unlaunched p s t) : slotCounts p t = slotCounts p s := by
  rcases h.view with h | h <;> exact congrArg SlotView.counts h

theorem Unlaunched.seqs {t : State} (h : Unlaunched p s t) (c : Cls) :
    launchedSeqs t.ports[p].tx[c] = launchedSeqs s.ports[p].tx[c] := by
  have seqs : t.ports[p].tx.map launchedSeqs = s.ports[p].tx.map launchedSeqs := by
    rcases h.view with h | h <;> exact congrArg SlotView.seqs h
  simpa using congrArg (fun v : Vector (List Seq) 4 => v[c]) seqs

/-- The shingle that a swap holds back is among the launched ones. -/
def SwapHeld (q : Port) : Prop := ∀ c n k, q.sieve.swapOut = some (c, n, k) → n ∈ launchedSeqs q.tx[c]

theorem Unlaunched.swapHeld {t : State} (h : Unlaunched p s t) (hs : SwapHeld s.ports[p]) : SwapHeld t.ports[p] := by
  intro c n k ht
  rw [h.seqs c]
  rcases h.view with h | h
  · exact hs c n k ((congrArg SlotView.swapOut h).symm.trans ht)
  · exact absurd ((congrArg SlotView.swapOut h).symm.trans ht) nofun

theorem Unlaunched.ite {t u : State} {b : Prop} [Decidable b] (h : Unlaunched p s t) (g : Unlaunched p s u) :
    Unlaunched p s (if b then t else u) := by
  split
  · exact h
  · exact g

theorem Unlaunched.foldl {α : Type} {f : State → α → State} (h : ∀ t a, Unlaunched p t (f t a)) (l : List α) (s : State) :
    Unlaunched p s (l.foldl f s) := by
  induction l generalizing s with
  | nil => exact .of_view rfl
  | cons a l ih => exact (h s a).trans (ih _)

/-- R224: a swap that is given up leaves the shingle it held back among the launched ones. -/
theorem unlaunched_skipSwap (down : Bool) (s : State) : Unlaunched p s (skipSwap p down s) := by
  unfold skipSwap
  split
  · exact .of_view rfl
  · refine ⟨.inr ((slotView_modTx ?_).trans (congrArg slotViewOf (modSieve_self s p _)))⟩
    simp only [launchedSeqs, List.map_map]
    refine List.map_congr_left fun e _ => ?_
    dsimp only [Function.comp]
    split <;> rfl

theorem releaseHolder_ports (s : State) : (releaseHolder s).ports = s.ports := by
  unfold releaseHolder
  split <;> rfl

theorem unlaunched_disarmNow (kinds keep cause : BitVec 8) (s : State) : Unlaunched p s (disarmNow p kinds keep cause s) := by
  have parted : Unlaunched p s (if kinds.getLsbD kindSwap then skipSwap p false s else s) :=
    .ite (unlaunched_skipSwap false s) (.of_view rfl)
  unfold disarmNow
  split
  · exact .of_view rfl
  · refine parted.trans (.of_view ?_)
    rw [slotView_of_ports (releaseHolder_ports _), slotView_of_ports (raise_ports _ _)]
    exact slotView_modPort rfl

theorem unlaunched_disarmDue (s : State) : Unlaunched p s (disarmDue p s) := by
  have cleared : Unlaunched p s (modSieve p (fun v => { v with disarms := [], rearmed := 0 }) s) := .of_view (slotView_modPort rfl)
  have disarmed (t : State) (d : BitVec 8 × BitVec 8) : Unlaunched p t (disarmNow p d.1 s.ports[p].sieve.rearmed d.2 t) :=
    unlaunched_disarmNow d.1 _ d.2 t
  exact cleared.trans (Unlaunched.foldl disarmed _ _)

theorem slotView_dspBoundary (s : State) : slotView p (dspBoundary p s) = slotView p s :=
  (slotView_modPort rfl).trans (slotView_modPort rfl)

theorem slotView_startInterruption (s : State) : slotView p (startInterruption p s) = slotView p s := by
  have newest (f : Seg → Seg) (t : State) : slotView p (modNewest p f t) = slotView p t := slotView_modPort rfl
  unfold startInterruption provoke
  refine (slotView_modPort rfl).trans ?_
  dsimp only
  rw [slotView_ite, newest, ite_self]
  exact slotView_modPort rfl

theorem slotView_mcEnd (st : McStatus) (s : State) : slotView p (mcEnd p st s) = slotView p s :=
  (slotView_of_ports (mcTell_ports p _ _ st)).trans (slotView_modPort rfl)

/-- R143, R144: the transmit epoch passes. -/
theorem slotView_mcTransmitEpoch (s : State) : slotView p (mcTransmitEpoch p s) = slotView p s := by
  have epoch (t : State) : slotView p (mcApply p t) = slotView p t := by
    unfold mcApply
    dsimp only
    split
    · rw [slotView_pfcCheck, slotView_mcEnd, slotView_of_ports (gapAbandoned_ports t _)]
      exact slotView_modPort rfl
    · rfl
  exact (epoch _).trans (slotView_modPort rfl)

theorem unlaunched_swapCheck (s : State) : Unlaunched p s (swapCheck p s) := by
  unfold swapCheck
  split
  · exact .ite (.of_view rfl) (unlaunched_skipSwap false s)
  · exact .of_view rfl

theorem unlaunched_boundary (s : State) : Unlaunched p s (boundary p s) := by
  have interruption (t : State) : Unlaunched p t (if t.ports[p].sieve.intWaiting then startInterruption p t else t) :=
    .ite (.of_view (slotView_startInterruption t)) (.of_view rfl)
  have epoch (t : State) : Unlaunched p t (if t.ports[p].mc.marks = some 0 then mcTransmitEpoch p (skipSwap p false t) else t) :=
    .ite ((unlaunched_skipSwap false t).trans (.of_view (slotView_mcTransmitEpoch _))) (.of_view rfl)
  have counted (t : State) : Unlaunched p t (modSieve p (fun v => { v with sCount := v.sCount + 1 }) t) :=
    .of_view (slotView_modPort rfl)
  have begun := (unlaunched_disarmDue (p := p) s).trans (.of_view (slotView_dspBoundary _))
  exact (((begun.trans (interruption _)).trans (epoch _)).trans (unlaunched_swapCheck _)).trans (counted _)

/-- R147: a sleep request that falls due is owed, or wakes the transmitter first. -/
theorem slotView_sleepPoll (s : State) : slotView p (sleepPoll p s) = slotView p s := by
  have wake (t : State) : slotView p (wakeRequest p t) = slotView p t :=
    slotView_modPort (by dsimp only; split <;> rfl)
  have owe (t : State) : slotView p (oweCtl p .sleepRequest t) = slotView p t := slotView_modPort rfl
  have link (t : State) : slotView p (modLink p (fun l => { l with sleepWait := none }) t) = slotView p t := slotView_modPort rfl
  simp only [sleepPoll, wake, owe, link, slotView_ite, ite_self]

/-- The state in which the shingle of a slot of port p is chosen. -/
def slotStart (p : PortId) (s : State) : State :=
  pfcCheck p (forClasses (fun c t => flushLosses p c t) (sleepPoll p (boundary p s)))

theorem unlaunched_slotStart (s : State) : Unlaunched p s (slotStart p s) :=
  (unlaunched_boundary s).trans (.of_view ((slotView_pfcCheck _).trans
    ((slotView_foldl (fun t c => slotView_flushLosses c t) _ _).trans (slotView_sleepPoll _))))

end

end Sys2Proof.Machine
end

section
/-! PROOF. One launch in a slot (R87, R98, R161, R165, R168, R170, R171, R224): whatever the transmitter of a port that is up chooses, one
slot is consumed and one shingle counted. -/

namespace Sys2Proof.Machine

section
variable {p : PortId} {s : State}

/-! ## Counts -/

/-- R87, R98: one more slot launched, one more shingle sent. -/
def SlotCounts.once (n : SlotCounts) : SlotCounts := { launches := n.launches + 1, sent := sat64 (n.sent + 1) }

theorem slotCounts_eq_of_lineRecord {t : State} (h : lineRecord p t = lineRecord p s) : slotCounts p t = slotCounts p s :=
  congrArg (fun r : LineRecord => { launches := r.launches, sent := r.cnt.sent : SlotCounts }) h

theorem slotCounts_modPort {f : Port → Port} (h : slotCountsOf (f s.ports[p]) = slotCountsOf s.ports[p]) :
    slotCounts p (modPort p f s) = slotCounts p s := (congrArg slotCountsOf (modPort_self s p f)).trans h

@[simp] theorem slotCounts_modTx (c : Cls) (f : TxCls → TxCls) (s : State) : slotCounts p (modTx p c f s) = slotCounts p s :=
  slotCounts_modPort rfl

@[simp] theorem slotCounts_modRx (c : Cls) (f : RxCls → RxCls) (s : State) : slotCounts p (modRx p c f s) = slotCounts p s :=
  slotCounts_modPort rfl

theorem slotCounts_putSlot {beacon : Bool} {x : SlotContent} {drop corrupt : Bool} (hu : s.ports[p].link.up = true) :
    slotCounts p (putSlot p beacon x drop corrupt s) = (slotCounts p s).once := by
  simp only [slotCounts, slotCountsOf, SlotCounts.once, putSlot, release, Fin.getElem_fin, modPort_self, SlotCounts.mk.injEq]
  exact ⟨congrArg (s.ports[p].line.launches + ·) (if_pos hu), trivial⟩

/-- R161: a control shingle takes one slot. -/
theorem slotCounts_putControl (k : Ctl) (hu : s.ports[p].link.up = true) :
    slotCounts p (putControl p k s) = (slotCounts p s).once := by
  have record := lineRecord_slotChoices p s true 0
  unfold putControl
  rw [slotCounts_modPort rfl, slotCounts_putSlot ((up_eq_of_lineRecord record).trans hu), slotCounts_eq_of_lineRecord record]

/-! ## Data shingles -/

theorem lineRecord_modTx (c : Cls) (f : TxCls → TxCls) (s : State) : lineRecord p (modTx p c f s) = lineRecord p s :=
  lineRecord_modPort p s fun _ => rfl

/-- R196: a loss is entered in the port's ledger, and nothing else of the port changes. -/
theorem ledgerAdd_self (rx : Bool) (c : Cls) (l : RxLoss) (t : Nat) (s : State) :
    ∃ led, (ledgerAdd p rx c l t s).ports[p] = { s.ports[p] with led := led } := by
  have entered (f : LedgerPart → LedgerPart) (u : State) (h : u.ports = (modLedger p rx f s).ports) :
      ∃ led, u.ports[p] = { s.ports[p] with led := led } :=
    ⟨_, (congrArg (fun v : Vector Port 8 => v[p]) h).trans (modPort_self s p _)⟩
  unfold ledgerAdd
  dsimp only
  split
  · split
    · exact entered _ _ rfl
    · exact entered _ _ (raise_ports _ _)
  · exact entered _ _ (raise_ports _ _)

/-- R176, R196: the losses that a shingle carries are entered in the port's ledger, and nothing else of the port changes. -/
theorem enterLosses_self (c : Cls) (e : LaunchedSh) (s : State) :
    ∃ led, (enterLosses p c e s).ports[p] = { s.ports[p] with led := led } := by
  unfold enterLosses
  induction e.pay.losses generalizing s with
  | nil => exact ⟨_, rfl⟩
  | cons l ls ih =>
    obtain ⟨one, first⟩ := ledgerAdd_self (p := p) false c (txEntry l.2 e.seq 1) l.2.tally s
    obtain ⟨led, rest⟩ := ih (ledgerAdd p false c (txEntry l.2 e.seq 1) l.2.tally s)
    exact ⟨led, rest.trans (by rw [first])⟩

theorem lineRecord_enterLosses (c : Cls) (e : LaunchedSh) (s : State) : lineRecord p (enterLosses p c e s) = lineRecord p s := by
  obtain ⟨led, self⟩ := enterLosses_self (p := p) c e s
  unfold lineRecord
  rw [self]
  rfl

theorem find_of_mem_launchedSeqs {t : TxCls} {n : Seq} (h : n ∈ launchedSeqs t) :
    ∃ e, t.launched.find? (fun e => decide (e.seq = n)) = some e := by
  obtain ⟨e, he, rfl⟩ := List.mem_map.mp h
  exact Option.isSome_iff_exists.mp (List.find?_isSome.mpr ⟨e, he, decide_eq_true rfl⟩)

/-- R151, R171: a launched number that is put on the line takes one slot. -/
theorem slotCounts_putData {c : Cls} {n : Seq} {again : Bool} {at_ : Nat} (hu : s.ports[p].link.up = true)
    (hn : n ∈ launchedSeqs s.ports[p].tx[c]) : slotCounts p (putData p c n again at_ s) = (slotCounts p s).once := by
  obtain ⟨e, found⟩ := find_of_mem_launchedSeqs hn
  have entered : lineRecord p (if again && !e.unsent then s else enterLosses p c e s) = lineRecord p s := by
    rw [lineRecord_ite, lineRecord_enterLosses, ite_self]
  have record := (lineRecord_slotChoices p (if again && !e.unsent then s else enterLosses p c e s) false c).trans entered
  have replays (t : State) : slotCounts p (modCnt p (fun k => { k with replays := bump c.val 1 k.replays }) t) = slotCounts p t :=
    slotCounts_modPort rfl
  unfold putData
  rw [found]
  dsimp only
  rw [apply_ite (slotCounts p), replays, ite_self, slotCounts_modTx, slotCounts_modRx, slotCounts_putSlot ((up_eq_of_lineRecord record).trans hu),
    slotCounts_eq_of_lineRecord record]

/-! ## Numbers (R165, R175) -/

/-- R156, R165: payloads of a class that a slot can give numbers to: the gap record, and the closed payloads ahead of one that is held. -/
def numberable (t : TxCls) : Nat := t.gapRec.isSome.toNat + (t.closed.takeWhile (fun w => !w.held)).length

/-- R175: a gap record takes the next number. -/
theorem numberNext_gap {c : Cls} {l : TxLoss} (hg : s.ports[p].tx[c].gapRec = some l) : ∃ e : LaunchedSh, e.seq = s.ports[p].tx[c].next
    ∧ numberNext p c s = (modTx p c (fun x => { x with gapRec := none, next := x.next + 1, launched := x.launched ++ [e] }) s,
        some s.ports[p].tx[c].next) := by
  unfold numberNext
  dsimp only
  rw [hg]
  exact ⟨_, rfl, rfl⟩

/-- R165: without a gap record, the oldest closed payload takes the next number, unless it is held. -/
theorem numberNext_closed {c : Cls} {w : Payload} {rest : List Payload} (hg : s.ports[p].tx[c].gapRec = none)
    (hc : s.ports[p].tx[c].closed = w :: rest) (hw : w.held = false) : ∃ e : LaunchedSh, e.seq = s.ports[p].tx[c].next
    ∧ numberNext p c s = (modTx p c (fun x => { x with closed := rest, next := x.next + 1, launched := x.launched ++ [e] }) s,
        some s.ports[p].tx[c].next) := by
  unfold numberNext
  dsimp only
  rw [hg]
  dsimp only
  rw [hc]
  exact ⟨_, rfl, if_neg (by rw [hw]; nofun)⟩

/-- R165: where the class has one to give, the next number joins those that are launched. -/
theorem numberNext_of_numberable {c : Cls} (h : 0 < numberable s.ports[p].tx[c]) : ∃ f,
    numberNext p c s = (modTx p c f s, some s.ports[p].tx[c].next)
    ∧ launchedSeqs (f s.ports[p].tx[c]) = launchedSeqs s.ports[p].tx[c] ++ [s.ports[p].tx[c].next]
    ∧ numberable (f s.ports[p].tx[c]) + 1 = numberable s.ports[p].tx[c] := by
  have joins (e : LaunchedSh) (he : e.seq = s.ports[p].tx[c].next) :
      (s.ports[p].tx[c].launched ++ [e]).map LaunchedSh.seq = launchedSeqs s.ports[p].tx[c] ++ [s.ports[p].tx[c].next] := by
    rw [List.map_append, List.map_singleton, he, launchedSeqs]
  unfold numberable at h ⊢
  cases hg : s.ports[p].tx[c].gapRec with
  | some l =>
    obtain ⟨e, he, next⟩ := numberNext_gap hg
    exact ⟨_, next, joins e he, by simp only [Option.isSome, Bool.toNat_true, Bool.toNat_false]; omega⟩
  | none =>
    cases hc : s.ports[p].tx[c].closed with
    | nil =>
      rw [hg, hc] at h
      exact absurd h (Nat.lt_irrefl 0)
    | cons w rest =>
      cases hw : w.held with
      | true =>
        rw [hg, hc, List.takeWhile_cons_of_neg (by rw [hw]; nofun)] at h
        exact absurd h (Nat.lt_irrefl 0)
      | false =>
        obtain ⟨e, he, next⟩ := numberNext_closed hg hc hw
        refine ⟨_, next, joins e he, ?_⟩
        rw [hg, List.takeWhile_cons_of_pos (by rw [hw]; rfl)]
        rfl

theorem modTx_tx (c : Cls) (f : TxCls → TxCls) (s : State) : (modTx p c f s).ports[p].tx[c] = f s.ports[p].tx[c] := by
  simp

theorem padOpen_held (c : Cls) (w : Payload) : (padOpen c w).held = w.held := by
  unfold padOpen
  split <;> rfl

theorem openP_of_closable {q : Port} {c : Cls} (h : closable q c = true) : ∃ w, q.tx[c].openP = some w ∧ w.held = false := by
  unfold closable at h
  split at h
  · cases h
  · next w hw =>
    simp only [Bool.and_eq_true, Bool.not_eq_true'] at h
    exact ⟨w, hw, h.1.1.2⟩

theorem numberable_le (t : TxCls) : numberable t ≤ t.gapRec.isSome.toNat + t.closed.length :=
  Nat.add_le_add_left (List.takeWhile_prefix _).length_le _

/-- A payload that is not held, closed behind others that are not, can take a number. -/
theorem numberable_append {t : TxCls} {w : Payload} (all : (t.closed.takeWhile (fun w => !w.held)).length = t.closed.length)
    (hw : w.held = false) :
    numberable { t with closed := t.closed ++ [w], openP := none } = t.gapRec.isSome.toNat + t.closed.length + 1 := by
  rw [numberable, List.takeWhile_append, if_pos all, List.length_append, List.takeWhile_cons_of_pos (by rw [hw]; rfl)]
  rfl

/-- R156, R165: a boundary closes the OPEN payload where the slot's numbers reach it, so that there is a payload for each. -/
theorem le_numberable_closeAtBoundary {c : Cls} {k : Nat} (h : k ≤ freshCount s.ports[p] c) :
    k ≤ numberable (closeAtBoundary p c k s).ports[p].tx[c] := by
  have bound := numberable_le s.ports[p].tx[c]
  change k ≤ numberable s.ports[p].tx[c] + (decide (_ = s.ports[p].tx[c].closed.length) && closable s.ports[p] c).toNat at h
  unfold closeAtBoundary
  dsimp only
  split
  · next hk =>
    obtain ⟨reached, closes⟩ := Bool.and_eq_true_iff.mp hk
    have reached := of_decide_eq_true reached
    have all : (s.ports[p].tx[c].closed.takeWhile (fun w => !w.held)).length = s.ports[p].tx[c].closed.length := by
      by_contra short
      rw [decide_eq_false short, Bool.false_and, Bool.toNat_false] at h
      omega
    obtain ⟨w, opened, free⟩ := openP_of_closable closes
    rw [modTx_tx, opened]
    exact (reached ▸ (numberable_append all ((padOpen_held c w).trans free)).ge)
  · next hk =>
    by_cases all : (s.ports[p].tx[c].closed.takeWhile (fun w => !w.held)).length = s.ports[p].tx[c].closed.length
    · by_cases closes : closable s.ports[p] c = true
      · have full : numberable s.ports[p].tx[c] = s.ports[p].tx[c].gapRec.isSome.toNat + s.ports[p].tx[c].closed.length := by
          rw [numberable, all]
        have unreached : ¬ s.ports[p].tx[c].gapRec.isSome.toNat + s.ports[p].tx[c].closed.length + 1 = k :=
          fun reached => hk (by rw [decide_eq_true reached, closes]; rfl)
        rw [decide_eq_true all, closes, Bool.and_self, Bool.toNat_true] at h
        omega
      · rwa [Bool.eq_false_iff.mpr closes, Bool.and_false, Bool.toNat_false] at h
    · rwa [decide_eq_false all, Bool.false_and, Bool.toNat_false] at h

/-! ## The choice (R168, R170, R224) -/

theorem lineRecord_closeAtBoundary (c : Cls) (k : Nat) (s : State) : lineRecord p (closeAtBoundary p c k s) = lineRecord p s := by
  simp only [closeAtBoundary, lineRecord_modTx, lineRecord_ite, ite_self]

theorem modTx_tx_launchedSeqs_map {c : Cls} {f : LaunchedSh → LaunchedSh} (h : ∀ e, (f e).seq = e.seq) (s : State) :
    launchedSeqs (modTx p c (fun x => { x with launched := x.launched.map f }) s).ports[p].tx[c] = launchedSeqs s.ports[p].tx[c] := by
  rw [modTx_tx]
  exact (List.map_map ..).trans (List.map_congr_left fun e _ => h e)

theorem modSieve_tx (f : SievePort → SievePort) (s : State) : (modSieve p f s).ports[p].tx = s.ports[p].tx := by
  simp

/-- R224: a swap launches the younger of two shingles that it numbers. -/
theorem slotCounts_putSwap {c : Cls} {at_ : Nat} (hu : s.ports[p].link.up = true) (h : 2 ≤ numberable s.ports[p].tx[c]) :
    slotCounts p (putSwap p c at_ s) = (slotCounts p s).once := by
  obtain ⟨f, first, -, left⟩ := numberNext_of_numberable (p := p) (s := s) (c := c) (by omega)
  have more : 0 < numberable (modTx p c f s).ports[p].tx[c] := by
    rw [modTx_tx]
    omega
  obtain ⟨g, second, joins, -⟩ := numberNext_of_numberable more
  have mark (e : LaunchedSh) : (if e.seq = s.ports[p].tx[c].next then { e with provoked := true, unsent := true, firstAt := at_ }
      else if e.seq = (modTx p c f s).ports[p].tx[c].next then { e with provoked := true } else e : LaunchedSh).seq = e.seq := by
    split
    · rfl
    · split <;> rfl
  unfold putSwap
  dsimp only
  rw [first]
  dsimp only
  rw [second]
  dsimp only
  rw [slotCounts_putData]
  · refine congrArg SlotCounts.once (slotCounts_eq_of_lineRecord ?_)
    simp only [provoke, lineRecord_modSieve, lineRecord_modTx]
  · refine (up_eq_of_lineRecord ?_).trans hu
    simp only [provoke, lineRecord_modSieve, lineRecord_modTx]
  · rw [provoke, modSieve_tx, modSieve_tx, modTx_tx_launchedSeqs_map mark, modTx_tx, joins]
    exact List.mem_append_right _ (List.mem_singleton_self _)

/-- R224: a swap that is in progress launches the shingle that it held back. -/
theorem slotCounts_putSwapped {c : Cls} {n : Seq} {at_ : Nat} (hu : s.ports[p].link.up = true)
    (hn : n ∈ launchedSeqs s.ports[p].tx[c]) : slotCounts p (putSwapped p c n at_ s) = (slotCounts p s).once := by
  have record (f : SievePort → SievePort) := lineRecord_modSieve p s f
  unfold putSwapped
  dsimp only
  rw [slotCounts_modTx, slotCounts_putData ((up_eq_of_lineRecord (record _)).trans hu) (by rwa [modSieve_tx]),
    slotCounts_eq_of_lineRecord (record _)]

theorem mem_of_swapTurn {q : Port} {c : Cls} {n : Seq} (h : SwapHeld q) (hn : swapTurn q c = some n) : n ∈ launchedSeqs q.tx[c] := by
  unfold swapTurn at hn
  split at hn
  · next d m k hk =>
    split at hn
    · next hd =>
      subst hd
      obtain rfl := Option.some.inj hn
      exact h _ _ _ hk
    · cases hn
  · cases hn

/-- R168, R224: a first launch, or a swap in its place. -/
theorem slotCounts_putFresh {c : Cls} {at_ : Nat} (hu : s.ports[p].link.up = true) (hs : SwapHeld s.ports[p])
    (hr : (swapTurn s.ports[p] c).isSome = true ∨ freshReady s.ports[p] c = true) :
    slotCounts p (putFresh p c at_ s) = (slotCounts p s).once := by
  have closed (k : Nat) := lineRecord_closeAtBoundary (p := p) c k s
  unfold putFresh
  split
  · next n hn => exact slotCounts_putSwapped hu (mem_of_swapTurn hs hn)
  · next hn =>
    have ready : freshReady s.ports[p] c = true := by
      rw [hn] at hr
      exact hr.resolve_left nofun
    split
    · next two =>
      have pair := of_decide_eq_true (Bool.and_eq_true_iff.mp (Bool.and_eq_true_iff.mp two).2).2
      rw [slotCounts_putSwap ((up_eq_of_lineRecord (closed 2)).trans hu) (le_numberable_closeAtBoundary pair),
        slotCounts_eq_of_lineRecord (closed 2)]
    · have one := of_decide_eq_true (Bool.and_eq_true_iff.mp ready).2
      dsimp only
      generalize started : (if swapDue (closeAtBoundary p c 1 s).ports[p] then _ else closeAtBoundary p c 1 s) = u
      have record : lineRecord p u = lineRecord p s := by rw [← started, lineRecord_ite, lineRecord_modSieve, ite_self, closed]
      have tx : u.ports[p].tx = (closeAtBoundary p c 1 s).ports[p].tx := by
        rw [← started]
        split
        · exact modSieve_tx _ _
        · rfl
      obtain ⟨f, next, joins, -⟩ := numberNext_of_numberable (p := p) (s := u) (c := c) (tx ▸ le_numberable_closeAtBoundary one)
      rw [next]
      dsimp only
      rw [slotCounts_putData ((up_eq_of_lineRecord ((lineRecord_modTx c f u).trans record)).trans hu), slotCounts_modTx,
        slotCounts_eq_of_lineRecord record]
      rw [modTx_tx, joins]
      exact List.mem_append_right _ (List.mem_singleton_self _)

/-- R170, R171: a class that holds something for the slot. -/
theorem slotCounts_putClass {c : Cls} {at_ : Nat} (hu : s.ports[p].link.up = true) (hs : SwapHeld s.ports[p])
    (hr : classReady s.ports[p] c = true) : slotCounts p (putClass p c at_ s) = (slotCounts p s).once := by
  unfold putClass
  split
  · next e he => exact slotCounts_putData hu (List.mem_map.mpr ⟨e, List.mem_of_find?_eq_some he, rfl⟩)
  · next he =>
    refine slotCounts_putFresh hu hs ?_
    simpa only [classReady, he, Option.isSome_none, Bool.false_or, Bool.or_eq_true] using hr

/-! ## The slot (R87, R168) -/

theorem slotCounts_fallAsleep (s : State) : slotCounts p (fallAsleep p s) = slotCounts p s := by
  have down : slotCounts p (declareDown p .sleep s) = slotCounts p s := by
    cases hu : s.ports[p].link.up with
    | false => rw [declareDown_of_down p s hu]
    | true =>
      exact congrArg (fun r : LineRecord => { launches := r.launches, sent := r.cnt.sent : SlotCounts })
        (lineRecord_declareDown p s hu)
  have asleep (t : State) : slotCounts p (modLink p (fun l => { l with asleep := true }) t) = slotCounts p t := slotCounts_modPort rfl
  have zero (t : State) : slotCounts p (modLine p (fun l => { l with driver := .zero, last := none }) t) = slotCounts p t :=
    slotCounts_modPort rfl
  have level (g : Seg) (t : State) : slotCounts p (release p g t) = slotCounts p t := slotCounts_modPort rfl
  unfold fallAsleep
  dsimp only
  split
  · exact (slotCounts_modPort rfl).trans ((asleep _).trans down)
  · rw [zero, level, asleep, down]

/-- R143, R147: what follows a control shingle launches nothing more. -/
theorem slotCounts_afterControl (k : Ctl) (s : State) : slotCounts p (afterControl p k s) = slotCounts p s := by
  unfold afterControl
  split
  · unfold mcAcceptLaunched
    split
    · exact slotCounts_modPort rfl
    · rfl
  · exact (slotCounts_modPort rfl).trans (slotCounts_modPort rfl)
  · exact slotCounts_fallAsleep s
  · rfl

theorem slotCounts_putNak (hu : s.ports[p].link.up = true) : slotCounts p (putNak p s) = (slotCounts p s).once := by
  have noted (l : List Cls) (f : Cls → RxCls → RxCls) (t : State) : slotCounts p (l.foldl (fun u c => modRx p c (f c) u) t) = slotCounts p t := by
    induction l generalizing t with
    | nil => rfl
    | cons c l ih => exact (ih _).trans (slotCounts_modRx c _ t)
  exact (noted _ _ _).trans (slotCounts_putControl _ hu)

/-- R143, R170: a MARK goes first. -/
theorem putFirst_mark {at_ k : Nat} (hm : s.ports[p].mc.marks = some (k + 1)) : putFirst p at_ s =
    putControl p (.mark (k + 1) s.ports[p].mc.epoch) (modMc p (fun m => { m with marks := some k }) s) := by
  unfold putFirst
  dsimp only
  rw [hm]

/-- R170: without a MARK, the first item that an active sequence demands goes. -/
theorem putFirst_owed {at_ : Nat} {k : Ctl} {rest : List Ctl} (hm : ∀ k, s.ports[p].mc.marks ≠ some (k + 1))
    (ho : s.ports[p].line.owed = k :: rest) : putFirst p at_ s =
    afterControl p k (putControl p k (modLine p (fun l => { l with owed := rest }) s)) := by
  unfold putFirst
  dsimp only
  split
  · next k hk => exact absurd hk (hm k)
  · rw [ho]

/-- R170: without such an item, class 0 goes, or else a NAK, another class or IDLE. -/
theorem putFirst_none_owed {at_ : Nat} (hm : ∀ k, s.ports[p].mc.marks ≠ some (k + 1)) (ho : s.ports[p].line.owed = []) :
    putFirst p at_ s =
      if classReady s.ports[p] 0 then putClass p 0 at_ s
      else if !(nakList s.ports[p]).isEmpty then putNak p s
      else if classReady s.ports[p] 1 then putClass p 1 at_ s
      else if classReady s.ports[p] 2 then putClass p 2 at_ s
      else if classReady s.ports[p] 3 then putClass p 3 at_ s
      else putIdle p s := by
  unfold putFirst
  dsimp only
  split
  · next k hk => exact absurd hk (hm k)
  · rw [ho]

/-- R87, R170: whatever a transmitter chooses, it launches one shingle. -/
theorem slotCounts_putFirst {at_ : Nat} (hu : s.ports[p].link.up = true) (hs : SwapHeld s.ports[p]) :
    slotCounts p (putFirst p at_ s) = (slotCounts p s).once := by
  have ready (c : Cls) (h : classReady s.ports[p] c = true) := slotCounts_putClass (at_ := at_) hu hs h
  by_cases hm : ∀ k, s.ports[p].mc.marks ≠ some (k + 1)
  · cases ho : s.ports[p].line.owed with
    | cons k rest =>
      have record : lineRecord p (modLine p (fun l => { l with owed := rest }) s) = lineRecord p s := lineRecord_modPort p s fun _ => rfl
      rw [putFirst_owed hm ho, slotCounts_afterControl, slotCounts_putControl k ((up_eq_of_lineRecord record).trans hu),
        slotCounts_eq_of_lineRecord record]
    | nil =>
      rw [putFirst_none_owed hm ho]
      split
      · next h => exact ready 0 h
      split
      · exact slotCounts_putNak hu
      split
      · next h => exact ready 1 h
      split
      · next h => exact ready 2 h
      split
      · next h => exact ready 3 h
      · exact slotCounts_putControl _ hu
  · push Not at hm
    obtain ⟨k, hk⟩ := hm
    have record (f : ModeChange → ModeChange) := lineRecord_modMc p s f
    rw [putFirst_mark hk, slotCounts_putControl _ ((up_eq_of_lineRecord (record _)).trans hu), slotCounts_eq_of_lineRecord (record _)]

/-- R168, R170: the slot of a port that is up in an Etoon mode, with its transmitter active. -/
theorem exec_launchSlot_active {at_ : Nat} (hu : s.ports[p].link.up = true) (he : (etoonMode s.ports[p]).isSome = true)
    (ha : s.ports[p].line.txLpi = .active) : exec (.launchSlot p at_) s = .next (putFirst p at_ (slotStart p s)) := by
  have etoon : ¬ inStd s.ports[p] = true := by rw [inStd_of_etoonMode he]; nofun
  have active : (sleepPoll p (boundary p s)).ports[p].line.txLpi = .active := by
    rw [((unlaunched_boundary s).trans (.of_view (slotView_sleepPoll _))).txLpi, ha]
  change Host.Outcome.next (if inStd s.ports[p] then _ else launch p at_ s) = _
  rw [if_neg etoon]
  unfold launch
  rw [if_pos (by rw [hu, he]; rfl)]
  dsimp only
  rw [if_pos active, slotStart]

/-- R87: such a slot consumes one slot and sends one shingle. -/
theorem launchSlot_once {at_ : Nat} (hu : s.ports[p].link.up = true) (he : (etoonMode s.ports[p]).isSome = true)
    (ha : s.ports[p].line.txLpi = .active) (hs : SwapHeld s.ports[p]) :
    ∃ t, exec (.launchSlot p at_) s = .next t ∧ slotCounts p t = (slotCounts p s).once := by
  have start := unlaunched_slotStart (p := p) s
  refine ⟨putFirst p at_ (slotStart p s), exec_launchSlot_active hu he ha, ?_⟩
  rw [slotCounts_putFirst (by rw [start.up, hu]) (start.swapHeld hs), start.counts]

end

end Sys2Proof.Machine
end

section
/-! PROOF. The order in which a slot's shingle is chosen (R143, R147, R161, R168, R170, R171), on a port with no sieve kind in force and no
loss that waits. -/

namespace Sys2Proof.Machine

section
variable {p : PortId} {s : State}

/-! ## What the choice reads -/

/-- The parts of a port that the choice of a slot's shingle reads. -/
def choiceOf (q : Port) : Port :=
  { link := q.link, mc := q.mc, line := q.line, cnt := q.cnt, tx := q.tx, rx := q.rx
    sieve := { live := q.sieve.live, swapOut := q.sieve.swapOut, intWaiting := q.sieve.intWaiting }
    host := { arriving := q.host.arriving } }

def choice (p : PortId) (s : State) : Port := choiceOf s.ports[p]

theorem choice_modPort {f : Port → Port} (h : ∀ q, choiceOf (f q) = choiceOf q) : choice p (modPort p f s) = choice p s :=
  (congrArg choiceOf (modPort_self s p f)).trans (h _)

@[simp] theorem choice_modDsp (f : Dsp → Dsp) (s : State) : choice p (modDsp p f s) = choice p s := choice_modPort fun _ => rfl

@[simp] theorem choice_pfcCheck (s : State) : choice p (pfcCheck p s) = choice p s := by
  obtain ⟨paused, owed, self⟩ := pfcCheck_self (p := p) s
  exact (congrArg choiceOf self :)

section
variable {t : State} (h : choice p t = choice p s)
include h

theorem link_eq_of_choice : t.ports[p].link = s.ports[p].link :=
  (congrArg Port.link h :)

theorem mc_eq_of_choice : t.ports[p].mc = s.ports[p].mc :=
  (congrArg Port.mc h :)

theorem line_eq_of_choice : t.ports[p].line = s.ports[p].line :=
  (congrArg Port.line h :)

theorem cnt_eq_of_choice : t.ports[p].cnt = s.ports[p].cnt :=
  (congrArg Port.cnt h :)

theorem tx_eq_of_choice : t.ports[p].tx = s.ports[p].tx :=
  (congrArg Port.tx h :)

theorem sieve_eq_of_choice : t.ports[p].sieve.live = s.ports[p].sieve.live ∧ t.ports[p].sieve.swapOut = s.ports[p].sieve.swapOut
    ∧ t.ports[p].sieve.intWaiting = s.ports[p].sieve.intWaiting :=
  ⟨(congrArg (fun q : Port => q.sieve.live) h :), (congrArg (fun q : Port => q.sieve.swapOut) h :),
    (congrArg (fun q : Port => q.sieve.intWaiting) h :)⟩

theorem nakList_eq_of_choice : nakList t.ports[p] = nakList s.ports[p] :=
  (congrArg nakList h :)

theorem classReady_eq_of_choice (c : Cls) : classReady t.ports[p] c = classReady s.ports[p] c :=
  (congrArg (fun q : Port => classReady q c) h :)

end

/-! ## A boundary at which nothing is pending -/

/-- No sieve kind is in force or waits, no sleep request waits, no class owes a loss tag, and no transmit epoch passes. -/
structure NothingPending (q : Port) : Prop where
  live       : q.sieve.live = 0
  disarms    : q.sieve.disarms = []
  intWaiting : q.sieve.intWaiting = false
  swapOut    : q.sieve.swapOut = none
  sleepWait  : q.link.sleepWait = none
  owedLoss   : ∀ c : Cls, q.tx[c].owedLoss = []
  marks      : q.mc.marks ≠ some 0

theorem disarmDue_of_none (h : s.ports[p].sieve.disarms = []) :
    disarmDue p s = modSieve p (fun v => { v with disarms := [], rearmed := 0 }) s := by
  unfold disarmDue
  dsimp only
  rw [h]
  rfl

theorem choice_boundary (h : NothingPending s.ports[p]) : choice p (boundary p s) = choice p s := by
  have cleared : choice p (modSieve p (fun v => { v with disarms := [], rearmed := 0 }) s) = choice p s := choice_modPort fun _ => rfl
  have begun : choice p (dspBoundary p (disarmDue p s)) = choice p s := by
    rw [disarmDue_of_none h.disarms, dspBoundary, xtalkBoundary, choice_modDsp, choice_modDsp, cleared]
  obtain ⟨-, swap, waits⟩ := sieve_eq_of_choice begun
  have still : ¬ (dspBoundary p (disarmDue p s)).ports[p].sieve.intWaiting = true := by
    rw [waits, h.intWaiting]
    exact Bool.false_ne_true
  have checked : swapCheck p (dspBoundary p (disarmDue p s)) = dspBoundary p (disarmDue p s) := by rw [swapCheck, swap, h.swapOut]
  have counted (t : State) : choice p (modSieve p (fun v => { v with sCount := v.sCount + 1 }) t) = choice p t :=
    choice_modPort fun _ => rfl
  unfold boundary
  dsimp only
  rw [if_neg still, if_neg (by rw [mc_eq_of_choice begun]; exact h.marks), checked, counted, begun]

theorem flushLosses_of_none {c : Cls} (h : s.ports[p].tx[c].owedLoss = []) : flushLosses p c s = s := by
  unfold flushLosses
  rw [h]
  exact ite_self _

/-- R168, R170: the choice of a slot's shingle reads the port as it was before the boundary. -/
theorem choice_slotStart (h : NothingPending s.ports[p]) : choice p (slotStart p s) = choice p s := by
  have same := choice_boundary h
  have loss (c : Cls) : (boundary p s).ports[p].tx[c].owedLoss = [] := by rw [tx_eq_of_choice same, h.owedLoss c]
  have polled : sleepPoll p (boundary p s) = boundary p s := by
    unfold sleepPoll
    rw [if_neg (by rw [link_eq_of_choice same, h.sleepWait]; simp)]
  have flushed (l : List Cls) : l.foldl (fun t c => flushLosses p c t) (boundary p s) = boundary p s := by
    induction l with
    | nil => rfl
    | cons c l ih => rw [List.foldl_cons, flushLosses_of_none (loss c), ih]
  unfold slotStart forClasses
  rw [polled, flushed, choice_pfcCheck, same]

/-! ## A shingle on the line, with no sieve kind in force -/

theorem sieveLive_of_not_live {q : Port} (h : q.sieve.live = 0) (k : Nat) : sieveLive q k = false := by
  rw [sieveLive, h]
  exact BitVec.getLsbD_zero

theorem slotChoices_of_not_live (h : s.ports[p].sieve.live = 0) (ctl : Bool) (c : Cls) :
    slotChoices p ctl c s = (false, false, s) := by
  simp only [slotChoices, sieveDrop, sieveCorrupt, noteCorrupt, sieveLive_of_not_live h, Bool.false_and, Bool.false_eq_true, if_false]

/-- What a slot's shingle leaves of port q, which is port r after it: the link, the mode change, the items owed, the replays counted. -/
structure KeptBySlot (q r : Port) : Prop where
  link    : r.link = q.link
  mc      : r.mc = q.mc
  owed    : r.line.owed = q.line.owed
  replays : r.cnt.replays = q.cnt.replays

section
variable (beacon : Bool) (x : SlotContent) (drop corrupt : Bool) (s : State)

theorem putSlot_keeps : KeptBySlot s.ports[p] (putSlot p beacon x drop corrupt s).ports[p] := by
  simp only [putSlot, release, Fin.getElem_fin, modPort_self]
  exact ⟨rfl, rfl, rfl, rfl⟩

theorem putSlot_tx : (putSlot p beacon x drop corrupt s).ports[p].tx = s.ports[p].tx := by
  simp only [putSlot, release, Fin.getElem_fin, modPort_self]

theorem putSlot_txSlot : (putSlot p false x drop corrupt s).ports[p].line.txSlot = s.ports[p].line.txSlot + 1 := by
  simp only [putSlot, release, Fin.getElem_fin, modPort_self, Bool.false_eq_true, if_false]

theorem putSlot_last : ∃ y, (putSlot p beacon x drop corrupt s).ports[p].line.last = some y
    ∧ y.control = x.control ∧ y.cls = x.cls ∧ y.seq = x.seq := by
  simp only [putSlot, Fin.getElem_fin, modPort_self]
  exact ⟨_, rfl, rfl, rfl, rfl⟩

end

/-- R161: port q becomes port r in a slot that carries control shingle k, no relink beacon. -/
structure ControlSent (k : Ctl) (q r : Port) : Prop where
  kept    : KeptBySlot q r
  control : r.line.last.bind Launched.control = some (ctlArg k)
  txSlot  : r.line.txSlot = q.line.txSlot + 1
  tx      : r.tx = q.tx

theorem controlSent_putSlot {k : Ctl} {beacon : Bool} {x : SlotContent} (hb : beacon = false) (hx : x.control = some (ctlArg k))
    (drop corrupt : Bool) (now : Nat) (s : State) : ControlSent k s.ports[p]
      (modPort p (fun q => { q with rx := q.rx.map (reported now) }) (putSlot p beacon x drop corrupt s)).ports[p] := by
  subst hb
  obtain ⟨link, mc, owed, replays⟩ := putSlot_keeps (p := p) false x drop corrupt s
  have control := putSlot_control (p := p) s false x drop corrupt
  rw [Fin.getElem_fin (modPort _ _ _).ports, modPort_self]
  exact ⟨⟨link, mc, owed, replays⟩, control.trans hx, putSlot_txSlot x drop corrupt s, putSlot_tx false x drop corrupt s⟩

theorem putControl_sent {k : Ctl} (h : s.ports[p].sieve.live = 0) (hk : ∀ full m, k ≠ .beacon full m) :
    ControlSent k s.ports[p] (putControl p k s).ports[p] := by
  unfold putControl
  rw [slotChoices_of_not_live h]
  refine controlSent_putSlot ?_ rfl false false _ s
  cases k with
  | beacon full m => exact absurd rfl (hk full m)
  | _ => rfl

/-- R169: a NAK notes the numbers it names on the receive side only. -/
theorem putNak_sent (h : s.ports[p].sieve.live = 0) :
    ControlSent (.nak (nakList s.ports[p])) s.ports[p] (putNak p s).ports[p] := by
  have sent := putControl_sent (k := .nak (nakList s.ports[p])) h (fun _ _ => nofun)
  have noted (l : List Cls) (f : Cls → RxCls → RxCls) (t : State) (ht : ControlSent (.nak (nakList s.ports[p])) s.ports[p] t.ports[p]) :
      ControlSent (.nak (nakList s.ports[p])) s.ports[p] (l.foldl (fun u c => modRx p c (f c) u) t).ports[p] := by
    induction l generalizing t with
    | nil => exact ht
    | cons c l ih =>
      refine ih _ ?_
      obtain ⟨⟨link, mc, owed, replays⟩, control, txSlot, tx⟩ := ht
      rw [Fin.getElem_fin (modRx _ _ _ _).ports, modRx_self]
      exact ⟨⟨link, mc, owed, replays⟩, control, txSlot, tx⟩
  exact noted _ _ _ sent

/-! ## Data shingles, with no sieve kind in force -/

/-- A slot that carries number n of class c, from the class's transmit side `t`. -/
structure DataSent (c : Cls) (n : Seq) (t : TxCls) (r : Port) : Prop where
  last   : ∃ x, r.line.last = some x ∧ x.control = none ∧ x.cls = c ∧ x.seq = n
  next   : r.tx[c].next = t.next
  closed : r.tx[c].closed = t.closed
  seqs   : launchedSeqs r.tx[c] = launchedSeqs t

theorem dataSent_putSlot {c : Cls} {n : Seq} {x : SlotContent} (hc : x.control = none) (hk : x.cls = c) (hn : x.seq = n)
    {f : LaunchedSh → LaunchedSh} (hf : ∀ e, (f e).seq = e.seq) (d : Cls) (g : RxCls → RxCls) (u : State) :
    DataSent c n u.ports[p].tx[c]
      (modTx p c (fun t => { t with launched := t.launched.map f }) (modRx p d g (putSlot p false x false false u))).ports[p] := by
  obtain ⟨y, last, control, cls, seq⟩ := putSlot_last (p := p) false x false false u
  have tx := putSlot_tx (p := p) false x false false u
  have reported_tx : (modRx p d g (putSlot p false x false false u)).ports[p].tx = (putSlot p false x false false u).ports[p].tx := by simp
  have seqs := modTx_tx_launchedSeqs_map (p := p) (c := c) hf (modRx p d g (putSlot p false x false false u))
  constructor
  · exact ⟨y, by simpa using last, control.trans hc, cls.trans hk, seq.trans hn⟩
  · rw [modTx_tx, reported_tx, tx]
  · rw [modTx_tx, reported_tx, tx]
  · rw [seqs, reported_tx, tx]

/-- R151, R171: what a launched number's slot does, with no sieve kind in force. -/
theorem putData_eq {c : Cls} {n : Seq} {again : Bool} {at_ : Nat} (h : s.ports[p].sieve.live = 0)
    (hn : n ∈ launchedSeqs s.ports[p].tx[c]) : ∃ (u : State) (x : SlotContent) (f : LaunchedSh → LaunchedSh) (d : Cls) (g : RxCls → RxCls),
    (∃ led, u.ports[p] = { s.ports[p] with led := led }) ∧ x.control = none ∧ x.cls = c ∧ x.seq = n ∧ (∀ e, (f e).seq = e.seq)
    ∧ putData p c n again at_ s =
      doIf again (modCnt p (fun k => { k with replays := bump c.val 1 k.replays }))
        (modTx p c (fun t => { t with launched := t.launched.map f }) (modRx p d g (putSlot p false x false false u))) := by
  obtain ⟨e, found⟩ := find_of_mem_launchedSeqs hn
  have entered : ∃ led, (if again && !e.unsent then s else enterLosses p c e s).ports[p] = { s.ports[p] with led := led } := by
    split
    · exact ⟨_, rfl⟩
    · exact enterLosses_self c e s
  have live : (if again && !e.unsent then s else enterLosses p c e s).ports[p].sieve.live = 0 := by
    obtain ⟨led, self⟩ := entered
    rw [self]
    exact h
  unfold putData
  rw [found]
  dsimp only
  simp only [slotChoices_of_not_live live]
  refine ⟨_, _, _, _, _, entered, ?_, ?_, ?_, ?_, rfl⟩
  · rfl
  · rfl
  · rfl
  · intro y
    split <;> rfl

/-- R151, R171: a launched number goes out, and is counted where it is a replay. -/
theorem putData_sent {c : Cls} {n : Seq} {again : Bool} {at_ : Nat} (h : s.ports[p].sieve.live = 0)
    (hn : n ∈ launchedSeqs s.ports[p].tx[c]) :
    DataSent c n s.ports[p].tx[c] (putData p c n again at_ s).ports[p]
    ∧ (putData p c n again at_ s).ports[p].cnt.replays =
      if again then bump c.val 1 s.ports[p].cnt.replays else s.ports[p].cnt.replays := by
  obtain ⟨u, x, f, d, g, ⟨led, self⟩, hc, hk, hx, hf, slot⟩ := putData_eq (again := again) (at_ := at_) h hn
  have sent := dataSent_putSlot (p := p) hc hk hx hf d g u
  have replays := (putSlot_keeps (p := p) false x false false u).replays
  rw [self] at sent replays
  rw [slot]
  cases again with
  | false => exact ⟨sent, by simpa [doIf] using replays⟩
  | true =>
    obtain ⟨last, next, closed, seqs⟩ := sent
    refine ⟨⟨?_, ?_, ?_, ?_⟩, ?_⟩
    · simpa [doIf] using last
    · simpa [doIf] using next
    · simpa [doIf] using closed
    · simpa [doIf] using seqs
    · simpa [doIf] using congrArg (bump c.val 1) replays

/-! ## The order of R170 -/

theorem putFirst_class {at_ : Nat} {c : Cls} (hm : s.ports[p].mc.marks = none) (ho : s.ports[p].line.owed = [])
    (lower : ∀ d : Cls, d < c → classReady s.ports[p] d = false) (noNak : c ≠ 0 → nakList s.ports[p] = [])
    (ready : classReady s.ports[p] c = true) : putFirst p at_ s = putClass p c at_ s := by
  rw [putFirst_none_owed (by rw [hm]; nofun) ho]
  match c with
  | 0 => rw [if_pos ready]
  | 1 =>
    simp only [lower 0 (by decide), noNak (by decide), ready, List.isEmpty_nil, Bool.not_true, Bool.false_eq_true, if_false, if_true]
  | 2 =>
    simp only [lower 0 (by decide), lower 1 (by decide), noNak (by decide), ready, List.isEmpty_nil, Bool.not_true,
      Bool.false_eq_true, if_false, if_true]
  | 3 =>
    simp only [lower 0 (by decide), lower 1 (by decide), lower 2 (by decide), noNak (by decide), ready, List.isEmpty_nil,
      Bool.not_true, Bool.false_eq_true, if_false, if_true]

theorem putFirst_nak {at_ : Nat} (hm : s.ports[p].mc.marks = none) (ho : s.ports[p].line.owed = [])
    (h0 : classReady s.ports[p] 0 = false) (hn : nakList s.ports[p] ≠ []) : putFirst p at_ s = putNak p s := by
  rw [putFirst_none_owed (by rw [hm]; nofun) ho, h0, if_neg Bool.false_ne_true, if_pos (by simpa using hn)]

theorem putFirst_idle {at_ : Nat} (hm : s.ports[p].mc.marks = none) (ho : s.ports[p].line.owed = [])
    (hc : ∀ c : Cls, classReady s.ports[p] c = false) (hn : nakList s.ports[p] = []) : putFirst p at_ s = putIdle p s := by
  rw [putFirst_none_owed (by rw [hm]; nofun) ho]
  simp only [hc, hn, List.isEmpty_nil, Bool.not_true, Bool.false_eq_true, if_false]

/-! ## The class's shingle -/

/-- R171: the oldest shingle due for replay goes first. -/
theorem putClass_due {c : Cls} {at_ : Nat} {e : LaunchedSh} (hd : dueOf s.ports[p].tx[c] = some e) (hu : e.unsent = false) :
    putClass p c at_ s = putData p c e.seq true at_ s := by
  unfold putClass
  rw [hd]
  dsimp only
  rw [hu]
  rfl

/-- R165, R168: with none due and no gap record, the oldest closed payload goes with the class's next number. -/
theorem putClass_closed {c : Cls} {at_ : Nat} {w : Payload} {rest : List Payload} (h : s.ports[p].sieve.live = 0)
    (hs : s.ports[p].sieve.swapOut = none) (hd : dueOf s.ports[p].tx[c] = none) (hg : s.ports[p].tx[c].gapRec = none)
    (hc : s.ports[p].tx[c].closed = w :: rest) (hw : w.held = false) : ∃ (e : LaunchedSh) (v : State), e.seq = s.ports[p].tx[c].next
    ∧ v.ports[p].tx[c] = { s.ports[p].tx[c] with
        closed := rest, next := s.ports[p].tx[c].next + 1, launched := s.ports[p].tx[c].launched ++ [e] }
    ∧ v.ports[p].sieve.live = 0 ∧ v.ports[p].cnt = s.ports[p].cnt
    ∧ putClass p c at_ s = putData p c s.ports[p].tx[c].next false at_ v := by
  obtain ⟨e, he, next⟩ := numberNext_closed hg hc hw
  have turn : swapTurn s.ports[p] c = none := by rw [swapTurn, hs]
  have due : swapDue s.ports[p] = false := by
    rw [swapDue, sieveLive_of_not_live h]
    rfl
  have closed : closeAtBoundary p c 1 s = s := by
    unfold closeAtBoundary
    dsimp only
    rw [hg, hc]
    simp
  refine ⟨e, modTx p c (fun x => { x with closed := rest, next := x.next + 1, launched := x.launched ++ [e] }) s, he, modTx_tx c _ s,
    by simpa using h, by simp, ?_⟩
  unfold putClass
  rw [hd]
  dsimp only
  unfold putFresh
  rw [turn]
  dsimp only
  rw [due, Bool.false_and, if_neg Bool.false_ne_true, closed, due, if_neg Bool.false_ne_true, next]

end

end Sys2Proof.Machine
end

section
/-! PROOF. The slot boundary of a port that launches (R87, R147, R168, R170, R171): what each choice of R170 puts on the line. -/

namespace Sys2Proof.Machine

section
variable {p : PortId} {s : State}

/-- A port that is up in an Etoon mode with its transmitter active, and nothing pending at its next boundary. -/
structure Launching (q : Port) : Prop extends NothingPending q where
  up     : q.link.up = true
  etoon  : (etoonMode q).isSome = true
  active : q.line.txLpi = .active

/-- R168, R170: such a port's slot is chosen from what it held before the boundary. -/
theorem Launching.exec {at_ : Nat} (h : Launching s.ports[p]) :
    ∃ u, choice p u = choice p s ∧ Machine.exec (.launchSlot p at_) s = .next (putFirst p at_ u) :=
  ⟨slotStart p s, choice_slotStart h.toNothingPending, exec_launchSlot_active h.up h.etoon h.active⟩

/-! ## Control shingles -/

/-- The slot carries control shingle k and leaves the transmit side of every class. -/
def ControlOut (q r : Port) (k : Ctl) : Prop :=
  r.line.last.bind Launched.control = some (ctlArg k) ∧ r.line.txSlot = q.line.txSlot + 1 ∧ r.tx = q.tx

theorem ControlSent.out {k : Ctl} {q v r : Port} (h : ControlSent k v r) (hl : v.line.txSlot = q.line.txSlot) (ht : v.tx = q.tx) :
    ControlOut q r k := ⟨h.control, h.txSlot.trans (congrArg (· + 1) hl), h.tx.trans ht⟩

/-- R143: a MARK of the countdown. -/
theorem launchSlot_mark {at_ k : Nat} (h : Launching s.ports[p]) (hm : s.ports[p].mc.marks = some (k + 1)) :
    ∃ t, exec (.launchSlot p at_) s = .next t ∧ ControlOut s.ports[p] t.ports[p] (.mark (k + 1) s.ports[p].mc.epoch)
      ∧ t.ports[p].mc = { s.ports[p].mc with marks := some k } ∧ t.ports[p].line.owed = s.ports[p].line.owed := by
  obtain ⟨u, same, slot⟩ := h.exec (at_ := at_)
  have mc := mc_eq_of_choice same
  have counted := modMc_self u p (fun m => { m with marks := some k })
  have sent := putControl_sent (p := p) (s := modMc p (fun m => { m with marks := some k }) u) (k := .mark (k + 1) s.ports[p].mc.epoch)
    (by rw [Fin.getElem_fin, counted]; exact (sieve_eq_of_choice same).1.trans h.live) (fun _ _ => nofun)
  rw [Fin.getElem_fin (modMc _ _ _).ports, counted] at sent
  rw [putFirst_mark (by rw [mc, hm]), mc] at slot
  have line := line_eq_of_choice same
  exact ⟨_, slot, sent.out (congrArg Line.txSlot line :) (tx_eq_of_choice same),
    sent.kept.mc.trans (congrArg (fun m : ModeChange => { m with marks := some k }) mc :), sent.kept.owed.trans (congrArg Line.owed line :)⟩

/-- R170: an item that an active sequence demands. -/
theorem launchSlot_owed {at_ : Nat} {k : Ctl} {rest : List Ctl} (h : Launching s.ports[p]) (hm : s.ports[p].mc.marks = none)
    (ho : s.ports[p].line.owed = k :: rest) (hk : ∀ full m, k ≠ .beacon full m) :
    ∃ u, exec (.launchSlot p at_) s = .next (afterControl p k u) ∧ ControlOut s.ports[p] u.ports[p] k
      ∧ u.ports[p].line.owed = rest ∧ u.ports[p].link = s.ports[p].link := by
  obtain ⟨u, same, slot⟩ := h.exec (at_ := at_)
  have line := line_eq_of_choice same
  have taken := modLine_self u p (fun l => { l with owed := rest })
  have sent := putControl_sent (p := p) (s := modLine p (fun l => { l with owed := rest }) u) (k := k)
    (by rw [Fin.getElem_fin, taken]; exact (sieve_eq_of_choice same).1.trans h.live) hk
  rw [Fin.getElem_fin (modLine _ _ _).ports, taken] at sent
  rw [putFirst_owed (by rw [mc_eq_of_choice same, hm]; nofun) (by rw [line, ho])] at slot
  exact ⟨_, slot, sent.out (congrArg Line.txSlot line :) (tx_eq_of_choice same), sent.kept.owed,
    sent.kept.link.trans (link_eq_of_choice same)⟩

/-- R164: a NAK that is owed. -/
theorem launchSlot_nak {at_ : Nat} (h : Launching s.ports[p]) (hm : s.ports[p].mc.marks = none) (ho : s.ports[p].line.owed = [])
    (h0 : classReady s.ports[p] 0 = false) (hn : nakList s.ports[p] ≠ []) :
    ∃ t, exec (.launchSlot p at_) s = .next t ∧ ControlOut s.ports[p] t.ports[p] (.nak (nakList s.ports[p])) := by
  obtain ⟨u, same, slot⟩ := h.exec (at_ := at_)
  have line := line_eq_of_choice same
  have sent := putNak_sent (p := p) ((sieve_eq_of_choice same).1.trans h.live)
  rw [nakList_eq_of_choice same] at sent
  rw [putFirst_nak (by rw [mc_eq_of_choice same, hm]) (by rw [line, ho]) (by rw [classReady_eq_of_choice same, h0])
    (by rwa [nakList_eq_of_choice same])] at slot
  exact ⟨_, slot, sent.out (congrArg Line.txSlot line :) (tx_eq_of_choice same)⟩

/-- R122: IDLE, where nothing else is held. -/
theorem launchSlot_idle {at_ : Nat} (h : Launching s.ports[p]) (hm : s.ports[p].mc.marks = none) (ho : s.ports[p].line.owed = [])
    (hc : ∀ c : Cls, classReady s.ports[p] c = false) (hn : nakList s.ports[p] = []) :
    ∃ t, exec (.launchSlot p at_) s = .next t ∧ ControlOut s.ports[p] t.ports[p] (.idle true) := by
  obtain ⟨u, same, slot⟩ := h.exec (at_ := at_)
  have line := line_eq_of_choice same
  have sent := putControl_sent (p := p) (s := u) (k := .idle true) ((sieve_eq_of_choice same).1.trans h.live) (fun _ _ => nofun)
  rw [putFirst_idle (by rw [mc_eq_of_choice same, hm]) (by rw [line, ho]) (fun c => by rw [classReady_eq_of_choice same, hc])
    (by rw [nakList_eq_of_choice same, hn]), putIdle, link_eq_of_choice same, h.up, Bool.true_or] at slot
  exact ⟨_, slot, sent.out (congrArg Line.txSlot line :) (tx_eq_of_choice same)⟩

/-! ## What follows a control shingle of a sleep handshake (R147) -/

theorem closeToQuiet_out {k : Ctl} {q : Port} {u : State} (h : ControlOut q u.ports[p] k) :
    ControlOut q (closeToQuiet p (modLink p (fun l => { l with sleepSent := true }) u)).ports[p] k
    ∧ (closeToQuiet p (modLink p (fun l => { l with sleepSent := true }) u)).ports[p].line.txLpi = .entering
    ∧ (closeToQuiet p (modLink p (fun l => { l with sleepSent := true }) u)).ports[p].link.sleepSent = true := by
  rw [closeToQuiet_self, Fin.getElem_fin (modLink _ _ _).ports, modLink_self]
  exact ⟨h, rfl, rfl⟩

/-- R147: a port in an Etoon mode falls asleep with its link down and its driver at level 0. -/
theorem fallAsleep_etoon {u : State} (hu : u.ports[p].link.up = true) (hs : inStd u.ports[p] = false) :
    (fallAsleep p u).ports[p].link.up = false ∧ (fallAsleep p u).ports[p].link.asleep = true
    ∧ (fallAsleep p u).ports[p].link.downCause = .sleep ∧ (fallAsleep p u).ports[p].line.driver = .zero := by
  have record := lineRecord_declareDown p u (c := .sleep) hu
  have down : (declareDown p .sleep u).ports[p].link.up = false := congrArg LineRecord.up record
  have cause : (declareDown p .sleep u).ports[p].link.downCause = .sleep := congrArg LineRecord.downCause record
  unfold fallAsleep
  rw [if_neg (by rw [hs]; exact Bool.false_ne_true)]
  simp only [release, Fin.getElem_fin, modLine_self, modPort_self, modLink_self] at down cause ⊢
  exact ⟨down, trivial, cause, trivial⟩

/-! ## Data shingles -/

/-- R171: the oldest shingle due for replay, of the first class that holds something. -/
theorem launchSlot_replay {at_ : Nat} {c : Cls} {e : LaunchedSh} (h : Launching s.ports[p]) (hm : s.ports[p].mc.marks = none)
    (ho : s.ports[p].line.owed = []) (lower : ∀ d : Cls, d < c → classReady s.ports[p] d = false)
    (noNak : c ≠ 0 → nakList s.ports[p] = []) (hd : dueOf s.ports[p].tx[c] = some e) (he : e.unsent = false) :
    ∃ t, exec (.launchSlot p at_) s = .next t ∧ DataSent c e.seq s.ports[p].tx[c] t.ports[p]
      ∧ t.ports[p].cnt.replays = bump c.val 1 s.ports[p].cnt.replays := by
  obtain ⟨u, same, slot⟩ := h.exec (at_ := at_)
  have tx := tx_eq_of_choice same
  have ready : classReady u.ports[p] c = true := by rw [classReady_eq_of_choice same, classReady, hd]; rfl
  have due : dueOf u.ports[p].tx[c] = some e := by rw [tx, hd]
  have sent := putData_sent (p := p) (s := u) (c := c) (n := e.seq) (again := true) (at_ := at_)
    ((sieve_eq_of_choice same).1.trans h.live) (List.mem_map.mpr ⟨e, List.mem_of_find?_eq_some due, rfl⟩)
  rw [putFirst_class (by rw [mc_eq_of_choice same, hm]) (by rw [line_eq_of_choice same, ho])
    (fun d hd => by rw [classReady_eq_of_choice same, lower d hd]) (fun hc => by rw [nakList_eq_of_choice same, noNak hc]) ready,
    putClass_due due he] at slot
  rw [tx, cnt_eq_of_choice same] at sent
  exact ⟨_, slot, sent⟩

/-- R165, R168: the oldest closed payload of the first class that holds something, with the class's next number. -/
theorem launchSlot_first {at_ : Nat} {c : Cls} {w : Payload} {rest : List Payload} (h : Launching s.ports[p])
    (hm : s.ports[p].mc.marks = none) (ho : s.ports[p].line.owed = []) (lower : ∀ d : Cls, d < c → classReady s.ports[p] d = false)
    (noNak : c ≠ 0 → nakList s.ports[p] = []) (hd : dueOf s.ports[p].tx[c] = none) (hg : s.ports[p].tx[c].gapRec = none)
    (hc : s.ports[p].tx[c].closed = w :: rest) (hw : w.held = false) (hl : s.ports[p].tx[c].launched.length < 4096) :
    ∃ t, ∃ e : LaunchedSh, exec (.launchSlot p at_) s = .next t ∧ e.seq = s.ports[p].tx[c].next
      ∧ DataSent c s.ports[p].tx[c].next
          { s.ports[p].tx[c] with closed := rest, next := s.ports[p].tx[c].next + 1, launched := s.ports[p].tx[c].launched ++ [e] }
          t.ports[p]
      ∧ t.ports[p].cnt.replays = s.ports[p].cnt.replays := by
  obtain ⟨u, same, slot⟩ := h.exec (at_ := at_)
  have tx := tx_eq_of_choice same
  obtain ⟨live, swap, -⟩ := sieve_eq_of_choice same
  have ready : classReady u.ports[p] c = true := by
    have one : 0 < freshCount s.ports[p] c := by
      simp only [freshCount, hg, hc, List.takeWhile_cons_of_pos (p := fun w : Payload => !w.held) (a := w) (by rw [hw]; rfl)]
      simp only [List.length_cons]
      omega
    rw [classReady_eq_of_choice same, classReady, freshReady, decide_eq_true hl, decide_eq_true one]
    exact Bool.or_true _
  obtain ⟨e, v, he, numbered, liveV, cntV, next⟩ := putClass_closed (p := p) (s := u) (c := c) (at_ := at_) (w := w) (rest := rest)
    (live.trans h.live) (swap.trans h.swapOut) (by rw [tx, hd]) (by rw [tx, hg]) (by rw [tx, hc]) hw
  rw [tx] at he numbered next
  have joined : s.ports[p].tx[c].next ∈ launchedSeqs v.ports[p].tx[c] := by
    rw [numbered, ← he]
    exact List.mem_map_of_mem (List.mem_append_right _ (List.mem_singleton_self e))
  have sent := putData_sent (again := false) (at_ := at_) liveV joined
  rw [putFirst_class (by rw [mc_eq_of_choice same, hm]) (by rw [line_eq_of_choice same, ho])
    (fun d hd => by rw [classReady_eq_of_choice same, lower d hd]) (fun hc => by rw [nakList_eq_of_choice same, noNak hc]) ready,
    next] at slot
  rw [numbered, cntV, cnt_eq_of_choice same] at sent
  exact ⟨_, e, slot, he, sent⟩

/-! ## A port whose slots do not run -/

/-- R147: on a port that is down, out of phase S and without a beacon to send, a boundary only switches a silent driver off. -/
theorem launchSlot_down {at_ : Nat} (hs : inStd s.ports[p] = false) (hu : s.ports[p].link.up = false) (hp : s.ports[p].link.phase ≠ .s)
    (hb : beaconOwed s.ports[p] = false) : exec (.launchSlot p at_) s = .next (driverOff p s) := by
  have still : slotsRun s.ports[p] = false := by rw [slotsRun, hu, decide_eq_false hp]; rfl
  change Host.Outcome.next (if inStd s.ports[p] then _ else launch p at_ s) = _
  rw [hs, if_neg Bool.false_ne_true]
  unfold launch
  dsimp only
  rw [hu, hb, still]
  rfl

end

/-- Settles O14: a slot's counts go up by one whatever is chosen (`slotCounts_putFirst`); where nothing is pending, the choice is R170's. -/
theorem everySlotLaunchesOneShingle : Obligations.EverySlotLaunchesOneShingle := by
  unfold Obligations.EverySlotLaunchesOneShingle
  refine ⟨fun s p at_ hu he ha hs => ?once, fun s p at_ hu he ha hl hd hi hw hsl hls => ?chosen,
    fun s p at_ hs hu hp hb => launchSlot_down hs hu hp hb⟩
  case once =>
    obtain ⟨t, next, counts⟩ := launchSlot_once (at_ := at_) hu he ha hs
    exact ⟨t, next, congrArg SlotCounts.launches counts, congrArg SlotCounts.sent counts⟩
  case chosen =>
    have launching (hm : s.ports[p].mc.marks ≠ some 0) : Launching s.ports[p] := ⟨⟨hl, hd, hi, hw, hsl, hls, hm⟩, hu, he, ha⟩
    refine ⟨fun k hm => launchSlot_mark (launching (by rw [hm]; nofun)) hm, fun hm => ?_⟩
    have h := launching (by rw [hm]; nofun)
    refine ⟨fun rest => ?owed, fun ho => ⟨fun c lower noNak => ⟨fun e due sent => ?replay, fun w rest hd hg hc hw hl => ?first⟩,
      launchSlot_nak h hm ho, launchSlot_idle h hm ho⟩⟩
    case owed =>
      have launched {k : Ctl} (ho : s.ports[p].line.owed = k :: rest) (hk : ∀ full m, k ≠ .beacon full m) :=
        launchSlot_owed (at_ := at_) h hm ho hk
      refine ⟨fun m ep ho => ?_, fun r ep ho => ?_, fun ho => ?_, fun ho => ?_, fun ho => ?_⟩
      · obtain ⟨u, next, out, owed, -⟩ := launched ho (fun _ _ => nofun)
        exact ⟨u, next, out, owed⟩
      · obtain ⟨u, next, out, owed, -⟩ := launched ho (fun _ _ => nofun)
        exact ⟨u, next, out, owed⟩
      · obtain ⟨u, next, out, owed, -⟩ := launched ho (fun _ _ => nofun)
        exact ⟨u, next, out, owed⟩
      · obtain ⟨u, next, out, -⟩ := launched ho (fun _ _ => nofun)
        exact ⟨_, next, closeToQuiet_out out⟩
      · obtain ⟨u, next, -, -, link⟩ := launched ho (fun _ _ => nofun)
        exact ⟨_, next, fallAsleep_etoon (by rw [link, hu]) (inStd_of_etoonMode (by rwa [etoonMode, link]))⟩
    case replay =>
      obtain ⟨t, next, ⟨⟨x, last, control, cls, seq⟩, number, closed, seqs⟩, replays⟩ :=
        launchSlot_replay (at_ := at_) h hm ho lower noNak due sent
      exact ⟨t, x, next, last, control, cls, seq, number, closed, seqs, replays⟩
    case first =>
      obtain ⟨t, e, next, he, ⟨⟨x, last, control, cls, seq⟩, number, closed, seqs⟩, replays⟩ :=
        launchSlot_first (at_ := at_) h hm ho lower noNak hd hg hc hw hl
      exact ⟨t, x, next, last, control, cls, seq, number, closed, seqs.trans (by simp [launchedSeqs, he]), replays⟩

end Sys2Proof.Machine
end

section
/-! PROOF. One port changed after another (`OnlyPort`), and the wake request (R103) that many commands end with. -/

namespace Sys2Proof.Machine

section
variable {p : PortId} {s : State}

theorem onlyPort_modPort (f : Port → Port) : OnlyPort p s (modPort p f s) := ⟨rfl, fun q hq => modPort_other s p q f hq⟩

theorem OnlyPort.trans {t u : State} (h : OnlyPort p s t) (g : OnlyPort p t u) : OnlyPort p s u := by
  obtain ⟨ht, hq⟩ := h
  obtain ⟨gu, gq⟩ := g
  exact ⟨by rw [gu, ht], fun q hp => (gq q hp).trans (hq q hp)⟩

/-- R103: a wake request marks a transmitter that is not active. -/
theorem wakeRequest_self {q : Port} (hq : s.ports[p] = q) : (wakeRequest p s).ports[p] =
    { q with line := if q.line.txLpi = .active then q.line else { q.line with wakeWanted := true } } := by
  subst hq
  exact modLine_self s p _

theorem onlyPort_wakeRequest (s : State) : OnlyPort p s (wakeRequest p s) :=
  ⟨rfl, fun q hq => modLine_other s p _ q hq⟩

end

end Sys2Proof.Machine
end

section
/-! PROOF. Acknowledgements, NAKs and replays (R161, R164, R167, R169, R171): what a control shingle's ack block frees of a class's launched
shingles, and what makes those that remain due. -/

namespace Sys2Proof.Machine

section
variable {p : PortId} {s : State}

/-! ## What leaves the transmit side of every class alone -/

theorem pfcCheck_tx (s : State) : (pfcCheck p s).ports[p].tx = s.ports[p].tx := by
  obtain ⟨paused, owed, self⟩ := pfcCheck_self (p := p) s
  rw [self]

theorem modTrain_tx (f : Train → Train) (s : State) : (modTrain p f s).ports[p].tx = s.ports[p].tx := by
  simp only [Fin.getElem_fin, modTrain_self]

theorem partnerAwake_tx (s : State) : (partnerAwake p s).ports[p].tx = s.ports[p].tx := by
  simp only [partnerAwake, Fin.getElem_fin, modLine_self]

theorem slotGood_tx (corr : Fin 9) (s : State) : (slotGood p corr s).ports[p].tx = s.ports[p].tx := by
  simp only [slotGood, noteDecode, Fin.getElem_fin, modDsp_self, modPort_self]

theorem checkLinkUp_tx (s : State) : (checkLinkUp p s).ports[p].tx = s.ports[p].tx := by
  unfold checkLinkUp
  dsimp only
  split
  · simp only [linkUp, raise_ports, Fin.getElem_fin, modPort_self]
  · rfl

/-! ## The ack block (R161, R167) -/

/-- A view of the state that class c alone changes is as class c leaves it. -/
theorem forClasses_view {β : Type} (g : State → β) (c : Cls) (f : Cls → State → State)
    (others : ∀ d t, d ≠ c → g (f d t) = g t) (s : State) : ∃ u, g u = g s ∧ g (forClasses f s) = g (f c u) := by
  have kept (l : List Cls) (hl : c ∉ l) (t : State) : g (l.foldl (fun t d => f d t) t) = g t := by
    induction l generalizing t with
    | nil => rfl
    | cons d l ih =>
      exact (ih (fun h => hl (List.mem_cons_of_mem d h)) (f d t)).trans (others d t fun h => hl (h ▸ List.mem_cons_self))
  obtain ⟨before, after, split⟩ := List.append_of_mem (List.mem_finRange c)
  have nodup := List.nodup_finRange 4
  rw [split] at nodup
  obtain ⟨-, tail, apart⟩ := List.nodup_append'.mp nodup
  refine ⟨before.foldl (fun t d => f d t) s, kept before (fun h => apart h List.mem_cons_self) s, ?_⟩
  unfold forClasses
  rw [split, List.foldl_append, List.foldl_cons]
  exact kept after (List.nodup_cons.mp tail).1 _

/-- The number of a class's oldest unacknowledged shingle, or the next one to give. -/
def ackFrom (x : TxCls) : Seq := match x.launched with | e :: _ => e.seq | [] => x.next

theorem ackFrom_of_cons {x : TxCls} {e : LaunchedSh} {rest : List LaunchedSh} (h : x.launched = e :: rest) : ackFrom x = e.seq := by
  simp only [ackFrom, h]

/-- R167: the shingle stands before the number that an acknowledgement gives. -/
def ackedBy (a : Seq) (x : TxCls) (e : LaunchedSh) : Bool := decide ((e.seq - ackFrom x).toNat < (a - ackFrom x).toNat)

/-- R167: the shingles that an acknowledgement leaves launched. -/
def unacked (a : Seq) (x : TxCls) : List LaunchedSh :=
  if (a - ackFrom x).toNat ≤ (x.next - ackFrom x).toNat then x.launched.filter (fun e => !ackedBy a x e) else x.launched

/-- R167: an acknowledgement that names the oldest launched shingle frees none. -/
theorem unacked_ackFrom (x : TxCls) : unacked (ackFrom x) x = x.launched := by simp [unacked, ackedBy]

theorem grantOwed_tx (c : Cls) (s : State) : ∃ w,
    (grantOwed p c s).ports[p].tx = s.ports[p].tx.set c { s.ports[p].tx[c] with openP := w } := by
  unfold grantOwed
  split
  · exact ⟨_, congrArg Port.tx (modPort_self s p _)⟩
  · exact ⟨s.ports[p].tx[c].openP, (Vector.set_getElem_self _).symm⟩

/-- R167: an acknowledgement frees shingles of its class, which may get an OPEN payload for a loss tag it owes (R174). -/
theorem acceptAck_tx (c : Cls) (a : Seq) (s : State) : ∃ w, (acceptAck p c a s).ports[p].tx =
    s.ports[p].tx.set c { s.ports[p].tx[c] with launched := unacked a s.ports[p].tx[c], openP := w } := by
  have branches : acceptAck p c a s = if (a - ackFrom s.ports[p].tx[c]).toNat ≤ (s.ports[p].tx[c].next - ackFrom s.ports[p].tx[c]).toNat
      then grantOwed p c (modTx p c (fun t => { t with launched := t.launched.filter (fun e => !ackedBy a s.ports[p].tx[c] e) }) s)
      else modCnt p (fun n => { n with ackInvalid := sat32 (n.ackInvalid + 1) }) s := rfl
  rw [branches]
  unfold unacked
  split
  · obtain ⟨w, tx⟩ := grantOwed_tx (p := p) c
      (modTx p c (fun t => { t with launched := t.launched.filter (fun e => !ackedBy a s.ports[p].tx[c] e) }) s)
    refine ⟨w, tx.trans ?_⟩
    simp only [Fin.getElem_fin, modTx_self, Vector.getElem_set_self, Vector.set_set]
  · refine ⟨s.ports[p].tx[c].openP, ?_⟩
    rw [Fin.getElem_fin, modCnt_self]
    exact (Vector.set_getElem_self _).symm

theorem acceptBlock_tx (c : Cls) (a : AckBlock) (s : State) : ∃ w, (acceptBlock p a s).ports[p].tx[c] =
    { s.ports[p].tx[c] with launched := unacked (ackFor a c) s.ports[p].tx[c], openP := w } := by
  have others (d : Cls) (t : State) (hd : d ≠ c) : (acceptAck p d (ackFor a d) t).ports[p].tx[c] = t.ports[p].tx[c] := by
    obtain ⟨w, tx⟩ := acceptAck_tx (p := p) d (ackFor a d) t
    rw [tx]
    exact Vector.getElem_set_ne _ _ (Fin.val_ne_of_ne hd)
  obtain ⟨u, same, all⟩ := forClasses_view (fun t => t.ports[p].tx[c]) c (fun c t => acceptAck p c (ackFor a c) t) others s
  obtain ⟨w, tx⟩ := acceptAck_tx (p := p) c (ackFor a c) u
  refine ⟨w, ?_⟩
  rw [acceptBlock, pfcCheck_tx, all, tx, ← same]
  exact Vector.getElem_set_self _

/-- R161: what a control shingle that is received does to the transmit side, with the effect f of its own. -/
theorem onControl_tx {a : AckBlock} {corr : Fin 9} {f : State → State} (h : receiving s.ports[p] = true) (c : Cls) : ∃ u w,
    u.ports[p].tx[c] = { s.ports[p].tx[c] with launched := unacked (ackFor a c) s.ports[p].tx[c], openP := w }
    ∧ (onControl p a corr f s).ports[p].tx = (f u).ports[p].tx := by
  obtain ⟨w, tx⟩ := acceptBlock_tx (p := p) c a (slotGood p corr s)
  rw [slotGood_tx] at tx
  refine ⟨controlIn p a corr s, w, tx, ?_⟩
  obtain ⟨collected, heard⟩ := Bool.and_eq_true_iff.mp h
  have uncut : inputCut s.ports[p] = false := by simpa using heard
  rw [onControl, onSlot, if_neg (by rw [collected]; nofun), if_neg (by rw [uncut]; nofun), checkLinkUp_tx]

/-! ## NAKs (R164, R171) -/

/-- R171: a shingle made due. -/
def madeDue (e : LaunchedSh) : LaunchedSh := { e with due := true }

/-- R171: what a NAK's entry makes of a launched shingle. -/
def markNamed (now : Nat) (n : Cls × Seq × Nat) (e : LaunchedSh) : LaunchedSh :=
  if (e.seq - n.2.1).toNat < n.2.2 ∧ nakDue now e then madeDue e else e

theorem markNamed_cases (now : Nat) (n : Cls × Seq × Nat) (e : LaunchedSh) : markNamed now n e = e ∨ markNamed now n e = madeDue e := by
  unfold markNamed
  split
  · exact .inr rfl
  · exact .inl rfl

theorem applyNak_tx (n : Cls × Seq × Nat) (c : Cls) (s : State) : (applyNak p s n).ports[p].tx[c] = if n.1 = c
    then { s.ports[p].tx[c] with launched := s.ports[p].tx[c].launched.map (markNamed s.ports[p].line.launches n) }
    else s.ports[p].tx[c] := by
  have tx : (applyNak p s n).ports[p].tx = s.ports[p].tx.set n.1 { s.ports[p].tx[n.1] with
      launched := s.ports[p].tx[n.1].launched.map (markNamed s.ports[p].line.launches n) } := congrArg Port.tx (modTx_self s p _ _)
  rw [tx]
  split
  · next h =>
    subst h
    exact Vector.getElem_set_self _
  · next h => exact Vector.getElem_set_ne _ _ (Fin.val_ne_of_ne h)

/-- The numbers given and launched of a class. -/
def numbers (t : TxCls) : Seq × List Seq := (t.next, launchedSeqs t)

theorem launchedSeqs_markNamed (now : Nat) (n : Cls × Seq × Nat) (l : List LaunchedSh) :
    (l.map (markNamed now n)).map LaunchedSh.seq = l.map LaunchedSh.seq := by
  rw [List.map_map]
  refine List.map_congr_left fun e _ => ?_
  rcases markNamed_cases now n e with h | h <;> rw [Function.comp_apply, h]
  rfl

theorem applyNak_numbers (n : Cls × Seq × Nat) (c : Cls) (s : State) :
    numbers (applyNak p s n).ports[p].tx[c] = numbers s.ports[p].tx[c] := by
  rw [applyNak_tx]
  split
  · exact congrArg (Prod.mk _) (launchedSeqs_markNamed _ _ _)
  · rfl

theorem foldl_applyNak_numbers (es : List (Cls × Seq × Nat)) (c : Cls) (s : State) :
    numbers (es.foldl (applyNak p) s).ports[p].tx[c] = numbers s.ports[p].tx[c] := by
  induction es generalizing s with
  | nil => rfl
  | cons n es ih => exact (ih _).trans (applyNak_numbers n c s)

/-- R171: an entry keeps a shingle launched, and due where it is. -/
theorem mem_applyNak {n : Cls × Seq × Nat} {c : Cls} {e : LaunchedSh} (h : e ∈ s.ports[p].tx[c].launched) :
    e ∈ (applyNak p s n).ports[p].tx[c].launched ∨ madeDue e ∈ (applyNak p s n).ports[p].tx[c].launched := by
  rw [applyNak_tx]
  split
  · have marked := List.mem_map_of_mem (f := markNamed s.ports[p].line.launches n) h
    exact (markNamed_cases s.ports[p].line.launches n e).imp (fun same => by rwa [same] at marked)
      (fun due => by rwa [due] at marked)
  · exact .inl h

theorem madeDue_mem_applyNak {n : Cls × Seq × Nat} {c : Cls} {e : LaunchedSh} (h : madeDue e ∈ s.ports[p].tx[c].launched) :
    madeDue e ∈ (applyNak p s n).ports[p].tx[c].launched := (mem_applyNak h).elim id id

theorem madeDue_mem_foldl {es : List (Cls × Seq × Nat)} {c : Cls} {e : LaunchedSh} (h : madeDue e ∈ s.ports[p].tx[c].launched) :
    madeDue e ∈ (es.foldl (applyNak p) s).ports[p].tx[c].launched := by
  induction es generalizing s with
  | nil => exact h
  | cons n es ih => exact ih (madeDue_mem_applyNak h)

/-- R171: the entry that names a shingle not yet replayed makes it due. -/
theorem madeDue_mem_named {k : Nat} {c : Cls} {e : LaunchedSh} (sent : e.unsent = false) (first : e.lastReplay = none)
    (h : e ∈ s.ports[p].tx[c].launched) : madeDue e ∈ (applyNak p s (c, e.seq, k + 1)).ports[p].tx[c].launched := by
  have due : nakDue s.ports[p].line.launches e = true := by simp only [nakDue, sent, first, Bool.not_false, Bool.and_true]
  have named : markNamed s.ports[p].line.launches (c, e.seq, k + 1) e = madeDue e := if_pos ⟨by simp, due⟩
  rw [applyNak_tx, if_pos rfl]
  exact named ▸ List.mem_map_of_mem h

theorem madeDue_mem_nak {es : List (Cls × Seq × Nat)} {k : Nat} {c : Cls} {e : LaunchedSh} (sent : e.unsent = false)
    (first : e.lastReplay = none) (h : e ∈ s.ports[p].tx[c].launched) (named : (c, e.seq, k + 1) ∈ es) :
    madeDue e ∈ (es.foldl (applyNak p) s).ports[p].tx[c].launched := by
  induction es generalizing s with
  | nil => exact absurd named List.not_mem_nil
  | cons n es ih =>
    rcases List.mem_cons.mp named with rfl | later
    · rw [List.foldl_cons]
      exact madeDue_mem_foldl (madeDue_mem_named sent first h)
    · exact (mem_applyNak h).elim (fun still => ih still later) madeDue_mem_foldl

/-! ## A number still missing (R169) -/

theorem wakeIfOwed_self (s : State) : ∃ l, (wakeIfOwed p s).ports[p] = { s.ports[p] with line := l } := by
  unfold wakeIfOwed
  split
  · exact ⟨_, wakeRequest_self rfl⟩
  · exact ⟨s.ports[p].line, rfl⟩

theorem onlyPort_wakeIfOwed (s : State) : OnlyPort p s (wakeIfOwed p s) := by
  unfold wakeIfOwed
  split
  · exact onlyPort_wakeRequest s
  · exact ⟨rfl, fun q hq => rfl⟩

/-! ## The commands -/

/-- R161, R167: of a class's transmit side, IDLE changes the launched shingles, which its ack block frees, and the OPEN payload. -/
theorem exec_idle_tx {synced : Bool} {a : AckBlock} {corr : Fin 9} (h : receiving s.ports[p] = true) (c : Cls) : ∃ t w,
    exec (.idle p synced a corr) s = .next t ∧ t.ports[p].tx[c] =
      { s.ports[p].tx[c] with launched := unacked (ackFor a c) s.ports[p].tx[c], openP := w } := by
  obtain ⟨u, w, tx, after⟩ := onControl_tx (a := a) (corr := corr)
    (f := modTrain p (fun x => { x with partnerSynced := x.partnerSynced || synced })) h c
  refine ⟨_, w, rfl, ?_⟩
  rw [after, modTrain_tx, tx]

/-- R161, R171: after a NAK's ack block, its entries. -/
theorem exec_nak_tx {a : AckBlock} {corr : Fin 9} {body : List Byte} (h : receiving s.ports[p] = true) (c : Cls) : ∃ t u w,
    exec (.nak p a body corr) s = .next t ∧ t.ports[p].tx = ((nakEntries body).foldl (applyNak p) u).ports[p].tx
      ∧ u.ports[p].tx[c] = { s.ports[p].tx[c] with launched := unacked (ackFor a c) s.ports[p].tx[c], openP := w } := by
  obtain ⟨u, w, tx, after⟩ := onControl_tx (a := a) (corr := corr)
    (f := fun t => wakeIfOwed p ((nakEntries body).foldl (applyNak p) (partnerAwake p t))) h c
  obtain ⟨l, woken⟩ := wakeIfOwed_self (p := p) ((nakEntries body).foldl (applyNak p) (partnerAwake p u))
  refine ⟨_, partnerAwake p u, w, rfl, by rw [after, woken], ?_⟩
  rw [partnerAwake_tx, tx]

/-- R171: the NAK's effect on a shingle that it names, not replayed yet, where its ack block frees none. -/
theorem exec_nak_due {a : AckBlock} {corr : Fin 9} {body : List Byte} {c : Cls} {e : LaunchedSh} {k : Nat}
    (h : receiving s.ports[p] = true) (he : e ∈ s.ports[p].tx[c].launched) (oldest : ackFor a c = ackFrom s.ports[p].tx[c])
    (named : (c, e.seq, k + 1) ∈ nakEntries body) (sent : e.unsent = false) (first : e.lastReplay = none) : ∃ t,
    exec (.nak p a body corr) s = .next t ∧ numbers t.ports[p].tx[c] = numbers s.ports[p].tx[c]
      ∧ madeDue e ∈ t.ports[p].tx[c].launched := by
  obtain ⟨t, u, w, next, marked, tx⟩ := exec_nak_tx (a := a) (corr := corr) (body := body) h c
  rw [oldest, unacked_ackFrom] at tx
  refine ⟨t, next, ?_, ?_⟩
  · rw [marked, foldl_applyNak_numbers, tx]
    rfl
  · rw [marked]
    exact madeDue_mem_nak sent first (by rw [tx]; exact he) named

/-- R169: a class's receive side without the note of a number NAKed at least ReplayTimer slots ago. -/
def forgetNak (n : Seq) (q : Port) (r : RxCls) : RxCls :=
  { r with naked := r.naked.filter (fun k => !(decide (k.1 = n) && decide (k.2 + q.cfg.replayTimer ≤ q.line.launches))) }

/-- R169: a number that may be NAKed again leaves the NAK's notes; what is owed then is a wake request (R103). -/
theorem exec_nakRepeat_self (c : Cls) (n : Seq) : ∃ t l, exec (.nakRepeat p c n) s = .next t ∧ OnlyPort p s t
    ∧ t.ports[p] = { s.ports[p] with line := l, rx := s.ports[p].rx.set c (forgetNak n s.ports[p] s.ports[p].rx[c]) } := by
  have forgotten : OnlyPort p s (modRx p c (forgetNak n s.ports[p]) s) := ⟨rfl, fun q hq => modRx_other s p c _ q hq⟩
  obtain ⟨l, woken⟩ := wakeIfOwed_self (p := p) (modRx p c (forgetNak n s.ports[p]) s)
  refine ⟨_, l, rfl, forgotten.trans (onlyPort_wakeIfOwed _), woken.trans ?_⟩
  rw [Fin.getElem_fin, modRx_self]
  rfl

end

/-- Settles O8: the ack block comes first (`onControl_tx`), then the NAK's entries, one after another; a replay timer marks its shingle, and
the repeat of a NAK drops the note of it. -/
theorem acksNaksAndReplays : Obligations.AcksNaksAndReplays := by
  unfold Obligations.AcksNaksAndReplays
  refine ⟨fun s p b a corr c h => ?acks, fun s p c n a corr body =>
    ⟨fun h e he oldest ⟨k, named⟩ sent first => ?naks, rfl, ?repeats⟩⟩
  case acks =>
    obtain ⟨t, w, next, tx⟩ := exec_idle_tx (synced := b) (a := a) (corr := corr) h c
    refine ⟨t, next, ?_⟩
    rw [tx]
    exact ⟨rfl, rfl, rfl⟩
  case naks =>
    have names : ackFor a c = ackFrom s.ports[p].tx[c] := by
      obtain ⟨x, rest, launched⟩ := List.exists_cons_of_ne_nil (List.ne_nil_of_mem he)
      rw [oldest, ackFrom_of_cons launched, launched]
    obtain ⟨t, next, numbered, due⟩ := exec_nak_due (corr := corr) h he names named sent first
    exact ⟨t, next, congrArg Prod.fst numbered, congrArg Prod.snd numbered, due⟩
  case repeats =>
    obtain ⟨t, l, next, only, self⟩ := exec_nakRepeat_self (p := p) (s := s) c n
    refine ⟨t, next, only, ?_⟩
    rw [self]
    exact ⟨rfl, rfl, rfl, congrArg RxCls.naked (Vector.getElem_set_self _)⟩

end Sys2Proof.Machine
end

section
/-! PROOF. The loss ledger (R178, R196 to R202): a loss passes from what waits toward the host into the ledger's receive part, and a read of
Entry answers the entry selected. -/

namespace Sys2Proof.Machine

section
variable {p : PortId} {s : State}

/-! ## A loss is entered (R178, R196 to R200) -/

/-- R196, R197, R199: a loss of class c at time t counts in the totals of a part, and its newest entry tells of it. -/
def LossEntered (c : Cls) (l : RxLoss) (t : Nat) (before after : LedgerPart) : Prop :=
  after.frames = bump64 c.val l.frames before.frames ∧ after.bytes = bump64 c.val l.bytes before.bytes
    ∧ ∃ h tail, after.entries = h :: tail ∧ h.cls = c ∧ h.cause = l.cause ∧ h.last = t

theorem lossEntered_push (rx : Bool) (c : Cls) (l : RxLoss) (t : Nat) (part : LedgerPart) :
    LossEntered c l t part (ledgerPush rx c l t part) :=
  ⟨rfl, rfl, _, _, rfl, rfl, rfl, rfl⟩

theorem lossEntered_merged {c : Cls} {l : RxLoss} {t : Nat} {e : LedgerEntry} (m : ledgerMerges e c l t = true) (part : LedgerPart)
    (rest : List LedgerEntry) : LossEntered c l t part { ledgerTotals c l part with entries := ledgerMerged e l t :: rest } := by
  simp only [ledgerMerges, Bool.and_eq_true, decide_eq_true_eq] at m
  obtain ⟨⟨⟨⟨⟨⟨cls, cause⟩, -⟩, -⟩, -⟩, -⟩, -⟩ := m
  exact ⟨rfl, rfl, _, _, rfl, cls, cause, rfl⟩

/-- R196: whether it merges or makes a new entry, a loss is entered in the receive part, and nothing else of the port changes. -/
theorem ledgerAdd_receive (c : Cls) (l : RxLoss) (t : Nat) (s : State) : ∃ part, LossEntered c l t s.ports[p].led.rx part
    ∧ (ledgerAdd p true c l t s).ports[p] = { s.ports[p] with led := { s.ports[p].led with rx := part } } := by
  have pushed : (raise (lossEv p true c l ((ledgerPart s p true).newest + 1)) (modLedger p true (ledgerPush true c l t) s)).ports[p] =
      { s.ports[p] with led := { s.ports[p].led with rx := ledgerPush true c l t s.ports[p].led.rx } } := by
    rw [raise_ports]
    exact modPort_self s p _
  unfold ledgerAdd
  dsimp only
  split
  · next e rest _ =>
    split
    · next m => exact ⟨_, lossEntered_merged m s.ports[p].led.rx rest, modPort_self s p _⟩
    · exact ⟨_, lossEntered_push _ _ _ _ _, pushed⟩
  · exact ⟨_, lossEntered_push _ _ _ _ _, pushed⟩

/-- R250, R252: a gap leaf and its notice change the port's seal only. -/
theorem gapLeaf_self {q : Port} (hq : s.ports[p] = q) (c : Cls) (l : RxLoss) (entry : Nat) :
    ∃ v, (gapLeaf p c l entry s).ports[p] = { q with sealing := v } := by
  subst hq
  unfold gapLeaf
  split
  · exact ⟨_, rfl⟩
  · simp only [addLeaf, modWindow, Fin.getElem_fin, modSeal_self]
    exact ⟨_, rfl⟩

/-- R178: the loss at the head passes: it is entered, and what waits behind it is next. -/
theorem passLoss_self {c : Cls} {l : RxLoss} {rest : List RxItem} (h : s.ports[p].rx[c].ready = .loss l :: rest) :
    ∃ part v r, (passLoss p c s).ports[p] = { s.ports[p] with
        rx := s.ports[p].rx.set c r, led := { s.ports[p].led with rx := part }, sealing := v }
      ∧ r.ready = rest ∧ LossEntered c l s.aon.tally s.ports[p].led.rx part := by
  obtain ⟨part, entered, led⟩ := ledgerAdd_receive (p := p) c { l with provoked := l.provoked || inEpisode s p } s.aon.tally s
  unfold passLoss
  rw [h]
  dsimp only
  generalize ledgerAdd p true c { l with provoked := l.provoked || inEpisode s p } s.aon.tally s = t at led ⊢
  obtain ⟨v, leaf⟩ := gapLeaf_self (modRx_self t p c _) c _ _
  rw [← Fin.getElem_fin, led] at leaf
  exact ⟨part, v, _, leaf, rfl, entered⟩

theorem passLoss_none {c : Cls} (h : ∀ l rest, s.ports[p].rx[c].ready ≠ .loss l :: rest) : passLoss p c s = s := by
  unfold passLoss
  split
  · next hr => exact absurd hr (h _ _)
  · rfl

/-! ## Entry is read (R202, R308, R318) -/

section
variable {ch : Chan}

/-- R308, R318: a read of a bay's object, whose gate is open and which is not under test, answers the field's value. -/
theorem dictRead_bay {base : Nat} {sub : Byte} {o : Obj} {f : Field} (range : 0x3000 ≤ base ∧ base < 0x3100)
    (found : ∀ new, findField new base sub.toNat = .ok (o, f)) (rd : f.rd = true) (holder : o.holder = .bay) (index : o.index = base)
    (gate : gateOpen s p.val = true) (test : bayTesting s p = false) :
    dictRead ch (portIndex base p) sub s = readValue ch o p sub.toNat s := by
  have noCrock : ¬ 0x4000 ≤ base := by omega
  simp [dictRead, splitIndex_portIndex range, found, rd, holderGate, holder, gate, underTest, test, index, noCrock]

/-- R202: the entry that the channel has selected is answered, and its selection goes on. -/
theorem readEntry_selected {e : LedgerEntry} (h : selectedEntry s p (s.ports[p].led.select.getD ch.val 1) = some e) :
    readEntry ch p s = .ok (entryBytes e, modPort p (fun q => { q with led := { q.led with
      select := q.led.select.set ch.val ((s.ports[p].led.select.getD ch.val 1 &&& 0x80000000)
        ||| (BitVec.ofNat 32 ((s.ports[p].led.select.getD ch.val 1).toNat % 2 ^ 31 + 1) &&& 0x7FFFFFFF)) } }) s) := by
  simp only [readEntry, h]

theorem exec_ledgerEntryRead {e : LedgerEntry} {t : State} (srv : served s ch = true) (gate : gateOpen s p.val = true)
    (test : bayTesting s p = false) (read : readEntry ch p (requested ch s) = .ok (entryBytes e, t)) :
    exec (.ledgerEntryRead ch p) s = .next (answeredData ch (entryBytes e) t) := by
  have passes : dictRead ch (portIndex 0x3030 p) 7 (requested ch s) = readEntry ch p (requested ch s) :=
    dictRead_bay (o := portObjects[8]) (f := { lo := 7, hi := 7, len := .fixed 32 }) (by decide) (fun new => by cases new <;> rfl) rfl rfl
      rfl gate test
  exact congrArg Host.Outcome.next (readCommand_ok srv (passes.trans read))

end

end

/-- Settles O27: a loss passes as `passLoss_self` says, and the read of Entry meets no check that the hypotheses leave open. -/
theorem lossLedger : Obligations.LossLedger := by
  unfold Obligations.LossLedger
  intro s ch p c l rest e
  refine ⟨fun h => ?passes, fun h => congrArg Host.Outcome.next (passLoss_none h), fun srv gate test sel => ?read⟩
  case passes =>
    obtain ⟨part, v, r, self, ready, frames, bytes, h, tail, entries, cls, cause, last⟩ := passLoss_self h
    have next : exec (.lossPasses p c) s = .next (passLoss p c s) := rfl
    refine ⟨_, h, tail, next, ?_⟩
    rw [self]
    refine ⟨?_, rfl, frames, bytes, entries, cls, cause, last, rfl, fun q hq => (lineCommandsStayInTheirPort _ p s _ rfl next).2 q hq⟩
    simpa only [Fin.getElem_fin, Vector.getElem_set_self] using ready
  case read => exact exec_ledgerEntryRead srv gate test (readEntry_selected sel)

end Sys2Proof.Machine
end

section
/-! PROOF. The host lane (R180, R206, R250, R263, R267, R276): what goes out at a frame boundary on HTXn where class 1 alone may hold
something for the host, and the lane's coming up, going down, LPI and idleness. -/

namespace Sys2Proof.Machine

section
variable {p : PortId} {s : State}

/-! ## Nothing to do -/

theorem frameEnd_none {e : Bool} (h : s.ports[p].host.arriving = none) : frameEnd p e s = s := by
  simp only [frameEnd, arrivingOf, h]

theorem applyLane_none (h : s.ports[p].host.pendingMode = none) : applyLane p s = s := by
  simp only [applyLane, h]

theorem htxDone_none (h : s.ports[p].host.busy = none) : htxDone p s = s := by
  simp only [htxDone, h]

/-- No loss stands at the head of what waits toward the host (R178). -/
def NoLossFirst (q : Port) : Prop := ∀ (c : Cls) (l : RxLoss) (rest : List RxItem), q.rx[c].ready ≠ .loss l :: rest

theorem passLosses_none {c : Cls} (h : NoLossFirst s.ports[p]) (fuel : Nat) : passLosses p c fuel s = s := by
  cases fuel with
  | zero => rfl
  | succ fuel =>
    unfold passLosses
    split
    · next hr => exact absurd hr (h c _ _)
    · rfl

theorem passAllLosses_none (h : NoLossFirst s.ports[p]) : passAllLosses p s = s :=
  List.foldl_fixed' (fun _ => passLosses_none h _) _

/-! ## A frame boundary on HTXn (R250, R267) -/

/-- Class 1 alone may hold something for HTXn, which is up, with no change of its mode and no cut of the seal pending. -/
structure Class1Alone (q : Port) : Prop where
  up       : q.host.up = true
  mode     : q.host.pendingMode = none
  pauses   : q.host.pfcOwed = []
  notices  : q.sealing.notices = []
  frames   : q.sealing.frames = []
  cutDue   : q.sealing.cutDue = false
  hostOut  : q.sieve.hostOutDue = false
  ready0   : q.rx[0].ready = []
  ready2   : q.rx[2].ready = []
  ready3   : q.rx[3].ready = []

theorem noLossFirst_of_class1 {q : Port} (h0 : q.rx[0].ready = []) (h2 : q.rx[2].ready = []) (h3 : q.rx[3].ready = [])
    (h1 : ∀ l rest, q.rx[1].ready ≠ .loss l :: rest) : NoLossFirst q := by
  intro c l rest h
  match c with
  | 0 => exact List.cons_ne_nil _ _ (h.symm.trans h0)
  | 1 => exact h1 l rest h
  | 2 => exact List.cons_ne_nil _ _ (h.symm.trans h2)
  | 3 => exact List.cons_ne_nil _ _ (h.symm.trans h3)

theorem frameReady_of_nil {q : Port} {c : Cls} (h : q.rx[c].ready = []) : frameReady q c = false := by
  simp only [frameReady, h]

theorem frameReady_of_frame {q : Port} {c : Cls} {f : RxFrame} {rest : List RxItem} (h : q.rx[c].ready = .frame f :: rest) :
    frameReady q c = true := by
  simp only [frameReady, h]

/-- R267: class 1 goes where nothing else waits. -/
theorem Class1Alone.htxNext_eq (h : Class1Alone s.ports[p]) (at_ : Nat) :
    htxNext p at_ s = if frameReady s.ports[p] 1 then deliver p 1 at_ s else s := by
  unfold htxNext
  simp only [h.pauses, takePfc, h.notices, h.frames, frameReady_of_nil (c := 0) h.ready0, frameReady_of_nil (c := 2) h.ready2,
    frameReady_of_nil (c := 3) h.ready3, Bool.false_eq_true, if_false]

/-- R267: what a boundary does once the item that was on HTXn has left. -/
theorem Class1Alone.exec_boundary {t u : State} (done : htxDone p s = t) (h : Class1Alone t.ports[p])
    (stays : laneClosing t p = false) {at_ : Nat} (first : ∀ l rest, t.ports[p].rx[1].ready ≠ .loss l :: rest)
    (next : htxNext p at_ t = u) (last : NoLossFirst u.ports[p])
    (hostOut : u.ports[p].sieve.hostOutDue = false) : exec (.htxFrameBoundary p at_) s = .next u := by
  have losses : passAllLosses p (applyLane p (htxDone p s)) = t := by
    rw [done, applyLane_none h.mode, passAllLosses_none (noLossFirst_of_class1 h.ready0 h.ready2 h.ready3 first)]
  change execHtxFrameBoundary p at_ s = _
  simp only [execHtxFrameBoundary, losses, h.up, stays, Bool.not_false, Bool.and_true, if_true, next, passAllLosses_none last,
    hostOut, Bool.false_eq_true, if_false]

/-- R183: a frame that was whole has left. -/
theorem htxDone_frame {c : Cls} {bytes : List Byte} (hb : s.ports[p].host.busy = some (.frame c bytes false))
    (hc : s.ports[p].sealing.cutDue = false) : htxDone p s = modHost p (fun h => { h with busy := none, busyLeaf := none }) s := by
  have kept : (modHost p (fun h => { h with busy := none, busyLeaf := none }) s).ports[p].sealing.cutDue = false := by
    simpa only [Fin.getElem_fin, modHost_self] using hc
  simp only [htxDone, hb, Bool.false_eq_true, if_false, cutAtEnd, kept]

/-! ## A frame goes out (R183, R250, R266) -/

/-- Port q as the delivery of a frame of class c begins, `leaf` its place in the seal. -/
def delivering (c : Cls) (f : RxFrame) (rest : List RxItem) (leaf : Option (Nat × Nat)) (q : Port) : Port :=
  { q with
    rx := q.rx.set c { freeSlots { q.rx[c] with ready := rest } with lastMdi := max q.rx[c].lastMdi f.arrived }
    host := { q.host with busy := some (.frame c f.bytes false), busyLeaf := leaf, lastOut := some (.frame c f.bytes false)
                          cutLast := false, mirrorOver := true } }

/-- R183, R250, R273: a frame without error and without PTP event begins its delivery as it is. -/
theorem deliver_plain {c : Cls} {f : RxFrame} {rest : List RxItem} (hr : s.ports[p].rx[c].ready = .frame f :: rest)
    (he : f.errored = false) (hm : ptpEvent s.ports[p].ptp.mask f.bytes = none) (hp : f.ptp = none) (at_ : Nat) :
    deliver p c at_ s = frameLeaf p f.bytes false f.provoked
      (modPort p (delivering c f rest ((openWindow s p).map (fun w => (w.start, w.leaves.length)))) s) := by
  have out : ptpReceive s.ports[p].ptp f at_ = { bytes := f.bytes } := by
    simp only [ptpReceive, hm, hp, Option.isSome_none, Bool.false_eq_true, if_false]
  simp only [deliver, hr, out, he, Bool.false_eq_true, if_false, List.take_length]
  simp only [putHtx, noteMdi, modHost, modRx, modPort_modPort, openWindow, Fin.getElem_fin, modPort_self, Vector.getElem_set_self,
    Vector.set_set]
  rfl

/-- R250: an unsealed port takes no leaf. -/
theorem frameLeaf_unsealed (h : s.ports[p].sealing.window = none) (bytes : List Byte) (errored provoked : Bool) :
    frameLeaf p bytes errored provoked s = s := by
  simp only [frameLeaf, openWindow, h]

/-- R250, R253: the leaf of a frame without error that can be hashed. -/
theorem frameLeaf_hashed {q : Port} {w : SealWindow} {bytes : List Byte} (hq : s.ports[p] = q) (h : q.sealing.window = some w)
    (room : hashable s p bytes.length = true) (provoked : Bool) : ∃ v : SealWindow,
    (frameLeaf p bytes false provoked s).ports[p] =
      { q with sealing := { q.sealing with window := some v, counters := bump 1 1 q.sealing.counters } }
    ∧ v.leaves = w.leaves ++ [sha256 (0x00 :: bytes)] := by
  subst hq
  refine ⟨{ w with leaves := w.leaves ++ [sha256 (0x00 :: bytes)], provoked := w.provoked || provoked }, ?_, rfl⟩
  have own : s.ports[(p : Nat)].sealing.window = some w := h
  simp only [frameLeaf, openWindow, h, room, if_true, Bool.false_eq_true, if_false]
  simp only [addLeaf, modWindow, Fin.getElem_fin, modSeal_self, own, Option.map_some]

theorem delivering_ready (c : Cls) (f : RxFrame) (rest : List RxItem) (leaf : Option (Nat × Nat)) (q : Port) :
    (delivering c f rest leaf q).rx[c].ready = rest := by
  simp only [delivering, Fin.getElem_fin, Vector.getElem_set_self]
  rfl

/-- Behind the only frame that waited, nothing does. -/
theorem noLossFirst_delivering {q : Port} (h0 : q.rx[0].ready = []) (h2 : q.rx[2].ready = []) (h3 : q.rx[3].ready = []) (f : RxFrame)
    (leaf : Option (Nat × Nat)) : NoLossFirst (delivering 1 f [] leaf q) :=
  noLossFirst_of_class1 (q := delivering 1 f [] leaf q) (by simpa [delivering] using h0) (by simpa [delivering] using h2)
    (by simpa [delivering] using h3) fun l rest h => List.cons_ne_nil _ _ (h.symm.trans (delivering_ready 1 f [] leaf q))

section
variable {f : RxFrame} (h : Class1Alone s.ports[p]) (stays : laneClosing s p = false)
  (hr : s.ports[p].rx[1].ready = [.frame f]) (hb : s.ports[p].host.busy = none)
  (he : f.errored = false) (hm : ptpEvent s.ports[p].ptp.mask f.bytes = none) (hp : f.ptp = none) (at_ : Nat)
include h stays hr hb he hm hp

/-- R267: the frame of class 1 goes out; `u` is the state once its leaf is taken, which changes the seal at most. -/
theorem htxFrameBoundary_delivers {leaf : Option (Nat × Nat)} {v : Seal} {u : State}
    (hleaf : (openWindow s p).map (fun w => (w.start, w.leaves.length)) = leaf)
    (hu : frameLeaf p f.bytes false f.provoked (modPort p (delivering 1 f [] leaf) s) = u)
    (self : u.ports[p] = { delivering 1 f [] leaf s.ports[p] with sealing := v }) : exec (.htxFrameBoundary p at_) s = .next u := by
  have out : htxNext p at_ s = u := by
    rw [h.htxNext_eq, if_pos (frameReady_of_frame (c := 1) hr), deliver_plain (c := 1) hr he hm hp, hleaf, hu]
  refine h.exec_boundary (htxDone_none hb) stays (fun l rest hl => ?_) out ?_ ?_
  · cases hr.symm.trans hl
  · rw [self]
    exact noLossFirst_delivering h.ready0 h.ready2 h.ready3 f leaf
  · rw [self]
    exact h.hostOut

/-- R267: on an unsealed port. -/
theorem htxFrameBoundary_unsealed (hw : s.ports[p].sealing.window = none) :
    exec (.htxFrameBoundary p at_) s = .next (modPort p (delivering 1 f [] none) s) := by
  have leaf : frameLeaf p f.bytes false f.provoked (modPort p (delivering 1 f [] none) s) = modPort p (delivering 1 f [] none) s :=
    frameLeaf_unsealed (by simpa only [Fin.getElem_fin, modPort_self, delivering] using hw) _ _ _
  exact htxFrameBoundary_delivers h stays hr hb he hm hp at_ (by rw [openWindow, hw]; rfl) leaf (modPort_self s p _)

/-- R250, R267: on a sealed port, with a leaf. -/
theorem htxFrameBoundary_sealed {w : SealWindow} (hw : s.ports[p].sealing.window = some w) (room : hashable s p f.bytes.length = true) :
    ∃ (t : State) (v : SealWindow), exec (.htxFrameBoundary p at_) s = .next t
      ∧ t.ports[p] = { delivering 1 f [] (some (w.start, w.leaves.length)) s.ports[p] with
          sealing := { s.ports[p].sealing with window := some v, counters := bump 1 1 s.ports[p].sealing.counters } }
      ∧ v.leaves = w.leaves ++ [sha256 (0x00 :: f.bytes)] := by
  obtain ⟨v, self, leaves⟩ :=
    frameLeaf_hashed (modPort_self s p (delivering 1 f [] (some (w.start, w.leaves.length)))) hw room f.provoked
  exact ⟨_, v, htxFrameBoundary_delivers h stays hr hb he hm hp at_ (by rw [openWindow, hw]; rfl) rfl self, self, leaves⟩

end

/-- R183, R267: a frame that was whole has left, and nothing follows it. -/
theorem htxFrameBoundary_idle {c : Cls} {bytes : List Byte} (h : Class1Alone s.ports[p]) (stays : laneClosing s p = false)
    (hr : s.ports[p].rx[1].ready = []) (hb : s.ports[p].host.busy = some (.frame c bytes false)) (at_ : Nat) :
    exec (.htxFrameBoundary p at_) s = .next (modHost p (fun h => { h with busy := none, busyLeaf := none }) s) := by
  have left := htxDone_frame hb h.cutDue
  have closing : laneClosing (modHost p (fun h => { h with busy := none, busyLeaf := none }) s) p = false := stays
  have self := modHost_self s p (fun h => { h with busy := none, busyLeaf := none })
  rw [← Fin.getElem_fin] at self
  generalize modHost p (fun h => { h with busy := none, busyLeaf := none }) s = t at left closing self ⊢
  have after : Class1Alone t.ports[p] := by
    rw [self]
    exact ⟨h.up, h.mode, h.pauses, h.notices, h.frames, h.cutDue, h.hostOut, h.ready0, h.ready2, h.ready3⟩
  have ready : t.ports[p].rx[1].ready = [] := by
    rw [self]
    exact hr
  have empty (l : RxLoss) (rest : List RxItem) : t.ports[p].rx[1].ready ≠ .loss l :: rest := by
    rw [ready]
    exact (List.cons_ne_nil _ _).symm
  refine after.exec_boundary left closing empty ?_ (noLossFirst_of_class1 after.ready0 after.ready2 after.ready3 empty) after.hostOut
  rw [after.htxNext_eq, frameReady_of_nil (c := 1) ready, if_neg Bool.false_ne_true]

/-! ## The lane comes up and goes down (R206, R263) -/

/-- R330: an event changes the crock only. -/
theorem raise_eq (e : Ev) (s : State) : raise e s = { s with crock := (raise e s).crock } := by
  unfold raise
  by_cases lost : (s.aon.witnessLost.isSome || s.crock.recovering) = true
  · rw [if_pos lost]
    rfl
  · rw [if_neg lost]
    by_cases full : queueCap ≤ s.crock.queue.length
    · rw [if_pos full]
      rfl
    · rw [if_neg full]

/-- R330: an event's effect on the crock depends on the crock and on the times of its stamps. -/
theorem raise_crock_congr {t : State} (ha : t.aon = s.aon) (hc : t.crock = s.crock) (e : Ev) : (raise e t).crock = (raise e s).crock := by
  have stamp : stampEv t e = stampEv s e := by simp only [stampEv, civilNow, ha]
  unfold raise dropEv
  rw [ha, hc, stamp]
  split
  · rfl
  · split <;> rfl

theorem modPort_raise (f : Port → Port) (e : Ev) (s : State) : modPort p f (raise e s) = raise e (modPort p f s) := by
  rw [raise_eq e (modPort p f s), raise_eq e s, raise_crock_congr (s := s) (modPort_aon s p f) (modPort_crock s p f) e]
  rfl

theorem laneDown_quiet (hu : s.ports[p].host.up = true) (ha : s.ports[p].host.arriving = none) : laneDown p false s =
    raise (laneEv s p 0x0007 4) (modHost p (fun h => { h with
      up := false, lock := false, hiBer := false, fecAligned := false, rxLpi := false, counters := bump 0 1 h.counters }) s) := by
  simp only [laneDown, hu, frameEnd_none ha, Bool.not_true, Bool.false_eq_true, if_false]

theorem exec_hostLaneDown {hiBer : Bool} (hu : s.ports[p].host.up = true) (ha : s.ports[p].host.arriving = none) :
    exec (.hostLaneDown { port := p, hiBer := hiBer }) s = .next (raise (laneEv s p 0x0007 4) (modHost p (fun h => { h with
      up := false, lock := hiBer, hiBer := hiBer, fecAligned := hiBer && laneFec h, rxLpi := false
      counters := bump 0 1 h.counters }) s)) := by
  refine congrArg Host.Outcome.next ((if_pos hu).trans ?_)
  dsimp only
  rw [laneDown_quiet hu ha, modHost, modPort_raise, modHost, modPort_modPort]
  rfl

theorem exec_hostLaneUp (hg : laneGateOpen s p = true) (hu : s.ports[p].host.up = false) (ha : s.ports[p].host.active.isSome = true)
    (hp : s.pwr.passed = false) : exec (.hostLaneUp p) s = .next (raise (laneEv s p 0x0008 1) (modHost p (fun h => { h with
      up := true, lock := true, hiBer := false, fecAligned := laneFec h })
      { s with clk := { s.clk with hostPll := s.clk.hostPll.set p.val .running } })) :=
  congrArg Host.Outcome.next (if_pos ⟨hg, hu, ha, hp⟩)

/-! ## LPI, idleness and pauses (R180, R276) -/

/-- R276: the end of the host's LPI is a wake request (R103). -/
theorem exec_hostLpiEnd (h : s.ports[p].host.rxLpi = true) :
    exec (.hostLpiEnd p) s = .next (wakeRequest p (modHost p (fun h => { h with rxLpi := false }) s)) :=
  congrArg Host.Outcome.next (if_pos h)

theorem exec_pfcRepeat {c : Cls} {i : Nat} (hi : pfcIndex c = some i) (paused : s.ports[p].host.paused.getD i false = true)
    (allowed : pfcAllowed s.ports[p] i = true) (above : s.ports[p].cfg.pfcXon < occupancy s.ports[p].tx[c])
    (half : halfPause s.ports[p] ≤ 100 * (s.aon.tally - s.ports[p].host.pausedAt.getD i 0)) :
    exec (.pfcRepeat p c) s = .next (modHost p (fun h => { h with pfcOwed := h.pfcOwed ++ [(c, false)] }) s) := by
  change execPfcRepeat p c s = _
  simp only [execPfcRepeat, hi, paused, allowed, above, half, decide_true, Bool.and_true, if_true]

end

/-- Settles O35: at a boundary class 1 alone may hold something (`Class1Alone`), and each other command has its one condition. -/
theorem hostLane : Obligations.HostLane := by
  unfold Obligations.HostLane
  refine ⟨fun s p at_ up mode pauses notices frames cutDue hostOut stays ready0 ready2 ready3 => ?boundary, fun s p c i =>
    ⟨fun hg hu ha hp => ?comesUp, fun hiBer hu ha => exec_hostLaneDown hu ha,
      fun hu hx => congrArg Host.Outcome.next (if_pos ⟨hu, hx⟩),
      fun h => ?lpiEnd, fun h => congrArg Host.Outcome.next (if_pos h), fun h => congrArg Host.Outcome.next (if_neg (Nat.not_le.mpr h)),
      exec_pfcRepeat⟩⟩
  case boundary =>
    have alone : Class1Alone s.ports[p] := ⟨up, mode, pauses, notices, frames, cutDue, hostOut, ready0, ready2, ready3⟩
    refine ⟨fun c bytes hr hb => htxFrameBoundary_idle alone stays hr hb at_, fun f hr hb he hm hp =>
      ⟨fun hw => ?unsealed, fun w hw room => ?sealed⟩⟩
    case unsealed =>
      refine ⟨_, htxFrameBoundary_unsealed alone stays hr hb he hm hp at_ hw, onlyPort_modPort _, ?_⟩
      rw [Fin.getElem_fin, modPort_self]
      exact ⟨rfl, rfl, delivering_ready 1 f [] none _, rfl⟩
    case sealed =>
      obtain ⟨t, v, next, self, leaves⟩ := htxFrameBoundary_sealed alone stays hr hb he hm hp at_ hw room
      refine ⟨t, v, next, ?_⟩
      rw [self]
      exact ⟨rfl, rfl, leaves, rfl, rfl⟩
  case comesUp =>
    refine ⟨_, exec_hostLaneUp hg hu ha hp, ?_⟩
    rw [raise_ports, raise_clk, Fin.getElem_fin, modHost_self]
    refine ⟨rfl, rfl, rfl, ?_⟩
    apply raise_crock_congr <;> rfl
  case lpiEnd =>
    refine ⟨_, exec_hostLpiEnd h, (onlyPort_modPort _).trans (onlyPort_wakeRequest _), ?_⟩
    rw [wakeRequest_self (modHost_self s p _)]
    exact ⟨rfl, fun asleep => congrArg Line.wakeWanted (if_neg asleep), fun active => if_pos active⟩

end Sys2Proof.Machine
end

section
/-! PROOF. A data shingle that completes phase S (R122, R177): the link-up that follows the slot has every missing number asked for
again, so that the receive side of the classes does not stay as it was. -/

namespace Sys2Proof.Machine

/-- Port 0 syncs in EL-50, in phase S of a fast relink: 63 good slots in a row, IDLE with SYNCED decoded, its receiver locked, and the
clocks of R345 on input 1. Of class 1, number 0 is missing and was NAKed before the link went down. -/
def oneSlotFromUp : State :=
  let s := State.reset
  { s with
    clk := { s.clk with onInput1 := [.sym 0, .eng, .fab] }
    ports := s.ports.set 0 { s.ports[0] with
      link := { s.ports[0].link with phase := .s, mode := some (.etoon .el50), relink := some .fast }
      train := { s.ports[0].train with rxStarted := true, goodRun := 63, partnerSynced := true }
      dsp := { s.ports[0].dsp with locked := true }
      rx := s.ports[0].rx.set 1 { later := some 3, naked := [(0, 0)] } } }

/-- A replay of class 1 whose number lies 16383 after the next expected one, so that it is a duplicate (R177). -/
def oldReplay : ShHdr :=
  { cls := 1, seq := 16383, replay := true, gap := false, provoked := false, firstTag := 0, ackClass := 0, ackNext := 0 }

/-- The numbers of class 1 that port 0 has NAKed, where an instruction is carried out. -/
def nakedAfter : Host.Outcome State Fault Refusal → Option (List (Seq × Nat))
  | .next t => some t.ports[(0 : PortId)].rx[(1 : Cls)].naked
  | _ => none

theorem dataShingle_oneSlotFromUp :
    nakedAfter (exec (.dataShingle 0 oldReplay (List.replicate 256 0) 0 0) oneSlotFromUp) = some [] := by
  decide +kernel

/-- Refutes O7: the duplicate is the 64th good slot in a row, which brings the link of `oneSlotFromUp` up; every missing number is then to
be NAKed at once (Table 6-12), so that the receive side loses its note of the number NAKed before, where O7 has it unchanged. -/
theorem not_dataShingleByDistance : ¬ Obligations.DataShingleByDistance := by
  unfold Obligations.DataShingleByDistance
  intro h
  obtain ⟨t, next, -, -, -, duplicate, -⟩ :=
    h oneSlotFromUp 0 oldReplay (List.replicate 256 0) 0 0 (by decide +kernel) List.length_replicate
  obtain ⟨same, -⟩ := duplicate (.inl (by decide +kernel))
  have naked := dataShingle_oneSlotFromUp
  rw [next] at naked
  have kept : t.ports[(0 : PortId)].rx[(1 : Cls)].naked = [(0, 0)] := congrArg (fun rx : Vector RxCls 4 => rx[(1 : Cls)].naked) same
  exact absurd (kept.symm.trans (Option.some.inj naked)) (List.cons_ne_nil _ _)

end Sys2Proof.Machine
end

section
/-! PROOF. A frame on HRXn that shows itself to be a PTP event message while it arrives (R156, R157, R265, R272): it is laid out again with
the SenderResidence word behind its tag. -/

namespace Sys2Proof.Machine

/-- The first 51 bytes of a PTP Sync message with EtherType 0x88F7. -/
def syncHead : List Byte := List.replicate 12 0x02 ++ [0x88, 0xF7, 0x00, 0x02] ++ List.replicate 35 0

/-- They are arriving on HRX0 with MARK set for Sync messages, and are packed in class 2 behind the 4 bytes of their tag. -/
def syncArriving : Arriving :=
  { bytes := syncHead, total := 51, pcpClass := [2, 3, 3, 2, 2, 1, 1, 0], markOn := true, mask := 1, cls := some 2 }

/-- The OPEN payload that holds them. -/
def syncPacked : Payload := { bytes := List.replicate 4 0 ++ syncHead, firstTag := some 0, held := true }

/-- Port 0 while they are packed, as HOST_FRAME_START and HOST_FRAME_DATA leave it. -/
def packingSync : State :=
  let s := State.reset
  { s with
    ports := s.ports.set 0 { s.ports[0] with
      host := { s.ports[0].host with up := true, arriving := some syncArriving }
      tx := s.ports[0].tx.set 2 { openP := some syncPacked } } }

/-- Whether the frame arriving on HRX0 is marked as a PTP event message, where an instruction is carried out. -/
def markAfter : Host.Outcome State Fault Refusal → Option Bool
  | .next t => t.ports[(0 : PortId)].host.arriving.map Arriving.ptpMark
  | _ => none

theorem hostFrameData_packingSync : markAfter (exec (.hostFrameData 0 [0] .clean) packingSync) = some true := by
  decide +kernel

/-- Refutes O34: the 52nd byte of `syncHead` makes the frame a PTP event message that is to be marked, so that it is laid out again and
marked (R272), where O34 has the byte appended and the frame unmarked as before. -/
theorem not_hostFramesArrive : ¬ Obligations.HostFramesArrive := by
  unfold Obligations.HostFramesArrive
  intro h
  obtain ⟨-, -, -, packed, -⟩ := h packingSync 0 0 [0] .terminate
  obtain ⟨t, next, -, -, arriving⟩ := packed syncArriving 2 syncPacked rfl rfl rfl rfl rfl (by decide) rfl rfl
    (List.cons_ne_nil _ _) (by decide)
  have mark := hostFrameData_packingSync
  rw [next, markAfter, arriving] at mark
  exact absurd (Option.some.inj mark) Bool.false_ne_true

end Sys2Proof.Machine
end

section
/-! PROOF. Roll calls (R209 to R212): the fields of an order word, an order that R210 accepts, and what a bay named in one does with it
(R211). -/

namespace Sys2Proof.Machine

/-! ## The order word (R209) and a bay's entry (Table 7-8) -/

theorem toNat_append_eq_add {m n : Nat} (x : BitVec m) (y : BitVec n) : (x ++ y).toNat = x.toNat * 2 ^ n + y.toNat := by
  rw [BitVec.toNat_append, ← Nat.shiftLeft_add_eq_or_of_lt y.isLt, Nat.shiftLeft_eq]

section
variable (epoch : BitVec 16) (kind arg mask : Byte) (low : BitVec 24)

theorem orderWord_toNat : (orderWord epoch kind arg mask low).toNat =
    (((epoch.toNat * 2 ^ 8 + kind.toNat) * 2 ^ 8 + arg.toNat) * 2 ^ 8 + mask.toNat) * 2 ^ 24 + low.toNat := by
  simp only [orderWord, toNat_append_eq_add]

@[simp] theorem orderEpoch_orderWord : orderEpoch (orderWord epoch kind arg mask low) = epoch := by
  have := orderWord_toNat epoch kind arg mask low
  apply BitVec.eq_of_toNat_eq
  simp only [orderEpoch, BitVec.truncate_eq_setWidth, BitVec.toNat_setWidth, BitVec.toNat_ushiftRight, Nat.shiftRight_eq_div_pow]
  omega

@[simp] theorem orderKind_orderWord : orderKind (orderWord epoch kind arg mask low) = kind.toNat := by
  have := orderWord_toNat epoch kind arg mask low
  simp only [orderKind, BitVec.toNat_ushiftRight, Nat.shiftRight_eq_div_pow]
  omega

@[simp] theorem orderArg_orderWord : orderArg (orderWord epoch kind arg mask low) = arg.toNat := by
  have := orderWord_toNat epoch kind arg mask low
  simp only [orderArg, BitVec.toNat_ushiftRight, Nat.shiftRight_eq_div_pow]
  omega

@[simp] theorem orderMask_orderWord : orderMask (orderWord epoch kind arg mask low) = mask := by
  have := orderWord_toNat epoch kind arg mask low
  apply BitVec.eq_of_toNat_eq
  simp only [orderMask, BitVec.truncate_eq_setWidth, BitVec.toNat_setWidth, BitVec.toNat_ushiftRight, Nat.shiftRight_eq_div_pow]
  omega

theorem orderWord_low : (orderWord epoch kind arg mask low).toNat % 2 ^ 24 = low.toNat := by
  have := orderWord_toNat epoch kind arg mask low
  omega

end

theorem bayResult_bayEntry (epoch : BitVec 16) (result reason : Nat) : bayResult (bayEntry epoch result reason) = result % 256 := by
  simp only [bayResult, bayEntry, toNat_append_eq_add, BitVec.toNat_ofNat]
  omega

/-- A number written little-endian in n bytes reads back. -/
theorem leVal_leBytes (n v : Nat) (h : v < 256 ^ n) : leVal (leBytes n v) = v := by
  induction n generalizing v with
  | zero => simp only [leBytes, leVal, List.foldr_nil]; omega
  | succ n ih =>
    have step : leVal (leBytes (n + 1) v) = v % 2 ^ 8 + 256 * leVal (leBytes n (v / 256)) := by
      rw [← BitVec.toNat_ofNat]; rfl
    rw [step, ih _ (by omega)]
    omega

section
variable {s : State}

/-! ## An order is issued (R210) -/

section
variable {ch : Chan} {epoch : BitVec 16} {mask : Byte}

/-- What R210 asks of an order beside its kind and argument, on a channel that holds a session. -/
structure OrderAllowed (s : State) (ch : Chan) (epoch : BitVec 16) (mask : Byte) : Prop where
  session : hasSession s ch = true
  idle    : s.roll.status ≠ 1
  named   : mask ≠ 0
  ahead   : 1 ≤ (epoch - s.roll.epoch).toNat
  near    : (epoch - s.roll.epoch).toNat ≤ 32767

/-- R209: a kind with an argument of its range. -/
def OrderKindOk (kind arg : Byte) : Prop :=
  (kind = 2 ∧ 1 ≤ arg.toNat ∧ arg.toNat ≤ 3) ∨ ((kind = 1 ∨ kind = 3 ∨ kind = 4) ∧ arg = 0)

/-- R210, step 1. -/
theorem orderRange_ok {kind arg : Byte} (k : OrderKindOk kind arg) : ¬ (kind.toNat = 0 ∨ 4 < kind.toNat
    ∨ (kind.toNat = 2 ∧ (arg.toNat < 1 ∨ 3 < arg.toNat)) ∨ (kind.toNat ≠ 2 ∧ arg.toNat ≠ 0)) := by
  rcases k with ⟨rfl, low, high⟩ | ⟨rfl | rfl | rfl, rfl⟩
  · have two : (2 : Byte).toNat = 2 := rfl
    omega
  all_goals decide

/-- R210: an order that meets every condition passes each of the four steps. -/
theorem writeOrder_accepts {kind arg : Byte} (h : OrderAllowed s ch epoch mask) (k : OrderKindOk kind arg) :
    writeOrder ch (leBytes 8 (orderWord epoch kind arg mask 0).toNat) s
      = .ok (rollIssue (byteOf ch.val) (orderWord epoch kind arg mask 0) s) := by
  have word : BitVec.ofNat 64 (leVal (leBytes 8 (orderWord epoch kind arg mask 0).toNat)) = orderWord epoch kind arg mask 0 := by
    rw [leVal_leBytes 8 _ (orderWord epoch kind arg mask 0).isLt, BitVec.ofNat_toNat, BitVec.setWidth_eq]
  have inWindow : ¬ ((epoch - s.roll.epoch).toNat < 1 ∨ 32767 < (epoch - s.roll.epoch).toNat) := by
    have ahead := h.ahead
    have near := h.near
    omega
  have unusedBits : (orderWord epoch kind arg mask 0).toNat % 2 ^ 24 = 0 := orderWord_low _ _ _ _ _
  have range := orderRange_ok k
  simp only [not_or] at range
  obtain ⟨kind0, kind4, setMode, noArg⟩ := range
  simp only [writeOrder, word, orderKind_orderWord, orderArg_orderWord, orderMask_orderWord, orderEpoch_orderWord, unusedBits,
    kind0, kind4, setMode, noArg, h.named, h.session, h.idle, inWindow, ne_eq, not_true_eq_false, or_self, Bool.not_true,
    Bool.false_and, Bool.false_eq_true, if_false]

/-- R308: no common check keeps an order from being judged by R210. -/
theorem dictCommand_order {d : List Byte} {t : State} (srv : served s ch = true) (alive : life s ≠ .ended) (len : d.length = 8)
    (w : writeOrder ch d (requested ch s) = .ok t) : dictCommand ch 0x2600 1 d s = answered ch t := by
  refine dictCommand_ok srv ?_
  rw [dictWrite_passes (o := deviceObjects[28]) (f := ctrl 1 8 wOW) (w := wOW) 0 0x2600 rfl
    (by cases newProfile (requested ch s) ch <;> rfl) rfl rfl (by decide)
    (writeForbidden_none (?life) rfl rfl rfl (by rw [len]; rfl) rfl rfl)]
  case life =>
    have notEnded : decide (life (requested ch s) = .ended) = false := decide_eq_false (by rwa [life_requested])
    simp only [lifeForbids, notEnded]
    rfl
  exact w

/-- R210, R211: the roll call that an order begins, answered on its channel. -/
def OrderIssued (ch : Chan) (epoch : BitVec 16) (kind arg mask : Byte) (s t : State) : Prop :=
  t.roll.order = orderWord epoch kind arg mask 0 ∧ t.roll.epoch = epoch ∧ t.roll.status = 1 ∧ t.roll.issuer = BitVec.ofNat 8 ch.val
    ∧ t.roll.issuedAt = s.aon.tally ∧ t.roll.lpiMask = s.roll.lpiMask ∧ t.ports = s.ports ∧ t.chans[ch].resp = .ok
    ∧ ∀ p : PortId, bayResult (t.roll.bays.getD p.val 0) = if maskBit mask p then resPending else resNotNamed

/-- R211: of the bays, those in the order's mask are PENDING, the others NOT_NAMED. -/
theorem rollIssue_bay (issuer : BitVec 8) (o : BitVec 64) (p : PortId) :
    bayResult ((rollIssue issuer o s).roll.bays.getD p.val 0) = if maskBit (orderMask o) p then resPending else resNotNamed := by
  simp only [rollIssue, raise_roll]
  rw [List.getD_eq_getElem _ _ (by simp), List.getElem_map, List.getElem_finRange]
  change bayResult (if maskBit (orderMask o) p then _ else _) = _
  rw [apply_ite bayResult, bayResult_bayEntry, bayResult_bayEntry]
  rfl

theorem orderCommand_eq {kind arg : Byte} (srv : served s ch = true) (alive : life s ≠ .ended) (h : OrderAllowed s ch epoch mask)
    (k : OrderKindOk kind arg) : orderCommand ch epoch kind arg mask 0 s
      = answered ch (rollIssue (byteOf ch.val) (orderWord epoch kind arg mask 0) (requested ch s)) :=
  dictCommand_order srv alive rfl (writeOrder_accepts { h with session := by simpa using h.session } k)

theorem orderCommand_issues {kind arg : Byte} (srv : served s ch = true) (alive : life s ≠ .ended)
    (h : OrderAllowed s ch epoch mask) (k : OrderKindOk kind arg) :
    OrderIssued ch epoch kind arg mask s (orderCommand ch epoch kind arg mask 0 s) := by
  rw [orderCommand_eq srv alive h k]
  refine ⟨?_, ?_, ?_, ?_, ?_, ?_, ?_, ?_, fun p => ?bays⟩
  case bays => exact (rollIssue_bay _ _ p).trans (by rw [orderMask_orderWord])
  all_goals simp [answered, rollIssue, byteOf]

end

/-! ## A bay reports (R211, R212) -/

/-- Another LpiEnabledMask. -/
def withLpiMask (v : Byte) (s : State) : State := { s with roll := { s.roll with lpiMask := v } }

section
variable {p : PortId}

/-- R212: with no thermal order waiting, the completion of a roll call changes nothing of it but its Status. -/
theorem rollComplete_roll (due : s.heat.orderDue = false) : ∃ st, (rollComplete s).roll = { s.roll with status := st } := by
  unfold rollComplete
  dsimp only
  split
  · rw [if_neg (by simp [due]), raise_roll]
    exact ⟨_, rfl⟩
  · exact ⟨_, rfl⟩

theorem rollReport_roll (due : s.heat.orderDue = false) (result reason : Nat) : ∃ st, (rollReport p result reason s).roll =
    { s.roll with bays := s.roll.bays.set p.val (bayEntry s.roll.epoch result reason), status := st } :=
  rollComplete_roll (s := { s with roll := { s.roll with bays := s.roll.bays.set p.val (bayEntry s.roll.epoch result reason) } }) due

theorem rollReport_entry (len : s.roll.bays.length = 8) (due : s.heat.orderDue = false) (result reason : Nat) :
    (rollReport p result reason s).roll.bays.getD p.val 0 = bayEntry s.roll.epoch result reason := by
  obtain ⟨st, roll⟩ := rollReport_roll (p := p) due result reason
  rw [roll, List.getD_eq_getElem?_getD, List.getElem?_set_self (p.isLt.trans_eq len.symm), Option.getD_some]

/-- R211: a report leaves an LpiEnabledMask just set as it is. -/
theorem rollReport_withLpiMask (len : s.roll.bays.length = 8) (due : s.heat.orderDue = false) (v : Byte) (result reason : Nat) :
    (rollReport p result reason (withLpiMask v s)).roll.bays.getD p.val 0 = bayEntry s.roll.epoch result reason
      ∧ (rollReport p result reason (withLpiMask v s)).roll.lpiMask = v := by
  obtain ⟨st, roll⟩ := rollReport_roll (p := p) (s := withLpiMask v s) due result reason
  exact ⟨rollReport_entry (s := withLpiMask v s) len due result reason, by rw [roll]; rfl⟩

theorem rollReport_ports (result reason : Nat) : (rollReport p result reason s).ports = s.ports :=
  rollComplete_ports _

/-! ## A bay applies the order (R211) -/

section
variable (pending : rollPending s.roll p = true) (free : bayInTest s p = false)
include pending free

theorem rollApply_gated (gate : bayOpen s p = false) : rollApply p s = rollReport p resRefused 0x92 s := by
  simp [rollApply, pending, free, gate]

theorem rollApply_lpiEnable (gate : bayOpen s p = true) (kind : orderKind s.roll.order = 3) : rollApply p s =
    rollReport p resApplied 0 (withLpiMask (s.roll.lpiMask ||| (1#8 <<< p.val)) s) := by
  simp [withLpiMask, rollApply, pending, free, gate, kind]

theorem rollApply_lpiDisable (gate : bayOpen s p = true) (kind : orderKind s.roll.order = 4) : rollApply p s =
    wakeRequest p (rollReport p resApplied 0 (withLpiMask (s.roll.lpiMask &&& ~~~(1#8 <<< p.val)) s)) := by
  simp [withLpiMask, rollApply, pending, free, gate, kind]

theorem rollApply_setMode_down {m : EMode} (gate : bayOpen s p = true) (kind : orderKind s.roll.order = 2)
    (arg : emodeOf (orderArg s.roll.order) = some m) (down : s.ports[p].link.up = false) :
    rollApply p s = rollReport p resCapped 0 (modLink p (fun l => { l with cap := some (.etoon m) }) s) := by
  rw [Fin.getElem_fin] at down
  simp [rollApply, pending, free, gate, kind, arg, down]

theorem rollApply_downshift {m target : EMode} (gate : bayOpen s p = true) (kind : orderKind s.roll.order = 1)
    (up : s.ports[p].link.up = true) (mode : etoonMode s.ports[p] = some m) (idle : s.ports[p].mc.role = .none)
    (next : nextLower m = some target) : rollApply p s = mcStart p target (some s.roll.epoch) s := by
  have active : s.ports[p].link.mode = some (.etoon m) := by
    unfold etoonMode at mode
    split at mode
    · next e => rw [e, Option.some.inj mode]
    · cases mode
  have lower : target ≠ m := by rintro rfl; cases target <;> cases next
  rw [Fin.getElem_fin] at up idle active
  simp [rollApply, pending, free, gate, kind, up, active, mcBusy, idle, next, lower]

end

/-- R140, R141, R211: without an obstacle, a change is asked for with the next epoch number, for the roll call that it names. -/
theorem mcStart_asks {cur target : EMode} (roll : Option (BitVec 16)) (mode : etoonMode s.ports[p] = some cur)
    (clear : mcObstacle s p cur target = none) : mcStart p target roll s = modPort p (fun q => { q with
      mc := { role := .requester, target := target, old := cur, epoch := q.link.epoch + 1, requests := 1, rollEpoch := roll }
      link := { q.link with mcStatus := .requested }
      line := { q.line with owed := q.line.owed ++ [.request target (q.link.epoch + 1)] } }) s := by
  simp only [mcStart, mode, clear]
  exact modPort_modPort p _ _ s

end

end

/-- Settles O28: an order passes R210's steps one after another (`writeOrder_accepts`); a bay's report is read off its entry, which the
roll call's completion leaves as it is (`rollComplete_roll`). -/
theorem rollCalls : Obligations.RollCalls := by
  unfold Obligations.RollCalls
  refine ⟨fun s ch epoch arg mask srv alive session idle named ahead near => ?_, fun s p pending len due free => ?_⟩
  · have issues {kind a : Byte} := orderCommand_issues (kind := kind) (arg := a) srv alive ⟨session, idle, named, ahead, near⟩
    exact ⟨⟨_, rfl, issues (.inr ⟨.inl rfl, rfl⟩)⟩, fun low high => ⟨_, rfl, issues (.inl ⟨rfl, low, high⟩)⟩,
      ⟨_, rfl, issues (.inr ⟨.inr (.inl rfl), rfl⟩)⟩, ⟨_, rfl, issues (.inr ⟨.inr (.inr rfl), rfl⟩)⟩⟩
  · have applied {t : State} (h : rollApply p s = t) : exec (.rollCallApply p) s = .next t := congrArg Host.Outcome.next h
    refine ⟨fun gate => ?gated, fun gate kind => ?enable, fun gate kind => ?disable, fun m gate kind arg down => ?capped,
      fun m target gate kind up mode role next clear => ?downshift⟩
    case gated => exact ⟨_, applied (rollApply_gated pending free gate), rollReport_entry len due _ _, rollReport_ports _ _⟩
    case enable =>
      obtain ⟨entry, mask⟩ := rollReport_withLpiMask len due _ _ _
      exact ⟨_, applied (rollApply_lpiEnable pending free gate kind), entry, mask, rollReport_ports _ _⟩
    case disable =>
      obtain ⟨entry, mask⟩ := rollReport_withLpiMask len due _ _ _
      exact ⟨_, applied (rollApply_lpiDisable pending free gate kind), entry, mask⟩
    case capped =>
      refine ⟨_, applied (rollApply_setMode_down pending free gate kind arg down),
        rollReport_entry (s := modLink p _ s) len due _ _, ?_⟩
      rw [rollReport_ports, Fin.getElem_fin, modLink_self]
    case downshift =>
      refine ⟨_, applied ((rollApply_downshift pending free gate kind up mode role next).trans (mcStart_asks _ mode clear)),
        onlyPort_modPort _, ?_⟩
      simp only [Fin.getElem_fin, modPort_self, and_self]

end Sys2Proof.Machine
end

section
/-! PROOF. The sieve (R215 to R220, R225 to R227): what its dictionary checks let pass, a kind that comes into force, a disarm, the end
of an interruption, and the corruptions of the host lane. -/

namespace Sys2Proof.Machine

/-! ## A write to the sieve (R215, R308) -/

/-- A CTRL row of the sieve's object tables, in either profile. -/
structure SieveField (base sub : Nat) (o : Obj) (f : Field) : Prop where
  range   : 0x2500 ≤ base ∧ base < 0x2600
  found   : ∀ new, findField new base sub = .ok (o, f)
  index   : o.index = base
  kind    : f.cls = .ctrl
  writers : f.w = some wWM
  holder  : o.holder = .sieve

theorem sieveField_arm : SieveField 0x2510 1 sieveObjects[1] (ctrls 1 3 1 wWM) :=
  ⟨by decide, fun new => by cases new <;> rfl, rfl, rfl, rfl, rfl⟩

theorem sieveField_command : SieveField 0x2500 3 sieveObjects[0] (ctrl 3 1 wWM) :=
  ⟨by decide, fun new => by cases new <;> rfl, rfl, rfl, rfl, rfl⟩

theorem splitIndex_portIndex_sieve (p : PortId) : splitIndex (portIndex 0x2510 p) = (0x2510, p) := by
  decide +revert

/-- R215, steps 1 to 4. -/
structure SieveWriter (s : State) (ch : Chan) : Prop where
  gates  : s.gate.gates.getLsbD 16 = true
  opened : gateOpen s 16 = true
  alive  : life s ≠ .ended
  role   : sieveRole ch s = true
  holder : otherHolder ch s = false

section
variable {s t : State} {ch : Chan} {p : PortId}

theorem sieveWrites_iff : sieveWrites s ch = true ↔ served s ch = true ∧ SieveWriter s ch := by
  simp only [sieveWrites, Bool.and_eq_true, Bool.not_eq_true', decide_eq_true_eq]
  exact ⟨fun ⟨⟨⟨⟨⟨srv, alive⟩, gates⟩, opened⟩, role⟩, holder⟩ => ⟨srv, gates, opened, alive, role, holder⟩,
    fun ⟨srv, w⟩ => ⟨⟨⟨⟨⟨srv, w.alive⟩, w.gates⟩, w.opened⟩, w.role⟩, w.holder⟩⟩

theorem SieveWriter.requested (w : SieveWriter s ch) : SieveWriter (requested ch s) ch :=
  ⟨w.gates, w.opened, w.alive, (sieveRole_requested s ch ch).trans w.role, w.holder⟩

/-- R216: the first channel to arm a kind becomes Holder, and stays it. -/
theorem SieveWriter.getD_holder (w : SieveWriter s ch) : s.sieveHolder.getD ch = ch := by
  have holder := w.holder
  unfold otherHolder at holder
  split at holder
  · next h e => rw [e]; exact of_not_not (of_decide_eq_false holder)
  · next e => rw [e]; rfl

theorem answered_ports (ch : Chan) (s : State) : (answered ch s).ports = s.ports := rfl

section
variable {base sub : Nat} {o : Obj} {f : Field} {d : List Byte} (r : SieveField base sub o f)
include r

theorem SieveField.index_ne : o.index ≠ 0x2005 := by
  have := r.range
  rw [r.index]
  omega

theorem SieveField.holderGate_eq (w : SieveWriter s ch) : holderGate o p s = none := by
  simp [holderGate, r.holder, w.gates, w.opened]

/-- R215: where no bay under self-test is to be armed, only the value of a write is left to judge. -/
theorem SieveField.writeForbidden_eq (w : SieveWriter s ch) (test : serviceUnderTest o.index p sub (leVal d) s = false)
    (len : lengthOk f.len d.length = true) :
    writeForbidden o f wWM p sub d ch s = if !valueOk o f p sub d s then some abRange else none := by
  obtain ⟨low, high⟩ := r.range
  have owners : base ≠ 0x2006 := by omega
  have recorder : base ≠ 0x4006 := by omega
  have order : base ≠ 0x2600 := by omega
  have gates : base ≠ 0x2103 := by omega
  have crock : ¬ 0x4000 ≤ base := by omega
  have lock : lockCovers base sub = false := by
    simp [lockCovers]
    omega
  have life : lifeForbids o.index sub (leVal d) s = false := by simp [lifeForbids, r.index, owners, recorder, w.alive]
  have role : roleGrants o f wWM p sub (leVal d) ch s = true := by simp [roleGrants, r.index, order, r.holder, w.role]
  have block : underTest o p s = false := by simp [underTest, r.holder, r.index, crock]
  have unlocked : lockForbids o f p sub (leVal d) ch s = false := by simp [lockForbids, r.index, lock, gates]
  simp [writeForbidden, life, role, w.holder, block, test, len, unlocked]

end

section
variable {base : Nat} {i : BitVec 16} {sub : Byte} {o : Obj} {f : Field} {d : List Byte} (r : SieveField base sub.toNat o f)
  (hw : sieveWrites s ch = true) (hi : splitIndex i = (base, p))
  (test : serviceUnderTest o.index p sub.toNat (leVal d) (requested ch s) = false) (len : lengthOk f.len d.length = true)
include r hw hi test len

/-- R308: a value within its range has its field's effect. -/
theorem dictCommand_sieveField (ok : valueOk o f p sub.toNat d (requested ch s) = true)
    (w : writeField ch o f p sub.toNat d (requested ch s) = .ok t) : dictCommand ch i sub d s = answered ch t := by
  obtain ⟨srv, writer⟩ := sieveWrites_iff.mp hw
  have passes : writeForbidden o f wWM p sub.toNat d ch (requested ch s) = none := by
    rw [r.writeForbidden_eq writer.requested test len, ok]
    rfl
  refine dictCommand_ok srv ?_
  rw [dictWrite_passes p base hi (r.found _) r.writers (r.holderGate_eq writer.requested) r.index_ne passes, w]

/-- R308: a value out of its range is refused, without a record. -/
theorem dictCommand_sieveField_range (out : valueOk o f p sub.toNat d (requested ch s) = false) :
    dictCommand ch i sub d s = answerAbort ch abRange (requested ch s) := by
  obtain ⟨srv, writer⟩ := sieveWrites_iff.mp hw
  have refused : dictWrite ch i sub d (requested ch s) = .error (abRange, requested ch s) := by
    simp only [dictWrite, hi, r.found, r.writers, r.holderGate_eq writer.requested, r.index_ne, if_false,
      r.writeForbidden_eq writer.requested test len, out, Bool.not_false, if_true]
    rfl
  simp only [dictCommand, srv, if_true, beginRequest_served s ch srv, answerWrite, refused]
  rfl

end

end

/-! ## The kinds of Arm (Table 8-2) -/

section
variable {arm : BitVec 8} {k : Nat}

theorem kind_getLsbD (hk : k < 8) (j : Nat) : (1#8 <<< k).getLsbD j = decide (k = j) := by
  rw [← BitVec.twoPow_eq, BitVec.getLsbD_twoPow, decide_eq_true hk, Bool.true_and]

/-- A kind that Arm does not hold yet is what its setting adds. -/
theorem fresh_kind (hk : k < 8) (off : arm.getLsbD k = false) : (arm ||| 1#8 <<< k) &&& ~~~arm = 1#8 <<< k := by
  refine BitVec.eq_of_getLsbD_eq fun j hj => ?_
  rw [BitVec.getLsbD_and, BitVec.getLsbD_or, BitVec.getLsbD_not, kind_getLsbD hk, decide_eq_true hj]
  by_cases e : k = j
  · rw [← e, off, decide_eq_true rfl]
    rfl
  · rw [decide_eq_false e, Bool.or_false, Bool.true_and, Bool.and_not_self]

theorem no_kind_gone : arm &&& ~~~(arm ||| 1#8 <<< k) = 0 := by
  rw [BitVec.not_or, ← BitVec.and_assoc, BitVec.and_not_self]
  exact BitVec.zero_and

theorem kind_ne_zero (hk : k < 8) : 1#8 <<< k ≠ 0 := fun h => by
  have := kind_getLsbD hk k
  rw [h] at this
  simp at this

theorem armValue_le (known : arm &&& 0xC0#8 = 0) (hk : k < 6) : (arm ||| 1#8 <<< k).toNat ≤ 0x3F := by
  have low (x : BitVec 8) : x &&& 0xC0#8 = 0 → x.toNat ≤ 0x3F := by decide +revert
  have kind : ∀ k < 6, (1#8 <<< k) &&& 0xC0#8 = 0 := by decide
  exact low _ (by rw [BitVec.and_or_distrib_right, known, kind k hk, BitVec.or_self])

end

/-! ## Kinds come into force (R216, R220, R225) -/

section
variable {p : PortId}

theorem modSieve_port (f : SievePort → SievePort) (s : State) :
    (modSieve p f s).ports[p] = { s.ports[p] with sieve := f s.ports[p].sieve } := modSieve_self s p f

theorem modHost_port (f : HostLane → HostLane) (s : State) :
    (modHost p f s).ports[p] = { s.ports[p] with host := f s.ports[p].host } := modHost_self s p f

end

/-- R216, R220: the settings of a port's sieve v as they come into force for kinds armed at tally time `now`. -/
structure Loaded (kinds : BitVec 8) (now : Nat) (v w : SievePort) : Prop where
  arm       : w.arm = v.arm
  live      : w.live = v.live ||| kinds
  lfsr      : w.lfsr = v.seed
  drop      : kinds.getLsbD kindDrop = true → w.dMode = v.dropMode ∧ w.dArg = v.dropArg ∧ w.dSeen = 0 ∧ w.dSelect = v.lineSelect
  corrupt   : kinds.getLsbD kindCorrupt = true →
    w.cMode = v.corruptMode ∧ w.cArg = v.corruptArg ∧ w.cSeen = 0 ∧ w.cSelect = v.lineSelect
  swap      : kinds.getLsbD kindSwap = true → w.sDist = v.maxDistance ∧ w.sInterval = v.swapInterval ∧ w.sCount = 0
  interrupt : kinds.getLsbD kindInterrupt = true → w.iSides = v.intSides ∧ w.iLength = v.intLength
  hostIn    : kinds.getLsbD kindHostIn = true → w.hInInterval = v.hostInterval ∧ w.hostInAt = now
  hostOut   : kinds.getLsbD kindHostOut = true → w.hOutInterval = v.hostInterval ∧ w.hostOutAt = now

/-- An interruption that starts at tally time `now` (R225, R227). -/
def interruptedAt (now : Nat) (v : SievePort) : SievePort :=
  { v with interrupting := true, intWaiting := false, intSince := now, counters := bump 4 1 v.counters, episode := some now }

theorem Loaded.interruptedAt {kinds : BitVec 8} {now : Nat} {v w : SievePort} (h : Loaded kinds now v w) (n : Nat) :
    Loaded kinds now v (interruptedAt n w) :=
  ⟨h.arm, h.live, h.lfsr, h.drop, h.corrupt, h.swap, h.interrupt, h.hostIn, h.hostOut⟩

section
variable {s : State} {ch : Chan} {p : PortId}

/-- R225: an interruption just armed waits for a boundary where slots run, and has started where none does. -/
def InterruptArmed (runs : Bool) (now : Nat) (v w : SievePort) : Prop :=
  if runs then w.intWaiting = true ∧ w.interrupting = v.interrupting
  else w.intWaiting = false ∧ w.interrupting = true ∧ w.intSince = now

theorem startInterruption_self (s : State) : ∃ l g, (startInterruption p s).ports[p] =
    { s.ports[p] with line := l, sig := g, sieve := interruptedAt s.aon.tally s.ports[p].sieve } := by
  unfold startInterruption provoke
  dsimp only
  split
  · simp only [modNewest, Fin.getElem_fin, modSieve_self, modLine_self, modLine_aon, modPort_self, modPort_aon]
    exact ⟨_, _, rfl⟩
  · simp only [Fin.getElem_fin, modSieve_self, modPort_self, modPort_aon]
    exact ⟨_, _, rfl⟩

/-- R216, R220: the settings come into force and the channel becomes Holder, before an interruption may start. -/
theorem armKinds_eq (kinds : BitVec 8) (s : State) : ∃ f e,
    armKinds ch p kinds s = startIfNoSlot p (raise e { modSieve p f s with sieveHolder := some (s.sieveHolder.getD ch) })
    ∧ ∀ v, Loaded kinds s.aon.tally v (f v) ∧ (f v).interrupting = v.interrupting
      ∧ (kinds.getLsbD kindInterrupt = true → (f v).intWaiting = true) := by
  refine ⟨_, _, rfl, fun v => ⟨⟨rfl, rfl, rfl, fun on => ?_, fun on => ?_, fun on => ?_, fun on => ?_, fun on => ?_, fun on => ?_⟩,
    rfl, fun on => ?_⟩⟩
  all_goals simp [on]

theorem armKinds_self (kinds : BitVec 8) (s : State) : ∃ l g v, (armKinds ch p kinds s).ports[p] =
      { s.ports[p] with line := l, sig := g, sieve := v }
    ∧ Loaded kinds s.aon.tally s.ports[p].sieve v
    ∧ (kinds.getLsbD kindInterrupt = true → InterruptArmed (slotsRun s.ports[p]) s.aon.tally s.ports[p].sieve v) := by
  obtain ⟨f, e, arms, load⟩ := armKinds_eq (ch := ch) (p := p) kinds s
  obtain ⟨loaded, interrupting, waits⟩ := load s.ports[p].sieve
  rw [arms]
  generalize ht : raise e _ = t
  have self : t.ports[p] = { s.ports[p] with sieve := f s.ports[p].sieve } := by
    rw [← ht, raise_ports]
    exact modSieve_port f s
  have now : t.aon = s.aon := by
    rw [← ht, raise_aon]
    rfl
  have runs : slotsRun t.ports[p] = slotsRun s.ports[p] := by rw [self]; rfl
  unfold startIfNoSlot
  by_cases starts : (t.ports[p].sieve.intWaiting && !slotsRun t.ports[p]) = true
  · rw [if_pos starts]
    obtain ⟨l, g, started⟩ := startInterruption_self (p := p) t
    rw [self, now] at started
    refine ⟨l, g, _, started, loaded.interruptedAt _, fun _ => ?_⟩
    simp only [runs, Bool.and_eq_true, Bool.not_eq_true'] at starts
    rw [InterruptArmed, if_neg (by rw [starts.2]; exact Bool.false_ne_true)]
    exact ⟨rfl, rfl, rfl⟩
  · rw [if_neg starts]
    refine ⟨_, _, _, self, loaded, fun on => ?_⟩
    rw [self] at starts runs
    simp only [runs, waits on, Bool.true_and, Bool.not_eq_true', Bool.not_eq_false] at starts
    rw [InterruptArmed, if_pos starts]
    exact ⟨waits on, interrupting⟩

theorem elsewhere_armKinds (kinds : BitVec 8) (s : State) : elsewhere p (armKinds ch p kinds s) = elsewhere p s := by
  obtain ⟨f, e, arms, -⟩ := armKinds_eq (ch := ch) (p := p) kinds s
  rw [arms, elsewhere_startIfNoSlot, elsewhere_raise]
  exact elsewhere_modSieve p s f

theorem startIfNoSlot_sieveHolder (s : State) : (startIfNoSlot p s).sieveHolder = s.sieveHolder := by
  unfold startIfNoSlot startInterruption provoke
  dsimp only
  simp only [apply_ite State.sieveHolder, modNewest, modSieve_sieveHolder, modLine_sieveHolder, modPort_sieveHolder, ite_self]

theorem armKinds_sieveHolder (kinds : BitVec 8) (s : State) :
    (armKinds ch p kinds s).sieveHolder = some (s.sieveHolder.getD ch) := by
  obtain ⟨f, e, arms, -⟩ := armKinds_eq (ch := ch) (p := p) kinds s
  rw [arms, startIfNoSlot_sieveHolder, raise_sieveHolder]

/-! ## A kind is armed (R215, R216, log entry 83) -/

/-- The argument that a kind of Arm takes lies within its mode's range. -/
def argOk (k : Nat) (v : SievePort) : Bool :=
  match k with
  | 0 => dropArgOk v.dropMode v.dropArg.toNat
  | 1 => corruptArgOk v.corruptMode v.corruptArg.toNat
  | _ => true

/-- One kind more in Arm. -/
def withKind (p : PortId) (k : Nat) (s : State) : State := modSieve p (fun v => { v with arm := v.arm ||| 1#8 <<< k }) s

theorem serviceUnderTest_arm (test : bayInTest s p = false) (v : Nat) :
    serviceUnderTest 0x2510 p 1 v (requested ch s) = false := by
  have out : bayInTest (requested ch s) p = false := test
  simp [serviceUnderTest, armsTested, asksUnderTest, out]

section
variable {k : Nat} (hk : k < 6) (off : s.ports[p].sieve.arm.getLsbD k = false)
include hk off

theorem armArgsOk_eq : armArgsOk (s.ports[p].sieve.arm ||| 1#8 <<< k).toNat s.ports[p].sieve = argOk k s.ports[p].sieve := by
  have kinds := kind_getLsbD (k := k) (by omega)
  simp only [armArgsOk, BitVec.ofNat_toNat, BitVec.setWidth_eq, fresh_kind (k := k) (by omega) off, kinds]
  match k with
  | 0 => exact Bool.and_true _
  | 1 => rfl
  | k + 2 => simp [argOk, kindDrop, kindCorrupt]

theorem writeArm_fresh : writeArm ch p (s.ports[p].sieve.arm ||| 1#8 <<< k) s = armKinds ch p (1#8 <<< k) (withKind p k s) := by
  unfold writeArm
  dsimp only
  rw [no_kind_gone, fresh_kind (by omega) off, if_pos rfl, if_neg (kind_ne_zero (by omega))]
  rfl

/-- Table 8-2: Arm takes the kinds of bits 0 to 5. -/
theorem valueOk_arm : valueOk sieveObjects[1] (ctrls 1 3 1 wWM) p 1 [s.ports[p].sieve.arm ||| 1#8 <<< k] (requested ch s)
    = (decide ((s.ports[p].sieve.arm ||| 1#8 <<< k).toNat ≤ 0x3F) && argOk k s.ports[p].sieve) := by
  rw [← armArgsOk_eq hk off]
  exact congrArg (fun v => sieveValueOk 1 v s.ports[p].sieve) (leVal_byte _)

section
variable (hw : sieveWrites s ch = true) (test : bayInTest s p = false)
include hw test

theorem armCommand_ok (known : s.ports[p].sieve.arm &&& 0xC0#8 = 0) (ok : argOk k s.ports[p].sieve = true) :
    armCommand ch p k s = answered ch (armKinds ch p (1#8 <<< k) (withKind p k (requested ch s))) := by
  refine dictCommand_sieveField sieveField_arm hw (splitIndex_portIndex_sieve p) (serviceUnderTest_arm test _) rfl ?value ?effect
  case value => exact (valueOk_arm hk off).trans (by rw [ok, decide_eq_true (armValue_le known hk)]; rfl)
  case effect =>
    refine congrArg Except.ok (Eq.trans ?_ (writeArm_fresh (s := requested ch s) hk off))
    rw [leVal_byte, byteOf_toNat]
    rfl

theorem armCommand_range (out : argOk k s.ports[p].sieve = false) :
    armCommand ch p k s = answerAbort ch abRange (requested ch s) := by
  refine dictCommand_sieveField_range sieveField_arm hw (splitIndex_portIndex_sieve p) (serviceUnderTest_arm test _) rfl ?_
  exact (valueOk_arm hk off).trans (by rw [out, Bool.and_false])

/-- R216, R220: the kind is in force and in Arm, the channel is Holder, and no other port has changed. -/
theorem exec_arms (known : s.ports[p].sieve.arm &&& 0xC0#8 = 0) (ok : argOk k s.ports[p].sieve = true) {c : Instr}
    (run : exec c s = .next (armCommand ch p k s)) {more : SievePort → Prop}
    (loads : ∀ w, Loaded (1#8 <<< k) s.aon.tally { s.ports[p].sieve with arm := s.ports[p].sieve.arm ||| 1#8 <<< k } w →
      ((1#8 <<< k).getLsbD kindInterrupt = true → InterruptArmed (slotsRun s.ports[p]) s.aon.tally s.ports[p].sieve w) → more w) :
    ∃ t, exec c s = .next t
      ∧ t.ports[p].sieve.arm = s.ports[p].sieve.arm ||| (1#8 <<< k)
      ∧ t.ports[p].sieve.live = s.ports[p].sieve.live ||| (1#8 <<< k)
      ∧ t.ports[p].sieve.lfsr = s.ports[p].sieve.seed ∧ t.sieveHolder = some ch ∧ t.chans[ch].resp = .ok
      ∧ (∀ q : PortId, q ≠ p → t.ports[q] = s.ports[q]) ∧ t.ports[p].link = s.ports[p].link ∧ more t.ports[p].sieve := by
  obtain ⟨l, g, w, self, loaded, interrupt⟩ := armKinds_self (ch := ch) (p := p) (1#8 <<< k) (withKind p k (requested ch s))
  have others := portFrame_of_elsewhere p (requested ch s)
    ((elsewhere_armKinds (ch := ch) (1#8 <<< k) (withKind p k (requested ch s))).trans (elsewhere_modSieve p _ _))
  have holder := armKinds_sieveHolder (ch := ch) (p := p) (1#8 <<< k) (withKind p k (requested ch s))
  rw [withKind, modSieve_port] at self loaded interrupt
  refine ⟨_, run.trans (congrArg Host.Outcome.next (armCommand_ok hk off hw test known ok)), ?_⟩
  rw [answered_ports, withKind, self]
  exact ⟨loaded.arm, loaded.live, loaded.lfsr, holder.trans (congrArg some (sieveWrites_iff.mp hw).2.getD_holder),
    congrArg Channel.resp (modChan_self _ _ _), others.2, rfl, loads w loaded interrupt⟩

/-- R215, log entry 83: an argument out of its mode's range. -/
theorem exec_arm_range (out : argOk k s.ports[p].sieve = false) {c : Instr} (run : exec c s = .next (armCommand ch p k s)) :
    ∃ t, exec c s = .next t ∧ t.chans[ch].resp = .abort abRange ∧ t.ports = s.ports := by
  rw [armCommand_range hk off hw test out] at run
  exact ⟨_, run, congrArg Channel.resp (modChan_self _ _ _), rfl⟩

end
end

/-! ## Kinds leave force (R216, R217, R225) -/

theorem endInterruption_self (s : State) : ∃ l, (endInterruption p s).ports[p] =
    { s.ports[p] with line := l, sieve := { s.ports[p].sieve with interrupting := false } } := by
  unfold endInterruption
  dsimp only
  split
  · simp only [modNewest, Fin.getElem_fin, modSieve_self, modLine_self]
    exact ⟨_, rfl⟩
  · simp only [Fin.getElem_fin, modSieve_self]
    exact ⟨_, rfl⟩

theorem skipSwap_self (down : Bool) (s : State) : ∃ x o n, (skipSwap p down s).ports[p] =
    { s.ports[p] with tx := x, sieve := { s.ports[p].sieve with swapOut := o, counters := n } } := by
  unfold skipSwap
  split
  · exact ⟨_, _, _, rfl⟩
  · simp only [Fin.getElem_fin, modTx_self, modSieve_self]
    exact ⟨_, _, _, rfl⟩

theorem and_not_eq_self {live kinds : BitVec 8} (none : live &&& kinds = 0) : live &&& ~~~kinds = live :=
  calc live &&& ~~~kinds = (live &&& kinds) ||| (live &&& ~~~kinds) := by rw [none]; exact BitVec.zero_or.symm
    _ = live := by rw [← BitVec.and_or_distrib_left, BitVec.or_not_self, BitVec.and_allOnes]

theorem disarmNow_self (kinds cause : BitVec 8) (s : State) : ∃ x v,
    (disarmNow p kinds 0 cause s).ports[p] = { s.ports[p] with tx := x, sieve := v }
    ∧ v.live = s.ports[p].sieve.live &&& ~~~kinds ∧ v.interrupting = s.ports[p].sieve.interrupting := by
  unfold disarmNow
  by_cases idle : s.ports[p].sieve.live &&& kinds = 0
  · rw [if_pos idle]
    exact ⟨_, _, rfl, (and_not_eq_self idle).symm, rfl⟩
  · have swapped : ∃ x o n, (if kinds.getLsbD kindSwap then skipSwap p false s else s).ports[p] =
        { s.ports[p] with tx := x, sieve := { s.ports[p].sieve with swapOut := o, counters := n } } := by
      split
      · exact skipSwap_self false s
      · exact ⟨_, _, _, rfl⟩
    obtain ⟨x, o, n, self⟩ := swapped
    rw [if_neg idle]
    dsimp only
    rw [releaseHolder_ports, raise_ports]
    generalize (if kinds.getLsbD kindSwap then skipSwap p false s else s) = t at self ⊢
    rw [modSieve_port, self]
    exact ⟨_, _, rfl, congrArg (fun gone => s.ports[p].sieve.live &&& ~~~gone) BitVec.and_allOnes, rfl⟩

/-- R217: what a disarm of every kind makes of port q, which is port r after it. -/
structure Disarmed (cause : BitVec 8) (q r : Port) : Prop where
  silence : r.sieve.interrupting = false
  now     : slotsRun q = false → r.sieve.live = 0
  waits   : slotsRun q = true → q.sieve.live ≠ 0 → r.sieve.disarms = q.sieve.disarms ++ [(0xFF, cause)] ∧ r.sieve.arm = 0

/-- R217: of an interruption in progress, the first step of a disarm of every kind leaves nothing. -/
theorem interruption_cut (s : State) :
    ∃ l, (if (0xFF : BitVec 8).getLsbD kindInterrupt && s.ports[p].sieve.interrupting then endInterruption p s else s).ports[p] =
      { s.ports[p] with line := l, sieve := { s.ports[p].sieve with interrupting := false } } := by
  split
  · exact endInterruption_self s
  · next still =>
    have still : s.ports[p].sieve.interrupting = false := Bool.eq_false_of_not_eq_true still
    exact ⟨s.ports[p].line, by rw [← still]⟩

theorem disarmed_disarm (cause : BitVec 8) (s : State) : Disarmed cause s.ports[p] (disarm p 0xFF cause s).ports[p] := by
  obtain ⟨l, cut⟩ := interruption_cut (p := p) s
  unfold disarm
  generalize (if (0xFF : BitVec 8).getLsbD kindInterrupt && s.ports[p].sieve.interrupting then endInterruption p s else s) = t
    at cut ⊢
  have cleared := modSieve_port (p := p) (fun v => { v with arm := v.arm &&& ~~~0xFF, rearmed := v.rearmed &&& ~~~0xFF }) t
  rw [cut] at cleared
  dsimp only
  generalize modSieve p _ t = u at cleared ⊢
  have runs : slotsRun u.ports[p] = slotsRun s.ports[p] := by rw [cleared]; rfl
  by_cases on : slotsRun s.ports[p] = true
  · rw [if_pos (runs.trans on), modSieve_port, cleared]
    exact ⟨rfl, fun off => (nomatch on.symm.trans off), fun _ _ => ⟨rfl, BitVec.and_zero⟩⟩
  · obtain ⟨x, v, gone, live, silence⟩ := disarmNow_self (p := p) 0xFF cause u
    rw [cleared] at silence
    rw [if_neg (runs ▸ on), gone]
    exact ⟨silence, fun _ => live.trans BitVec.and_zero, fun runs => absurd runs on⟩

/-- What the change of a port's own turn makes of it, where the turns of the others leave it alone. -/
theorem forPorts_self {f : PortId → State → State} (others : ∀ p q t, q ≠ p → (f p t).ports[q] = t.ports[q]) (q : PortId)
    (s : State) : ∃ t, t.ports[q] = s.ports[q] ∧ (forPorts f s).ports[q] = (f q t).ports[q] := by
  have kept (l : List PortId) (hl : q ∉ l) (t : State) : (l.foldl (fun t p => f p t) t).ports[q] = t.ports[q] :=
    List.foldlRecOn (motive := fun u => u.ports[q] = t.ports[q]) l _ rfl fun u same p hp =>
      (others p q u fun e => hl (e ▸ hp)).trans same
  obtain ⟨before, after, split⟩ := List.append_of_mem (List.mem_finRange q)
  have nodup := List.nodup_finRange 8
  rw [split, List.nodup_middle, List.nodup_cons, List.mem_append, not_or] at nodup
  obtain ⟨⟨first, last⟩, -⟩ := nodup
  refine ⟨_, kept before first s, ?_⟩
  unfold forPorts
  rw [split, List.foldl_append, List.foldl_cons]
  exact kept after last _

theorem elsewhere_disarm (kinds cause : BitVec 8) (s : State) : elsewhere p (disarm p kinds cause s) = elsewhere p s := by
  simp only [disarm, elsewhere_ite, elsewhere_modSieve, elsewhere_disarmNow, elsewhere_endInterruption, ite_self]

/-- R217: every kind on every port. -/
theorem disarmed_disarmAll (cause : BitVec 8) (q : PortId) (s : State) : Disarmed cause s.ports[q] (disarmAll cause s).ports[q] := by
  unfold disarmAll
  rw [releaseHolder_ports]
  obtain ⟨t, same, turn⟩ := forPorts_self (q := q) (s := s) (f := fun p t =>
    if t.ports[p].sieve.live = 0 ∧ t.ports[p].sieve.interrupting = false then t else disarm p 0xFF cause t) (fun p q t hq => by
      split
      · rfl
      · exact (portFrame_of_elsewhere p t (elsewhere_disarm 0xFF cause t)).2 q hq)
  rw [turn, ← same]
  split
  · next quiet => exact ⟨quiet.2, fun _ => quiet.1, fun _ live => absurd quiet.1 live⟩
  · exact disarmed_disarm cause t

theorem exec_disarmAllGo (hw : sieveWrites s ch = true) : ∃ t, exec (.disarmAllGo ch) s = .next t ∧ t.chans[ch].resp = .ok
    ∧ ∀ q : PortId, Disarmed 4 s.ports[q] t.ports[q] := by
  have go : dictCommand ch 0x2500 3 [0x01] s = answered ch (disarmAll 4 (requested ch s)) := by
    refine dictCommand_sieveField sieveField_command hw (p := 0) rfl rfl rfl rfl ?_
    exact congrArg Except.ok (if_pos (c := leVal [0x01] = 1) rfl)
  refine ⟨_, congrArg Host.Outcome.next go, congrArg Channel.resp (modChan_self _ _ _), fun q => ?_⟩
  rw [answered_ports]
  exact disarmed_disarmAll 4 q (requested ch s)

/-- R225: the end of an interruption that has lasted as long as InterruptLength says. -/
theorem exec_interruptionEnd (interrupting : s.ports[p].sieve.interrupting = true)
    (expired : s.ports[p].sieve.intSince + s.ports[p].sieve.iLength ≤ s.aon.tally) : ∃ t, exec (.interruptionEnd p) s = .next t
      ∧ t.ports[p].sieve.interrupting = false ∧ t.ports[p].sieve.live = s.ports[p].sieve.live &&& ~~~8#8
      ∧ t.ports[p].link = s.ports[p].link := by
  obtain ⟨l, ended⟩ := endInterruption_self (p := p) s
  obtain ⟨x, v, gone, live, silence⟩ := disarmNow_self (p := p) 8 2 (endInterruption p s)
  rw [ended] at gone live silence
  refine ⟨releaseHolder (disarmNow p 8 0 2 (endInterruption p s)), congrArg Host.Outcome.next (if_pos ⟨interrupting, expired⟩), ?_⟩
  rw [releaseHolder_ports, gone]
  exact ⟨silence, live, rfl⟩

/-! ## The host lane's corruptions (R183, R226) -/

theorem cutLeaf_self (c : Cls) (l : RxLoss) (entry : Nat) (at_ : Nat × Nat) (s : State) :
    ∃ v, (cutLeaf p c l entry at_ s).ports[p] = { s.ports[p] with sealing := v } := by
  simp only [cutLeaf, modStarted, Fin.getElem_fin, modSeal_self]
  exact ⟨_, rfl⟩

theorem cutAtEnd_self (s : State) : ∃ v, (cutAtEnd p s).ports[p] = { s.ports[p] with sealing := v } := by
  unfold cutAtEnd
  split
  · exact ⟨_, modSeal_self s p _⟩
  · exact ⟨_, rfl⟩

/-- R183: a frame in delivery is cut, and its loss is entered. -/
theorem cutDelivery_frame {c : Cls} {bytes : List Byte} {e provoked : Bool} (busy : s.ports[p].host.busy = some (.frame c bytes e)) :
    ∃ part v, (cutDelivery p provoked s).ports[p] = { s.ports[p] with
        host := { s.ports[p].host with
          busy := none, busyLeaf := none, cutLast := true, counters := bump 2 1 (bump 1 1 s.ports[p].host.counters) }
        led := { s.ports[p].led with rx := part }, sealing := v }
      ∧ LossEntered c (cutLoss bytes.length provoked) s.aon.tally s.ports[p].led.rx part := by
  have stopped := modHost_port (p := p)
    (fun h => { h with busy := none, busyLeaf := none, cutLast := true, counters := bump 1 1 h.counters }) s
  unfold cutDelivery
  rw [busy]
  dsimp only
  generalize modHost p _ s = t at stopped ⊢
  obtain ⟨part, entered, led⟩ := ledgerAdd_receive (p := p) c (cutLoss bytes.length provoked) s.aon.tally t
  rw [stopped] at entered led
  generalize ledgerAdd p true c (cutLoss bytes.length provoked) s.aon.tally t = u at led ⊢
  have counted := modHost_port (p := p) (fun h => { h with counters := bump 2 1 h.counters }) u
  rw [led] at counted
  generalize modHost p _ u = w at counted ⊢
  refine ⟨part, ?_⟩
  split
  · next b _ =>
    obtain ⟨v, leaf⟩ := cutLeaf_self (p := p) c (cutLoss bytes.length provoked) (ledgerPart w p true).newest b w
    obtain ⟨v', ended⟩ := cutAtEnd_self (p := p) (cutLeaf p c (cutLoss bytes.length provoked) (ledgerPart w p true).newest b w)
    rw [leaf, counted] at ended
    exact ⟨v', ended, entered⟩
  · obtain ⟨v, ended⟩ := cutAtEnd_self (p := p) w
    rw [counted] at ended
    exact ⟨v, ended, entered⟩

/-- R226, R227: HOST_IN's corruption is a provoked act. -/
theorem exec_hostInCorruption (live : sieveLive s.ports[p] kindHostIn = true)
    (passed : blocksPassed s.ports[p] s.ports[p].sieve.hInInterval s.ports[p].sieve.hostInAt s.aon.tally = true) :
    exec (.hostInCorruption p) s = .next (modPort p (fun q => { q with
      sieve := { q.sieve with hostInAt := s.aon.tally, counters := bump 5 1 q.sieve.counters, episode := some s.aon.tally }
      host := { q.host with arriving := q.host.arriving.map (fun a => { a with errored := true, provoked := true }) } }) s) := by
  refine congrArg Host.Outcome.next ((if_pos ?_).trans ?_)
  · rw [live, passed]
    rfl
  · simp only [provoke, modSieve, modPort_modPort, modPort_aon]

theorem modSieve_busy (f : SievePort → SievePort) : (modSieve p f s).ports[p].host.busy = s.ports[p].host.busy := by
  rw [modSieve_port]

/-- R226: HOST_OUT's count of blocks begins again with each corruption. -/
theorem exec_hostOutCorruption (live : sieveLive s.ports[p] kindHostOut = true)
    (passed : blocksPassed s.ports[p] s.ports[p].sieve.hOutInterval s.ports[p].sieve.hostOutAt s.aon.tally = true) :
    exec (.hostOutCorruption p) s = .next (hostOutHit p (modSieve p (fun v => { v with hostOutAt := s.aon.tally }) s)) := by
  refine congrArg Host.Outcome.next (if_pos ?_)
  rw [live, passed]
  rfl

/-- R226, R231: a seal frame is not hit; the corruption waits. -/
theorem exec_hostOutCorruption_sealFrame {f : List Byte} (live : sieveLive s.ports[p] kindHostOut = true)
    (passed : blocksPassed s.ports[p] s.ports[p].sieve.hOutInterval s.ports[p].sieve.hostOutAt s.aon.tally = true)
    (busy : s.ports[p].host.busy = some (.sealFrame f)) :
    exec (.hostOutCorruption p) s = .next (modSieve p (fun v => { v with hostOutAt := s.aon.tally, hostOutDue := true }) s) := by
  rw [exec_hostOutCorruption live passed, hostOutHit, (modSieve_busy _).trans busy]
  exact congrArg Host.Outcome.next (modPort_modPort p _ _ s)

theorem exec_hostOutCorruption_frame {c : Cls} {bytes : List Byte} {e : Bool} (live : sieveLive s.ports[p] kindHostOut = true)
    (passed : blocksPassed s.ports[p] s.ports[p].sieve.hOutInterval s.ports[p].sieve.hostOutAt s.aon.tally = true)
    (busy : s.ports[p].host.busy = some (.frame c bytes e)) :
    ∃ t, exec (.hostOutCorruption p) s = .next t ∧ t.ports[p].host.busy = none ∧ t.ports[p].host.cutLast = true
      ∧ t.ports[p].sieve.counters = bump 6 1 s.ports[p].sieve.counters ∧ t.ports[p].sieve.episode = some s.aon.tally
      ∧ t.ports[p].host.counters = bump 2 1 (bump 1 1 s.ports[p].host.counters)
      ∧ t.ports[p].led.rx.frames = bump64 c.val 1 s.ports[p].led.rx.frames := by
  have hit : hostOutHit p (modSieve p (fun v => { v with hostOutAt := s.aon.tally }) s) = cutDelivery p true (modSieve p (fun v => { v with
      hostOutAt := s.aon.tally, hostOutDue := false, counters := bump 6 1 v.counters, episode := some s.aon.tally }) s) := by
    rw [hostOutHit, (modSieve_busy _).trans busy]
    simp only [provoke, modSieve, modPort_modPort, modPort_aon]
  obtain ⟨part, v, cut, frames, -⟩ := cutDelivery_frame (provoked := true) ((modSieve_busy _).trans busy)
  refine ⟨_, exec_hostOutCorruption live passed, ?_⟩
  rw [modSieve_port] at cut frames
  rw [hit, cut]
  exact ⟨rfl, rfl, rfl, rfl, rfl, frames⟩

end

/-- Settles O29: each kind is armed by one write (`exec_arms`), whose argument is judged first; a disarm of every kind is made port by
port (`disarmed_disarmAll`). -/
theorem sieve : Obligations.Sieve := by
  unfold Obligations.Sieve
  refine ⟨fun s ch p hw test _ known => ?arms, fun s ch p hw test => ?range, fun s ch p => ?faults⟩
  case arms =>
    intro armed x
    refine ⟨fun ok off => ?drop, fun ok off => ?corrupt, fun off => ?swap, fun off => ?interrupt, fun off => ?hostIn,
      fun off => ?hostOut⟩
    case drop => exact exec_arms (by decide) off hw test known ok rfl fun w h _ => h.drop rfl
    case corrupt => exact exec_arms (by decide) off hw test known ok rfl fun w h _ => h.corrupt rfl
    case swap => exact exec_arms (by decide) off hw test known rfl rfl fun w h _ => h.swap rfl
    case interrupt =>
      refine exec_arms (more := fun y => y.iSides = x.intSides ∧ y.iLength = x.intLength
        ∧ InterruptArmed (slotsRun s.ports[p]) s.aon.tally x y) (by decide) off hw test known rfl rfl fun w h starts => ?_
      obtain ⟨sides, length⟩ := h.interrupt rfl
      exact ⟨sides, length, starts rfl⟩
    case hostIn => exact exec_arms (by decide) off hw test known rfl rfl fun w h _ => h.hostIn rfl
    case hostOut => exact exec_arms (by decide) off hw test known rfl rfl fun w h _ => h.hostOut rfl
  case range =>
    exact ⟨fun off out => exec_arm_range (k := 0) (by decide) off hw test out rfl,
      fun off out => exec_arm_range (k := 1) (by decide) off hw test out rfl⟩
  case faults =>
    refine ⟨fun hw => ?disarmAll, fun early => ?lasts, exec_interruptionEnd, exec_hostInCorruption,
      fun c bytes e => exec_hostOutCorruption_frame, fun f => exec_hostOutCorruption_sealFrame,
      fun early => ?outEarly, fun early => ?inEarly, fun out => ?ends, fun inside => congrArg Host.Outcome.next (if_pos inside)⟩
    case disarmAll =>
      obtain ⟨t, next, answer, disarmed⟩ := exec_disarmAllGo hw
      exact ⟨t, next, answer, fun q => ⟨(disarmed q).silence, (disarmed q).now, (disarmed q).waits⟩⟩
    case lasts => exact congrArg Host.Outcome.next (if_neg fun h => Nat.not_le.mpr early h.2)
    case outEarly => exact congrArg Host.Outcome.next (if_neg (by rw [early, Bool.and_false]; exact Bool.false_ne_true))
    case inEarly => exact congrArg Host.Outcome.next (if_neg (by rw [early, Bool.and_false]; exact Bool.false_ne_true))
    case ends => exact congrArg Host.Outcome.next (if_neg (by rw [out]; exact Bool.false_ne_true))

end Sys2Proof.Machine
end

section
/-! PROOF. Comparisons of the cable signature (R232, R234 to R239, R247): the references as they are read, what a comparison reports,
how its runs and the level follow, and the window that it ends. -/

namespace Sys2Proof.Machine

section
variable {p : PortId} {s t u : State} {g : Sig}

/-! ## One port's signature changed -/

theorem modSig_port (f : Sig → Sig) (s : State) : (modSig p f s).ports[p] = { s.ports[p] with sig := f s.ports[p].sig } :=
  modSig_self s p f

theorem modPort_port (f : Port → Port) (s : State) : (modPort p f s).ports[p] = f s.ports[p] := modPort_self s p f

theorem onlyPortEvents_modPort (f : Port → Port) : OnlyPortEvents p s (modPort p f s) := ⟨rfl, fun q hq => modPort_other s p q f hq⟩

theorem onlyPortEvents_raise (e : Ev) : OnlyPortEvents p s (raise e s) := by
  unfold raise
  split
  · exact ⟨rfl, fun q _ => rfl⟩
  · split
    · exact ⟨rfl, fun q _ => rfl⟩
    · exact ⟨rfl, fun q _ => rfl⟩

theorem OnlyPortEvents.trans (h : OnlyPortEvents p s t) (k : OnlyPortEvents p t u) : OnlyPortEvents p s u := by
  obtain ⟨ht, hq⟩ := h
  obtain ⟨ku, kq⟩ := k
  exact ⟨by rw [ku, ht], fun q hp => (kq q hp).trans (hq q hp)⟩

/-- Port p holds the signature g in t; the rest of the device, raised events aside, is as in s. -/
structure SigSet (p : PortId) (s t : State) (g : Sig) : Prop where
  rest : OnlyPortEvents p s t
  port : t.ports[p] = { s.ports[p] with sig := g }

theorem SigSet.refl (s : State) : SigSet p s s s.ports[p].sig := ⟨⟨rfl, fun _ _ => rfl⟩, rfl⟩

theorem SigSet.sig (h : SigSet p s t g) : t.ports[p].sig = g := by rw [h.port]

theorem SigSet.fus (h : SigSet p s t g) : t.fus = s.fus := by rw [h.rest.1]

theorem SigSet.pwr (h : SigSet p s t g) : t.pwr = s.pwr := by rw [h.rest.1]

theorem SigSet.modSig (h : SigSet p s t g) (f : Sig → Sig) : SigSet p s (modSig p f t) (f g) :=
  ⟨h.rest.trans (onlyPortEvents_modPort _), by rw [modSig_port, h.port]⟩

theorem SigSet.raise (h : SigSet p s t g) (e : Ev) : SigSet p s (raise e t) g :=
  ⟨h.rest.trans (onlyPortEvents_raise e), by rw [raise_ports]; exact h.port⟩

/-! ## The level (R238) -/

/-- R238: the level that follows on level l by the runs of comparisons over ANOMALY, over TAMPER, and below both. -/
def levelBy (anomRun tampRun cleanRun : Nat) (l : SigLevel) : SigLevel :=
  let declared := if l = .normal ∧ 3 ≤ anomRun then .anomaly else l
  let latched := if declared ≠ .tamper ∧ 3 ≤ tampRun then .tamper else declared
  if latched = .anomaly ∧ 10 ≤ cleanRun then .normal else latched

theorem levelBy_tamper {a k c : Nat} {l : SigLevel} (h : l = .tamper ∨ 3 ≤ k) : levelBy a k c l = .tamper := by
  rcases h with rfl | h
  · simp [levelBy]
  · by_cases e : (if l = .normal ∧ 3 ≤ a then SigLevel.anomaly else l) = .tamper <;> simp [levelBy, h, e]

theorem levelBy_normal {a k c : Nat} (h : k < 3) (clean : 3 ≤ a → c = 0) :
    levelBy a k c .normal = if 3 ≤ a then .anomaly else .normal := by
  by_cases e : 3 ≤ a
  · simp [levelBy, Nat.not_le.mpr h, e, clean e]
  · simp [levelBy, Nat.not_le.mpr h, e]

theorem levelBy_anomaly {a k c : Nat} (h : k < 3) : levelBy a k c .anomaly = if 10 ≤ c then .normal else .anomaly := by
  simp [levelBy, Nat.not_le.mpr h]

/-- R238: a run goes on only where a segment exceeds its threshold. -/
theorem ne_nil_of_runNext {run : Nat} {prev now : List Nat} (h : 0 < runNext run prev now) : now ≠ [] := by
  rintro rfl
  exact absurd h (Nat.lt_irrefl 0)

theorem SigSet.declareAnomaly (h : SigSet p s t g) : ∃ c, SigSet p s (declareAnomaly p t)
    { g with level := if g.level = .normal ∧ 3 ≤ g.anomRun then .anomaly else g.level, counters := c } := by
  unfold Machine.declareAnomaly
  dsimp only
  rw [h.sig]
  split
  · exact ⟨_, (h.modSig _).raise _⟩
  · exact ⟨_, h⟩

theorem SigSet.declareTamper (h : SigSet p s t g) : SigSet p s (declareTamper p t)
    { g with level := if g.level ≠ .tamper ∧ 3 ≤ g.tampRun then .tamper else g.level } := by
  unfold Machine.declareTamper
  dsimp only
  rw [h.sig]
  split
  · exact (h.modSig _).raise _
  · exact h

theorem SigSet.clearAnomaly (h : SigSet p s t g) : SigSet p s (clearAnomaly p t)
    { g with level := if g.level = .anomaly ∧ 10 ≤ g.cleanRun then .normal else g.level } := by
  unfold Machine.clearAnomaly
  dsimp only
  rw [h.sig]
  split
  · exact (h.modSig _).raise _
  · exact h

/-! ## A comparison is judged (R235 to R239) -/

/-- The signature without what a comparison reports, counts and learns. -/
def unjudged (g : Sig) : Sig :=
  { g with
    level := .normal, reason := 0, worst := 0, worstLevel := 0, location := 0, overCount := 0, segLevels := []
    beta := 0, gamma := 0, b1 := 0, g1 := 0, counters := []
    anomRun := 0, anomSegs := [], tampRun := 0, tampSegs := [], cleanRun := 0 }

/-- R236: the segments over ANOMALY. -/
def oversOf (m : Compared) (g : Sig) : List Nat := segmentsOver (anomThreshold g.thresholds) m

/-- R236: the comparison's reason. -/
def reasonOf (m : Compared) (g : Sig) : BitVec 8 := sigReason m.fit.atLimit m.energy.length (oversOf m g)

/-- R238: the segments that count toward TAMPER: none where the reason is DRIFT. -/
def tamperedOf (m : Compared) (g : Sig) : List Nat := if reasonOf m g = 3 then [] else segmentsOver (tampThreshold g.thresholds) m

/-- What the judgement of a comparison makes of a port's signature g. -/
structure Judged (m : Compared) (g r : Sig) : Prop where
  kept      : unjudged r = unjudged g
  beta      : r.beta = m.fit.beta
  gamma     : r.gamma = m.fit.gamma
  reason    : r.reason = reasonOf m g
  overCount : r.overCount = (oversOf m g).length
  segLevels : r.segLevels = m.energy.map (fun x => (x.1, segLevel x.2 m.eref))
  anomRun   : r.anomRun = runNext g.anomRun g.anomSegs (oversOf m g)
  tampRun   : r.tampRun = runNext g.tampRun g.tampSegs (tamperedOf m g)
  level     : r.level = levelBy (runNext g.anomRun g.anomSegs (oversOf m g)) (runNext g.tampRun g.tampSegs (tamperedOf m g))
    (if (oversOf m g).isEmpty then g.cleanRun + 1 else 0) g.level

theorem judged_runs (m : Compared) (scale : Int) (g : Sig) (c : List Nat) :
    Judged m g { runsAfter m (reportComparison m scale g) with
      counters := c
      level := levelBy (runsAfter m (reportComparison m scale g)).anomRun (runsAfter m (reportComparison m scale g)).tampRun
        (runsAfter m (reportComparison m scale g)).cleanRun (runsAfter m (reportComparison m scale g)).level } := by
  unfold reportComparison
  dsimp only
  split
  · exact ⟨rfl, rfl, rfl, rfl, rfl, rfl, rfl, rfl, rfl⟩
  · exact ⟨rfl, rfl, rfl, rfl, rfl, rfl, rfl, rfl, rfl⟩

/-- R235: what is learned is b1 and g1. -/
theorem Judged.learn {m : Compared} {r : Sig} (h : Judged m g r) (tRef : Int) : Judged m g (learnComp m tRef r) := by
  unfold learnComp
  dsimp only
  split
  · exact h
  · exact ⟨h.kept, h.beta, h.gamma, h.reason, h.overCount, h.segLevels, h.anomRun, h.tampRun, h.level⟩

theorem SigSet.judge (h : SigSet p s t g) (m : Compared) (tRef : Int) : ∃ r, SigSet p s (judge p m tRef t) r ∧ Judged m g r := by
  obtain ⟨c, declared⟩ := (h.modSig (fun g => runsAfter m (reportComparison m t.cal.scale g))).declareAnomaly
  have levelled := declared.declareTamper.clearAnomaly
  have judged := judged_runs m t.cal.scale g c
  unfold Machine.judge
  dsimp only
  split
  · exact ⟨_, levelled.modSig _, judged.learn tRef⟩
  · exact ⟨_, levelled, judged⟩

/-- R229: nothing is judged while an interruption's samples could lie in the signature. -/
theorem SigSet.judgeBlock (h : SigSet p s t g) (b r : SigBlock) : ∃ v, SigSet p s (judgeBlock p b r t) v ∧ unjudged v = unjudged g := by
  unfold Machine.judgeBlock
  split
  · exact ⟨g, h, rfl⟩
  · obtain ⟨v, set, judged⟩ := h.judge (measureSig t.ports[p].sig b r) r.tRef
    exact ⟨v, set, judged.kept⟩

/-! ## References as they are read (R247) -/

theorem checkRefs_kept (line : refLost s.ports[p].sig.lineRef = false) (probe : refLost s.ports[p].sig.probeRef = false) :
    checkRefs p s = s := by
  have keeps : dropLost p .line s = s := if_neg (by rw [refSlot, line]; exact Bool.false_ne_true)
  rw [checkRefs, keeps]
  exact if_neg (by rw [refSlot, probe]; exact Bool.false_ne_true)

/-- R247: a LINE reference both of whose copies fail leaves its slot empty, with a record. -/
theorem checkRefs_lostLine (line : refLost s.ports[p].sig.lineRef = true) (probe : refLost s.ports[p].sig.probeRef = false) :
    checkRefs p s = raise (bayEv p 0x000E 7 [BitVec.ofNat 8 p.val, 1]) (modSig p (fun g => { g with lineRef := {} }) s) := by
  have drops : dropLost p .line s = raise (bayEv p 0x000E 7 [BitVec.ofNat 8 p.val, 1]) (modSig p (fun g => { g with lineRef := {} }) s) :=
    if_pos line
  rw [checkRefs, drops]
  refine if_neg ?_
  rw [raise_ports, modSig_port, refSlot, probe]
  exact Bool.false_ne_true

/-- A reference that is read is not lost. -/
theorem refLost_of_refOf {c : RefCopies} {r : SigBlock} (h : refOf c = some r) : refLost c = false := by
  rw [refLost, h]
  exact Bool.and_false _

theorem readTaps_readRefs (e : EMode) (d : Dsp) (x : RefErrors) (g : Sig) : readTaps e d (readRefs x g) = readRefs x (readTaps e d g) := by
  unfold readTaps
  split
  · next full => rw [if_pos (show 16 ≤ g.readings from full)]
  · next room => rw [if_neg (show ¬ 16 ≤ g.readings from room)]; rfl

/-- R232: the readings of the echo taps do not depend on the references. -/
theorem readAll_readRefs (e : EMode) (d : Dsp) (x : RefErrors) (n : Nat) (g : Sig) :
    readAll e d n (readRefs x g) = readRefs x (readAll e d n g) := by
  induction n generalizing g with
  | zero => rfl
  | succ n ih =>
    unfold readAll
    rw [readTaps_readRefs, ih, apply_ite (readRefs x)]
    rfl

/-! ## The window's end (R234) -/

/-- R234: the port as the next window starts. -/
def windowRestarted (q : Port) : Port :=
  { q with sig := { q.sig with skip := !q.dsp.snapSinceUp, wasUp := q.link.up && (etoonMode q).isSome, readings := 0, readSum := [] } }

/-- R234: the port after a window that was skipped. -/
def windowSkippedOf (q : Port) : Port := windowRestarted { q with sig := { q.sig with counters := bump 1 1 q.sig.counters } }

theorem skipWindow_eq (s : State) : skipWindow p s = modPort p windowSkippedOf s := modPort_modPort p windowRestarted _ s

/-- R234: on a port without a link no signature is compared. -/
theorem comparisonWindow_down (down : (checkRefs p s).ports[p].link.up = false) : comparisonWindow p s =
    modPort p (fun q => if q.sig.wasUp then windowSkippedOf q else windowRestarted q) (checkRefs p s) := by
  unfold comparisonWindow
  dsimp only
  rw [down]
  by_cases was : (checkRefs p s).ports[p].sig.wasUp = true
  · refine (if_pos was).trans ((skipWindow_eq _).trans (modPort_congr ?_))
    exact (if_pos was).symm
  · refine (if_neg was).trans (modPort_congr (f := windowRestarted) ?_)
    exact (if_neg was).symm

theorem comparisonWindow_up {e : EMode} (refs : checkRefs p s = s) (up : s.ports[p].link.up = true)
    (mode : etoonMode s.ports[p] = some e) : comparisonWindow p s =
      if windowSkipped s.ports[p] then modPort p windowSkippedOf s else modPort p windowRestarted (lineComparison p e s) := by
  unfold comparisonWindow
  rw [refs]
  dsimp only
  rw [up, if_pos rfl, mode, ← skipWindow_eq]
  rfl

/-- R232: the line signature of the window that ends. -/
def lineBlock (s : State) (p : PortId) (e : EMode) : SigBlock :=
  sigBlock s p .line (emodeCode e) (lineLast e) (lineSamples e (readAll e s.ports[p].dsp 16 s.ports[p].sig).readSum)

theorem lineBlock_readRefs (x : RefErrors) (e : EMode) : lineBlock (modSig p (readRefs x) s) p e = lineBlock s p e := by
  rw [lineBlock, modSig_port]
  dsimp only
  rw [readAll_readRefs]
  rfl

theorem serveCapture_none {k : RefSlot} (h : captureOf s.ports[p].sig k = none) (b : SigBlock) : serveCapture p k b s = s := by
  rw [serveCapture, h]

/-- R229, R234: with a reference, and no interruption's samples, the window's signature is judged. -/
theorem lineComparison_judges {r : SigBlock} (ref : refOf s.ports[p].sig.lineRef = some r) (whole : s.ports[p].sig.interrupted = false)
    (e : EMode) : lineComparison p e s = serveCapture p .line (lineBlock s p e)
      (judge p (measureSig s.ports[p].sig (lineBlock s p e) r) r.tRef
        (modSig p (fun g => { g with counters := bump 0 1 g.counters }) (modSig p (fun g => { g with lineCur := some (lineBlock s p e) }) s))) := by
  unfold lineComparison
  simp only [modSig_port, ref, judgeBlock, whole, Bool.false_eq_true, if_false]
  rfl

/-- R234, R244: the comparison of a window, with no capture waiting for its signature. -/
theorem SigSet.lineComparison {r : SigBlock} (ref : refOf s.ports[p].sig.lineRef = some r) (cap : s.ports[p].sig.lineCap = none)
    (whole : s.ports[p].sig.interrupted = false) (e : EMode) : ∃ v, SigSet p s (lineComparison p e s) v
      ∧ Judged (measureSig s.ports[p].sig (lineBlock s p e) r)
          { s.ports[p].sig with lineCur := some (lineBlock s p e), counters := bump 0 1 s.ports[p].sig.counters } v := by
  have read := (SigSet.refl (p := p) s).modSig (fun g => { g with lineCur := some (lineBlock s p e) })
  have counted := read.modSig (fun g => { g with counters := bump 0 1 g.counters })
  obtain ⟨v, set, judged⟩ := counted.judge (measureSig s.ports[p].sig (lineBlock s p e) r) r.tRef
  have waits : captureOf v .line = none := (congrArg Sig.lineCap judged.kept).trans cap
  refine ⟨v, ?_, judged⟩
  rw [lineComparison_judges ref whole, serveCapture_none]
  · exact set
  · exact (congrArg (captureOf · RefSlot.line) set.sig).trans waits

/-! ## The command (R234, R247) -/

/-- R247: on a port without a link, a LINE reference lost as it is read leaves its slot empty and its record. -/
theorem exec_signatureComparison_lost {x : RefErrors} (down : s.ports[p].link.up = false)
    (line : refLost (readRefs x s.ports[p].sig).lineRef = true) (probe : refLost (readRefs x s.ports[p].sig).probeRef = false) :
    ∃ t, exec (.signatureComparison p x) s = .next t ∧ t.ports[p].sig.lineRef = {} ∧ OnlyPort p s { t with crock := s.crock }
      ∧ t.crock = (raise (bayEv p 0x000E 7 [BitVec.ofNat 8 p.val, 1]) s).crock := by
  have self := modSig_port (p := p) (readRefs x) s
  have emptied := modSig_port (p := p) (fun g => { g with lineRef := {} }) (modSig p (readRefs x) s)
  have drops := checkRefs_lostLine (p := p) (s := modSig p (readRefs x) s) (by rw [self]; exact line) (by rw [self]; exact probe)
  have ends := comparisonWindow_down (p := p) (s := modSig p (readRefs x) s) (by rw [drops, raise_ports, emptied, self]; exact down)
  rw [drops, modPort_raise] at ends
  refine ⟨_, congrArg Host.Outcome.next ends, ?slot, ⟨?rest, fun q hq => ?others⟩, raise_crock_congr (by rfl) (by rfl) _⟩
  case slot =>
    rw [raise_ports, Fin.getElem_fin, modPort_self]
    split
    · exact congrArg (fun q : Port => q.sig.lineRef) emptied
    · exact congrArg (fun q : Port => q.sig.lineRef) emptied
  case rest =>
    rw [raise_eq]
    rfl
  case others =>
    refine (congrArg (fun v : Vector Port 8 => v[q]) (raise_ports _ _)).trans ?_
    exact (modPort_other _ p q _ hq).trans ((modSig_other _ p _ q hq).trans (modSig_other s p _ q hq))

section
variable {e : EMode} {r : SigBlock} {x : RefErrors} (mode : etoonMode s.ports[p] = some e) (up : s.ports[p].link.up = true)
  (ref : refOf (readRefs x s.ports[p].sig).lineRef = some r) (probe : refLost (readRefs x s.ports[p].sig).probeRef = false)
include mode up ref probe

theorem exec_signatureComparison_up : exec (.signatureComparison p x) s = .next (if windowSkipped s.ports[p]
    then modPort p windowSkippedOf (modSig p (readRefs x) s)
    else modPort p windowRestarted (lineComparison p e (modSig p (readRefs x) s))) := by
  have self := modSig_port (p := p) (readRefs x) s
  have refs := checkRefs_kept (p := p) (s := modSig p (readRefs x) s) (by rw [self]; exact refLost_of_refOf ref) (by rw [self]; exact probe)
  have skips : windowSkipped (modSig p (readRefs x) s).ports[p] = windowSkipped s.ports[p] := by
    rw [self]
    rfl
  refine congrArg Host.Outcome.next ?_
  rw [comparisonWindow_up (e := e) refs (by rw [self]; exact up) (by rw [self]; exact mode), skips]

/-- R234: a window that was not clean is counted, and the next one starts. -/
theorem exec_signatureComparison_skipped (skip : windowSkipped s.ports[p] = true) :
    ∃ t, exec (.signatureComparison p x) s = .next t ∧ OnlyPort p s t ∧ t.ports[p].sig.counters = bump 1 1 s.ports[p].sig.counters
      ∧ t.ports[p].sig.level = s.ports[p].sig.level ∧ t.ports[p].sig.anomRun = s.ports[p].sig.anomRun
      ∧ t.ports[p].sig.readings = 0 := by
  have self := modSig_port (p := p) (readRefs x) s
  refine ⟨_, (exec_signatureComparison_up mode up ref probe).trans (congrArg Host.Outcome.next (if_pos skip)),
    (onlyPort_modPort _).trans (onlyPort_modPort _), ?_⟩
  rw [modPort_port, self]
  exact ⟨rfl, rfl, rfl, rfl⟩

/-- R235 to R238: a clean window's signature is judged, and the next window starts. -/
theorem exec_signatureComparison_judged (cap : s.ports[p].sig.lineCap = none) (clean : windowSkipped s.ports[p] = false) :
    ∃ t v, exec (.signatureComparison p x) s = .next t ∧ t.ports[p] = windowRestarted { s.ports[p] with sig := v }
      ∧ (∀ q : PortId, q ≠ p → t.ports[q] = s.ports[q]) ∧ v.lineCur = some (lineBlock s p e)
      ∧ Judged (measureSig s.ports[p].sig (lineBlock s p e) r)
          { readRefs x s.ports[p].sig with lineCur := some (lineBlock s p e), counters := bump 0 1 s.ports[p].sig.counters } v := by
  have self := modSig_port (p := p) (readRefs x) s
  have whole : s.ports[p].sig.interrupted = false := by
    simp only [windowSkipped, Bool.or_eq_false_iff] at clean
    exact clean.1.2
  obtain ⟨v, set, judged⟩ := SigSet.lineComparison (p := p) (s := modSig p (readRefs x) s) (r := r) (by rw [self]; exact ref)
    (by rw [self]; exact cap) (by rw [self]; exact whole) e
  have port := set.port
  rw [lineBlock_readRefs, self] at judged
  rw [self] at port
  refine ⟨_, v, (exec_signatureComparison_up mode up ref probe).trans (congrArg Host.Outcome.next (if_neg ?_)), ?_, ?_, ?_, judged⟩
  · rw [clean]
    exact Bool.false_ne_true
  · rw [modPort_port, port]
  · exact fun q hq => (modPort_other _ p q _ hq).trans ((set.rest.2 q hq).trans (modSig_other s p _ q hq))
  · exact congrArg Sig.lineCur judged.kept

end
end

/-- Settles O30: a window that is not skipped has its signature judged (`SigSet.lineComparison`), and the level follows by the runs
(`levelBy`); a reference both of whose copies fail is dropped as it is read (`checkRefs_lostLine`). -/
theorem signatureComparisons : Obligations.SignatureComparisons := by
  unfold Obligations.SignatureComparisons
  refine ⟨fun s p x => exec_signatureComparison_lost, fun s p e r x mode up ref probe cap =>
    ⟨exec_signatureComparison_skipped mode up ref probe, fun clean => ?judged⟩⟩
  case judged =>
    intro g b m overCount reason tamp anomRun tampRun
    obtain ⟨t, v, next, port, others, current, judged⟩ := exec_signatureComparison_judged mode up ref probe cap clean
    have level : v.level = levelBy anomRun tampRun (if overCount.isEmpty then g.cleanRun + 1 else 0) g.level := judged.level
    refine ⟨t, next, ?_⟩
    rw [port]
    refine ⟨current, judged.segLevels, judged.overCount, judged.reason, judged.anomRun, judged.tampRun, judged.beta, judged.gamma, rfl, others,
      fun h => level.trans (levelBy_tamper h), fun normal few => level.trans ?normal, fun anomaly few exceeds => level.trans ?stays,
      fun anomaly few below => level.trans ?clears⟩
    case normal =>
      rw [normal]
      exact levelBy_normal few fun long => if_neg (by simpa using ne_nil_of_runNext (Nat.zero_lt_of_lt long))
    case stays =>
      have unclean : overCount.isEmpty = false := List.isEmpty_eq_false_iff.mpr exceeds
      rw [anomaly, levelBy_anomaly few, unclean]
      rfl
    case clears =>
      rw [anomaly, levelBy_anomaly few, below]
      exact if_congr (show 10 ≤ g.cleanRun + 1 ↔ 9 ≤ g.cleanRun by omega) rfl rfl

end Sys2Proof.Machine
end

section
/-! PROOF. Captures (R244, R245): a count is asked for a re-baseline only, so a capture into an empty slot begins with no count left. -/

namespace Sys2Proof.Machine

/-- A device in MANUFACTURE with an empty LINE slot on port 0, all of whose 64 re-baseline counts are burned. CTL has a MAKER's session. -/
def allCountsBurned : State :=
  let s := State.reset
  { s with
    clk := { s.clk with armed := true, onInput1 := [.ctl] }
    gate := { gates := 0xFFFFF, isOpen := 0xFFFFF }
    can := { s.can with nmt := .preOperational }
    fus := { s.fus with rebase := List.replicate 64 { st := .burned } }
    chans := s.chans.set 0 { s.chans[0] with session := some { role := .maker, expiry := 0, keyId := [] } } }

theorem sessionWrites_allCountsBurned : sessionWrites allCountsBurned 0 = true := by decide +kernel

theorem bayTesting_allCountsBurned : bayTesting allCountsBurned 0 = false := by decide +kernel

theorem rebaselinesLeft_allCountsBurned : rebaselinesLeft allCountsBurned = 0 := by decide +kernel

theorem captureLineGo_allCountsBurned : ctlResponse (exec (.captureLineGo 0 0) allCountsBurned) = some .ok := by decide +kernel

/-- Refutes O31: the clause on a capture with no re-baseline count left does not ask that the slot be filled. R245 stores a capture into an
empty slot directly, without a count, so that CAPTURE_LINE_GO is accepted there. -/
theorem not_signatureWrites : ¬ Obligations.SignatureWrites := by
  unfold Obligations.SignatureWrites
  intro h
  obtain ⟨-, -, noCount, -⟩ := h
  obtain ⟨t, run, refused, -⟩ := noCount allCountsBurned 0 0 sessionWrites_allCountsBurned bayTesting_allCountsBurned
    rebaselinesLeft_allCountsBurned (.captureLineGo 0 0) List.mem_cons_self
  have answer := captureLineGo_allCountsBurned
  rw [run] at answer
  exact absurd ((Option.some.inj answer).symm.trans refused) (by decide)

end Sys2Proof.Machine
end

section
/-! PROOF. Probes of a line without a link (R240 to R242, R376): for a capture, after an anomalous probe, and at a SIMMER tick. -/

namespace Sys2Proof.Machine

section
variable {p : PortId} {s t : State} {m : ProbeIn}

/-! ## A probe and what it measures (R240, R241) -/

/-- R241: the signature of a probe of port p. -/
def probeBlock (s : State) (p : PortId) (m : ProbeIn) : SigBlock := sigBlock s p .probe 3 4095 (probeSamples m.bursts)

/-- R241: four bursts go out on a line that stays quiet. -/
theorem noteBursts_port (s : State) : (noteBursts p m s).ports[p] = { s.ports[p] with
    line := { s.ports[p].line with bursts := if lineQuiet m then (if m.energy then m.bursts.length + 1 else 4) else 0 } } :=
  modLine_self s p _

/-- R241: a probe's four bursts are launched and its signature is held, compared or not; a capture that waits is served with it. -/
theorem probeMeasured_serves (m : ProbeIn) (s : State) : ∃ t g, probeMeasured p m s = serveCapture p .probe (probeBlock s p m) t
    ∧ SigSet p (noteBursts p m s) t g ∧ unjudged g = unjudged { s.ports[p].sig with probeCur := some (probeBlock s p m) } := by
  have noted : (noteBursts p m s).ports[p].sig = s.ports[p].sig := by rw [noteBursts_port]
  have held := (SigSet.refl (p := p) (noteBursts p m s)).modSig
    (fun g => { g with probeCur := some (probeBlock s p m), counters := bump 2 1 g.counters })
  rw [noted] at held
  unfold probeMeasured
  dsimp only
  split
  · next r _ =>
    obtain ⟨g, set, kept⟩ := held.judgeBlock (probeBlock s p m) r
    exact ⟨_, g, rfl, set, kept⟩
  · exact ⟨_, _, rfl, held, rfl⟩

/-- R241: with no capture waiting, the probe leaves its signature. -/
theorem probeMeasured_kept (cap : s.ports[p].sig.probeCap = none) (m : ProbeIn) : ∃ g, SigSet p (noteBursts p m s) (probeMeasured p m s) g
    ∧ g.probeCur = some (probeBlock s p m) := by
  obtain ⟨t, g, serves, set, kept⟩ := probeMeasured_serves (p := p) m s
  have waits : captureOf t.ports[p].sig .probe = none := by
    rw [set.sig]
    exact (congrArg Sig.probeCap kept).trans cap
  refine ⟨g, ?_, congrArg Sig.probeCur kept⟩
  rw [serves, serveCapture_none waits]
  exact set

/-- R244, R245: a capture that waits for an empty PROBE slot stores the probe's signature. -/
theorem probeMeasured_stores {ch : Chan} {st : Nat} (cap : s.ports[p].sig.probeCap = some (ch, st))
    (empty : s.ports[p].sig.probeRef.active = none) (m : ProbeIn) : ∃ g, SigSet p (noteBursts p m s) (probeMeasured p m s) g
    ∧ g.probeRes = .storedNew ∧ g.probeCap = none ∧ g.probeRef.active = some (probeBlock s p m) ∧ g.probeCur = some (probeBlock s p m) := by
  obtain ⟨t, g, serves, set, kept⟩ := probeMeasured_serves (p := p) m s
  have waits : captureOf t.ports[p].sig .probe = some (ch, st) := by
    rw [set.sig]
    exact (congrArg Sig.probeCap kept).trans cap
  have vacant : (refSlot t.ports[p].sig .probe).active.isNone = true := by
    rw [set.sig]
    exact Option.isNone_iff_eq_none.mpr ((congrArg (fun v => v.probeRef.active) kept).trans empty)
  rw [serves, serveCapture, waits]
  dsimp only
  rw [storeCapture, if_pos vacant]
  exact ⟨_, (set.modSig _).modSig _, rfl, rfl, rfl, congrArg Sig.probeCur kept⟩

/-! ## Probes in BOIL (R242, R244) -/

section
variable (boil : s.pwr.state = .boil)
include boil

theorem exec_probeRun_boil : exec (.probeRun p m) s = .next (captureProbe p m s) := congrArg Host.Outcome.next (if_pos boil)

theorem exec_probeRepeat_boil : exec (.probeRepeat p m) s = .next (repeatProbe p m s) := congrArg Host.Outcome.next (if_pos boil)

theorem exec_probeRepeat_none (left : s.ports[p].sig.probesLeft = 0) : exec (.probeRepeat p m) s = .next s :=
  (exec_probeRepeat_boil boil).trans (congrArg Host.Outcome.next (if_pos left))

variable (line : refLost s.ports[p].sig.lineRef = false) (probe : refLost s.ports[p].sig.probeRef = false)
  (quiet : lineQuiet m = true) (calm : m.energy = false)
include line probe quiet calm

theorem exec_probeRun_stores {ch : Chan} {st : Nat} (cap : s.ports[p].sig.probeCap = some (ch, st))
    (empty : s.ports[p].sig.probeRef.active = none) : ∃ t, exec (.probeRun p m) s = .next t
      ∧ t.ports[p].sig.probeRes = .storedNew ∧ t.ports[p].sig.probeCap = none
      ∧ t.ports[p].sig.probeRef.active = some (probeBlock s p m) ∧ t.ports[p].sig.probeCur = some (probeBlock s p m)
      ∧ t.ports[p].line.bursts = 4 ∧ t.fus = s.fus := by
  obtain ⟨g, set, stored⟩ := probeMeasured_stores cap empty m
  have runs : captureProbe p m s = if probeAnomalous (probeMeasured p m s) p then oweProbes p 2 (probeMeasured p m s)
      else probeMeasured p m s := by
    simp only [captureProbe, cap, checkRefs_kept line probe, quiet, calm, Option.isNone_some, Bool.not_true, Bool.or_self,
      Bool.false_eq_true, if_false]
  have launched : (noteBursts p m s).ports[p].line.bursts = 4 := by
    rw [noteBursts_port, quiet, calm]
    rfl
  have served : ∃ g, SigSet p (noteBursts p m s) (captureProbe p m s) g ∧ g.probeRes = .storedNew ∧ g.probeCap = none
      ∧ g.probeRef.active = some (probeBlock s p m) ∧ g.probeCur = some (probeBlock s p m) := by
    rw [runs]
    split
    · exact ⟨_, set.modSig _, stored⟩
    · exact ⟨g, set, stored⟩
  obtain ⟨v, left, result, done, filled, current⟩ := served
  refine ⟨_, exec_probeRun_boil boil, ?_⟩
  rw [left.port]
  exact ⟨result, done, filled, current, launched, left.fus⟩

theorem exec_probeRepeat_probes (left : 0 < s.ports[p].sig.probesLeft) (cap : s.ports[p].sig.probeCap = none) :
    ∃ t, exec (.probeRepeat p m) s = .next t ∧ t.ports[p].sig.probeCur = some (probeBlock s p m)
      ∧ t.ports[p].sig.probesLeft = if probeAnomalous t p then s.ports[p].sig.probesLeft - 1 else 0 := by
  obtain ⟨g, set, current⟩ := probeMeasured_kept cap m
  have runs : repeatProbe p m s = oweProbes p (if probeAnomalous (probeMeasured p m s) p then s.ports[p].sig.probesLeft - 1 else 0)
      (probeMeasured p m s) := by
    simp only [repeatProbe, Nat.pos_iff_ne_zero.mp left, checkRefs_kept line probe, quiet, calm, Bool.not_true, Bool.or_self,
      Bool.false_eq_true, if_false]
  have owed (n : Nat) := modSig_port (p := p) (fun g => { g with probesLeft := n }) (probeMeasured p m s)
  have same (n : Nat) : probeAnomalous (oweProbes p n (probeMeasured p m s)) p = probeAnomalous (probeMeasured p m s) p := by
    rw [probeAnomalous, oweProbes, owed]
    rfl
  refine ⟨_, (exec_probeRepeat_boil boil).trans (congrArg Host.Outcome.next runs), ?_, ?_⟩
  · rw [oweProbes, owed, set.sig]
    exact current
  · rw [same, oweProbes, owed]

end

/-! ## The probe of a SIMMER wake (R241, R242) -/

/-- R376: the device with the window n of SimmerPeriod taken. -/
def ticked (n : Nat) (s : State) : State := modPwr (fun x => { x with probeTick := n }) s

theorem probeBlock_ticked (n : Nat) : probeBlock (ticked n s) p m = probeBlock s p m := rfl

theorem takeTick_eq (s : State) : takeTick s = ticked (simmerWindow s) s := rfl

/-- R241: a port whose line is not quiet keeps its turn. -/
theorem simmerProbe_noisy (noisy : lineQuiet m = false) :
    simmerProbe p m s = modPwr (fun w => { w with nextProbe := p }) (probeLost p m s) := by
  simp only [simmerProbe, probe, noisy, Bool.false_and, Bool.false_eq_true, if_false]

/-- R241: a line that is not quiet is launched nothing, and its probe is counted as skipped. -/
theorem probeLost_noisy (noisy : lineQuiet m = false) : (probeLost p m s).ports[p].line.bursts = 0
    ∧ (probeLost p m s).ports[p].sig.counters = bump 3 1 s.ports[p].sig.counters
    ∧ (probeLost p m s).ports[p].sig.probeCur = s.ports[p].sig.probeCur := by
  rw [probeLost, probeSkipped, modSig_port, noteBursts_port, noisy]
  exact ⟨rfl, rfl, rfl⟩

theorem simmerProbe_skips (n : Nat) (noisy : lineQuiet m = false) : ∃ t, simmerProbe p m (ticked n s) = t
    ∧ t.pwr = { s.pwr with nextProbe := p, probeTick := n } ∧ t.ports[p].line.bursts = 0
    ∧ t.ports[p].sig.counters = bump 3 1 s.ports[p].sig.counters ∧ t.ports[p].sig.probeCur = s.ports[p].sig.probeCur :=
  ⟨_, simmerProbe_noisy noisy, rfl, probeLost_noisy (s := ticked n s) noisy⟩

/-- R241: the port behind p has the next turn. -/
def nextTurn (p : PortId) (s : State) : State := modPwr (fun w => { w with nextProbe := p + 1 }) s

theorem nextTurn_ports (s : State) : (nextTurn p s).ports = s.ports := rfl

/-- R242, R373: a probe that raises BOIL from SIMMER begins the return. -/
theorem wakeEvent_probe (idle : s.pwr.transition = none) (simmer : s.pwr.state = .simmer) (cool : s.pwr.thermalRest = false) :
    wakeEvent (.probe p) s =
      beginReturn (modPwr (fun w => { w with wake := some (.probe p), probeDue := w.probeDue ++ [p] }) s) := by
  have allowed : wakeAllowed s (.probe p) = true := by simp [wakeAllowed, cool]
  unfold wakeEvent
  rw [idle]
  dsimp only
  rw [simmer, allowed]
  rfl

section
variable (line : refLost s.ports[p].sig.lineRef = false) (probe : refLost s.ports[p].sig.probeRef = false)
  (quiet : lineQuiet m = true) (calm : m.energy = false)
include line probe quiet calm

theorem simmerProbe_quiet : simmerProbe p m s = if probeAnomalous (nextTurn p (probeMeasured p m s)) p
    then wakeEvent (.probe p) (nextTurn p (probeMeasured p m s)) else nextTurn p (probeMeasured p m s) := by
  have runs : Machine.probe p m s = probeMeasured p m s := by
    simp only [Machine.probe, quiet, calm, checkRefs_kept line probe, Bool.not_false, Bool.and_self, if_true]
  rw [simmerProbe, runs]
  generalize probeMeasured p m s = u
  rw [quiet, calm]
  rfl

/-- R241, R242: the next port has the next turn, the signature is held, and BOIL is raised where a segment exceeds ANOMALY. -/
theorem simmerProbe_raises (n : Nat) (idle : s.pwr.transition = none) (simmer : s.pwr.state = .simmer) (cool : s.pwr.thermalRest = false)
    (cap : s.ports[p].sig.probeCap = none) : ∃ t, simmerProbe p m (ticked n s) = t
      ∧ t.pwr.nextProbe = p + 1 ∧ t.pwr.probeTick = n ∧ t.ports[p].sig.probeCur = some (probeBlock s p m)
      ∧ t.pwr.transition = (if probeAnomalous t p then some .boil else none)
      ∧ (probeAnomalous t p = true → t.pwr.wake = some (.probe p) ∧ t.clk.ref = .starting) := by
  obtain ⟨g, set, current⟩ := probeMeasured_kept (s := ticked n s) cap m
  have block : (nextTurn p (probeMeasured p m (ticked n s))).ports[p].sig.probeCur = some (probeBlock s p m) := by
    rw [nextTurn_ports, set.sig, current, probeBlock_ticked]
  have pwr : (nextTurn p (probeMeasured p m (ticked n s))).pwr = { s.pwr with probeTick := n, nextProbe := p + 1 } := by
    rw [nextTurn, modPwr, set.pwr]
    rfl
  rw [simmerProbe_quiet (s := ticked n s) line probe quiet calm]
  generalize nextTurn p (probeMeasured p m (ticked n s)) = u at block pwr
  by_cases a : probeAnomalous u p = true
  · have w := wakeEvent_probe (p := p) (s := u) (by rw [pwr]; exact idle) (by rw [pwr]; exact simmer) (by rw [pwr]; exact cool)
    rw [if_pos a, w]
    exact ⟨_, rfl, congrArg Power.nextProbe pwr, congrArg Power.probeTick pwr, block, (if_pos a).symm, fun _ => ⟨rfl, rfl⟩⟩
  · rw [if_neg a]
    refine ⟨u, rfl, ?_⟩
    rw [if_neg a, pwr]
    exact ⟨rfl, rfl, block, idle, fun h => absurd h a⟩

end

/-! ## The SIMMER tick (R376) -/

theorem exec_simmerProbeWake_early (early : tickDue s = false) : exec (.simmerProbeWake m) s = .next s :=
  congrArg Host.Outcome.next (if_neg fun h => Bool.false_ne_true (early.symm.trans h.1))

theorem exec_probeRun_early (early : tickDue s = false) (simmer : s.pwr.state = .simmer) : exec (.probeRun p m) s = .next s := by
  refine congrArg Host.Outcome.next ((if_neg ?_).trans (if_neg fun h => Bool.false_ne_true (early.symm.trans h.1)))
  rw [simmer]
  decide

theorem tickDue_simmer (due : tickDue s = true) : s.pwr.state = .simmer := by
  simp only [tickDue, Bool.and_eq_true, decide_eq_true_eq] at due
  exact due.1.1

section
variable (due : tickDue s = true) (idle : s.pwr.transition = none) (turn : nextProbePort s s.pwr.nextProbe = some p)
include due idle turn

theorem exec_simmerProbeWake_due : exec (.simmerProbeWake m) s = .next (simmerProbe p m (ticked (simmerWindow s) s)) := by
  refine congrArg Host.Outcome.next ((if_pos ⟨due, idle⟩).trans ?_)
  rw [turn, takeTick_eq]

theorem exec_simmerProbeWake_noisy (noisy : lineQuiet m = false) : ∃ t, exec (.simmerProbeWake m) s = .next t
    ∧ t.pwr = { s.pwr with nextProbe := p, probeTick := simmerWindow s } ∧ t.ports[p].line.bursts = 0
    ∧ t.ports[p].sig.counters = bump 3 1 s.ports[p].sig.counters ∧ t.ports[p].sig.probeCur = s.ports[p].sig.probeCur := by
  obtain ⟨t, probed, results⟩ := simmerProbe_skips (p := p) (s := s) (simmerWindow s) noisy
  exact ⟨t, (exec_simmerProbeWake_due due idle turn).trans (congrArg Host.Outcome.next probed), results⟩

theorem exec_simmerProbeWake_quiet (line : refLost s.ports[p].sig.lineRef = false) (probe : refLost s.ports[p].sig.probeRef = false)
    (quiet : lineQuiet m = true) (calm : m.energy = false) (cap : s.ports[p].sig.probeCap = none) (cool : s.pwr.thermalRest = false) :
    ∃ t, exec (.simmerProbeWake m) s = .next t ∧ t.pwr.nextProbe = p + 1 ∧ t.pwr.probeTick = simmerWindow s
      ∧ t.ports[p].sig.probeCur = some (probeBlock s p m) ∧ t.pwr.transition = (if probeAnomalous t p then some .boil else none)
      ∧ (probeAnomalous t p = true → t.pwr.wake = some (.probe p) ∧ t.clk.ref = .starting) := by
  obtain ⟨t, probed, results⟩ := simmerProbe_raises line probe quiet calm (simmerWindow s) idle (tickDue_simmer due) cool cap
  exact ⟨t, (exec_simmerProbeWake_due due idle turn).trans (congrArg Host.Outcome.next probed), results⟩

end
end

/-- Settles O32: what a probe measures is held whatever its comparison says (`probeMeasured_serves`); a capture stores it, and at a SIMMER
tick an anomalous probe wakes the device (`wakeEvent_probe`). That the windows of SimmerPeriod begin at its multiples from 0 is log
entry 104's. -/
theorem probes : Obligations.Probes := by
  unfold Obligations.Probes
  intro s p m ch st line probe b
  refine ⟨fun quiet calm => ⟨fun boil => ?captured, fun boil => ?repeated, fun due idle turn => ?tick⟩, fun boil => ?ended,
    fun early => ⟨exec_simmerProbeWake_early early, exec_probeRun_early early⟩, fun noisy due idle turn => ?noisy⟩
  case captured => exact exec_probeRun_stores boil line probe quiet calm
  case repeated => exact exec_probeRepeat_probes boil line probe quiet calm
  case tick => exact exec_simmerProbeWake_quiet due idle turn line probe quiet calm
  case ended => exact exec_probeRepeat_none boil
  case noisy => exact exec_simmerProbeWake_noisy due idle turn noisy

end Sys2Proof.Machine
end

section
/-! PROOF. Seal chains, their windows and their roots (R248, R249, R251, R254, R256, R257). -/

namespace Sys2Proof.Machine

section
variable {s : State} {ch : Chan} {p : PortId}

/-! ## One port's seal changed -/

theorem modSeal_port (f : Seal → Seal) (s : State) :
    (modSeal p f s).ports[p] = { s.ports[p] with sealing := f s.ports[p].sealing } := modSeal_self s p f

theorem modSeal_congr {f g : Seal → Seal} (h : f s.ports[p].sealing = g s.ports[p].sealing) : modSeal p f s = modSeal p g s :=
  modPort_congr (congrArg (fun v => { s.ports[p] with sealing := v }) h)

theorem modSeal_modSeal (f g : Seal → Seal) : modSeal p f (modSeal p g s) = modSeal p (fun q => f (g q)) s := modPort_modPort p _ _ s

/-! ## SealEnable is written (R248, R308) -/

/-- R248, R308: an owner's write of SealEnable passes the common checks; one that clears it on a bound device needs a session. -/
theorem writeForbidden_sealEnable {v : Byte} (alive : life s ≠ .ended) (role : owns s ch p = true ∨ hasWorkshop s ch = true)
    (extra : v.toNat % 2 = 1 ∨ hasSession s ch = true ∨ isBound s = false) (hv : v.toNat ≤ 1) (hl : unlocked s ch p = true) :
    writeForbidden portObjects[17] (ctrl 1 1 wOWM) wOWM p 1 [v] ch s = none := by
  have grants : accessGrants portObjects[17] wOWM p ch s = true := by
    rcases role with own | workshop
    · simp [accessGrants, wOWM, ownerOf, portObjects, own]
    · simp [accessGrants, wOWM, workshop]
  have free : portLocked s p = true → hasSession s ch = true := by
    intro e
    simpa [unlocked, e] using hl
  refine writeForbidden_none ?life ?role rfl ?test rfl ?value ?lock
  case life => simp [lifeForbids, portObjects, alive]
  case role =>
    have more : roleExtra 0x3090 1 v.toNat ch s = true := by rcases extra with e | e | e <;> simp [roleExtra, e]
    simp [roleGrants, grants, leVal_byte, show portObjects[17].index = 0x3090 from rfl, show portObjects[17].holder = .always from rfl,
      show wOWM.own = false from rfl, more]
  case test => simp [underTest, serviceUnderTest, armsTested, asksUnderTest, portObjects]
  case value => simp [valueOk, ctrl, portObjects, portValueOk, leVal_byte, hv]
  case lock => simpa [lockForbids, portObjects, ctrl, lockCovers] using free

theorem dictCommand_sealEnable {v : Byte} (hw : ownerWrites s ch p = true) (hl : unlocked s ch p = true)
    (extra : v.toNat % 2 = 1 ∨ hasSession s ch = true ∨ isBound s = false) (hv : v.toNat ≤ 1) :
    dictCommand ch (portIndex 0x3090 p) 1 [v] s = answered ch (writeSeal p v.toNat (requested ch s)) := by
  obtain ⟨srv, alive, role⟩ := ownerWrites_iff.mp hw
  have passes : writeForbidden portObjects[17] (ctrl 1 1 wOWM) wOWM p 1 [v] ch (requested ch s) = none :=
    writeForbidden_sealEnable (by simpa using alive) (by simpa using role) (by simpa using extra) hv
      (by simpa only [unlocked, portLocked_requested, hasSession_requested] using hl)
  have found : ∀ new, findField new 0x3090 1 = .ok (portObjects[17], ctrl 1 1 wOWM) := fun new => by cases new <;> rfl
  refine dictCommand_ok srv ?_
  rw [dictWrite_passes p 0x3090 (splitIndex_portIndex (by decide) p) (found _) rfl rfl (by decide) passes]
  exact congrArg (fun n => Except.ok (writeSeal p n (requested ch s))) (leVal_byte v)

theorem exec_sealEnable (hw : ownerWrites s ch p = true) (hl : unlocked s ch p = true) :
    exec (.sealEnable ch p) s = .next (answered ch (writeSeal p 1 (requested ch s))) :=
  congrArg Host.Outcome.next (dictCommand_sealEnable (v := 1) hw hl (.inl rfl) (by decide))

theorem exec_sealDisable (hw : ownerWrites s ch p = true) (hl : unlocked s ch p = true)
    (may : hasSession s ch = true ∨ isBound s = false) :
    exec (.sealDisable ch p) s = .next (answered ch (writeSeal p 0 (requested ch s))) :=
  congrArg Host.Outcome.next (dictCommand_sealEnable (v := 0) hw hl (.inr may) (by decide))

/-! ## Chains and windows (R248, R249) -/

/-- R248: a chain is armed on a port whose seal is enabled while the seal unit is open. -/
theorem armChain_enabled (he : s.ports[p].sealing.enable = true) : armChain p s =
    if sealUnitOpen s then modSeal p (fun q => { q with t0 := some (nextMs s.aon.tally) }) s else s := by
  rw [armChain, he, Bool.true_and]

theorem writeSeal_enables (old : s.ports[p].sealing.enable = false) : writeSeal p 1 s =
    if sealUnitOpen s then modSeal p (fun q => { q with enable := true, t0 := some (nextMs s.aon.tally) }) s
    else modSeal p (fun q => { q with enable := true }) s := by
  have enabled : (modSeal p (fun q => { q with enable := true }) s).ports[p].sealing.enable = true := by rw [modSeal_port]
  rw [writeSeal, if_pos rfl, old, if_neg Bool.false_ne_true, armChain_enabled enabled, modSeal_modSeal]
  rfl

/-- R249: a chain that ends has its open window cut. -/
theorem cutChain_open {w : SealWindow} (hw : s.ports[p].sealing.window = some w) : cutChain p s = modSeal p (fun q => { q with
    window := none, t0 := none, cutDue := false, ended := q.ended ++ [{ w with finish := s.aon.tally, cut := true }] }) s := by
  refine (modSeal_modSeal _ _).trans (modSeal_congr ?_)
  dsimp only
  rw [hw]
  rfl

/-- R249: with no frame in delivery, the chain ends at once. -/
theorem cutOrWait_idle (idle : s.ports[p].host.busy = none) : cutOrWait p s = cutChain p s := by
  rw [cutOrWait, idle]

theorem writeSeal_disables {w : SealWindow} (old : s.ports[p].sealing.enable = true) (idle : s.ports[p].host.busy = none)
    (hw : s.ports[p].sealing.window = some w) : writeSeal p 0 s = modSeal p (fun q => { q with
      enable := false, window := none, t0 := none, cutDue := false
      ended := q.ended ++ [{ w with finish := s.aon.tally, cut := true }] }) s := by
  have self := modSeal_port (p := p) (fun q => { q with enable := false }) s
  rw [writeSeal, if_neg (by decide), old, if_pos rfl, cutOrWait_idle (by rw [self]; exact idle),
    cutChain_open (w := w) (by rw [self]; exact hw)]
  exact modSeal_modSeal _ _

/-- R248, log entry 41: at T0 window 0 opens, and a window still open from the chain before is cut. -/
theorem exec_chainStart_opens {t0 : Nat} (ht : s.ports[p].sealing.t0 = some t0) (due : t0 ≤ s.aon.tally)
    (he : s.ports[p].sealing.enable = true) (ho : sealUnitOpen s = true) :
    exec (.chainStart p) s = .next (modSeal p (fun q => { q with
      t0 := none, current := 0, window := some (newWindow s p 0 t0), cutDue := false
      ended := q.ended ++ q.window.toList.map (fun v => { v with finish := s.aon.tally, cut := true }) }) s) := by
  change execChainStart p s = _
  rw [execChainStart, ht]
  exact congrArg Host.Outcome.next ((if_pos ⟨due, he, ho⟩).trans (modSeal_modSeal _ _))

theorem exec_chainStart_none (ht : s.ports[p].sealing.t0 = none) : exec (.chainStart p) s = .next s := by
  change execChainStart p s = _
  rw [execChainStart, ht]

theorem exec_sealWindowEnd {w : SealWindow} (hw : s.ports[p].sealing.window = some w) :
    exec (.sealWindowEnd p) s = .next (if w.start + w.length * 1000000 ≤ s.aon.tally then
      modSeal p (fun q => { q with
        ended := q.ended ++ [{ w with finish := w.start + w.length * 1000000 }], current := w.number + 1
        window := some (newWindow s p (w.number + 1) (w.start + w.length * 1000000)) }) s
    else s) := by
  change execSealWindowEnd p s = _
  rw [execSealWindowEnd, openWindow, hw]

/-! ## Roots (R251, R254, R256, R257) -/

/-- R254, log entry 88: a signature takes one draw, and one more for each pair that is drawn again. -/
theorem ecdsaSign_draws (key : Nat) (draw : Nat → Nat) (digest : List Byte) (fuel n : Nat) :
    n < (ecdsaSign key draw digest fuel n).2 ∧ (ecdsaSign key draw digest fuel n).2 ≤ n + fuel + 1 := by
  induction fuel generalizing n with
  | zero => exact ⟨Nat.lt_succ_self n, Nat.le_refl _⟩
  | succ fuel ih =>
    unfold ecdsaSign
    dsimp only
    split
    · obtain ⟨low, high⟩ := ih (n + 1)
      exact ⟨by omega, by omega⟩
    · exact ⟨Nat.lt_succ_self n, by dsimp only; omega⟩

section
variable {w : SealWindow} {rest : List SealWindow} (h : s.ports[p].sealing.ended = w :: rest)
include h

/-- R254: a window that needs no anchor gets its seal frame at once. -/
theorem finishSeal_plain (root : List Byte) : ∃ f d n, finishSeal p root none false s = modSeal p (fun q => { q with
      ended := rest, prev := d, counters := bump 0 1 q.counters, frames := q.frames ++ [f] }) { s with free := n }
    ∧ s.free < n ∧ n ≤ s.free + 9 := by
  unfold finishSeal
  rw [h]
  dsimp only
  generalize hd : sha256 (sealBody p w root _ none false) = digest
  obtain ⟨low, high⟩ := ecdsaSign_draws deviceKey Config.drbg digest 8 s.free
  exact ⟨_, _, _, modSeal_congr (s := { s with free := _ }) rfl, low, high⟩

theorem rootWindow_waits (known : leavesKnown s p w = false) : rootWindow p s = s := by
  rw [rootWindow, h]
  simp [known]

variable (ha : w.awaiting = false)
include ha

theorem rootWindow_plain (known : leavesKnown s p w = true) (plain : anchorNeeded s p w = false) :
    rootWindow p s = finishSeal p (sealRootOf w.leaves) none false s := by
  rw [rootWindow, h]
  simp [ha, known, plain]

/-- R254, R256: an ANCHOR that the commit queue takes goes before the seal frame. -/
theorem rootWindow_anchored (known : leavesKnown s p w = true) (anchor : anchorNeeded s p w = true) (room : takesEvents s 1) :
    rootWindow p s = raise (devPortEv .sealUnit p 0x0500 6 (anchorArg s p w (sealRootOf w.leaves)))
      (modSeal p (fun q => { q with ended := { w with awaiting := true, root := sealRootOf w.leaves } :: rest }) s) := by
  obtain ⟨witness, -, space⟩ := room
  have takes : ¬ queueCap ≤ s.crock.queue.length := by
    rw [queueCap]
    omega
  rw [rootWindow, h]
  simp [ha, known, anchor, witness, takes]

theorem exec_sealRoot_plain (known : leavesKnown s p w = true) (plain : anchorNeeded s p w = false) :
    ∃ t f, exec (.sealRoot p) s = .next t
      ∧ t.ports[p].sealing.ended = rest ∧ t.ports[p].sealing.frames = s.ports[p].sealing.frames ++ [f]
      ∧ t.ports[p].sealing.counters = bump 0 1 s.ports[p].sealing.counters ∧ s.free < t.free ∧ t.free ≤ s.free + 9 ∧ t.crock = s.crock
      ∧ t.ports[p].link = s.ports[p].link ∧ (∀ q : PortId, q ≠ p → t.ports[q] = s.ports[q]) := by
  obtain ⟨f, d, n, framed, low, high⟩ := finishSeal_plain h (sealRootOf w.leaves)
  refine ⟨_, f, congrArg Host.Outcome.next ((rootWindow_plain h ha known plain).trans framed), ?_⟩
  rw [modSeal_port]
  exact ⟨rfl, rfl, rfl, low, high, rfl, rfl, fun q hq => modSeal_other { s with free := n } p _ q hq⟩

theorem exec_sealRoot_anchored (known : leavesKnown s p w = true) (anchor : anchorNeeded s p w = true) (room : takesEvents s 1) :
    ∃ t e, exec (.sealRoot p) s = .next t
      ∧ t.ports[p].sealing.ended = { w with awaiting := true, root := sealRootOf w.leaves } :: rest
      ∧ t.crock.queue = s.crock.queue ++ [stampEv s e] ∧ e.code = 0x0500 ∧ e.port = some p ∧ e.sev = 6
      ∧ t.ports[p].sealing.frames = s.ports[p].sealing.frames := by
  refine ⟨_, devPortEv .sealUnit p 0x0500 6 (anchorArg s p w (sealRootOf w.leaves)),
    congrArg Host.Outcome.next (rootWindow_anchored h ha known anchor room), ?_⟩
  obtain ⟨witness, recovered, space⟩ := room
  have queued (e : Ev) (f : Seal → Seal) : (raise e (modSeal p f s)).crock.queue = s.crock.queue ++ [stampEv s e] := by
    rw [raise_room (modSeal p f s) e witness recovered (by rw [queueCap]; exact space)]
    rfl
  rw [raise_ports, modSeal_port]
  exact ⟨rfl, queued _ _, rfl, rfl, rfl, rfl⟩

end

/-- R251: the roots of windows of up to three leaves. -/
theorem sealRootOf_pair (a b : List Byte) : sealRootOf [a, b] = sha256 (0x01 :: a ++ b) := rfl

theorem sealRootOf_triple (a b c : List Byte) : sealRootOf [a, b, c] = sha256 (0x01 :: sha256 (0x01 :: a ++ b) ++ c) := rfl

end

/-- Settles O33: SealEnable passes the checks of R308 (`exec_sealEnable`, `exec_sealDisable`); the window at the head of the ended ones is
rooted by `rootWindow`, with at most nine draws for its signature (`ecdsaSign_draws`, log entry 88). What becomes of a window still open at
T0 is log entry 41's. -/
theorem sealChainsAndRoots : Obligations.SealChainsAndRoots := by
  unfold Obligations.SealChainsAndRoots
  refine ⟨fun s ch p w t0 => ⟨fun hw hl => ⟨fun old unit => ?arms, fun old unit => ?waits, fun old may idle hwin => ?cuts⟩,
    exec_chainStart_opens, exec_chainStart_none, exec_sealWindowEnd⟩,
    fun s p w rest h ha => ⟨fun unknown => ?unknown, exec_sealRoot_plain h ha, exec_sealRoot_anchored h ha,
      rfl, fun _ => rfl, sealRootOf_pair, sealRootOf_triple⟩⟩
  case arms => rw [exec_sealEnable hw hl, writeSeal_enables (s := requested ch s) old]; exact congrArg _ (congrArg _ (if_pos unit))
  case waits =>
    rw [exec_sealEnable hw hl, writeSeal_enables (s := requested ch s) old, if_neg]
    rw [show sealUnitOpen (requested ch s) = false from unit]
    exact Bool.false_ne_true
  case cuts => rw [exec_sealDisable hw hl may, writeSeal_disables (s := requested ch s) old idle hwin]; rfl
  case unknown => exact congrArg Host.Outcome.next (rootWindow_waits h unknown)

end Sys2Proof.Machine
end

section
/-! PROOF. The commit queue holds at most 1024 events and the EMCY queue at most 32 messages (R311, R330). Raising an event and
queueing a message keep these bounds both ways, and so does whatever else an operation changes: most operations leave QueuesBounded as
it was, an equivalence that rewrites through their calls. A commit, a sent message, a start and a cleared crock shorten a queue; from
these on the bounds are kept one way. The operations stand in the order of the model's files; QueuesStayBounded collects the commands. -/

namespace Sys2Proof.Machine

/-! ## Outcomes -/

/-- The queues of what a write leaves, whether it was applied or refused. -/
def WrBounded (r : Wr) : Prop :=
  match r with
  | .ok t => QueuesBounded t
  | .error (_, t) => QueuesBounded t

/-- The queues of what a read leaves. -/
def RdBounded (r : Except (Code × State) (List Byte × State)) : Prop :=
  match r with
  | .ok (_, t) => QueuesBounded t
  | .error (_, t) => QueuesBounded t

/-- The queues of a command's outcome. -/
def OutBounded (o : Host.Outcome State Fault Refusal) : Prop := ∀ t, o = .next t → QueuesBounded t

theorem wrBounded_ok (t : State) : WrBounded (.ok t) ↔ QueuesBounded t := Iff.rfl

theorem wrBounded_error (c : Code) (t : State) : WrBounded (.error (c, t)) ↔ QueuesBounded t := Iff.rfl

theorem rdBounded_ok (d : List Byte) (t : State) : RdBounded (.ok (d, t)) ↔ QueuesBounded t := Iff.rfl

theorem rdBounded_error (c : Code) (t : State) : RdBounded (.error (c, t)) ↔ QueuesBounded t := Iff.rfl

theorem outBounded_next (t : State) : OutBounded (.next t) ↔ QueuesBounded t :=
  ⟨fun h => h t rfl, fun h u e => by cases e; exact h⟩

theorem outBounded_of {t : State} (h : QueuesBounded t) : OutBounded (.next t) := (outBounded_next t).mpr h

theorem outBounded_of_iff {s t : State} (hi : QueuesBounded t ↔ QueuesBounded s) (h : QueuesBounded s) : OutBounded (.next t) :=
  outBounded_of (hi.mpr h)

/-! ## Branches and loops -/

theorem queuesBounded_ite (b : Prop) [Decidable b] (t u : State) :
    QueuesBounded (if b then t else u) ↔ if b then QueuesBounded t else QueuesBounded u := by split <;> rfl

theorem wrBounded_ite (b : Prop) [Decidable b] (t u : Wr) :
    WrBounded (if b then t else u) ↔ if b then WrBounded t else WrBounded u := by split <;> rfl

theorem rdBounded_ite (b : Prop) [Decidable b] (t u : Except (Code × State) (List Byte × State)) :
    RdBounded (if b then t else u) ↔ if b then RdBounded t else RdBounded u := by split <;> rfl

theorem queuesBounded_foldl {α : Type} (f : State → α → State) (h : ∀ t a, QueuesBounded (f t a) ↔ QueuesBounded t) (l : List α)
    (s : State) : QueuesBounded (l.foldl f s) ↔ QueuesBounded s := by
  induction l generalizing s with
  | nil => rfl
  | cons a l ih => exact (ih (f s a)).trans (h s a)

theorem queuesBounded_forPorts (f : PortId → State → State) (h : ∀ p t, QueuesBounded (f p t) ↔ QueuesBounded t) (s : State) :
    QueuesBounded (forPorts f s) ↔ QueuesBounded s := queuesBounded_foldl _ (fun t p => h p t) _ s

theorem queuesBounded_forChans (f : Chan → State → State) (h : ∀ c t, QueuesBounded (f c t) ↔ QueuesBounded t) (s : State) :
    QueuesBounded (forChans f s) ↔ QueuesBounded s := queuesBounded_foldl _ (fun t c => h c t) _ s

theorem queuesBounded_forClasses (f : Cls → State → State) (h : ∀ c t, QueuesBounded (f c t) ↔ QueuesBounded t) (s : State) :
    QueuesBounded (forClasses f s) ↔ QueuesBounded s := queuesBounded_foldl _ (fun t c => h c t) _ s

/-! ## Parts of the state that hold neither queue -/

theorem queuesBounded_with_free (s : State) (x : Nat) : QueuesBounded { s with free := x } ↔ QueuesBounded s := Iff.rfl

theorem queuesBounded_with_aon (s : State) (x : Aon) : QueuesBounded { s with aon := x } ↔ QueuesBounded s := Iff.rfl

theorem queuesBounded_with_clk (s : State) (x : Clocks) : QueuesBounded { s with clk := x } ↔ QueuesBounded s := Iff.rfl

theorem queuesBounded_with_pwr (s : State) (x : Power) : QueuesBounded { s with pwr := x } ↔ QueuesBounded s := Iff.rfl

theorem queuesBounded_with_heat (s : State) (x : Heat) : QueuesBounded { s with heat := x } ↔ QueuesBounded s := Iff.rfl

theorem queuesBounded_with_fus (s : State) (x : Fuses) : QueuesBounded { s with fus := x } ↔ QueuesBounded s := Iff.rfl

theorem queuesBounded_with_cal (s : State) (x : Calib) : QueuesBounded { s with cal := x } ↔ QueuesBounded s := Iff.rfl

theorem queuesBounded_with_rcp (s : State) (x : Recipes) : QueuesBounded { s with rcp := x } ↔ QueuesBounded s := Iff.rfl

theorem queuesBounded_with_roll (s : State) (x : Roll) : QueuesBounded { s with roll := x } ↔ QueuesBounded s := Iff.rfl

theorem queuesBounded_with_sieveHolder (s : State) (x : Option Chan) :
    QueuesBounded { s with sieveHolder := x } ↔ QueuesBounded s := Iff.rfl

theorem queuesBounded_with_lastAnchor (s : State) (x : List (BitVec 64)) :
    QueuesBounded { s with lastAnchor := x } ↔ QueuesBounded s := Iff.rfl

theorem queuesBounded_with_hashWork (s : State) (x : List HashJob) : QueuesBounded { s with hashWork := x } ↔ QueuesBounded s := Iff.rfl

theorem queuesBounded_with_tap (s : State) (x : TapState) : QueuesBounded { s with tap := x } ↔ QueuesBounded s := Iff.rfl

/-- The recorder's other state leaves its queue's bound alone. -/
theorem queuesBounded_with_crock (s : State) (k : Crock) (hk : k.queue = s.crock.queue) :
    QueuesBounded { s with crock := k } ↔ QueuesBounded s := by
  simp only [QueuesBounded, hk]

/-! ## Events -/

/-- R330: an event that finds the commit queue full is dropped. -/
theorem queuesBounded_raise (e : Ev) (s : State) : QueuesBounded (raise e s) ↔ QueuesBounded s := by
  unfold raise
  split
  · rfl
  · split
    · rfl
    next room =>
      simp only [queueCap] at room
      simp only [QueuesBounded, List.length_append, List.length_singleton]
      omega

theorem queuesBounded_raiseAll (es : List Ev) (s : State) : QueuesBounded (raiseAll es s) ↔ QueuesBounded s :=
  queuesBounded_foldl _ (fun t e => queuesBounded_raise e t) es s

/-! ## Shared operations (Ops.lean) -/

theorem queuesBounded_modPort (p : PortId) (f : Port → Port) (s : State) : QueuesBounded (modPort p f s) ↔ QueuesBounded s := Iff.rfl

theorem queuesBounded_modLink (p : PortId) (f : Link → Link) (s : State) : QueuesBounded (modLink p f s) ↔ QueuesBounded s := Iff.rfl

theorem queuesBounded_modTrain (p : PortId) (f : Train → Train) (s : State) :
    QueuesBounded (modTrain p f s) ↔ QueuesBounded s := Iff.rfl

theorem queuesBounded_modMc (p : PortId) (f : ModeChange → ModeChange) (s : State) :
    QueuesBounded (modMc p f s) ↔ QueuesBounded s := Iff.rfl

theorem queuesBounded_modLine (p : PortId) (f : Line → Line) (s : State) : QueuesBounded (modLine p f s) ↔ QueuesBounded s := Iff.rfl

theorem queuesBounded_modCnt (p : PortId) (f : Counters → Counters) (s : State) :
    QueuesBounded (modCnt p f s) ↔ QueuesBounded s := Iff.rfl

theorem queuesBounded_modHost (p : PortId) (f : HostLane → HostLane) (s : State) :
    QueuesBounded (modHost p f s) ↔ QueuesBounded s := Iff.rfl

theorem queuesBounded_modDsp (p : PortId) (f : Dsp → Dsp) (s : State) : QueuesBounded (modDsp p f s) ↔ QueuesBounded s := Iff.rfl

theorem queuesBounded_modSig (p : PortId) (f : Sig → Sig) (s : State) : QueuesBounded (modSig p f s) ↔ QueuesBounded s := Iff.rfl

theorem queuesBounded_modSeal (p : PortId) (f : Seal → Seal) (s : State) : QueuesBounded (modSeal p f s) ↔ QueuesBounded s := Iff.rfl

theorem queuesBounded_modSieve (p : PortId) (f : SievePort → SievePort) (s : State) :
    QueuesBounded (modSieve p f s) ↔ QueuesBounded s := Iff.rfl

theorem queuesBounded_modTx (p : PortId) (c : Cls) (f : TxCls → TxCls) (s : State) :
    QueuesBounded (modTx p c f s) ↔ QueuesBounded s := Iff.rfl

theorem queuesBounded_modRx (p : PortId) (c : Cls) (f : RxCls → RxCls) (s : State) :
    QueuesBounded (modRx p c f s) ↔ QueuesBounded s := Iff.rfl

theorem queuesBounded_modChan (ch : Chan) (f : Channel → Channel) (s : State) :
    QueuesBounded (modChan ch f s) ↔ QueuesBounded s := Iff.rfl

theorem queuesBounded_afterDraw (s : State) : QueuesBounded (afterDraw s) ↔ QueuesBounded s := Iff.rfl

theorem queuesBounded_copyToMram (s : State) : QueuesBounded (copyToMram s) ↔ QueuesBounded s := Iff.rfl

theorem queuesBounded_takeShadow (s : State) : QueuesBounded (takeShadow s) ↔ QueuesBounded s := Iff.rfl

theorem queuesBounded_dropEv (e : Ev) (s : State) : QueuesBounded (dropEv e s) ↔ QueuesBounded s := Iff.rfl

/-! ## Seals (Seal.lean) -/

theorem queuesBounded_modWindow (p : PortId) (f : SealWindow → SealWindow) (s : State) :
    QueuesBounded (modWindow p f s) ↔ QueuesBounded s := Iff.rfl

theorem queuesBounded_cutWindow (p : PortId) (s : State) : QueuesBounded (cutWindow p s) ↔ QueuesBounded s := Iff.rfl

theorem queuesBounded_cutChain (p : PortId) (s : State) : QueuesBounded (cutChain p s) ↔ QueuesBounded s := Iff.rfl

theorem queuesBounded_cutAtEnd (p : PortId) (s : State) : QueuesBounded (cutAtEnd p s) ↔ QueuesBounded s := by
  simp only [cutAtEnd, queuesBounded_ite, ite_self, queuesBounded_cutWindow]

theorem queuesBounded_armChain (p : PortId) (s : State) : QueuesBounded (armChain p s) ↔ QueuesBounded s := by
  simp only [armChain, queuesBounded_ite, ite_self, queuesBounded_modSeal]

theorem queuesBounded_addLeaf (p : PortId) (leaf : List Byte) (f : SealWindow → SealWindow) (s : State) :
    QueuesBounded (addLeaf p leaf f s) ↔ QueuesBounded s := Iff.rfl

theorem queuesBounded_frameLeaf (p : PortId) (bytes : List Byte) (errored provoked : Bool) (s : State) :
    QueuesBounded (frameLeaf p bytes errored provoked s) ↔ QueuesBounded s := by
  unfold frameLeaf
  split <;> simp only [queuesBounded_ite, ite_self, queuesBounded_with_hashWork, queuesBounded_modSeal, queuesBounded_addLeaf]

theorem queuesBounded_gapLeaf (p : PortId) (c : Cls) (l : RxLoss) (entry : Nat) (s : State) :
    QueuesBounded (gapLeaf p c l entry s) ↔ QueuesBounded s := by
  unfold gapLeaf
  split <;> simp only [queuesBounded_modSeal, queuesBounded_addLeaf]

theorem queuesBounded_cutLeaf (p : PortId) (c : Cls) (l : RxLoss) (entry : Nat) (at_ : Nat × Nat) (s : State) :
    QueuesBounded (cutLeaf p c l entry at_ s) ↔ QueuesBounded s := Iff.rfl

theorem queuesBounded_finishSeal (p : PortId) (root : List Byte) (anchor : Option Nat) (failed : Bool) (s : State) :
    QueuesBounded (finishSeal p root anchor failed s) ↔ QueuesBounded s := by
  unfold finishSeal
  split <;> simp only [queuesBounded_with_free, queuesBounded_modSeal]

theorem queuesBounded_rootWindow (p : PortId) (s : State) : QueuesBounded (rootWindow p s) ↔ QueuesBounded s := by
  unfold rootWindow
  split <;> simp only [queuesBounded_ite, ite_self, queuesBounded_modSeal, queuesBounded_raise, queuesBounded_finishSeal]

theorem queuesBounded_anchorOutcome (p : PortId) (seq : Option Nat) (s : State) :
    QueuesBounded (anchorOutcome p seq s) ↔ QueuesBounded s := by
  unfold anchorOutcome
  (repeat' split) <;> simp only [queuesBounded_with_lastAnchor, queuesBounded_finishSeal]

theorem outBounded_execChainStart (p : PortId) (s : State) : OutBounded (execChainStart p s) ↔ QueuesBounded s := by
  unfold execChainStart
  split <;> simp only [queuesBounded_ite, ite_self, outBounded_next, queuesBounded_modSeal, queuesBounded_cutWindow]

theorem outBounded_execSealWindowEnd (p : PortId) (s : State) : OutBounded (execSealWindowEnd p s) ↔ QueuesBounded s := by
  unfold execSealWindowEnd
  split <;> simp only [queuesBounded_ite, ite_self, outBounded_next, queuesBounded_modSeal]

/-! ## The recorder (Crock.lean) -/

/-- R311: a full EMCY queue drops the message. -/
theorem queuesBounded_queueEmcy (m : Emcy) (s : State) : QueuesBounded (queueEmcy m s) ↔ QueuesBounded s := by
  unfold queueEmcy
  split
  · rfl
  next room =>
    simp only [emcyCap, not_or] at room
    simp only [QueuesBounded, List.length_append, List.length_singleton]
    omega

theorem queuesBounded_recordEmcy (src : EvBlock) (sev seq : Nat) (s : State) :
    QueuesBounded (recordEmcy src sev seq s) ↔ QueuesBounded s := by
  simp only [recordEmcy, queuesBounded_ite, ite_self, queuesBounded_queueEmcy]

/-- R311: the drop notice waits for a free place. -/
theorem queuesBounded_emcyDropNotice (s : State) : QueuesBounded (emcyDropNotice s) ↔ QueuesBounded s := by
  unfold emcyDropNotice
  split
  next room =>
    obtain ⟨-, -, room⟩ := room
    simp only [emcyCap] at room
    simp only [QueuesBounded, List.length_append, List.length_singleton]
    omega
  · rfl

theorem queuesBounded_dropEvents (qs : List QEvent) (s : State) : QueuesBounded (dropEvents qs s) ↔ QueuesBounded s := by
  refine queuesBounded_foldl _ (fun t q => ?_) qs s
  dsimp only
  split <;> simp only [queuesBounded_anchorOutcome, queuesBounded_dropEv]

/-- What of the recorder an attempt at a commit leaves. -/
def Attempt.crock : Attempt → Crock
  | .committed k _ => k
  | .dropped k => k
  | .failed k _ _ => k

/-- R331: an attempt at a commit takes nothing from the commit queue and adds nothing to it. -/
theorem attemptCommit_queue (env : Env) (k : Crock) (q : QEvent) : (attemptCommit env k q).crock.queue = k.queue := by
  unfold attemptCommit
  dsimp only
  split
  · rfl
  · split <;> rfl

/-- R342: on entry to WITNESS_LOST nothing is left in the commit queue. -/
theorem queuesBounded_enterWitnessLost (extra : List QEvent) (s : State) (h : QueuesBounded s) :
    QueuesBounded (enterWitnessLost extra s) := by
  unfold enterWitnessLost
  simp only [queuesBounded_dropEvents, queuesBounded_queueEmcy]
  exact ⟨Nat.zero_le _, h.2⟩

theorem queuesBounded_droppedNotice (s : State) : QueuesBounded (droppedNotice s) ↔ QueuesBounded s := by
  unfold droppedNotice
  split
  · exact queuesBounded_raise _ _
  · rfl

theorem queuesBounded_commitFailed (k : Crock) (slot : Nat) (step : VerifyStep) (q : QEvent) (rest : List QEvent) (s : State)
    (h : QueuesBounded s) (hk : k.queue = s.crock.queue) : QueuesBounded (commitFailed k slot step q rest s) := by
  have lost (j : Crock) (hj : j.queue = s.crock.queue) : QueuesBounded (enterWitnessLost (q :: rest) { s with crock := j }) :=
    queuesBounded_enterWitnessLost _ _ ((queuesBounded_with_crock s j hj).mpr h)
  unfold commitFailed
  split
  · exact lost _ hk
  · dsimp only
    split
    · exact lost _ hk
    · exact (queuesBounded_droppedNotice _).mpr ((queuesBounded_with_crock s _ (by exact hk)).mpr h)

theorem queuesBounded_markStarted (committed : Bool) (q : QEvent) (s : State) :
    QueuesBounded (markStarted committed q s) ↔ QueuesBounded s := by
  unfold markStarted
  split
  · rfl
  · simp only []

theorem queuesBounded_endRecovery (q : QEvent) (s : State) : QueuesBounded (endRecovery q s) ↔ QueuesBounded s := by
  unfold endRecovery
  split
  · rfl
  · simp only []

theorem queuesBounded_afterCommit (q : QEvent) (seq : Nat) (s : State) : QueuesBounded (afterCommit q seq s) ↔ QueuesBounded s := by
  unfold afterCommit
  split <;> simp only [queuesBounded_anchorOutcome, queuesBounded_recordEmcy, queuesBounded_markStarted, queuesBounded_endRecovery]

theorem queuesBounded_afterDropped (q : QEvent) (s : State) : QueuesBounded (afterDropped q s) ↔ QueuesBounded s := by
  unfold afterDropped
  split <;> simp only [queuesBounded_anchorOutcome, queuesBounded_markStarted, queuesBounded_endRecovery]

theorem queuesBounded_commitOne (q : QEvent) (rest : List QEvent) (s : State) (h : QueuesBounded s) :
    QueuesBounded (commitOne q rest s) := by
  have hq := attemptCommit_queue s.env s.crock q
  unfold commitOne
  split <;> rename_i e <;> rw [e] at hq
  · simp only [queuesBounded_droppedNotice, queuesBounded_afterCommit]
    exact (queuesBounded_with_crock s _ (by exact hq)).mpr h
  · simp only [queuesBounded_droppedNotice, queuesBounded_afterDropped]
    exact (queuesBounded_with_crock s _ (by exact hq)).mpr h
  · exact queuesBounded_commitFailed _ _ _ _ _ _ h hq

/-- R331: a commit takes the head of the queue. -/
theorem queuesBounded_commitNext (s : State) (h : QueuesBounded s) : QueuesBounded (commitNext s) := by
  unfold commitNext
  split
  · exact h
  · split
    · exact queuesBounded_commitOne _ _ _ h
    · split
      · exact h
      next q rest e =>
        refine queuesBounded_commitOne _ _ _ ⟨?_, h.2⟩
        have := h.1
        simp only [e, List.length_cons] at this
        exact Nat.le_of_succ_le this

theorem takeHead_queue (k : Crock) : (takeHead k).queue = k.queue := by
  unfold takeHead
  split
  · split <;> rfl
  · rfl

theorem queuesBounded_rebuildIndex (s : State) : QueuesBounded (rebuildIndex s) ↔ QueuesBounded s :=
  queuesBounded_with_crock s _ (takeHead_queue _)

theorem queuesBounded_commitDirect (q : QEvent) (s : State) : QueuesBounded (commitDirect q s).1 ↔ QueuesBounded s := by
  have hq := attemptCommit_queue s.env s.crock q
  unfold commitDirect
  split <;> rename_i e <;> rw [e] at hq
  · rw [queuesBounded_recordEmcy]
    exact queuesBounded_with_crock s _ hq
  · exact queuesBounded_with_crock s _ hq
  · exact queuesBounded_with_crock s _ (by exact hq)

theorem queuesBounded_endWitnessLost (s : State) : QueuesBounded (endWitnessLost s) ↔ QueuesBounded s := Iff.rfl

theorem queuesBounded_recoverAttempt (s : State) : QueuesBounded (recoverAttempt s) ↔ QueuesBounded s := by
  unfold recoverAttempt
  split <;> simp only [queuesBounded_ite, ite_self, queuesBounded_with_aon, queuesBounded_commitDirect, queuesBounded_endWitnessLost]

theorem queuesBounded_sessionEndsAfterStart (s : State) : QueuesBounded (sessionEndsAfterStart s) ↔ QueuesBounded s := by
  simp only [sessionEndsAfterStart, queuesBounded_with_aon, queuesBounded_raiseAll]

/-- R338: the first record is committed outside the queue, and what it ends is raised behind it. -/
theorem queuesBounded_scanEnd (crockFails : Bool) (s : State) (h : QueuesBounded s) : QueuesBounded (scanEnd crockFails s) := by
  unfold scanEnd
  split
  · exact h
  · extract_lets failed k b t u q a v
    have hu : QueuesBounded u := by
      have ht : QueuesBounded t := (queuesBounded_rebuildIndex _).mpr h
      dsimp only [u]
      split
      · exact queuesBounded_enterWitnessLost _ _ ht
      · exact ht
    have hv : QueuesBounded v := hu
    split
    · simp only [queuesBounded_sessionEndsAfterStart]
      have direct := (queuesBounded_commitDirect q { v with
        aon := { v.aon with lastAttempt := v.aon.tally }, crock := { v.crock with started := true } }).mpr hv
      split
      · exact queuesBounded_commitOne _ _ _ direct
      · exact direct
    · have hq := attemptCommit_queue v.env v.crock q
      split <;> rename_i e <;> rw [e] at hq <;> rw [queuesBounded_sessionEndsAfterStart]
      · exact (queuesBounded_afterCommit _ _ _).mpr ((queuesBounded_with_crock v _ hq).mpr hv)
      · exact (queuesBounded_afterDropped _ _).mpr ((queuesBounded_with_crock v _ hq).mpr hv)
      · exact queuesBounded_commitFailed _ _ _ _ _ _ hv hq

theorem queuesBounded_emptyCrock (s : State) (h : QueuesBounded s) : QueuesBounded (emptyCrock s) := by
  simp only [emptyCrock, queuesBounded_forPorts, queuesBounded_anchorOutcome, implies_true]
  exact ⟨Nat.zero_le _, h.2⟩

theorem outBounded_execEventRaise (evs : List Ev) (s : State) : OutBounded (execEventRaise evs s) ↔ QueuesBounded s := by
  simp only [execEventRaise, queuesBounded_ite, ite_self, outBounded_next, queuesBounded_raiseAll]

theorem outBounded_execTallyCheckpoint (s : State) : OutBounded (execTallyCheckpoint s) ↔ QueuesBounded s := outBounded_next _

/-- R311: what is sent leaves the EMCY queue. -/
theorem outBounded_execEmcySend (s : State) (h : QueuesBounded s) : OutBounded (execEmcySend s) := by
  refine (outBounded_next _).mpr ?_
  split
  · exact h
  · split
    · exact (queuesBounded_emcyDropNotice s).mpr h
    next m rest e =>
      refine (queuesBounded_emcyDropNotice _).mpr ⟨h.1, ?_⟩
      have := h.2
      simp only [e, List.length_cons] at this
      exact Nat.le_of_succ_le this

/-! ## Modes (Modes.lean) -/

theorem queuesBounded_gapAbandoned (s t : State) : QueuesBounded (gapAbandoned s t) ↔ QueuesBounded t := by
  unfold gapAbandoned
  split <;> simp only [queuesBounded_ite, ite_self, queuesBounded_with_cal]

/-! ## Datapath (Datapath.lean) -/

theorem queuesBounded_release (p : PortId) (g : Seg) (s : State) : QueuesBounded (release p g s) ↔ QueuesBounded s := by
  simp only [release, queuesBounded_modPort]

/-! ## The loss ledger (Ledger.lean) -/

theorem queuesBounded_provoke (p : PortId) (s : State) : QueuesBounded (provoke p s) ↔ QueuesBounded s := Iff.rfl

theorem queuesBounded_modLedger (p : PortId) (rx : Bool) (f : LedgerPart → LedgerPart) (s : State) :
    QueuesBounded (modLedger p rx f s) ↔ QueuesBounded s := by
  simp only [modLedger, queuesBounded_modPort]

theorem queuesBounded_ledgerAdd (p : PortId) (rx : Bool) (c : Cls) (l : RxLoss) (t : Nat) (s : State) :
    QueuesBounded (ledgerAdd p rx c l t s) ↔ QueuesBounded s := by
  unfold ledgerAdd
  dsimp only
  split <;> simp only [queuesBounded_ite, ite_self, queuesBounded_raise, queuesBounded_modLedger]

theorem queuesBounded_ledgerMore (p : PortId) (c : Cls) (number n : Nat) (s : State) :
    QueuesBounded (ledgerMore p c number n s) ↔ QueuesBounded s := by
  simp only [ledgerMore, queuesBounded_modLedger]

/-! ## The sieve (Sieve.lean) -/

theorem queuesBounded_releaseHolder (s : State) : QueuesBounded (releaseHolder s) ↔ QueuesBounded s := by
  simp only [releaseHolder, queuesBounded_ite, ite_self, queuesBounded_with_sieveHolder]

theorem queuesBounded_skipSwap (p : PortId) (down : Bool) (s : State) : QueuesBounded (skipSwap p down s) ↔ QueuesBounded s := by
  unfold skipSwap
  split <;> simp only [queuesBounded_modSieve, queuesBounded_modTx]

theorem queuesBounded_disarmNow (p : PortId) (kinds keep cause : BitVec 8) (s : State) :
    QueuesBounded (disarmNow p kinds keep cause s) ↔ QueuesBounded s := by
  simp only [disarmNow, queuesBounded_ite, ite_self, queuesBounded_modSieve, queuesBounded_raise, queuesBounded_releaseHolder,
    queuesBounded_skipSwap]

theorem queuesBounded_modNewest (p : PortId) (f : Seg → Seg) (s : State) : QueuesBounded (modNewest p f s) ↔ QueuesBounded s := Iff.rfl

theorem queuesBounded_endInterruption (p : PortId) (s : State) : QueuesBounded (endInterruption p s) ↔ QueuesBounded s := by
  simp only [endInterruption, queuesBounded_ite, ite_self, queuesBounded_modSieve, queuesBounded_modNewest]

theorem queuesBounded_disarm (p : PortId) (kinds cause : BitVec 8) (s : State) :
    QueuesBounded (disarm p kinds cause s) ↔ QueuesBounded s := by
  simp only [disarm, queuesBounded_ite, ite_self, queuesBounded_modSieve, queuesBounded_disarmNow, queuesBounded_endInterruption]

theorem queuesBounded_disarmDue (p : PortId) (s : State) : QueuesBounded (disarmDue p s) ↔ QueuesBounded s := by
  simp only [disarmDue, implies_true, queuesBounded_foldl, queuesBounded_modSieve, queuesBounded_disarmNow]

theorem queuesBounded_disarmAll (cause : BitVec 8) (s : State) : QueuesBounded (disarmAll cause s) ↔ QueuesBounded s := by
  simp only [disarmAll, queuesBounded_ite, ite_self, implies_true, queuesBounded_forPorts, queuesBounded_releaseHolder,
    queuesBounded_disarm]

theorem queuesBounded_startInterruption (p : PortId) (s : State) : QueuesBounded (startInterruption p s) ↔ QueuesBounded s := by
  simp only [startInterruption, queuesBounded_ite, ite_self, queuesBounded_modPort, queuesBounded_provoke, queuesBounded_modNewest]

theorem queuesBounded_startIfNoSlot (p : PortId) (s : State) : QueuesBounded (startIfNoSlot p s) ↔ QueuesBounded s := by
  simp only [startIfNoSlot, queuesBounded_ite, ite_self, queuesBounded_startInterruption]

theorem queuesBounded_armKinds (ch : Chan) (p : PortId) (kinds : BitVec 8) (s : State) :
    QueuesBounded (armKinds ch p kinds s) ↔ QueuesBounded s := by
  simp only [armKinds, queuesBounded_with_sieveHolder, queuesBounded_modSieve, queuesBounded_raise, queuesBounded_startIfNoSlot]

theorem queuesBounded_writeArm (ch : Chan) (p : PortId) (v : BitVec 8) (s : State) :
    QueuesBounded (writeArm ch p v s) ↔ QueuesBounded s := by
  simp only [writeArm, queuesBounded_ite, ite_self, queuesBounded_modSieve, queuesBounded_disarm, queuesBounded_armKinds]

theorem queuesBounded_dropDone (p : PortId) (s : State) : QueuesBounded (dropDone p s) ↔ QueuesBounded s := by
  simp only [dropDone, queuesBounded_ite, ite_self, queuesBounded_disarmNow]

theorem queuesBounded_sieveDrop (p : PortId) (ctl : Bool) (c : Cls) (s : State) :
    QueuesBounded (sieveDrop p ctl c s).2 ↔ QueuesBounded s := by
  simp only [sieveDrop, queuesBounded_ite, ite_self, apply_ite Prod.snd, queuesBounded_modSieve, queuesBounded_provoke,
    queuesBounded_dropDone]

theorem queuesBounded_sieveCorrupt (p : PortId) (ctl : Bool) (c : Cls) (s : State) :
    QueuesBounded (sieveCorrupt p ctl c s).2 ↔ QueuesBounded s := by
  simp only [sieveCorrupt, queuesBounded_ite, ite_self, apply_ite Prod.snd, queuesBounded_modSieve]

theorem outBounded_execInterruptionEnd (p : PortId) (s : State) : OutBounded (execInterruptionEnd p s) ↔ QueuesBounded s := by
  simp only [execInterruptionEnd, queuesBounded_ite, ite_self, outBounded_next, queuesBounded_releaseHolder, queuesBounded_disarmNow,
    queuesBounded_endInterruption]

theorem outBounded_execHostInCorruption (p : PortId) (s : State) : OutBounded (execHostInCorruption p s) ↔ QueuesBounded s := by
  simp only [execHostInCorruption, queuesBounded_ite, ite_self, outBounded_next, queuesBounded_modPort, queuesBounded_provoke]

theorem outBounded_execProvocationEpisodeEnd (p : PortId) (s : State) :
    OutBounded (execProvocationEpisodeEnd p s) ↔ QueuesBounded s := by
  simp only [execProvocationEpisodeEnd, queuesBounded_ite, ite_self, outBounded_next, queuesBounded_modSieve]

/-! ## Signal processing (Dsp.lean) -/

theorem queuesBounded_xtalkBoundary (n : PortId) (s : State) : QueuesBounded (xtalkBoundary n s) ↔ QueuesBounded s := by
  simp only [xtalkBoundary, queuesBounded_modDsp]

theorem queuesBounded_chooseNearest (n : PortId) (s : State) : QueuesBounded (chooseNearest n s) ↔ QueuesBounded s := Iff.rfl

theorem queuesBounded_dspBoundary (n : PortId) (s : State) : QueuesBounded (dspBoundary n s) ↔ QueuesBounded s := by
  simp only [dspBoundary, queuesBounded_modDsp, queuesBounded_xtalkBoundary]

theorem queuesBounded_adapt (p : PortId) (u : AdaptIn) (s : State) : QueuesBounded (adapt p u s) ↔ QueuesBounded s := by
  unfold adapt
  dsimp only
  split <;> simp only [queuesBounded_modDsp]

theorem queuesBounded_noteDecode (p : PortId) (bad : Bool) (s : State) : QueuesBounded (noteDecode p bad s) ↔ QueuesBounded s := Iff.rfl

theorem queuesBounded_takeSnapshot (p : PortId) (m : EMode) (s : State) :
    QueuesBounded (takeSnapshot p m s) ↔ QueuesBounded s := Iff.rfl

theorem queuesBounded_measureLoads (p : PortId) (s : State) : QueuesBounded (measureLoads p s) ↔ QueuesBounded s := Iff.rfl

theorem outBounded_execSnapshotWindowEnd (p : PortId) (s : State) : OutBounded (execSnapshotWindowEnd p s) ↔ QueuesBounded s := by
  unfold execSnapshotWindowEnd
  dsimp only
  (repeat' split) <;> simp only [outBounded_next, queuesBounded_modDsp, queuesBounded_takeSnapshot, queuesBounded_measureLoads]

theorem outBounded_execSnapshotServe (p : PortId) (s : State) : OutBounded (execSnapshotServe p s) ↔ QueuesBounded s := by
  unfold execSnapshotServe
  dsimp only
  (repeat' split) <;> simp only [outBounded_next, queuesBounded_modDsp, queuesBounded_raise, queuesBounded_takeSnapshot]

theorem outBounded_execXtalkJoinDone (p m : PortId) (centiDb : Int) (s : State) :
    OutBounded (execXtalkJoinDone p m centiDb s) ↔ QueuesBounded s := by
  simp only [execXtalkJoinDone, queuesBounded_ite, ite_self, outBounded_next, queuesBounded_modDsp]

theorem outBounded_execXtalkJoinRetry (p m : PortId) (s : State) : OutBounded (execXtalkJoinRetry p m s) ↔ QueuesBounded s := by
  simp only [execXtalkJoinRetry, queuesBounded_ite, ite_self, outBounded_next, queuesBounded_modDsp]

/-! ## The holding store (Hold.lean) -/

theorem queuesBounded_pfcCheck (p : PortId) (s : State) : QueuesBounded (pfcCheck p s) ↔ QueuesBounded s := Iff.rfl

theorem queuesBounded_withdrawOne (p : PortId) (c : Cls) (s : State) (t : State) (h : withdrawOne p c s = some t) :
    QueuesBounded t ↔ QueuesBounded s := by
  unfold withdrawOne at h
  simp only [] at h
  repeat' split at h
  all_goals cases h
  all_goals simp only [queuesBounded_modCnt, queuesBounded_modTx]

theorem queuesBounded_grantOpen (p : PortId) (c : Cls) (s : State) : QueuesBounded (grantOpen p c s) ↔ QueuesBounded s := by
  simp only [grantOpen, queuesBounded_modPort]

theorem queuesBounded_ensureSlot (p : PortId) (c : Cls) (fuel : Nat) (s : State) :
    QueuesBounded (ensureSlot p c fuel s).1 ↔ QueuesBounded s := by
  induction fuel generalizing s with
  | zero => rfl
  | succ fuel ih =>
    unfold ensureSlot
    split
    · rfl
    · split
      · exact queuesBounded_grantOpen p c s
      · split
        · rfl
        · split
          · rfl
          next t ht => exact (ih t).trans (queuesBounded_withdrawOne p c s t ht)

theorem queuesBounded_openSlot (p : PortId) (c : Cls) (s : State) : QueuesBounded (openSlot p c s).1 ↔ QueuesBounded s := by
  simp only [openSlot, queuesBounded_ensureSlot]

theorem queuesBounded_modOpen (p : PortId) (c : Cls) (f : Payload → Payload) (s : State) :
    QueuesBounded (modOpen p c f s) ↔ QueuesBounded s := Iff.rfl

theorem queuesBounded_closeFull (p : PortId) (c : Cls) (s : State) : QueuesBounded (closeFull p c s) ↔ QueuesBounded s := by
  simp only [closeFull, queuesBounded_ite, ite_self, queuesBounded_modTx, queuesBounded_openSlot]

theorem queuesBounded_putBytes (p : PortId) (c : Cls) (held : Bool) (fuel : Nat) (bs : List Byte) (s : State) :
    QueuesBounded (putBytes p c held fuel bs s).1 ↔ QueuesBounded s := by
  induction fuel generalizing bs s with
  | zero => cases bs <;> rfl
  | succ fuel ih =>
    cases bs with
    | nil => rfl
    | cons b bs =>
      unfold putBytes
      dsimp only
      split
      · simp only [ih, queuesBounded_closeFull, queuesBounded_modOpen, queuesBounded_openSlot]
      · exact queuesBounded_openSlot p c s

theorem queuesBounded_putAll (p : PortId) (c : Cls) (held : Bool) (bs : List Byte) (s : State) :
    QueuesBounded (putAll p c held bs s).1 ↔ QueuesBounded s := by
  simp only [putAll, queuesBounded_putBytes]

theorem queuesBounded_putLoss (p : PortId) (c : Cls) (held : Bool) (l : TxLoss) (s : State) :
    QueuesBounded (putLoss p c held l s).1 ↔ QueuesBounded s := by
  simp only [putLoss, queuesBounded_ite, ite_self, apply_ite Prod.fst, queuesBounded_openSlot, queuesBounded_modOpen,
    queuesBounded_putAll]

theorem queuesBounded_putLosses (p : PortId) (c : Cls) (ls : List TxLoss) (s : State) :
    QueuesBounded (putLosses p c ls s).1 ↔ QueuesBounded s := by
  induction ls generalizing s with
  | nil => rfl
  | cons l ls ih =>
    unfold putLosses
    dsimp only
    split
    · exact (ih _).trans (queuesBounded_putLoss p c true l s)
    · exact queuesBounded_putLoss p c true l s

theorem queuesBounded_modArriving (p : PortId) (f : Arriving → Arriving) (s : State) :
    QueuesBounded (modArriving p f s) ↔ QueuesBounded s := Iff.rfl

theorem queuesBounded_unpack (p : PortId) (s : State) : QueuesBounded (unpack p s) ↔ QueuesBounded s := by
  unfold unpack
  (repeat' split) <;> simp only [queuesBounded_modTx, queuesBounded_modArriving]

theorem queuesBounded_dropArriving (p : PortId) (s : State) : QueuesBounded (dropArriving p s) ↔ QueuesBounded s := by
  simp only [dropArriving, queuesBounded_modArriving, queuesBounded_unpack]

theorem queuesBounded_reserveTag (p : PortId) (c : Cls) (ptp : Bool) (at_ : Nat) (s : State) :
    QueuesBounded (reserveTag p c ptp at_ s).1 ↔ QueuesBounded s := by
  simp only [reserveTag, queuesBounded_ite, ite_self, apply_ite Prod.fst, apply_ite Prod.snd, queuesBounded_openSlot,
    queuesBounded_modOpen, queuesBounded_closeFull, queuesBounded_putAll, queuesBounded_modArriving]

theorem queuesBounded_layFrame (p : PortId) (ptp : Bool) (s : State) : QueuesBounded (layFrame p ptp s) ↔ QueuesBounded s := by
  unfold layFrame
  split <;> simp only [queuesBounded_ite, ite_self, apply_ite Prod.fst, apply_ite Prod.snd, queuesBounded_modTx,
    queuesBounded_openSlot, queuesBounded_putAll, queuesBounded_putLosses, queuesBounded_modArriving, queuesBounded_dropArriving,
    queuesBounded_reserveTag]

theorem queuesBounded_grantOwed (p : PortId) (c : Cls) (s : State) : QueuesBounded (grantOwed p c s) ↔ QueuesBounded s := by
  simp only [grantOwed, queuesBounded_ite, ite_self, queuesBounded_grantOpen]

theorem queuesBounded_flushOwed (p : PortId) (c : Cls) (ls : List TxLoss) (s : State) :
    QueuesBounded (flushOwed p c ls s) ↔ QueuesBounded s := by
  induction ls generalizing s with
  | nil => rfl
  | cons l ls ih =>
    unfold flushOwed
    dsimp only
    split
    · simp only [ih, queuesBounded_putLoss, queuesBounded_modTx, queuesBounded_grantOwed]
    · exact queuesBounded_grantOwed p c s

theorem queuesBounded_flushLosses (p : PortId) (c : Cls) (s : State) : QueuesBounded (flushLosses p c s) ↔ QueuesBounded s := by
  simp only [flushLosses, queuesBounded_ite, ite_self, queuesBounded_flushOwed]

theorem queuesBounded_withdrawStd (p : PortId) (c : Cls) (s : State) (t : State) (h : withdrawStd p c s = some t) :
    QueuesBounded t ↔ QueuesBounded s := by
  unfold withdrawStd at h
  repeat' split at h
  all_goals cases h
  all_goals simp only [queuesBounded_modTx, queuesBounded_ledgerAdd]

theorem queuesBounded_stdRoom (p : PortId) (c : Cls) (n fuel : Nat) (s : State) :
    QueuesBounded (stdRoom p c n fuel s).1 ↔ QueuesBounded s := by
  induction fuel generalizing s with
  | zero => rfl
  | succ fuel ih =>
    unfold stdRoom
    split
    · rfl
    · split
      · rfl
      · split
        · rfl
        next t ht => exact (ih t).trans (queuesBounded_withdrawStd p c s t ht)

theorem queuesBounded_countIn (p : PortId) (c : Cls) (errored : Bool) (s : State) :
    QueuesBounded (countIn p c errored s) ↔ QueuesBounded s := by
  simp only [countIn, queuesBounded_modCnt]

theorem queuesBounded_storeStd (p : PortId) (a : Arriving) (s : State) : QueuesBounded (storeStd p a s) ↔ QueuesBounded s := by
  simp only [storeStd, queuesBounded_ite, ite_self, queuesBounded_modTx, queuesBounded_ledgerAdd, queuesBounded_pfcCheck,
    queuesBounded_stdRoom, queuesBounded_countIn]

theorem queuesBounded_sealFrame (p : PortId) (s : State) : QueuesBounded (sealFrame p s) ↔ QueuesBounded s := by
  unfold sealFrame
  (repeat' split) <;> simp only [queuesBounded_modPort, queuesBounded_modTx, queuesBounded_putAll, queuesBounded_countIn]

theorem queuesBounded_oweLoss (p : PortId) (c : Cls) (cause : LossCause) (a : Arriving) (s : State) :
    QueuesBounded (oweLoss p c cause a s) ↔ QueuesBounded s := by
  simp only [oweLoss, queuesBounded_modTx]

theorem queuesBounded_endArriving (p : PortId) (s : State) : QueuesBounded (endArriving p s) ↔ QueuesBounded s := Iff.rfl

theorem queuesBounded_endLost (p : PortId) (c : Cls) (cause : LossCause) (a : Arriving) (s : State) :
    QueuesBounded (endLost p c cause a s) ↔ QueuesBounded s := by
  simp only [endLost, queuesBounded_ite, ite_self, queuesBounded_pfcCheck, queuesBounded_flushLosses, queuesBounded_oweLoss,
    queuesBounded_endArriving]

theorem queuesBounded_relay (p : PortId) (a : Arriving) (s : State) : QueuesBounded (relay p a s) ↔ QueuesBounded s := by
  simp only [relay, queuesBounded_ite, ite_self, queuesBounded_unpack, queuesBounded_layFrame]

theorem queuesBounded_endWhole (p : PortId) (a : Arriving) (s : State) : QueuesBounded (endWhole p a s) ↔ QueuesBounded s := by
  unfold endWhole
  dsimp only
  split <;> simp only [queuesBounded_ite, ite_self, queuesBounded_pfcCheck, queuesBounded_layFrame, queuesBounded_sealFrame,
    queuesBounded_endArriving, queuesBounded_endLost, queuesBounded_relay]

theorem queuesBounded_frameEnd (p : PortId) (errored : Bool) (s : State) : QueuesBounded (frameEnd p errored s) ↔ QueuesBounded s := by
  unfold frameEnd
  split <;> simp only [queuesBounded_ite, ite_self, queuesBounded_modHost, queuesBounded_ledgerAdd, queuesBounded_modArriving,
    queuesBounded_storeStd, queuesBounded_endArriving, queuesBounded_endLost, queuesBounded_endWhole]

theorem queuesBounded_cutOversize (p : PortId) (s : State) : QueuesBounded (cutOversize p s) ↔ QueuesBounded s := by
  unfold cutOversize
  split <;> simp only [queuesBounded_ite, ite_self, queuesBounded_pfcCheck, queuesBounded_modArriving, queuesBounded_unpack]

theorem queuesBounded_frameBytes (p : PortId) (bs : List Byte) (s : State) : QueuesBounded (frameBytes p bs s) ↔ QueuesBounded s := by
  unfold frameBytes
  dsimp only
  (repeat' split) <;> simp only [queuesBounded_pfcCheck, queuesBounded_putAll, queuesBounded_modArriving, queuesBounded_dropArriving,
    queuesBounded_layFrame, queuesBounded_relay, queuesBounded_cutOversize]

theorem queuesBounded_frameBegin (p : PortId) (at_ : Nat) (powered : Bool) (s : State) :
    QueuesBounded (frameBegin p at_ powered s) ↔ QueuesBounded s := Iff.rfl

/-! ## Roll calls (Roll.lean) -/

theorem queuesBounded_rollIssue (issuer : BitVec 8) (o : BitVec 64) (s : State) :
    QueuesBounded (rollIssue issuer o s) ↔ QueuesBounded s := by
  simp only [rollIssue, queuesBounded_with_roll, queuesBounded_raise]

theorem queuesBounded_issueThermal (s : State) : QueuesBounded (issueThermal s) ↔ QueuesBounded s := by
  simp only [issueThermal, queuesBounded_ite, ite_self, queuesBounded_with_heat, queuesBounded_rollIssue]

theorem queuesBounded_rollComplete (s : State) : QueuesBounded (rollComplete s) ↔ QueuesBounded s := by
  simp only [rollComplete, queuesBounded_ite, ite_self, queuesBounded_with_roll, queuesBounded_raise, queuesBounded_issueThermal]

theorem queuesBounded_rollReport (p : PortId) (result reason : Nat) (s : State) :
    QueuesBounded (rollReport p result reason s) ↔ QueuesBounded s := by
  simp only [rollReport, queuesBounded_with_roll, queuesBounded_rollComplete]

/-! ## Mode changes (ModeChange.lean) -/

theorem queuesBounded_mcClear (p : PortId) (st : McStatus) (s : State) : QueuesBounded (mcClear p st s) ↔ QueuesBounded s := by
  simp only [mcClear, queuesBounded_modPort]

theorem queuesBounded_mcTell (p : PortId) (mc : ModeChange) (st : McStatus) (s : State) :
    QueuesBounded (mcTell p mc st s) ↔ QueuesBounded s := by
  unfold mcTell
  split <;> simp only [queuesBounded_ite, ite_self, queuesBounded_raise, queuesBounded_rollReport]

theorem queuesBounded_mcEnd (p : PortId) (st : McStatus) (s : State) : QueuesBounded (mcEnd p st s) ↔ QueuesBounded s := by
  simp only [mcEnd, queuesBounded_mcClear, queuesBounded_mcTell]

theorem queuesBounded_mcStart (p : PortId) (target : EMode) (roll : Option (BitVec 16)) (s : State) :
    QueuesBounded (mcStart p target roll s) ↔ QueuesBounded s := by
  unfold mcStart
  (repeat' split) <;> simp only [queuesBounded_modPort, queuesBounded_modMc, queuesBounded_mcEnd]

theorem queuesBounded_mcCount (p : PortId) (s : State) : QueuesBounded (mcCount p s) ↔ QueuesBounded s := by
  simp only [mcCount, queuesBounded_modPort]

theorem queuesBounded_mcApply (p : PortId) (s : State) : QueuesBounded (mcApply p s) ↔ QueuesBounded s := by
  simp only [mcApply, queuesBounded_ite, ite_self, queuesBounded_modLink, queuesBounded_gapAbandoned, queuesBounded_pfcCheck,
    queuesBounded_mcEnd]

theorem queuesBounded_mcTransmitEpoch (p : PortId) (s : State) : QueuesBounded (mcTransmitEpoch p s) ↔ QueuesBounded s := by
  simp only [mcTransmitEpoch, queuesBounded_modMc, queuesBounded_mcApply]

theorem queuesBounded_mcReceiveEpoch (p : PortId) (s : State) : QueuesBounded (mcReceiveEpoch p s) ↔ QueuesBounded s := by
  simp only [mcReceiveEpoch, queuesBounded_modPort, queuesBounded_xtalkBoundary, queuesBounded_mcApply]

theorem queuesBounded_oweCtl (p : PortId) (c : Ctl) (s : State) : QueuesBounded (oweCtl p c s) ↔ QueuesBounded s := Iff.rfl

theorem queuesBounded_mcRefuse (p : PortId) (r : RefuseReason) (ep : BitVec 8) (s : State) :
    QueuesBounded (mcRefuse p r ep s) ↔ QueuesBounded s := Iff.rfl

theorem queuesBounded_mcRespond (p : PortId) (cur target : EMode) (ep : BitVec 8) (s : State) :
    QueuesBounded (mcRespond p cur target ep s) ↔ QueuesBounded s := by
  unfold mcRespond
  split <;> simp only [queuesBounded_modPort, queuesBounded_mcRefuse]

theorem queuesBounded_mcRequested (p : PortId) (m : EMode) (ep : BitVec 8) (s : State) :
    QueuesBounded (mcRequested p m ep s) ↔ QueuesBounded s := by
  unfold mcRequested
  dsimp only
  (repeat' split) <;> simp only [queuesBounded_modLink, queuesBounded_modMc, queuesBounded_mcCount, queuesBounded_oweCtl,
    queuesBounded_mcRefuse, queuesBounded_mcRespond]

theorem queuesBounded_mcAccepted (p : PortId) (m : EMode) (ep : BitVec 8) (s : State) :
    QueuesBounded (mcAccepted p m ep s) ↔ QueuesBounded s := by
  simp only [mcAccepted, queuesBounded_ite, ite_self, queuesBounded_modPort, queuesBounded_modLink, queuesBounded_mcCount]

theorem queuesBounded_mcRefused (p : PortId) (ep : BitVec 8) (s : State) : QueuesBounded (mcRefused p ep s) ↔ QueuesBounded s := by
  simp only [mcRefused, queuesBounded_ite, ite_self, queuesBounded_mcEnd]

theorem queuesBounded_mcMark (p : PortId) (k : Nat) (ep : BitVec 8) (s : State) :
    QueuesBounded (mcMark p k ep s) ↔ QueuesBounded s := by
  simp only [mcMark, queuesBounded_ite, ite_self, queuesBounded_modPort]

theorem queuesBounded_mcFollow (p : PortId) (s : State) : QueuesBounded (mcFollow p s) ↔ QueuesBounded s := by
  simp only [mcFollow, queuesBounded_modMc]

theorem queuesBounded_mcPrepared (p : PortId) (s : State) : QueuesBounded (mcPrepared p s) ↔ QueuesBounded s := by
  unfold mcPrepared
  dsimp only
  (repeat' split) <;> simp only [queuesBounded_modMc, queuesBounded_mcCount, queuesBounded_oweCtl, queuesBounded_mcFollow]

theorem queuesBounded_mcAcceptLaunched (p : PortId) (s : State) : QueuesBounded (mcAcceptLaunched p s) ↔ QueuesBounded s := by
  simp only [mcAcceptLaunched, queuesBounded_ite, ite_self, queuesBounded_mcCount]

theorem queuesBounded_mcRetry (p : PortId) (s : State) : QueuesBounded (mcRetry p s) ↔ QueuesBounded s := by
  simp only [mcRetry, queuesBounded_ite, ite_self, queuesBounded_modMc, queuesBounded_mcEnd, queuesBounded_oweCtl]

theorem outBounded_execReceiveEpoch (p : PortId) (s : State) : OutBounded (execReceiveEpoch p s) ↔ QueuesBounded s := by
  simp only [execReceiveEpoch, queuesBounded_ite, ite_self, outBounded_next, queuesBounded_mcReceiveEpoch]

theorem outBounded_execAutoDownshiftWindow (p : PortId) (meanSnr : Int) (s : State) :
    OutBounded (execAutoDownshiftWindow p meanSnr s) ↔ QueuesBounded s := by
  unfold execAutoDownshiftWindow
  dsimp only
  (repeat' split) <;> simp only [outBounded_next, queuesBounded_modLine, queuesBounded_mcStart]

/-! ## Link startup (Link.lean) -/

theorem queuesBounded_restartUncertain (p : PortId) (c : Cls) (s : State) :
    QueuesBounded (restartUncertain p c s) ↔ QueuesBounded s := by
  unfold restartUncertain
  split <;> simp only [queuesBounded_ledgerAdd]

theorem queuesBounded_restartDiscard (p : PortId) (c : Cls) (s : State) : QueuesBounded (restartDiscard p c s) ↔ QueuesBounded s := by
  simp only [restartDiscard, queuesBounded_ite, ite_self, queuesBounded_ledgerAdd]

theorem queuesBounded_restartOwed (p : PortId) (c : Cls) (s : State) : QueuesBounded (restartOwed p c s) ↔ QueuesBounded s := by
  simp only [restartOwed, implies_true, queuesBounded_foldl, queuesBounded_ledgerAdd]

theorem queuesBounded_restartMissing (p : PortId) (c : Cls) (s : State) : QueuesBounded (restartMissing p c s) ↔ QueuesBounded s := by
  simp only [restartMissing, queuesBounded_ite, ite_self, queuesBounded_gapLeaf, queuesBounded_ledgerAdd]

theorem queuesBounded_restartEntries (p : PortId) (s : State) : QueuesBounded (restartEntries p s) ↔ QueuesBounded s := by
  simp only [restartEntries, implies_true, queuesBounded_modPort, queuesBounded_forClasses, queuesBounded_restartUncertain,
    queuesBounded_restartDiscard, queuesBounded_restartOwed, queuesBounded_restartMissing]

theorem queuesBounded_beginAutoneg (p : PortId) (s : State) : QueuesBounded (beginAutoneg p s) ↔ QueuesBounded s := by
  simp only [beginAutoneg, queuesBounded_modPort, queuesBounded_afterDraw, queuesBounded_pfcCheck, queuesBounded_restartEntries]

theorem queuesBounded_tryAutoneg (p : PortId) (s : State) : QueuesBounded (tryAutoneg p s) ↔ QueuesBounded s := by
  simp only [tryAutoneg, queuesBounded_ite, ite_self, queuesBounded_modLink, queuesBounded_disarmDue, queuesBounded_startIfNoSlot,
    queuesBounded_beginAutoneg]

theorem queuesBounded_mcAbandon (p : PortId) (s : State) : QueuesBounded (mcAbandon p s) ↔ QueuesBounded s := by
  simp only [mcAbandon, queuesBounded_ite, ite_self, queuesBounded_modLink, queuesBounded_mcClear]

theorem queuesBounded_declareDown (p : PortId) (cause : DownCause) (s : State) :
    QueuesBounded (declareDown p cause s) ↔ QueuesBounded s := by
  simp only [declareDown, queuesBounded_ite, ite_self, queuesBounded_modPort, queuesBounded_skipSwap, queuesBounded_disarmDue,
    queuesBounded_startIfNoSlot, queuesBounded_pfcCheck, queuesBounded_mcAbandon]

theorem queuesBounded_raiseDown (p : PortId) (r : Relink) (s : State) : QueuesBounded (raiseDown p r s) ↔ QueuesBounded s := by
  unfold raiseDown
  (repeat' split) <;> simp only [queuesBounded_modLink, queuesBounded_raise, queuesBounded_mcTell]

theorem queuesBounded_declareDownAt (p : PortId) (cause : DownCause) (r : Relink) (s : State) :
    QueuesBounded (declareDownAt p cause r s) ↔ QueuesBounded s := by
  simp only [declareDownAt, queuesBounded_ite, ite_self, queuesBounded_declareDown, queuesBounded_raiseDown]

theorem queuesBounded_fallAsleep (p : PortId) (s : State) : QueuesBounded (fallAsleep p s) ↔ QueuesBounded s := by
  simp only [fallAsleep, queuesBounded_ite, ite_self, queuesBounded_modLink, queuesBounded_modLine, queuesBounded_release,
    queuesBounded_declareDown]

theorem queuesBounded_oweBeacons (p : PortId) (full : Bool) (m : EMode) (s : State) :
    QueuesBounded (oweBeacons p full m s) ↔ QueuesBounded s := Iff.rfl

theorem queuesBounded_sendPeriod (p : PortId) (s : State) : QueuesBounded (sendPeriod p s) ↔ QueuesBounded s := by
  simp only [sendPeriod, queuesBounded_ite, ite_self, queuesBounded_release]

theorem queuesBounded_enterPhase (p : PortId) (ph : Phase) (s : State) : QueuesBounded (enterPhase p ph s) ↔ QueuesBounded s := by
  simp only [enterPhase, queuesBounded_ite, ite_self, queuesBounded_modPort, queuesBounded_disarmDue, queuesBounded_startIfNoSlot,
    queuesBounded_dspBoundary, queuesBounded_sendPeriod]

theorem queuesBounded_beginFull (p : PortId) (s : State) : QueuesBounded (beginFull p s) ↔ QueuesBounded s := by
  simp only [beginFull, queuesBounded_modPort, queuesBounded_enterPhase]

theorem queuesBounded_beginFast (p : PortId) (s : State) : QueuesBounded (beginFast p s) ↔ QueuesBounded s := by
  simp only [beginFast, queuesBounded_modPort, queuesBounded_enterPhase]

theorem queuesBounded_takeRelinkMode (p : PortId) (m : EMode) (s : State) : QueuesBounded (takeRelinkMode p m s) ↔ QueuesBounded s := by
  simp only [takeRelinkMode, queuesBounded_modLink, queuesBounded_gapAbandoned, queuesBounded_pfcCheck]

theorem queuesBounded_chooseAndBegin (p : PortId) (s : State) : QueuesBounded (chooseAndBegin p s) ↔ QueuesBounded s := by
  unfold chooseAndBegin
  dsimp only
  (repeat' split) <;> simp only [queuesBounded_modLink, queuesBounded_tryAutoneg, queuesBounded_raiseDown, queuesBounded_oweBeacons,
    queuesBounded_beginFull, queuesBounded_beginFast, queuesBounded_takeRelinkMode]

theorem queuesBounded_clocksBack (p : PortId) (s : State) : QueuesBounded (clocksBack p s) ↔ QueuesBounded s := by
  simp only [clocksBack, queuesBounded_ite, ite_self, queuesBounded_beginAutoneg, queuesBounded_chooseAndBegin]

theorem queuesBounded_restartFull (p : PortId) (beacons : Bool) (s : State) :
    QueuesBounded (restartFull p beacons s) ↔ QueuesBounded s := by
  unfold restartFull
  split <;> simp only [queuesBounded_ite, ite_self, queuesBounded_modLink, queuesBounded_gapAbandoned, queuesBounded_pfcCheck,
    queuesBounded_oweBeacons, queuesBounded_beginFull]

theorem queuesBounded_fastGivesWay (p : PortId) (beacons : Bool) (s : State) :
    QueuesBounded (fastGivesWay p beacons s) ↔ QueuesBounded s := by
  simp only [fastGivesWay, queuesBounded_modLink, queuesBounded_restartFull]

/-! ## Launching (Launch.lean) -/

theorem queuesBounded_wakeRequest (p : PortId) (s : State) : QueuesBounded (wakeRequest p s) ↔ QueuesBounded s := by
  simp only [wakeRequest, queuesBounded_modLine]

theorem queuesBounded_wakeIfOwed (p : PortId) (s : State) : QueuesBounded (wakeIfOwed p s) ↔ QueuesBounded s := by
  simp only [wakeIfOwed, queuesBounded_ite, ite_self, queuesBounded_wakeRequest]

theorem queuesBounded_closeToQuiet (p : PortId) (s : State) : QueuesBounded (closeToQuiet p s) ↔ QueuesBounded s := Iff.rfl

theorem queuesBounded_enterQuiet (p : PortId) (s : State) : QueuesBounded (enterQuiet p s) ↔ QueuesBounded s := Iff.rfl

theorem queuesBounded_quietSlot (p : PortId) (s : State) : QueuesBounded (quietSlot p s) ↔ QueuesBounded s := Iff.rfl

theorem queuesBounded_putSlot (p : PortId) (beacon : Bool) (x : SlotContent) (drop corrupt : Bool) (s : State) :
    QueuesBounded (putSlot p beacon x drop corrupt s) ↔ QueuesBounded s := by
  simp only [putSlot, queuesBounded_modPort, queuesBounded_release]

theorem queuesBounded_noteCorrupt (p : PortId) (corrupt : Bool) (s : State) :
    QueuesBounded (noteCorrupt p corrupt s) ↔ QueuesBounded s := by
  simp only [noteCorrupt, queuesBounded_ite, ite_self, queuesBounded_modSieve, queuesBounded_provoke]

theorem queuesBounded_slotChoices (p : PortId) (ctl : Bool) (c : Cls) (s : State) :
    QueuesBounded (slotChoices p ctl c s).2.2 ↔ QueuesBounded s := by
  simp only [slotChoices, queuesBounded_sieveDrop, queuesBounded_sieveCorrupt, queuesBounded_noteCorrupt]

theorem queuesBounded_putControl (p : PortId) (k : Ctl) (s : State) : QueuesBounded (putControl p k s) ↔ QueuesBounded s := by
  unfold putControl
  split <;> simp only [queuesBounded_modPort, queuesBounded_putSlot, queuesBounded_slotChoices]

theorem queuesBounded_enterLosses (p : PortId) (c : Cls) (e : LaunchedSh) (s : State) :
    QueuesBounded (enterLosses p c e s) ↔ QueuesBounded s := by
  simp only [enterLosses, implies_true, queuesBounded_foldl, queuesBounded_ledgerAdd]

theorem queuesBounded_putData (p : PortId) (c : Cls) (n : Seq) (again : Bool) (at_ : Nat) (s : State) :
    QueuesBounded (putData p c n again at_ s) ↔ QueuesBounded s := by
  unfold putData
  split <;> simp only [queuesBounded_ite, ite_self, queuesBounded_modCnt, queuesBounded_modTx, queuesBounded_modRx,
    queuesBounded_putSlot, queuesBounded_slotChoices, queuesBounded_enterLosses]

theorem queuesBounded_numberNext (p : PortId) (c : Cls) (s : State) : QueuesBounded (numberNext p c s).1 ↔ QueuesBounded s := by
  unfold numberNext
  dsimp only
  (repeat' split) <;> simp only [queuesBounded_modTx]

theorem queuesBounded_closeAtBoundary (p : PortId) (c : Cls) (n : Nat) (s : State) :
    QueuesBounded (closeAtBoundary p c n s) ↔ QueuesBounded s := by
  simp only [closeAtBoundary, queuesBounded_ite, ite_self, queuesBounded_modTx]

theorem queuesBounded_putSwap (p : PortId) (c : Cls) (at_ : Nat) (s : State) : QueuesBounded (putSwap p c at_ s) ↔ QueuesBounded s := by
  unfold putSwap
  dsimp only
  split <;> simp only [queuesBounded_modSieve, queuesBounded_modTx, queuesBounded_provoke, queuesBounded_putData,
    queuesBounded_numberNext]

theorem queuesBounded_putSwapped (p : PortId) (c : Cls) (n : Seq) (at_ : Nat) (s : State) :
    QueuesBounded (putSwapped p c n at_ s) ↔ QueuesBounded s := by
  simp only [putSwapped, queuesBounded_modSieve, queuesBounded_modTx, queuesBounded_putData]

theorem queuesBounded_putFresh (p : PortId) (c : Cls) (at_ : Nat) (s : State) :
    QueuesBounded (putFresh p c at_ s) ↔ QueuesBounded s := by
  unfold putFresh
  dsimp only
  (repeat' split) <;> simp only [queuesBounded_modSieve, queuesBounded_putData, queuesBounded_numberNext,
    queuesBounded_closeAtBoundary, queuesBounded_putSwap, queuesBounded_putSwapped]

theorem queuesBounded_putClass (p : PortId) (c : Cls) (at_ : Nat) (s : State) :
    QueuesBounded (putClass p c at_ s) ↔ QueuesBounded s := by
  unfold putClass
  split <;> simp only [queuesBounded_putData, queuesBounded_putFresh]

theorem queuesBounded_putNak (p : PortId) (s : State) : QueuesBounded (putNak p s) ↔ QueuesBounded s := by
  simp only [putNak, implies_true, queuesBounded_modRx, queuesBounded_forClasses, queuesBounded_putControl]

theorem queuesBounded_putIdle (p : PortId) (s : State) : QueuesBounded (putIdle p s) ↔ QueuesBounded s := by
  simp only [putIdle, queuesBounded_putControl]

theorem queuesBounded_afterControl (p : PortId) (k : Ctl) (s : State) : QueuesBounded (afterControl p k s) ↔ QueuesBounded s := by
  unfold afterControl
  split <;> simp only [queuesBounded_modLink, queuesBounded_mcAcceptLaunched, queuesBounded_fallAsleep, queuesBounded_closeToQuiet]

theorem queuesBounded_putFirst (p : PortId) (at_ : Nat) (s : State) : QueuesBounded (putFirst p at_ s) ↔ QueuesBounded s := by
  unfold putFirst
  dsimp only
  (repeat' split) <;> simp only [queuesBounded_modMc, queuesBounded_modLine, queuesBounded_putControl, queuesBounded_putClass,
    queuesBounded_putNak, queuesBounded_putIdle, queuesBounded_afterControl]

theorem queuesBounded_putExit (p : PortId) (s : State) : QueuesBounded (putExit p s) ↔ QueuesBounded s := by
  simp only [putExit, queuesBounded_modLine, queuesBounded_putControl]

theorem queuesBounded_putQuiet (p : PortId) (s : State) : QueuesBounded (putQuiet p s) ↔ QueuesBounded s := by
  unfold putQuiet
  split <;> simp only [queuesBounded_ite, ite_self, queuesBounded_modLine, queuesBounded_enterQuiet, queuesBounded_quietSlot,
    queuesBounded_putIdle, queuesBounded_putExit]

theorem queuesBounded_swapCheck (p : PortId) (s : State) : QueuesBounded (swapCheck p s) ↔ QueuesBounded s := by
  unfold swapCheck
  split <;> simp only [queuesBounded_ite, ite_self, queuesBounded_skipSwap]

theorem queuesBounded_boundary (p : PortId) (s : State) : QueuesBounded (boundary p s) ↔ QueuesBounded s := by
  simp only [boundary, queuesBounded_ite, ite_self, queuesBounded_modSieve, queuesBounded_skipSwap, queuesBounded_disarmDue,
    queuesBounded_startInterruption, queuesBounded_dspBoundary, queuesBounded_mcTransmitEpoch, queuesBounded_swapCheck]

theorem queuesBounded_sleepPoll (p : PortId) (s : State) : QueuesBounded (sleepPoll p s) ↔ QueuesBounded s := by
  simp only [sleepPoll, queuesBounded_ite, ite_self, queuesBounded_modLink, queuesBounded_oweCtl, queuesBounded_wakeRequest]

theorem queuesBounded_driverOff (p : PortId) (s : State) : QueuesBounded (driverOff p s) ↔ QueuesBounded s := by
  simp only [driverOff, queuesBounded_modLine]

theorem queuesBounded_launch (p : PortId) (at_ : Nat) (s : State) : QueuesBounded (launch p at_ s) ↔ QueuesBounded s := by
  unfold launch
  dsimp only
  (repeat' split) <;> simp only [implies_true, queuesBounded_modLine, queuesBounded_forClasses, queuesBounded_pfcCheck,
    queuesBounded_flushLosses, queuesBounded_putControl, queuesBounded_putIdle, queuesBounded_putFirst, queuesBounded_putQuiet,
    queuesBounded_boundary, queuesBounded_sleepPoll, queuesBounded_driverOff]

theorem queuesBounded_stdForward (p : PortId) (at_ : Nat) (cs : List Cls) (s : State) :
    QueuesBounded (stdForward p at_ cs s) ↔ QueuesBounded s := by
  induction cs generalizing s with
  | nil => rfl
  | cons c cs ih =>
    unfold stdForward
    split
    · exact ih s
    · simp only [queuesBounded_pfcCheck, queuesBounded_modPort]

theorem outBounded_execLaunchSlot (p : PortId) (at_ : Nat) (s : State) : OutBounded (execLaunchSlot p at_ s) ↔ QueuesBounded s := by
  simp only [execLaunchSlot, queuesBounded_ite, ite_self, outBounded_next, queuesBounded_launch, queuesBounded_stdForward]

theorem outBounded_execReplayTimer (p : PortId) (c : Cls) (seq : Seq) (s : State) :
    OutBounded (execReplayTimer p c seq s) ↔ QueuesBounded s := by
  simp only [execReplayTimer, outBounded_next, queuesBounded_modTx]

theorem outBounded_execNakRepeat (p : PortId) (c : Cls) (seq : Seq) (s : State) :
    OutBounded (execNakRepeat p c seq s) ↔ QueuesBounded s := by
  simp only [execNakRepeat, outBounded_next, queuesBounded_modRx, queuesBounded_wakeIfOwed]

theorem outBounded_execLpiEnter (p : PortId) (s : State) : OutBounded (execLpiEnter p s) ↔ QueuesBounded s := by
  simp only [execLpiEnter, queuesBounded_ite, ite_self, outBounded_next, queuesBounded_closeToQuiet, queuesBounded_putControl,
    queuesBounded_boundary]

theorem outBounded_execLpiRefresh (p : PortId) (s : State) : OutBounded (execLpiRefresh p s) ↔ QueuesBounded s := by
  simp only [execLpiRefresh, queuesBounded_ite, ite_self, outBounded_next, queuesBounded_modLine]

/-! ## Receiving (Receive.lean) -/

theorem queuesBounded_takePayload (p : PortId) (c : Cls) (h : HeldSh) (slots : List Nat) (own : Bool) (s : State) :
    QueuesBounded (takePayload p c h slots own s) ↔ QueuesBounded s := by
  simp only [takePayload, queuesBounded_ite, ite_self, queuesBounded_modCnt, queuesBounded_modRx, queuesBounded_ledgerMore]

theorem queuesBounded_freshSlot (p : PortId) (s : State) : QueuesBounded (freshSlot p s).2 ↔ QueuesBounded s := by
  simp only [freshSlot, queuesBounded_modPort]

theorem queuesBounded_takeHeld (p : PortId) (c : Cls) (fuel : Nat) (s : State) :
    QueuesBounded (takeHeld p c fuel s) ↔ QueuesBounded s := by
  induction fuel generalizing s with
  | zero => rfl
  | succ fuel ih =>
    unfold takeHeld
    dsimp only
    split
    · rfl
    · simp only [ih, queuesBounded_takePayload, queuesBounded_modRx, queuesBounded_freshSlot]

theorem queuesBounded_takeInOrder (p : PortId) (c : Cls) (h : HeldSh) (slots : List Nat) (own : Bool) (s : State) :
    QueuesBounded (takeInOrder p c h slots own s) ↔ QueuesBounded s := by
  simp only [takeInOrder, queuesBounded_modRx, queuesBounded_takePayload, queuesBounded_takeHeld]

theorem queuesBounded_sequence (p : PortId) (c : Cls) (h : HeldSh) (s : State) :
    QueuesBounded (sequence p c h s) ↔ QueuesBounded s := by
  simp only [sequence, queuesBounded_ite, ite_self, queuesBounded_modCnt, queuesBounded_modRx, queuesBounded_freshSlot,
    queuesBounded_takeInOrder]

theorem queuesBounded_acceptAck (p : PortId) (c : Cls) (a : Seq) (s : State) : QueuesBounded (acceptAck p c a s) ↔ QueuesBounded s := by
  simp only [acceptAck, queuesBounded_ite, ite_self, queuesBounded_modCnt, queuesBounded_modTx, queuesBounded_grantOwed]

theorem queuesBounded_acceptBlock (p : PortId) (a : AckBlock) (s : State) : QueuesBounded (acceptBlock p a s) ↔ QueuesBounded s := by
  simp only [acceptBlock, implies_true, queuesBounded_forClasses, queuesBounded_pfcCheck, queuesBounded_acceptAck]

theorem queuesBounded_slotGood (p : PortId) (corr : Fin 9) (s : State) : QueuesBounded (slotGood p corr s) ↔ QueuesBounded s := Iff.rfl

theorem queuesBounded_slotBad (p : PortId) (r : UncReason) (s : State) : QueuesBounded (slotBad p r s) ↔ QueuesBounded s := by
  simp only [slotBad, queuesBounded_ite, ite_self, queuesBounded_modPort, queuesBounded_noteDecode, queuesBounded_declareDown]

theorem queuesBounded_partnerAwake (p : PortId) (s : State) : QueuesBounded (partnerAwake p s) ↔ QueuesBounded s := by
  simp only [partnerAwake, queuesBounded_modLine]

theorem queuesBounded_linkUp (p : PortId) (ph : Phase) (how : HowUp) (s : State) :
    QueuesBounded (linkUp p ph how s) ↔ QueuesBounded s := by
  simp only [linkUp, queuesBounded_modPort, queuesBounded_raise]

theorem queuesBounded_checkLinkUp (p : PortId) (s : State) : QueuesBounded (checkLinkUp p s) ↔ QueuesBounded s := by
  simp only [checkLinkUp, queuesBounded_ite, ite_self, queuesBounded_linkUp]

theorem queuesBounded_onSlot (p : PortId) (f : State → State) (h : ∀ t, QueuesBounded (f t) ↔ QueuesBounded t) (s : State) :
    QueuesBounded (onSlot p f s) ↔ QueuesBounded s := by
  simp only [onSlot, queuesBounded_ite, queuesBounded_slotBad, queuesBounded_checkLinkUp, h, ite_self]

theorem outBounded_execDataShingle (p : PortId) (h : ShHdr) (payload : List Byte) (corr : Fin 9) (at_ : Nat) (s : State) :
    OutBounded (execDataShingle p h payload corr at_ s) ↔ QueuesBounded s := by
  simp only [execDataShingle, implies_true, outBounded_next, queuesBounded_pfcCheck, queuesBounded_wakeIfOwed, queuesBounded_sequence,
    queuesBounded_acceptAck, queuesBounded_slotGood, queuesBounded_partnerAwake, queuesBounded_onSlot]

theorem outBounded_execUncorrectableSlot (p : PortId) (r : UncReason) (s : State) :
    OutBounded (execUncorrectableSlot p r s) ↔ QueuesBounded s := by
  simp only [execUncorrectableSlot, queuesBounded_ite, ite_self, outBounded_next, queuesBounded_slotBad]

theorem queuesBounded_controlIn (p : PortId) (a : AckBlock) (corr : Fin 9) (s : State) :
    QueuesBounded (controlIn p a corr s) ↔ QueuesBounded s := by
  simp only [controlIn, queuesBounded_acceptBlock, queuesBounded_slotGood]

theorem queuesBounded_onControl (p : PortId) (a : AckBlock) (corr : Fin 9) (f : State → State)
    (h : ∀ t, QueuesBounded (f t) ↔ QueuesBounded t) (s : State) : QueuesBounded (onControl p a corr f s) ↔ QueuesBounded s :=
  queuesBounded_onSlot p _ (fun t => (h _).trans (queuesBounded_controlIn p a corr t)) s

theorem outBounded_execIdle (p : PortId) (synced : Bool) (a : AckBlock) (corr : Fin 9) (s : State) :
    OutBounded (execIdle p synced a corr s) ↔ QueuesBounded s := by
  simp only [execIdle, outBounded_next, implies_true, queuesBounded_modTrain, queuesBounded_onControl]

theorem queuesBounded_applyNak (p : PortId) (s : State) (n : Cls × Seq × Nat) : QueuesBounded (applyNak p s n) ↔ QueuesBounded s := by
  simp only [applyNak, queuesBounded_modTx]

theorem outBounded_execNak (p : PortId) (a : AckBlock) (body : List Byte) (corr : Fin 9) (s : State) :
    OutBounded (execNak p a body corr s) ↔ QueuesBounded s := by
  simp only [execNak, outBounded_next, queuesBounded_foldl, implies_true, queuesBounded_wakeIfOwed, queuesBounded_partnerAwake,
    queuesBounded_onControl, queuesBounded_applyNak]

theorem queuesBounded_partnerQuiets (p : PortId) (s : State) : QueuesBounded (partnerQuiets p s) ↔ QueuesBounded s := Iff.rfl

theorem outBounded_execLpiEntry (p : PortId) (a : AckBlock) (corr : Fin 9) (s : State) :
    OutBounded (execLpiEntry p a corr s) ↔ QueuesBounded s := by
  simp only [execLpiEntry, outBounded_next, implies_true, queuesBounded_onControl, queuesBounded_partnerQuiets]

theorem outBounded_execLpiExit (p : PortId) (a : AckBlock) (corr : Fin 9) (s : State) :
    OutBounded (execLpiExit p a corr s) ↔ QueuesBounded s := by
  simp only [execLpiExit, outBounded_next, implies_true, queuesBounded_wakeIfOwed, queuesBounded_partnerAwake, queuesBounded_onControl]

theorem queuesBounded_onTc10 (p : PortId) (f : State → State) (h : ∀ t, QueuesBounded (f t) ↔ QueuesBounded t) (s : State) :
    QueuesBounded (onTc10 p f s) ↔ QueuesBounded s := by
  simp only [onTc10, queuesBounded_ite, h, ite_self]

theorem outBounded_execSleepRequest (p : PortId) (a : AckBlock) (corr : Fin 9) (s : State) :
    OutBounded (execSleepRequest p a corr s) ↔ QueuesBounded s := by
  simp only [execSleepRequest, queuesBounded_ite, ite_self, implies_true, outBounded_next, queuesBounded_oweCtl,
    queuesBounded_fallAsleep, queuesBounded_wakeRequest, queuesBounded_onControl, queuesBounded_partnerQuiets, queuesBounded_onTc10]

theorem outBounded_execSleepAck (p : PortId) (a : AckBlock) (corr : Fin 9) (s : State) :
    OutBounded (execSleepAck p a corr s) ↔ QueuesBounded s := by
  simp only [execSleepAck, queuesBounded_ite, ite_self, implies_true, outBounded_next, queuesBounded_fallAsleep,
    queuesBounded_onControl, queuesBounded_onTc10]

theorem outBounded_execSleepReject (p : PortId) (a : AckBlock) (corr : Fin 9) (s : State) :
    OutBounded (execSleepReject p a corr s) ↔ QueuesBounded s := by
  simp only [execSleepReject, queuesBounded_ite, ite_self, implies_true, outBounded_next, queuesBounded_modLink,
    queuesBounded_onControl, queuesBounded_onTc10]

theorem queuesBounded_beaconInS (p : PortId) (full : Bool) (m : EMode) (s : State) :
    QueuesBounded (beaconInS p full m s) ↔ QueuesBounded s := by
  simp only [beaconInS, queuesBounded_ite, ite_self, queuesBounded_beginFast, queuesBounded_restartFull]

theorem queuesBounded_beaconLate (p : PortId) (full : Bool) (m : EMode) (s : State) :
    QueuesBounded (beaconLate p full m s) ↔ QueuesBounded s := by
  unfold beaconLate
  split <;> simp only [queuesBounded_ite, ite_self, queuesBounded_modLink, queuesBounded_gapAbandoned, queuesBounded_pfcCheck,
    queuesBounded_beginFast, queuesBounded_restartFull, queuesBounded_fastGivesWay, queuesBounded_beaconInS]

theorem queuesBounded_beaconIn (p : PortId) (full : Bool) (m : EMode) (s : State) :
    QueuesBounded (beaconIn p full m s) ↔ QueuesBounded s := by
  simp only [beaconIn, queuesBounded_ite, ite_self, queuesBounded_modLink, queuesBounded_declareDown, queuesBounded_beaconLate]

theorem queuesBounded_onBeacon (p : PortId) (full : Bool) (m : EMode) (a : AckBlock) (corr : Fin 9) (s : State) :
    QueuesBounded (onBeacon p full m a corr s) ↔ QueuesBounded s := by
  simp only [onBeacon, queuesBounded_ite, ite_self, implies_true, queuesBounded_modCnt, queuesBounded_acceptBlock,
    queuesBounded_onSlot, queuesBounded_controlIn, queuesBounded_beaconIn]

theorem outBounded_execRequest (p : PortId) (m : EMode) (ep : Byte) (a : AckBlock) (corr : Fin 9) (s : State) :
    OutBounded (execRequest p m ep a corr s) ↔ QueuesBounded s := by
  simp only [execRequest, outBounded_next, implies_true, queuesBounded_mcRequested, queuesBounded_partnerAwake, queuesBounded_onControl]

theorem outBounded_execAccept (p : PortId) (m : EMode) (ep : Byte) (a : AckBlock) (corr : Fin 9) (s : State) :
    OutBounded (execAccept p m ep a corr s) ↔ QueuesBounded s := by
  simp only [execAccept, outBounded_next, implies_true, queuesBounded_mcAccepted, queuesBounded_partnerAwake, queuesBounded_onControl]

theorem outBounded_execRefuse (p : PortId) (_r : RefuseReason) (ep : Byte) (a : AckBlock) (corr : Fin 9) (s : State) :
    OutBounded (execRefuse p _r ep a corr s) ↔ QueuesBounded s := by
  simp only [execRefuse, outBounded_next, implies_true, queuesBounded_mcRefused, queuesBounded_partnerAwake, queuesBounded_onControl]

theorem outBounded_execMark (p : PortId) (k : Fin 8) (ep : Byte) (a : AckBlock) (corr : Fin 9) (s : State) :
    OutBounded (execMark p k ep a corr s) ↔ QueuesBounded s := by
  simp only [execMark, outBounded_next, implies_true, queuesBounded_mcMark, queuesBounded_partnerAwake, queuesBounded_onControl]

theorem outBounded_execEnergyDetect (p : PortId) (s : State) : OutBounded (execEnergyDetect p s) ↔ QueuesBounded s := by
  simp only [execEnergyDetect, queuesBounded_ite, ite_self, outBounded_next, queuesBounded_modLine]

theorem outBounded_execLpiFalseWake (p : PortId) (s : State) : OutBounded (execLpiFalseWake p s) ↔ QueuesBounded s := by
  simp only [execLpiFalseWake, queuesBounded_ite, ite_self, outBounded_next, queuesBounded_modPort]

theorem outBounded_execLpiRefreshMissed (p : PortId) (s : State) : OutBounded (execLpiRefreshMissed p s) ↔ QueuesBounded s := by
  simp only [execLpiRefreshMissed, queuesBounded_ite, ite_self, outBounded_next, queuesBounded_modPort, queuesBounded_declareDown]

theorem queuesBounded_codewordCut (p : PortId) (s : State) : QueuesBounded (codewordCut p s) ↔ QueuesBounded s := by
  simp only [codewordCut, queuesBounded_ite, ite_self, queuesBounded_modPort]

theorem queuesBounded_loseLock (p : PortId) (c : LockCriterion) (s : State) : QueuesBounded (loseLock p c s) ↔ QueuesBounded s := by
  simp only [loseLock, queuesBounded_modDsp, queuesBounded_modSig, queuesBounded_declareDown, queuesBounded_codewordCut]

theorem outBounded_execLockLoss (p : PortId) (c : LockCriterion) (s : State) : OutBounded (execLockLoss p c s) ↔ QueuesBounded s := by
  simp only [execLockLoss, queuesBounded_ite, ite_self, outBounded_next, queuesBounded_loseLock]

theorem queuesBounded_passLoss (p : PortId) (c : Cls) (s : State) : QueuesBounded (passLoss p c s) ↔ QueuesBounded s := by
  unfold passLoss
  split <;> simp only [queuesBounded_modRx, queuesBounded_gapLeaf, queuesBounded_ledgerAdd]

theorem queuesBounded_passLosses (p : PortId) (c : Cls) (fuel : Nat) (s : State) :
    QueuesBounded (passLosses p c fuel s) ↔ QueuesBounded s := by
  induction fuel generalizing s with
  | zero => rfl
  | succ fuel ih =>
    unfold passLosses
    split
    · exact (ih _).trans (queuesBounded_passLoss p c s)
    · rfl

/-! ## The cable signature (Signature.lean) -/

theorem queuesBounded_dropLost (p : PortId) (k : RefSlot) (s : State) : QueuesBounded (dropLost p k s) ↔ QueuesBounded s := by
  simp only [dropLost, queuesBounded_ite, ite_self, queuesBounded_modSig, queuesBounded_raise]

theorem queuesBounded_checkRefs (p : PortId) (s : State) : QueuesBounded (checkRefs p s) ↔ QueuesBounded s := by
  simp only [checkRefs, queuesBounded_dropLost]

theorem queuesBounded_declareAnomaly (p : PortId) (s : State) : QueuesBounded (declareAnomaly p s) ↔ QueuesBounded s := by
  simp only [declareAnomaly, queuesBounded_ite, ite_self, queuesBounded_modSig, queuesBounded_raise]

theorem queuesBounded_declareTamper (p : PortId) (s : State) : QueuesBounded (declareTamper p s) ↔ QueuesBounded s := by
  simp only [declareTamper, queuesBounded_ite, ite_self, queuesBounded_modSig, queuesBounded_raise]

theorem queuesBounded_clearAnomaly (p : PortId) (s : State) : QueuesBounded (clearAnomaly p s) ↔ QueuesBounded s := by
  simp only [clearAnomaly, queuesBounded_ite, ite_self, queuesBounded_modSig, queuesBounded_raise]

theorem queuesBounded_judge (p : PortId) (m : Compared) (tRef : Int) (s : State) :
    QueuesBounded (judge p m tRef s) ↔ QueuesBounded s := by
  simp only [judge, queuesBounded_ite, ite_self, queuesBounded_modSig, queuesBounded_declareAnomaly, queuesBounded_declareTamper,
    queuesBounded_clearAnomaly]

theorem queuesBounded_judgeBlock (p : PortId) (b : SigBlock) (ref : SigBlock) (s : State) :
    QueuesBounded (judgeBlock p b ref s) ↔ QueuesBounded s := by
  simp only [judgeBlock, queuesBounded_ite, ite_self, queuesBounded_judge]

theorem queuesBounded_clearTamper (p : PortId) (how : Nat) (ch : Chan) (s : State) :
    QueuesBounded (clearTamper p how ch s) ↔ QueuesBounded s := by
  simp only [clearTamper, queuesBounded_ite, ite_self, queuesBounded_modSig, queuesBounded_raise]

theorem queuesBounded_setCapture (p : PortId) (k : RefSlot) (r : CapResult) (s : State) :
    QueuesBounded (setCapture p k r s) ↔ QueuesBounded s := by
  simp only [setCapture, queuesBounded_modSig]

theorem queuesBounded_startCapture (p : PortId) (k : RefSlot) (ch : Chan) (s : State) :
    QueuesBounded (startCapture p k ch s) ↔ QueuesBounded s := by
  simp only [startCapture, queuesBounded_modSig]

theorem queuesBounded_endCaptures (ch : Chan) (s : State) : QueuesBounded (endCaptures ch s) ↔ QueuesBounded s := by
  have one (p : PortId) (k : RefSlot) (t : State) : QueuesBounded (match captureOf t.ports[p].sig k with
      | some c => if c.1 = ch then setCapture p k .sessionEnded t else t
      | none => t) ↔ QueuesBounded t := by
    split
    · simp only [queuesBounded_ite, queuesBounded_setCapture, ite_self]
    · rfl
  exact queuesBounded_forPorts _ (fun p t => (one p .probe _).trans (one p .line t)) s

theorem queuesBounded_restartLevel (p : PortId) (s : State) : QueuesBounded (restartLevel p s) ↔ QueuesBounded s := Iff.rfl

theorem queuesBounded_storeCapture (p : PortId) (k : RefSlot) (ch : Chan) (b : SigBlock) (s : State) :
    QueuesBounded (storeCapture p k ch b s) ↔ QueuesBounded s := by
  simp only [storeCapture, queuesBounded_ite, ite_self, queuesBounded_with_fus, queuesBounded_modSig, queuesBounded_raise,
    queuesBounded_clearTamper, queuesBounded_setCapture, queuesBounded_restartLevel]

theorem queuesBounded_serveCapture (p : PortId) (k : RefSlot) (b : SigBlock) (s : State) :
    QueuesBounded (serveCapture p k b s) ↔ QueuesBounded s := by
  unfold serveCapture
  split <;> simp only [queuesBounded_storeCapture]

theorem queuesBounded_lineComparison (p : PortId) (e : EMode) (s : State) : QueuesBounded (lineComparison p e s) ↔ QueuesBounded s := by
  unfold lineComparison
  dsimp only
  split <;> simp only [queuesBounded_modSig, queuesBounded_judgeBlock, queuesBounded_serveCapture]

theorem queuesBounded_nextWindow (p : PortId) (s : State) : QueuesBounded (nextWindow p s) ↔ QueuesBounded s := Iff.rfl

theorem queuesBounded_skipWindow (p : PortId) (s : State) : QueuesBounded (skipWindow p s) ↔ QueuesBounded s := Iff.rfl

theorem queuesBounded_comparisonWindow (p : PortId) (s : State) : QueuesBounded (comparisonWindow p s) ↔ QueuesBounded s := by
  unfold comparisonWindow
  dsimp only
  split <;> simp only [queuesBounded_ite, ite_self, queuesBounded_checkRefs, queuesBounded_lineComparison, queuesBounded_nextWindow,
    queuesBounded_skipWindow]

theorem queuesBounded_noteBursts (p : PortId) (m : ProbeIn) (s : State) : QueuesBounded (noteBursts p m s) ↔ QueuesBounded s := by
  simp only [noteBursts, queuesBounded_modLine]

theorem queuesBounded_probeMeasured (p : PortId) (m : ProbeIn) (s : State) : QueuesBounded (probeMeasured p m s) ↔ QueuesBounded s := by
  unfold probeMeasured
  dsimp only
  split <;> simp only [queuesBounded_modSig, queuesBounded_judgeBlock, queuesBounded_serveCapture, queuesBounded_noteBursts]

theorem queuesBounded_probeLost (p : PortId) (m : ProbeIn) (s : State) : QueuesBounded (probeLost p m s) ↔ QueuesBounded s := Iff.rfl

theorem queuesBounded_probe (p : PortId) (m : ProbeIn) (s : State) : QueuesBounded (probe p m s) ↔ QueuesBounded s := by
  simp only [probe, queuesBounded_ite, ite_self, queuesBounded_checkRefs, queuesBounded_probeMeasured, queuesBounded_probeLost]

theorem queuesBounded_oweProbes (p : PortId) (n : Nat) (s : State) : QueuesBounded (oweProbes p n s) ↔ QueuesBounded s := Iff.rfl

theorem queuesBounded_repeatProbe (p : PortId) (m : ProbeIn) (s : State) : QueuesBounded (repeatProbe p m s) ↔ QueuesBounded s := by
  simp only [repeatProbe, queuesBounded_ite, ite_self, queuesBounded_checkRefs, queuesBounded_probeMeasured, queuesBounded_probeLost,
    queuesBounded_oweProbes]

theorem outBounded_execCaptureTimeout (p : PortId) (slot : RefSlot) (s : State) :
    OutBounded (execCaptureTimeout p slot s) ↔ QueuesBounded s := by
  unfold execCaptureTimeout
  split <;> simp only [queuesBounded_ite, ite_self, outBounded_next, queuesBounded_setCapture]

theorem outBounded_execProbeRepeat (p : PortId) (m : ProbeIn) (s : State) : OutBounded (execProbeRepeat p m s) ↔ QueuesBounded s := by
  simp only [execProbeRepeat, queuesBounded_ite, ite_self, outBounded_next, queuesBounded_repeatProbe]

/-! ## Sessions (Sessions.lean) -/

theorem queuesBounded_abandonCal (s : State) : QueuesBounded (abandonCal s) ↔ QueuesBounded s := by
  unfold abandonCal
  split <;> simp only [queuesBounded_with_cal]

theorem queuesBounded_abandonCalOf (ch : Chan) (s : State) : QueuesBounded (abandonCalOf ch s) ↔ QueuesBounded s := by
  unfold abandonCalOf
  split <;> simp only [queuesBounded_ite, ite_self, queuesBounded_abandonCal]

theorem queuesBounded_abandonCalPort (p : PortId) (s : State) : QueuesBounded (abandonCalPort p s) ↔ QueuesBounded s := by
  unfold abandonCalPort
  split <;> simp only [queuesBounded_ite, ite_self, queuesBounded_abandonCal]

theorem queuesBounded_closeSession (ch : Chan) (cause : Nat) (s : State) :
    QueuesBounded (closeSession ch cause s) ↔ QueuesBounded s := by
  unfold closeSession
  split <;> simp only [queuesBounded_modChan, queuesBounded_raise]

theorem queuesBounded_holderGone (ch : Chan) (cause : Nat) (s : State) : QueuesBounded (holderGone ch cause s) ↔ QueuesBounded s := by
  simp only [holderGone, queuesBounded_ite, ite_self, queuesBounded_disarmAll]

theorem queuesBounded_workGone (ch : Chan) (s : State) : QueuesBounded (workGone ch s) ↔ QueuesBounded s := by
  simp only [workGone, queuesBounded_endCaptures, queuesBounded_abandonCalOf]

theorem queuesBounded_endSession (ch : Chan) (cause : Nat) (s : State) : QueuesBounded (endSession ch cause s) ↔ QueuesBounded s := by
  simp only [endSession, queuesBounded_ite, ite_self, queuesBounded_closeSession, queuesBounded_holderGone, queuesBounded_workGone]

theorem queuesBounded_endSessions (cause : Nat) (s : State) : QueuesBounded (endSessions cause s) ↔ QueuesBounded s := by
  simp only [endSessions, queuesBounded_ite, ite_self, implies_true, queuesBounded_forChans, queuesBounded_closeSession,
    queuesBounded_holderGone, queuesBounded_workGone]

theorem outBounded_execSessionExpiry (ch : Chan) (s : State) : OutBounded (execSessionExpiry ch s) ↔ QueuesBounded s := by
  unfold execSessionExpiry
  split <;> simp only [queuesBounded_ite, ite_self, outBounded_next, queuesBounded_endSession]

theorem outBounded_execNonceExpiry (ch : Chan) (s : State) : OutBounded (execNonceExpiry ch s) ↔ QueuesBounded s := by
  unfold execNonceExpiry
  split <;> simp only [queuesBounded_ite, ite_self, outBounded_next, queuesBounded_modChan]

theorem outBounded_execAuthLockoutEnd (s : State) : OutBounded (execAuthLockoutEnd s) ↔ QueuesBounded s := by
  simp only [execAuthLockoutEnd, queuesBounded_ite, ite_self, outBounded_next, queuesBounded_with_aon, queuesBounded_copyToMram]

/-! ## The CAN stack (Nmt.lean) -/

theorem queuesBounded_canSend (o : CanOut) (s : State) : QueuesBounded (canSend o s) ↔ QueuesBounded s := by
  unfold canSend
  split
  · rfl
  · simp only []

theorem queuesBounded_clearOut (s : State) : QueuesBounded (clearOut s) ↔ QueuesBounded s := Iff.rfl

theorem queuesBounded_countAbort (ch : Chan) (code : BitVec 32) (s : State) :
    QueuesBounded (countAbort ch code s) ↔ QueuesBounded s := by
  simp only [countAbort, queuesBounded_modChan]

theorem queuesBounded_abortXfer (ch : Chan) (code : BitVec 32) (s : State) : QueuesBounded (abortXfer ch code s) ↔ QueuesBounded s := by
  unfold abortXfer
  split <;> simp only [queuesBounded_modChan, queuesBounded_canSend, queuesBounded_countAbort]

theorem queuesBounded_takeRates (s : State) : QueuesBounded (takeRates s) ↔ QueuesBounded s := by
  unfold takeRates
  dsimp only
  split <;> rfl

theorem queuesBounded_takeCobs (s : State) : QueuesBounded (takeCobs s) ↔ QueuesBounded s := Iff.rfl

theorem queuesBounded_bootUp (s : State) : QueuesBounded (bootUp s) ↔ QueuesBounded s := by
  simp only [bootUp, queuesBounded_emcyDropNotice, queuesBounded_canSend]
  rfl

theorem queuesBounded_clearBusy (s : State) : QueuesBounded (clearBusy s) ↔ QueuesBounded s := by
  simp only [clearBusy, queuesBounded_ite, ite_self, implies_true, queuesBounded_modChan, queuesBounded_forChans]

theorem queuesBounded_canStack (s : State) : QueuesBounded (canStack s) ↔ QueuesBounded s := by
  simp only [canStack, implies_true, queuesBounded_with_clk, queuesBounded_modChan, queuesBounded_forChans, queuesBounded_takeRates,
    queuesBounded_takeCobs, queuesBounded_clearBusy]

theorem queuesBounded_heard (s : State) : QueuesBounded (heard s) ↔ QueuesBounded s := by
  unfold heard
  split
  · rfl
  · simp only []

theorem queuesBounded_nmtEnter (cs : Nat) (target : Nmt) (node : Byte) (s : State) :
    QueuesBounded (nmtEnter cs target node s) ↔ QueuesBounded s := by
  have hs := (queuesBounded_heard (clearOut s)).trans (queuesBounded_clearOut s)
  unfold nmtEnter
  dsimp only
  split
  · simp only [queuesBounded_emcyDropNotice, queuesBounded_raise]
    exact hs
  · exact hs

theorem queuesBounded_nmtReset (cs : Nat) (node : Byte) (s : State) : QueuesBounded (nmtReset cs node s) ↔ QueuesBounded s := by
  simp only [nmtReset, queuesBounded_ite, ite_self, queuesBounded_raise, queuesBounded_endSessions, queuesBounded_clearOut,
    queuesBounded_bootUp, queuesBounded_canStack, queuesBounded_heard]

theorem outBounded_execHeartbeat (s : State) : OutBounded (execHeartbeat s) ↔ QueuesBounded s := by
  simp only [execHeartbeat, queuesBounded_ite, ite_self, outBounded_next, queuesBounded_canSend, queuesBounded_clearOut]

theorem outBounded_execBusOff (s : State) : OutBounded (execBusOff s) ↔ QueuesBounded s := by
  simp only [execBusOff, outBounded_next, queuesBounded_ite, queuesBounded_raise]
  split <;> rfl

theorem queuesBounded_revertRates (s : State) : QueuesBounded (revertRates s) ↔ QueuesBounded s := by
  unfold revertRates
  split
  · rfl
  · split
    · exact queuesBounded_raise _ _
    · rfl

theorem outBounded_execBitrateReverted (s : State) : OutBounded (execBitrateReverted s) ↔ QueuesBounded s := by
  simp only [execBitrateReverted, queuesBounded_ite, ite_self, outBounded_next, queuesBounded_revertRates]

theorem outBounded_execErrorPassive (on : Bool) (s : State) : OutBounded (execErrorPassive on s) ↔ QueuesBounded s := outBounded_next _

/-! ## The host lane (HostLane.lean) -/

theorem queuesBounded_cutDelivery (p : PortId) (provoked : Bool) (s : State) :
    QueuesBounded (cutDelivery p provoked s) ↔ QueuesBounded s := by
  unfold cutDelivery
  (repeat' split) <;> simp only [queuesBounded_modHost, queuesBounded_cutAtEnd, queuesBounded_cutLeaf, queuesBounded_ledgerAdd]

theorem queuesBounded_laneDown (p : PortId) (htxStops : Bool) (s : State) :
    QueuesBounded (laneDown p htxStops s) ↔ QueuesBounded s := by
  simp only [laneDown, queuesBounded_ite, ite_self, queuesBounded_modHost, queuesBounded_raise, queuesBounded_frameEnd,
    queuesBounded_cutDelivery]

theorem queuesBounded_applyLane (p : PortId) (s : State) : QueuesBounded (applyLane p s) ↔ QueuesBounded s := by
  unfold applyLane
  split <;> simp only [queuesBounded_ite, ite_self, queuesBounded_modHost, queuesBounded_pfcCheck, queuesBounded_laneDown]

theorem queuesBounded_resolveLane (p : PortId) (m : LineMode) (s : State) : QueuesBounded (resolveLane p m s) ↔ QueuesBounded s := by
  simp only [resolveLane, queuesBounded_ite, ite_self, queuesBounded_modHost, queuesBounded_applyLane]

theorem queuesBounded_putHtx (p : PortId) (x : HtxItem) (s : State) : QueuesBounded (putHtx p x s) ↔ QueuesBounded s := Iff.rfl

theorem queuesBounded_noteMdi (p : PortId) (c : Cls) (f : RxFrame) (s : State) :
    QueuesBounded (noteMdi p c f s) ↔ QueuesBounded s := Iff.rfl

theorem queuesBounded_deliver (p : PortId) (c : Cls) (at_ : Nat) (s : State) : QueuesBounded (deliver p c at_ s) ↔ QueuesBounded s := by
  unfold deliver
  split <;> simp only [queuesBounded_ite, ite_self, queuesBounded_modPort, queuesBounded_modHost, queuesBounded_afterDraw,
    queuesBounded_frameLeaf, queuesBounded_putHtx, queuesBounded_noteMdi]

theorem queuesBounded_putPfc (p : PortId) (x : Cls × Bool) (rest : List (Cls × Bool)) (s : State) :
    QueuesBounded (putPfc p x rest s) ↔ QueuesBounded s := by
  simp only [putPfc, queuesBounded_modPort, queuesBounded_putHtx]

theorem queuesBounded_htxNext (p : PortId) (at_ : Nat) (s : State) : QueuesBounded (htxNext p at_ s) ↔ QueuesBounded s := by
  unfold htxNext
  dsimp only
  (repeat' split) <;> simp only [queuesBounded_modSeal, queuesBounded_putHtx, queuesBounded_deliver, queuesBounded_putPfc]

theorem queuesBounded_htxDone (p : PortId) (s : State) : QueuesBounded (htxDone p s) ↔ QueuesBounded s := by
  unfold htxDone
  split <;> simp only [queuesBounded_modHost, queuesBounded_cutAtEnd]

theorem queuesBounded_passAllLosses (p : PortId) (s : State) : QueuesBounded (passAllLosses p s) ↔ QueuesBounded s := by
  simp only [passAllLosses, implies_true, queuesBounded_forClasses, queuesBounded_passLosses]

theorem outBounded_execHostFrameStart (p : PortId) (at_ : Nat) (s : State) :
    OutBounded (execHostFrameStart p at_ s) ↔ QueuesBounded s := by
  simp only [execHostFrameStart, queuesBounded_ite, ite_self, outBounded_next, queuesBounded_modHost, queuesBounded_frameEnd,
    queuesBounded_frameBegin, queuesBounded_wakeRequest]

theorem queuesBounded_invalidBytes (p : PortId) (bytes : List Byte) (s : State) :
    QueuesBounded (invalidBytes p bytes s) ↔ QueuesBounded s := by
  simp only [invalidBytes, queuesBounded_modArriving, queuesBounded_frameBytes]

theorem queuesBounded_countFec (p : PortId) (i : Nat) (s : State) : QueuesBounded (countFec p i s) ↔ QueuesBounded s := by
  simp only [countFec, queuesBounded_modHost]

theorem outBounded_execHostFrameData (p : PortId) (bytes : List Byte) (b : LaneBlock) (s : State) :
    OutBounded (execHostFrameData p bytes b s) ↔ QueuesBounded s := by
  unfold execHostFrameData
  split <;> simp only [outBounded_next, queuesBounded_frameBytes, queuesBounded_invalidBytes, queuesBounded_countFec]

theorem queuesBounded_hostOutHit (p : PortId) (s : State) : QueuesBounded (hostOutHit p s) ↔ QueuesBounded s := by
  unfold hostOutHit
  split <;> simp only [queuesBounded_modSieve, queuesBounded_provoke, queuesBounded_cutDelivery]

theorem outBounded_execHtxFrameBoundary (p : PortId) (at_ : Nat) (s : State) :
    OutBounded (execHtxFrameBoundary p at_ s) ↔ QueuesBounded s := by
  simp only [execHtxFrameBoundary, queuesBounded_ite, ite_self, outBounded_next, queuesBounded_applyLane, queuesBounded_htxNext,
    queuesBounded_htxDone, queuesBounded_passAllLosses, queuesBounded_hostOutHit]

theorem outBounded_execPfcRepeat (p : PortId) (c : Cls) (s : State) : OutBounded (execPfcRepeat p c s) ↔ QueuesBounded s := by
  unfold execPfcRepeat
  split <;> simp only [queuesBounded_ite, ite_self, outBounded_next, queuesBounded_modHost]

theorem outBounded_execHostLaneUp (p : PortId) (s : State) : OutBounded (execHostLaneUp p s) ↔ QueuesBounded s := by
  simp only [execHostLaneUp, queuesBounded_ite, ite_self, outBounded_next, queuesBounded_with_clk, queuesBounded_modHost,
    queuesBounded_raise]

theorem outBounded_execHostLaneDown (e : LaneLoss) (s : State) : OutBounded (execHostLaneDown e s) ↔ QueuesBounded s := by
  simp only [execHostLaneDown, queuesBounded_ite, ite_self, outBounded_next, queuesBounded_modHost, queuesBounded_laneDown]

theorem outBounded_execHostLpiBegin (p : PortId) (s : State) : OutBounded (execHostLpiBegin p s) ↔ QueuesBounded s := by
  simp only [execHostLpiBegin, queuesBounded_ite, ite_self, outBounded_next, queuesBounded_modHost]

theorem outBounded_execHostLpiEnd (p : PortId) (s : State) : OutBounded (execHostLpiEnd p s) ↔ QueuesBounded s := by
  simp only [execHostLpiEnd, queuesBounded_ite, ite_self, outBounded_next, queuesBounded_modHost, queuesBounded_wakeRequest]

theorem outBounded_execHostIdleTimeout (p : PortId) (s : State) : OutBounded (execHostIdleTimeout p s) ↔ QueuesBounded s := by
  simp only [execHostIdleTimeout, queuesBounded_ite, ite_self, outBounded_next, queuesBounded_modHost]

theorem outBounded_execHostOutCorruption (p : PortId) (s : State) : OutBounded (execHostOutCorruption p s) ↔ QueuesBounded s := by
  simp only [execHostOutCorruption, queuesBounded_ite, ite_self, outBounded_next, queuesBounded_modSieve, queuesBounded_hostOutHit]

/-! ## Training (Train.lean) -/

theorem queuesBounded_toStdClass (p : PortId) (c : Cls) (s : State) : QueuesBounded (toStdClass p c s) ↔ QueuesBounded s := by
  simp only [toStdClass, queuesBounded_modTx, queuesBounded_restartOwed]

theorem queuesBounded_toStd (p : PortId) (s : State) : QueuesBounded (toStd p s) ↔ QueuesBounded s := by
  simp only [toStd, implies_true, queuesBounded_forClasses, queuesBounded_unpack, queuesBounded_toStdClass]

theorem queuesBounded_msFault (p : PortId) (s : State) : QueuesBounded (msFault p s) ↔ QueuesBounded s := Iff.rfl

theorem queuesBounded_resolvedEtoon (p : PortId) (m : EMode) (lv sv : BitVec 4 × BitVec 4) (leader : Bool) (partnerSeed : BitVec 12) (s
    : State) : QueuesBounded (resolvedEtoon p m lv sv leader partnerSeed s) ↔ QueuesBounded s := by
  simp only [resolvedEtoon, queuesBounded_modPort, queuesBounded_gapAbandoned, queuesBounded_pfcCheck, queuesBounded_enterPhase,
    queuesBounded_resolveLane]

theorem queuesBounded_resolvedStd (p : PortId) (m : SMode) (leader : Bool) (s : State) :
    QueuesBounded (resolvedStd p m leader s) ↔ QueuesBounded s := by
  simp only [resolvedStd, queuesBounded_modLink, queuesBounded_gapAbandoned, queuesBounded_pfcCheck, queuesBounded_resolveLane,
    queuesBounded_toStd]

theorem queuesBounded_autonegResolve (p : PortId) (sent : PartnerPages) (std : BitVec 5) (ms : MsOutcome) (s : State) :
    QueuesBounded (autonegResolve p sent std ms s) ↔ QueuesBounded s := by
  unfold autonegResolve
  dsimp only
  (repeat' split) <;> simp only [queuesBounded_modLink, queuesBounded_msFault, queuesBounded_resolvedEtoon, queuesBounded_resolvedStd]

theorem queuesBounded_noteFailure (p : PortId) (r : FailReason) (s : State) : QueuesBounded (noteFailure p r s) ↔ QueuesBounded s := by
  simp only [noteFailure, queuesBounded_modLink, queuesBounded_raise]

theorem queuesBounded_noteModeFailed (p : PortId) (m : EMode) (s : State) : QueuesBounded (noteModeFailed p m s) ↔ QueuesBounded s := by
  simp only [noteModeFailed, queuesBounded_ite, ite_self, queuesBounded_modLink, queuesBounded_raise]

theorem queuesBounded_fastFail (p : PortId) (r : FailReason) (beacons : Bool) (s : State) :
    QueuesBounded (fastFail p r beacons s) ↔ QueuesBounded s := by
  simp only [fastFail, queuesBounded_ite, ite_self, queuesBounded_modLink, queuesBounded_tryAutoneg, queuesBounded_restartFull,
    queuesBounded_noteFailure]

theorem queuesBounded_trainFail (p : PortId) (r : FailReason) (s : State) : QueuesBounded (trainFail p r s) ↔ QueuesBounded s := by
  unfold trainFail
  split <;> simp only [queuesBounded_modLink, queuesBounded_tryAutoneg, queuesBounded_noteFailure, queuesBounded_noteModeFailed]

theorem queuesBounded_noteConfirmed (p : PortId) (corr : Nat) (s : State) :
    QueuesBounded (noteConfirmed p corr s) ↔ QueuesBounded s := by
  simp only [noteConfirmed, queuesBounded_modTrain]

theorem queuesBounded_joinFast (p : PortId) (s : State) : QueuesBounded (joinFast p s) ↔ QueuesBounded s := by
  unfold joinFast
  split <;> simp only [queuesBounded_ite, ite_self, queuesBounded_modTrain, queuesBounded_disarmDue, queuesBounded_sendPeriod,
    queuesBounded_beginFast]

theorem queuesBounded_startConfirmed (p : PortId) (k : BitVec 58) (corr : Nat) (s : State) :
    QueuesBounded (startConfirmed p k corr s) ↔ QueuesBounded s := by
  unfold startConfirmed
  dsimp only
  (repeat' split) <;> simp only [queuesBounded_enterPhase, queuesBounded_fastGivesWay, queuesBounded_noteConfirmed,
    queuesBounded_joinFast]

theorem queuesBounded_exitCriterion (p : PortId) (m : Criterion) (s : State) :
    QueuesBounded (exitCriterion p m s) ↔ QueuesBounded s := by
  simp only [exitCriterion, queuesBounded_ite, ite_self, queuesBounded_modTrain, queuesBounded_enterPhase]

theorem queuesBounded_enterS (p : PortId) (s : State) : QueuesBounded (enterS p s) ↔ QueuesBounded s := by
  simp only [enterS, queuesBounded_modPort, queuesBounded_enterPhase, queuesBounded_checkLinkUp]

theorem queuesBounded_leavePhase (p : PortId) (m : EMode) (s : State) : QueuesBounded (leavePhase p m s) ↔ QueuesBounded s := by
  unfold leavePhase
  dsimp only
  split <;> simp only [queuesBounded_ite, ite_self, queuesBounded_enterPhase, queuesBounded_enterS]

theorem queuesBounded_periodBoundary (p : PortId) (partnerReady : Option Nat) (s : State) :
    QueuesBounded (periodBoundary p partnerReady s) ↔ QueuesBounded s := by
  unfold periodBoundary
  dsimp only
  split <;> simp only [queuesBounded_ite, ite_self, queuesBounded_modTrain, queuesBounded_dspBoundary, queuesBounded_sendPeriod,
    queuesBounded_enterPhase, queuesBounded_leavePhase]

theorem queuesBounded_phaseLimitExpiry (p : PortId) (m : Criterion) (s : State) :
    QueuesBounded (phaseLimitExpiry p m s) ↔ QueuesBounded s := by
  unfold phaseLimitExpiry
  dsimp only
  (repeat' split) <;> simp only [queuesBounded_modTrain, queuesBounded_trainFail]

theorem queuesBounded_fastLimit (p : PortId) (m : Criterion) (s : State) : QueuesBounded (fastLimit p m s) ↔ QueuesBounded s := by
  simp only [fastLimit, queuesBounded_ite, ite_self, queuesBounded_fastFail]

theorem queuesBounded_reloadDone (p : PortId) (s : State) : QueuesBounded (reloadDone p s) ↔ QueuesBounded s := by
  unfold reloadDone
  dsimp only
  (repeat' split) <;> simp only [queuesBounded_modPort, queuesBounded_xtalkBoundary, queuesBounded_sendPeriod, queuesBounded_fastFail]

theorem queuesBounded_echoCheck (p : PortId) (near far : Int) (s : State) :
    QueuesBounded (echoCheck p near far s) ↔ QueuesBounded s := by
  unfold echoCheck
  dsimp only
  split <;> simp only [queuesBounded_ite, ite_self, queuesBounded_fastFail]

theorem queuesBounded_retrainGo (p : PortId) (s : State) : QueuesBounded (retrainGo p s) ↔ QueuesBounded s := by
  simp only [retrainGo, queuesBounded_ite, ite_self, queuesBounded_modLink, queuesBounded_declareDown, queuesBounded_restartFull]

theorem queuesBounded_chooseAutoneg (p : PortId) (s : State) : QueuesBounded (chooseAutoneg p s) ↔ QueuesBounded s := by
  simp only [chooseAutoneg, queuesBounded_modLink, queuesBounded_chooseAndBegin]

theorem queuesBounded_restartAnGo (p : PortId) (s : State) : QueuesBounded (restartAnGo p s) ↔ QueuesBounded s := by
  simp only [restartAnGo, queuesBounded_ite, ite_self, queuesBounded_modLink, queuesBounded_tryAutoneg, queuesBounded_declareDown,
    queuesBounded_chooseAutoneg]

theorem queuesBounded_sleepGo (p : PortId) (s : State) : QueuesBounded (sleepGo p s) ↔ QueuesBounded s := by
  unfold sleepGo
  dsimp only
  (repeat' split) <;> simp only [queuesBounded_modLink]

theorem queuesBounded_startPulse (p : PortId) (s : State) : QueuesBounded (startPulse p s) ↔ QueuesBounded s := by
  simp only [startPulse, queuesBounded_ite, ite_self, queuesBounded_modLink, queuesBounded_modLine, queuesBounded_release]

theorem queuesBounded_localWake (p : PortId) (s : State) : QueuesBounded (localWake p s) ↔ QueuesBounded s := by
  simp only [localWake, queuesBounded_ite, ite_self, queuesBounded_modPort, queuesBounded_startPulse]

theorem queuesBounded_wakePort (p : PortId) (s : State) : QueuesBounded (wakePort p s) ↔ QueuesBounded s := by
  simp only [wakePort, queuesBounded_modLink, queuesBounded_modLine, queuesBounded_tryAutoneg]

theorem queuesBounded_adminDisable (p : PortId) (s : State) : QueuesBounded (adminDisable p s) ↔ QueuesBounded s := by
  simp only [adminDisable, queuesBounded_ite, ite_self, queuesBounded_modLink, queuesBounded_declareDown]

theorem queuesBounded_adminEnable (p : PortId) (s : State) : QueuesBounded (adminEnable p s) ↔ QueuesBounded s := Iff.rfl

theorem queuesBounded_writeModeMask (p : PortId) (v : BitVec 16) (s : State) :
    QueuesBounded (writeModeMask p v s) ↔ QueuesBounded s := Iff.rfl

theorem queuesBounded_writeTarget (p : PortId) (v : BitVec 8) (s : State) : QueuesBounded (writeTarget p v s) ↔ QueuesBounded s := by
  unfold writeTarget
  split <;> simp only [queuesBounded_ite, ite_self, queuesBounded_modLink, queuesBounded_mcStart]

theorem outBounded_execAutonegStart (p : PortId) (s : State) : OutBounded (execAutonegStart p s) ↔ QueuesBounded s := by
  simp only [execAutonegStart, queuesBounded_ite, ite_self, outBounded_next, queuesBounded_beginAutoneg]

theorem outBounded_execClause98Pages (p : PortId) (s : State) : OutBounded (execClause98Pages p s) ↔ QueuesBounded s := by
  simp only [execClause98Pages, queuesBounded_ite, ite_self, outBounded_next, queuesBounded_tryAutoneg, queuesBounded_declareDown,
    queuesBounded_chooseAutoneg]

theorem outBounded_execStartCandidate (p : PortId) (power : Int) (s : State) :
    OutBounded (execStartCandidate p power s) ↔ QueuesBounded s := by
  simp only [execStartCandidate, queuesBounded_ite, ite_self, outBounded_next, queuesBounded_modTrain]

theorem outBounded_execFalseStart (p : PortId) (s : State) : OutBounded (execFalseStart p s) ↔ QueuesBounded s := by
  simp only [execFalseStart, queuesBounded_ite, ite_self, outBounded_next, queuesBounded_modLink, queuesBounded_modTrain]

theorem outBounded_execPreEmption (p : PortId) (corr : Nat) (s : State) : OutBounded (execPreEmption p corr s) ↔ QueuesBounded s := by
  unfold execPreEmption
  dsimp only
  split <;> simp only [queuesBounded_ite, ite_self, outBounded_next, queuesBounded_modLink, queuesBounded_modTrain]

theorem outBounded_execPeriodBoundary (p : PortId) (partnerReady : Option Nat) (s : State) :
    OutBounded (execPeriodBoundary p partnerReady s) ↔ QueuesBounded s := by
  simp only [execPeriodBoundary, queuesBounded_ite, ite_self, outBounded_next, queuesBounded_periodBoundary]

theorem outBounded_execEpisodeLimit (p : PortId) (s : State) : OutBounded (execEpisodeLimit p s) ↔ QueuesBounded s := by
  simp only [execEpisodeLimit, queuesBounded_ite, ite_self, outBounded_next, queuesBounded_modLink, queuesBounded_tryAutoneg,
    queuesBounded_noteFailure]

theorem outBounded_execSleepWaitTimeout (p : PortId) (s : State) : OutBounded (execSleepWaitTimeout p s) ↔ QueuesBounded s := by
  unfold execSleepWaitTimeout
  split <;> simp only [queuesBounded_ite, ite_self, outBounded_next, queuesBounded_modLink]

theorem outBounded_execWakePulseDone (p : PortId) (s : State) : OutBounded (execWakePulseDone p s) ↔ QueuesBounded s := by
  unfold execWakePulseDone
  split <;> simp only [queuesBounded_ite, ite_self, outBounded_next, queuesBounded_wakePort]

theorem queuesBounded_leaderSilent (p : PortId) (s : State) : QueuesBounded (leaderSilent p s) ↔ QueuesBounded s := by
  simp only [leaderSilent, queuesBounded_ite, ite_self, queuesBounded_modTrain, queuesBounded_enterPhase]

theorem outBounded_execStandardUp (p : PortId) (s : State) : OutBounded (execStandardUp p s) ↔ QueuesBounded s := by
  simp only [execStandardUp, queuesBounded_ite, ite_self, outBounded_next, queuesBounded_linkUp]

theorem queuesBounded_stdFail (p : PortId) (cut : Option (Cls × Nat)) (s : State) :
    QueuesBounded (stdFail p cut s) ↔ QueuesBounded s := by
  unfold stdFail
  (repeat' split) <;> simp only [queuesBounded_modRx, queuesBounded_declareDown]

theorem outBounded_execStandardPcsFrame (p : PortId) (c : Cls) (bytes : List Byte) (errored : Bool) (at_ : Nat) (s : State) :
    OutBounded (execStandardPcsFrame p c bytes errored at_ s) ↔ QueuesBounded s := by
  simp only [execStandardPcsFrame, queuesBounded_ite, ite_self, outBounded_next, queuesBounded_modCnt, queuesBounded_modRx]

theorem queuesBounded_rollApply (p : PortId) (s : State) : QueuesBounded (rollApply p s) ↔ QueuesBounded s := by
  unfold rollApply
  dsimp only
  (repeat' split) <;> simp only [queuesBounded_with_roll, queuesBounded_modLink, queuesBounded_rollReport, queuesBounded_mcStart,
    queuesBounded_wakeRequest]

/-! ## Clocks (Clocks.lean) -/

theorem queuesBounded_modClk (f : Clocks → Clocks) (s : State) : QueuesBounded (modClk f s) ↔ QueuesBounded s := Iff.rfl

theorem queuesBounded_clkEvent (e : BitVec 16) (s : State) : QueuesBounded (clkEvent e s) ↔ QueuesBounded s := Iff.rfl

theorem queuesBounded_answerHeld (d : Domain) (s : State) : QueuesBounded (answerHeld d s) ↔ QueuesBounded s := by
  simp only [answerHeld, queuesBounded_ite, ite_self, implies_true, queuesBounded_foldl, queuesBounded_canSend, queuesBounded_clearOut,
    queuesBounded_modClk]

theorem queuesBounded_abortHeld (s : State) : QueuesBounded (abortHeld s) ↔ QueuesBounded s := by
  simp only [abortHeld, implies_true, queuesBounded_foldl, queuesBounded_modChan, queuesBounded_canSend, queuesBounded_countAbort,
    queuesBounded_modClk]

theorem queuesBounded_setOnRc (on : Bool) (s : State) : QueuesBounded (setOnRc on s) ↔ QueuesBounded s := by
  simp only [setOnRc, queuesBounded_ite, ite_self, implies_true, queuesBounded_with_aon, queuesBounded_forPorts,
    queuesBounded_modWindow]

theorem queuesBounded_clockLost (p : PortId) (s : State) : QueuesBounded (clockLost p s) ↔ QueuesBounded s := by
  simp only [clockLost, queuesBounded_ite, ite_self, queuesBounded_loseLock]

theorem queuesBounded_fabricLost (p : PortId) (s : State) : QueuesBounded (fabricLost p s) ↔ QueuesBounded s := by
  simp only [fabricLost, queuesBounded_frameEnd, queuesBounded_clockLost]

theorem queuesBounded_domainLost (d : Domain) (s : State) : QueuesBounded (domainLost d s) ↔ QueuesBounded s := by
  unfold domainLost
  split <;> simp only [implies_true, queuesBounded_forPorts, queuesBounded_clockLost, queuesBounded_fabricLost]

theorem queuesBounded_toInput1 (d : Domain) (s : State) : QueuesBounded (toInput1 d s) ↔ QueuesBounded s := by
  unfold toInput1
  split <;> simp only [implies_true, queuesBounded_forPorts, queuesBounded_clocksBack, queuesBounded_modClk, queuesBounded_setOnRc]

theorem queuesBounded_toRc (d : Domain) (s : State) : QueuesBounded (toRc d s) ↔ QueuesBounded s := by
  simp only [toRc, queuesBounded_ite, ite_self, queuesBounded_modClk, queuesBounded_setOnRc, queuesBounded_domainLost]

theorem queuesBounded_cutOnClocks (s : State) : QueuesBounded (cutOnClocks s) ↔ QueuesBounded s := by
  simp only [cutOnClocks, queuesBounded_ite, ite_self, implies_true, queuesBounded_forPorts, queuesBounded_cutDelivery]

theorem queuesBounded_failureDone (s : State) : QueuesBounded (failureDone s) ↔ QueuesBounded s := by
  unfold failureDone
  split <;> simp only [queuesBounded_ite, ite_self, queuesBounded_raise, queuesBounded_modClk, queuesBounded_cutOnClocks]

theorem queuesBounded_sourceFailed (src : Nat) (ds : List Domain) (s : State) :
    QueuesBounded (sourceFailed src ds s) ↔ QueuesBounded s := by
  simp only [sourceFailed, queuesBounded_modClk, queuesBounded_failureDone]

theorem queuesBounded_crystalStable (s : State) : QueuesBounded (crystalStable s) ↔ QueuesBounded s := by
  simp only [crystalStable, queuesBounded_ite, ite_self, queuesBounded_modClk, queuesBounded_toInput1]

theorem queuesBounded_bootIfDue (s : State) : QueuesBounded (bootIfDue s) ↔ QueuesBounded s := by
  simp only [bootIfDue, queuesBounded_ite, ite_self, queuesBounded_clearOut, queuesBounded_bootUp]

theorem queuesBounded_pllLock (s : State) : QueuesBounded (pllLock s) ↔ QueuesBounded s := by
  simp only [pllLock, queuesBounded_ite, ite_self, implies_true, queuesBounded_foldl, queuesBounded_modClk, queuesBounded_toInput1,
    queuesBounded_bootIfDue]

theorem queuesBounded_crystalTimeout (s : State) : QueuesBounded (crystalTimeout s) ↔ QueuesBounded s := by
  simp only [crystalTimeout, queuesBounded_ite, ite_self, queuesBounded_raise, queuesBounded_modClk, queuesBounded_clkEvent,
    queuesBounded_bootIfDue]

theorem queuesBounded_requestSwitch (d : Domain) (input1 : Bool) (s : State) :
    QueuesBounded (requestSwitch d input1 s) ↔ QueuesBounded s := Iff.rfl

theorem outBounded_execPllLockTimeout (s : State) : OutBounded (execPllLockTimeout s) ↔ QueuesBounded s := by
  simp only [execPllLockTimeout, queuesBounded_ite, ite_self, outBounded_next, queuesBounded_clkEvent]

theorem outBounded_execCrystalRestart (s : State) : OutBounded (execCrystalRestart s) ↔ QueuesBounded s := by
  simp only [execCrystalRestart, queuesBounded_ite, ite_self, outBounded_next, queuesBounded_modClk]

theorem outBounded_execRefFailed (s : State) : OutBounded (execRefFailed s) ↔ QueuesBounded s := by
  simp only [execRefFailed, queuesBounded_ite, ite_self, outBounded_next, queuesBounded_modClk, queuesBounded_clkEvent,
    queuesBounded_sourceFailed]

theorem outBounded_execPllUnlocked (s : State) : OutBounded (execPllUnlocked s) ↔ QueuesBounded s := by
  simp only [execPllUnlocked, queuesBounded_ite, ite_self, outBounded_next, queuesBounded_modClk, queuesBounded_clkEvent,
    queuesBounded_sourceFailed]

theorem outBounded_execHostLanePllFailed (e : LanePllLoss) (s : State) : OutBounded (execHostLanePllFailed e s) ↔ QueuesBounded s := by
  simp only [execHostLanePllFailed, queuesBounded_ite, ite_self, outBounded_next, queuesBounded_raise, queuesBounded_laneDown,
    queuesBounded_stdFail, queuesBounded_modClk]

theorem outBounded_execWarmSwitchDone (d : Domain) (s : State) : OutBounded (execWarmSwitchDone d s) ↔ QueuesBounded s := by
  unfold execWarmSwitchDone
  split <;> simp only [queuesBounded_ite, ite_self, outBounded_next, queuesBounded_answerHeld, queuesBounded_toInput1,
    queuesBounded_toRc, queuesBounded_failureDone, queuesBounded_bootIfDue]

theorem outBounded_execClockReturn (d : Domain) (s : State) : OutBounded (execClockReturn d s) ↔ QueuesBounded s := by
  simp only [execClockReturn, queuesBounded_ite, ite_self, outBounded_next, queuesBounded_requestSwitch]

theorem outBounded_execRcRetrim (s : State) : OutBounded (execRcRetrim s) ↔ QueuesBounded s := by
  simp only [execRcRetrim, queuesBounded_ite, ite_self, outBounded_next, queuesBounded_modClk]

/-! ## Bays and self-test (Bay.lean) -/

theorem queuesBounded_readyLost (p : PortId) (c : Cls) (s : State) : QueuesBounded (readyLost p c s) ↔ QueuesBounded s := by
  simp only [readyLost, queuesBounded_ite, ite_self, queuesBounded_gapLeaf, queuesBounded_ledgerAdd]

theorem queuesBounded_bayEntries (p : PortId) (s : State) : QueuesBounded (bayEntries p s) ↔ QueuesBounded s := by
  simp only [bayEntries, implies_true, queuesBounded_forClasses, queuesBounded_restartEntries, queuesBounded_passAllLosses,
    queuesBounded_readyLost]

theorem queuesBounded_closeBay (p : PortId) (s : State) : QueuesBounded (closeBay p s) ↔ QueuesBounded s := by
  simp only [closeBay, queuesBounded_ite, ite_self, queuesBounded_modPort, queuesBounded_pfcCheck, queuesBounded_raiseDown,
    queuesBounded_declareDownAt, queuesBounded_bayEntries]

theorem queuesBounded_modBist (f : Bist → Bist) (s : State) : QueuesBounded (modBist f s) ↔ QueuesBounded s := Iff.rfl

theorem queuesBounded_setBayResult (p : PortId) (r : BayResult) (s : State) :
    QueuesBounded (setBayResult p r s) ↔ QueuesBounded s := Iff.rfl

theorem queuesBounded_selfTestDone (s : State) : QueuesBounded (selfTestDone s) ↔ QueuesBounded s := by
  unfold selfTestDone
  split <;> simp only [queuesBounded_ite, ite_self, queuesBounded_raise, queuesBounded_modBist]

theorem queuesBounded_startBayTest (p : PortId) (s : State) : QueuesBounded (startBayTest p s) ↔ QueuesBounded s := by
  simp only [startBayTest, queuesBounded_bayEntries, queuesBounded_modBist, queuesBounded_setBayResult]

theorem queuesBounded_startBays (s : State) : QueuesBounded (startBays s) ↔ QueuesBounded s := by
  unfold startBays
  split <;> simp only [queuesBounded_ite, ite_self, implies_true, queuesBounded_foldl, queuesBounded_startBayTest]

theorem queuesBounded_endBayTest (p : PortId) (r : BayResult) (s : State) : QueuesBounded (endBayTest p r s) ↔ QueuesBounded s := by
  simp only [endBayTest, queuesBounded_modPort, queuesBounded_setBayResult, queuesBounded_selfTestDone, queuesBounded_startBays]

theorem queuesBounded_cutBayTest (p : PortId) (s : State) : QueuesBounded (cutBayTest p s) ↔ QueuesBounded s := by
  unfold cutBayTest
  split <;> simp only [queuesBounded_setBayResult, queuesBounded_selfTestDone, queuesBounded_startBays, queuesBounded_endBayTest]

theorem queuesBounded_stopSelfTest (s : State) : QueuesBounded (stopSelfTest s) ↔ QueuesBounded s := by
  simp only [stopSelfTest, queuesBounded_ite, ite_self, implies_true, queuesBounded_foldl, queuesBounded_modPort,
    queuesBounded_modBist, queuesBounded_selfTestDone]

theorem queuesBounded_startSelfTest (s : State) : QueuesBounded (startSelfTest s) ↔ QueuesBounded s := by
  simp only [startSelfTest, queuesBounded_modBist, queuesBounded_startBays]

theorem outBounded_execBayTestDone (p : PortId) (expected found : BitVec 64) (want done : BitVec 32) (s : State) :
    OutBounded (execBayTestDone p expected found want done s) ↔ QueuesBounded s := by
  simp only [execBayTestDone, queuesBounded_ite, ite_self, outBounded_next, queuesBounded_modBist, queuesBounded_endBayTest]

/-! ## Gates (Gates.lean) -/

theorem queuesBounded_modGate (f : Gates → Gates) (s : State) : QueuesBounded (modGate f s) ↔ QueuesBounded s := Iff.rfl

theorem queuesBounded_gateSetBits (v : BitVec 32) (s : State) : QueuesBounded (gateSetBits v s) ↔ QueuesBounded s := by
  simp only [gateSetBits, queuesBounded_ite, ite_self, implies_true, queuesBounded_forPorts, queuesBounded_armChain,
    queuesBounded_modGate]

theorem queuesBounded_symOpened (p : PortId) (s : State) : QueuesBounded (symOpened p s) ↔ QueuesBounded s := by
  simp only [symOpened, queuesBounded_ite, ite_self, queuesBounded_toInput1]

theorem queuesBounded_gateOpened (g : Nat) (s : State) : QueuesBounded (gateOpened g s) ↔ QueuesBounded s := by
  simp only [gateOpened, queuesBounded_ite, ite_self, implies_true, queuesBounded_forPorts, queuesBounded_armChain,
    queuesBounded_modClk, queuesBounded_symOpened]

theorem queuesBounded_gateOpenComplete (g : Nat) (s : State) : QueuesBounded (gateOpenComplete g s) ↔ QueuesBounded s := by
  simp only [gateOpenComplete, queuesBounded_ite, ite_self, queuesBounded_modGate, queuesBounded_gateOpened]

theorem queuesBounded_gateClosed (g : Nat) (s : State) : QueuesBounded (gateClosed g s) ↔ QueuesBounded s := by
  simp only [gateClosed, queuesBounded_ite, ite_self, queuesBounded_abandonCalPort, queuesBounded_laneDown, queuesBounded_modClk,
    queuesBounded_failureDone, queuesBounded_closeBay, queuesBounded_cutBayTest, queuesBounded_stopSelfTest]

theorem queuesBounded_gateCloseComplete (g : Nat) (s : State) : QueuesBounded (gateCloseComplete g s) ↔ QueuesBounded s := by
  simp only [gateCloseComplete, queuesBounded_ite, ite_self, queuesBounded_modGate, queuesBounded_gateClosed]

theorem queuesBounded_cutOrWait (p : PortId) (s : State) : QueuesBounded (cutOrWait p s) ↔ QueuesBounded s := by
  unfold cutOrWait
  split <;> simp only [queuesBounded_modSeal, queuesBounded_cutChain]

theorem queuesBounded_gateClearBits (v : BitVec 32) (s : State) : QueuesBounded (gateClearBits v s) ↔ QueuesBounded s := by
  simp only [gateClearBits, queuesBounded_ite, ite_self, implies_true, queuesBounded_forPorts, queuesBounded_cutChain,
    queuesBounded_disarmAll, queuesBounded_modClk, queuesBounded_cutBayTest, queuesBounded_modGate]

/-! ## Resets (Reset.lean) -/

/-- R362: a start finds both queues empty. -/
theorem queuesBounded_restart (aon : Aon) (powerOn cold : Bool) (cause : StartCause) (s : State) :
    QueuesBounded (restart aon powerOn cold cause s) := ⟨Nat.zero_le _, Nat.zero_le _⟩

theorem queuesBounded_deviceReset (cold : Bool) (cause : StartCause) (s : State) : QueuesBounded (deviceReset cold cause s) :=
  queuesBounded_restart _ _ _ _ _

theorem queuesBounded_hardReset (s : State) : QueuesBounded (hardReset s) := by
  simp only [hardReset, queuesBounded_clkEvent, queuesBounded_with_aon, queuesBounded_takeRates, queuesBounded_deviceReset]

theorem queuesBounded_requestedReset (ch : Chan) (s : State) : QueuesBounded (requestedReset ch s) := by
  simp only [requestedReset, queuesBounded_modChan]
  exact (queuesBounded_takeRates _).mpr (queuesBounded_deviceReset _ _ s)

theorem queuesBounded_powerOn (s : State) : QueuesBounded (powerOn s) := queuesBounded_restart _ _ _ _ _

theorem queuesBounded_powerLost (s : State) : QueuesBounded (powerLost s) := queuesBounded_restart {} true true .powerOn s

theorem queuesBounded_clockFaultAborts (s : State) : QueuesBounded (clockFaultAborts s) ↔ QueuesBounded s := by
  simp only [clockFaultAborts, implies_true, queuesBounded_forChans, queuesBounded_clearOut, queuesBounded_abortXfer,
    queuesBounded_abortHeld]

theorem queuesBounded_coldSwitch (d : Domain) (s : State) : QueuesBounded (coldSwitch d s) ↔ QueuesBounded s := by
  simp only [coldSwitch, queuesBounded_ite, ite_self, queuesBounded_afterDraw, queuesBounded_modClk, queuesBounded_clkEvent,
    queuesBounded_answerHeld, queuesBounded_toRc, queuesBounded_failureDone, queuesBounded_clockFaultAborts]

theorem outBounded_execColdSwitch (d : Domain) (rcReady : Bool) (s : State) (h : QueuesBounded s) :
    OutBounded (execColdSwitch d rcReady s) := by
  simp only [execColdSwitch, outBounded_next, queuesBounded_ite, queuesBounded_hardReset, queuesBounded_coldSwitch, h, ite_self]

theorem outBounded_execPowerOnReset (qualifies : Bool) (s : State) (h : QueuesBounded s) :
    OutBounded (execPowerOnReset qualifies s) := by
  simp only [execPowerOnReset, outBounded_next, queuesBounded_ite, queuesBounded_with_pwr, queuesBounded_powerOn, h, ite_self]

theorem queuesBounded_holdInReset (s : State) : QueuesBounded (holdInReset s) := queuesBounded_deviceReset false .resetN s

theorem outBounded_execVinFails (cut : Option FuseGroup) (s : State) (h : QueuesBounded s) : OutBounded (execVinFails cut s) := by
  simp only [execVinFails, outBounded_next, queuesBounded_ite, queuesBounded_with_pwr, queuesBounded_powerLost, h, ite_self]

theorem outBounded_execResetNAssert (s : State) (h : QueuesBounded s) : OutBounded (execResetNAssert s) := by
  simp only [execResetNAssert, outBounded_next, queuesBounded_ite, queuesBounded_with_pwr, queuesBounded_holdInReset, h, ite_self]

theorem queuesBounded_startUnreleased (s : State) : QueuesBounded (startUnreleased s) := queuesBounded_restart _ _ _ _ _

theorem outBounded_execResetNRelease (s : State) (h : QueuesBounded s) : OutBounded (execResetNRelease s) := by
  refine (outBounded_next _).mpr ?_
  split
  · exact h
  · split
    · simp only [queuesBounded_ite, queuesBounded_startUnreleased, queuesBounded_with_pwr, h, ite_self]
    · exact (queuesBounded_takeRates _).mpr h

theorem outBounded_execThermalShutdown (sensor : Fin 9) (reading : Int) (s : State) (h : QueuesBounded s) :
    OutBounded (execThermalShutdown sensor reading s) := by
  refine (outBounded_next _).mpr ?_
  split
  · exact h
  · exact queuesBounded_deviceReset true .thermalRestart s

theorem outBounded_execThermalRestart (s : State) (h : QueuesBounded s) : OutBounded (execThermalRestart s) := by
  refine (outBounded_next _).mpr ?_
  split
  · exact h
  · exact (queuesBounded_takeRates _).mpr (queuesBounded_deviceReset true .thermalRestart s)

/-! ## Power (Power.lean) -/

theorem queuesBounded_modPwr (f : Power → Power) (s : State) : QueuesBounded (modPwr f s) ↔ QueuesBounded s := Iff.rfl

theorem queuesBounded_refusalCounted (ch : Chan) (s : State) : QueuesBounded (refusalCounted ch s) ↔ QueuesBounded s := by
  simp only [refusalCounted, queuesBounded_ite, ite_self, queuesBounded_modChan]

theorem queuesBounded_refusalSuppressed (ch : Chan) (s : State) : QueuesBounded (refusalSuppressed ch s) ↔ QueuesBounded s := Iff.rfl

theorem queuesBounded_entryRefusedRecord (target : PState) (refuser : Nat) (ch : Option Chan) (s : State) :
    QueuesBounded (entryRefusedRecord target refuser ch s) ↔ QueuesBounded s := by
  unfold entryRefusedRecord
  split <;> simp only [queuesBounded_ite, ite_self, queuesBounded_raise, queuesBounded_refusalCounted, queuesBounded_refusalSuppressed]

theorem queuesBounded_refuseEntry (target : PState) (ch : Option Chan) (rs : List (Nat × Nat)) (s : State) :
    QueuesBounded (refuseEntry target ch rs s) ↔ QueuesBounded s := by
  simp only [refuseEntry, queuesBounded_modPwr, queuesBounded_entryRefusedRecord]

theorem queuesBounded_beginEntry (target : PState) (ch : Option Chan) (s : State) :
    QueuesBounded (beginEntry target ch s) ↔ QueuesBounded s := by
  have cut (t : State) := queuesBounded_forPorts _ queuesBounded_cutOrWait t
  unfold beginEntry
  dsimp only
  split <;> simp only [queuesBounded_ite, queuesBounded_abandonCal, cut, queuesBounded_modPwr, ite_self]

theorem wrBounded_powerRequest (target : PState) (ch : Chan) (s : State) : WrBounded (powerRequest target ch s) ↔ QueuesBounded s := by
  unfold powerRequest
  dsimp only
  split
  · split <;> rfl
  · split
    · rfl
    · split
      · rfl
      · split
        · rw [wrBounded_ok, queuesBounded_beginEntry, queuesBounded_modPwr]
        · rw [wrBounded_error, queuesBounded_refuseEntry]

theorem queuesBounded_portEntry (p : PortId) (s : State) : QueuesBounded (portEntry p s) ↔ QueuesBounded s := by
  unfold portEntry
  dsimp only
  (repeat' split) <;> simp only [queuesBounded_modPort, queuesBounded_declareDown, queuesBounded_raiseDown, queuesBounded_oweBeacons]

theorem queuesBounded_takePoint (target : PState) (s : State) : QueuesBounded (takePoint target s) ↔ QueuesBounded s := by
  simp only [takePoint, implies_true, queuesBounded_forPorts, queuesBounded_raise, queuesBounded_endSessions, queuesBounded_laneDown,
    queuesBounded_modPwr, queuesBounded_portEntry]

theorem queuesBounded_abandonEntry (s : State) : QueuesBounded (abandonEntry s) ↔ QueuesBounded s :=
  queuesBounded_forPorts _ queuesBounded_armChain _

/-- R371: the EMCY messages left are dropped; the commit queue is kept. -/
theorem queuesBounded_entryDone (target : PState) (s : State) (h : QueuesBounded s) : QueuesBounded (entryDone target s) :=
  ⟨h.1, Nat.zero_le _⟩

theorem queuesBounded_beginReturn (s : State) : QueuesBounded (beginReturn s) ↔ QueuesBounded s := Iff.rfl

theorem queuesBounded_noteWake (w : Wake) (s : State) : QueuesBounded (noteWake w s) ↔ QueuesBounded s := by
  unfold noteWake
  split <;> simp only [implies_true, queuesBounded_modLink, queuesBounded_forPorts, queuesBounded_modPwr]

theorem queuesBounded_wakeEvent (w : Wake) (s : State) : QueuesBounded (wakeEvent w s) ↔ QueuesBounded s := by
  unfold wakeEvent
  split
  · exact queuesBounded_noteWake w s
  · simp only [queuesBounded_ite, queuesBounded_noteWake, queuesBounded_abandonEntry, queuesBounded_modPwr, ite_self]
  · simp only [queuesBounded_ite, queuesBounded_beginReturn, queuesBounded_noteWake, queuesBounded_modPwr, ite_self]

theorem queuesBounded_remoteWake (p : PortId) (s : State) : QueuesBounded (remoteWake p s) ↔ QueuesBounded s := by
  simp only [remoteWake, queuesBounded_ite, ite_self, implies_true, queuesBounded_foldl, queuesBounded_startPulse,
    queuesBounded_localWake, queuesBounded_wakePort]

theorem queuesBounded_wakeInPorts (s : State) : QueuesBounded (wakeInPorts s) ↔ QueuesBounded s := by
  simp only [wakeInPorts, implies_true, queuesBounded_forPorts, queuesBounded_localWake]

theorem queuesBounded_dueWake (p : PortId) (s : State) : QueuesBounded (dueWake p s) ↔ QueuesBounded s := by
  unfold dueWake
  split <;> simp only [queuesBounded_modLink, queuesBounded_localWake, queuesBounded_remoteWake]

theorem queuesBounded_portWakes (s : State) : QueuesBounded (portWakes s) ↔ QueuesBounded s := by
  simp only [portWakes, implies_true, queuesBounded_foldl, queuesBounded_forPorts, queuesBounded_oweProbes, queuesBounded_modPwr,
    queuesBounded_dueWake]

theorem queuesBounded_returnRelink (p : PortId) (s : State) : QueuesBounded (returnRelink p s) ↔ QueuesBounded s := by
  unfold returnRelink
  dsimp only
  (repeat' split) <;> simp only [queuesBounded_modLink, queuesBounded_tryAutoneg, queuesBounded_beginFull, queuesBounded_beginFast,
    queuesBounded_takeRelinkMode]

theorem queuesBounded_reopenGates (s : State) : QueuesBounded (reopenGates s) ↔ QueuesBounded s := by
  simp only [reopenGates, implies_true, queuesBounded_foldl, queuesBounded_gateOpenComplete]

theorem queuesBounded_returnDone (s : State) : QueuesBounded (returnDone s) ↔ QueuesBounded s := by
  unfold returnDone
  dsimp only
  split <;> simp only [queuesBounded_takeShadow, queuesBounded_raise, queuesBounded_clearOut, queuesBounded_bootUp,
    queuesBounded_canStack, queuesBounded_modClk, queuesBounded_modPwr]

theorem queuesBounded_finishReturn (s : State) : QueuesBounded (finishReturn s) ↔ QueuesBounded s := by
  have relinked (t : State) := queuesBounded_forPorts _ queuesBounded_returnRelink t
  simp only [finishReturn, queuesBounded_ite, queuesBounded_portWakes, relinked, queuesBounded_reopenGates, queuesBounded_modPwr,
    ite_self]

theorem queuesBounded_simmerProbe (p : PortId) (m : ProbeIn) (s : State) : QueuesBounded (simmerProbe p m s) ↔ QueuesBounded s := by
  simp only [simmerProbe, queuesBounded_ite, ite_self, queuesBounded_probe, queuesBounded_modPwr, queuesBounded_wakeEvent]

theorem queuesBounded_captureProbe (p : PortId) (m : ProbeIn) (s : State) : QueuesBounded (captureProbe p m s) ↔ QueuesBounded s := by
  simp only [captureProbe, queuesBounded_ite, ite_self, queuesBounded_checkRefs, queuesBounded_probeMeasured, queuesBounded_probeLost,
    queuesBounded_oweProbes]

theorem outBounded_execPointOfNoReturn (s : State) : OutBounded (execPointOfNoReturn s) ↔ QueuesBounded s := by
  refine (outBounded_next _).trans ?_
  split <;> simp only [queuesBounded_ite, queuesBounded_takePoint, ite_self]

theorem outBounded_execEntryTimeout (s : State) : OutBounded (execEntryTimeout s) ↔ QueuesBounded s := by
  refine (outBounded_next _).trans ?_
  split
  · rfl
  · split
    · rfl
    · split
      · exact queuesBounded_takePoint _ s
      · exact (queuesBounded_abandonEntry _).trans (queuesBounded_refuseEntry _ _ _ s)
  · rfl

theorem outBounded_execEntryComplete (s : State) (h : QueuesBounded s) : OutBounded (execEntryComplete s) := by
  have sent := (queuesBounded_canSend (heartbeatFrame s 0x04) (clearOut s)).mpr ((queuesBounded_clearOut s).mpr h)
  refine (outBounded_next _).mpr ?_
  split
  · exact h
  · split
    · exact h
    · simp only [queuesBounded_ite, queuesBounded_beginReturn, queuesBounded_modPwr, queuesBounded_entryDone _ _ sent, ite_self]

theorem outBounded_execWakeIn (s : State) : OutBounded (execWakeIn s) ↔ QueuesBounded s := by
  simp only [execWakeIn, queuesBounded_ite, ite_self, outBounded_next, queuesBounded_wakeEvent, queuesBounded_wakeInPorts]

theorem outBounded_execLineWake (w : WakeTone) (s : State) : OutBounded (execLineWake w s) ↔ QueuesBounded s := by
  simp only [execLineWake, queuesBounded_ite, ite_self, outBounded_next, queuesBounded_wakeEvent, queuesBounded_remoteWake]

theorem outBounded_execPowerReturnDone (s : State) : OutBounded (execPowerReturnDone s) ↔ QueuesBounded s := by
  simp only [execPowerReturnDone, outBounded_next, queuesBounded_ite, queuesBounded_returnDone, ite_self]

theorem outBounded_execCrystalFrequencyCheckFail (s : State) : OutBounded (execCrystalFrequencyCheckFail s) ↔ QueuesBounded s := by
  simp only [execCrystalFrequencyCheckFail, outBounded_next, queuesBounded_ite, queuesBounded_modClk, ite_self]

theorem queuesBounded_takeTick (s : State) : QueuesBounded (takeTick s) ↔ QueuesBounded s := by
  simp only [takeTick, queuesBounded_modPwr]

theorem outBounded_execSimmerProbeWake (m : ProbeIn) (s : State) : OutBounded (execSimmerProbeWake m s) ↔ QueuesBounded s := by
  refine (outBounded_next _).trans ?_
  split
  · split
    · exact (queuesBounded_simmerProbe _ m _).trans (queuesBounded_takeTick s)
    · exact queuesBounded_takeTick s
  · rfl

theorem outBounded_execProbeRun (p : PortId) (m : ProbeIn) (s : State) : OutBounded (execProbeRun p m s) ↔ QueuesBounded s := by
  simp only [execProbeRun, queuesBounded_ite, ite_self, outBounded_next, queuesBounded_simmerProbe, queuesBounded_captureProbe,
    queuesBounded_takeTick]

/-! ## Heat (Thermal.lean) -/

theorem queuesBounded_modHeat (f : Heat → Heat) (s : State) : QueuesBounded (modHeat f s) ↔ QueuesBounded s := Iff.rfl

theorem queuesBounded_heatEvent (e : BitVec 16) (s : State) : QueuesBounded (heatEvent e s) ↔ QueuesBounded s := Iff.rfl

theorem queuesBounded_storeReadings (rs : List Int) (s : State) : QueuesBounded (storeReadings rs s) ↔ QueuesBounded s := Iff.rfl

theorem queuesBounded_warnStep (s : State) : QueuesBounded (warnStep s) ↔ QueuesBounded s := by
  simp only [warnStep, queuesBounded_ite, ite_self, queuesBounded_raise, queuesBounded_modHeat, queuesBounded_heatEvent]

theorem queuesBounded_throttleStep (s : State) : QueuesBounded (throttleStep s) ↔ QueuesBounded s := by
  simp only [throttleStep, queuesBounded_ite, ite_self, implies_true, queuesBounded_forPorts, queuesBounded_raise,
    queuesBounded_chooseNearest, queuesBounded_startBays, queuesBounded_modHeat, queuesBounded_heatEvent]

theorem queuesBounded_stageTwo (s : State) : QueuesBounded (stageTwo s) ↔ QueuesBounded s := by
  simp only [stageTwo, queuesBounded_ite, ite_self, queuesBounded_raise, queuesBounded_issueThermal, queuesBounded_modHeat,
    queuesBounded_heatEvent]

theorem queuesBounded_coolStep (s : State) : QueuesBounded (coolStep s) ↔ QueuesBounded s := by
  simp only [coolStep, queuesBounded_ite, ite_self, queuesBounded_modHeat]

theorem outBounded_execSensorConversion (readings : List Int) (s : State) :
    OutBounded (execSensorConversion readings s) ↔ QueuesBounded s := by
  simp only [execSensorConversion, queuesBounded_ite, ite_self, outBounded_next, queuesBounded_storeReadings, queuesBounded_warnStep,
    queuesBounded_throttleStep, queuesBounded_coolStep]

/-! ## Refusals (Abort.lean) -/

theorem wrBounded_deny (c : Code) (s : State) : WrBounded (deny c s) ↔ QueuesBounded s := by
  simp only [deny, wrBounded_error]

theorem queuesBounded_refusedWrite (ch : Chan) (index : BitVec 16) (sub : Byte) (c : Code) (s : State) :
    QueuesBounded (refusedWrite ch index sub c s) ↔ QueuesBounded s := by
  simp only [refusedWrite, queuesBounded_ite, ite_self, queuesBounded_modChan, queuesBounded_raise, queuesBounded_refusalCounted,
    queuesBounded_refusalSuppressed]

theorem queuesBounded_answerAbort (ch : Chan) (c : Code) (s : State) : QueuesBounded (answerAbort ch c s) ↔ QueuesBounded s := Iff.rfl

theorem queuesBounded_countRequest (ch : Chan) (s : State) : QueuesBounded (countRequest ch s) ↔ QueuesBounded s := Iff.rfl

theorem queuesBounded_answerWrite (ch : Chan) (index : BitVec 16) (sub : Byte) (r : Wr) :
    QueuesBounded (answerWrite ch index sub r) ↔ WrBounded r := by
  cases r with
  | ok t => rfl
  | error e => exact (queuesBounded_answerAbort ch e.1 _).trans (queuesBounded_refusedWrite ch index sub e.1 e.2)

/-! ## Authentication (Auth.lean) -/

theorem queuesBounded_authFailed (ch : Chan) (check role : Nat) (s : State) :
    QueuesBounded (authFailed ch check role s) ↔ QueuesBounded s := by
  simp only [authFailed, queuesBounded_with_aon, queuesBounded_modChan, queuesBounded_copyToMram, queuesBounded_raise]

theorem queuesBounded_useNonce (ch : Chan) (s : State) : QueuesBounded (useNonce ch s) ↔ QueuesBounded s := Iff.rfl

theorem queuesBounded_openSession (ch : Chan) (role : Role) (key : List Byte) (s : State) :
    QueuesBounded (openSession ch role key s) ↔ QueuesBounded s := by
  simp only [openSession, queuesBounded_ite, ite_self, queuesBounded_with_aon, queuesBounded_modChan, queuesBounded_copyToMram,
    queuesBounded_raise, queuesBounded_closeSession, queuesBounded_holderGone, queuesBounded_workGone]

theorem wrBounded_authResponse (ch : Chan) (d : List Byte) (s : State) : WrBounded (authResponse ch d s) ↔ QueuesBounded s := by
  unfold authResponse
  (repeat' split) <;> simp only [ite_self, wrBounded_ite, wrBounded_ok, wrBounded_error, queuesBounded_authFailed,
    queuesBounded_useNonce, queuesBounded_openSession]

theorem rdBounded_readNonce (ch : Chan) (s : State) : RdBounded (readNonce ch s) ↔ QueuesBounded s := by
  unfold readNonce
  split <;> rfl

/-! ## Life cycle (LifeCycle.lean) -/

theorem queuesBounded_leaveManufacture (s : State) (h : QueuesBounded s) : QueuesBounded (leaveManufacture s) := by
  refine queuesBounded_emptyCrock _ ?_
  rw [queuesBounded_forPorts _ (fun p t => queuesBounded_modSig p _ t)]
  exact h

theorem queuesBounded_transition (k : LifeFuse) (ch : Chan) (s : State) (h : QueuesBounded s) : QueuesBounded (transition k ch s) := by
  unfold transition
  extract_lets old role b t u v
  have ht : QueuesBounded t := h
  have hu : QueuesBounded u := by
    dsimp only [u]
    split
    · exact queuesBounded_leaveManufacture t ht
    · exact ht
  split
  · exact (queuesBounded_raise _ _).mpr ht
  · simp only [v, queuesBounded_ite, queuesBounded_stopSelfTest, queuesBounded_disarmAll, queuesBounded_endSessions,
      queuesBounded_raise,
      ite_self]
    exact hu

theorem wrBounded_requestSealed (ch : Chan) (s : State) (h : QueuesBounded s) : WrBounded (requestSealed ch s) := by
  unfold requestSealed
  split
  · exact h
  · split
    · exact h
    · split
      · exact h
      · exact queuesBounded_transition _ _ _ h

theorem wrBounded_requestReturned (ch : Chan) (s : State) (h : QueuesBounded s) : WrBounded (requestReturned ch s) := by
  unfold requestReturned
  dsimp only
  split
  · exact h
  · split
    · exact h
    · split
      · split
        · exact queuesBounded_transition _ _ _ h
        · exact (queuesBounded_authFailed _ _ _ _).mpr h
      · exact (queuesBounded_authFailed _ _ _ _).mpr h

theorem wrBounded_requestEnded (ch : Chan) (s : State) (h : QueuesBounded s) : WrBounded (requestEnded ch s) := by
  have ended : WrBounded (.ok (transition .ended ch s)) := queuesBounded_transition _ _ _ h
  simp only [requestEnded, wrBounded_ite, wrBounded_deny, ended, h, ite_self]

theorem wrBounded_lifeRequest (ch : Chan) (v : Nat) (s : State) (h : QueuesBounded s) : WrBounded (lifeRequest ch v s) := by
  simp only [lifeRequest, wrBounded_ite, wrBounded_requestSealed ch s h, wrBounded_requestReturned ch s h, wrBounded_requestEnded ch s
    h,
    wrBounded_deny, h, ite_self]

theorem queuesBounded_bindCaptures (ch : Chan) (s : State) : QueuesBounded (bindCaptures ch s) ↔ QueuesBounded s := by
  simp only [bindCaptures, queuesBounded_ite, ite_self, implies_true, queuesBounded_forPorts, queuesBounded_startCapture]

theorem queuesBounded_bind (ch : Chan) (v : BitVec 16) (s : State) : QueuesBounded (bind ch v s) ↔ QueuesBounded s := by
  simp only [bind, queuesBounded_bindCaptures, queuesBounded_raise]
  rfl

theorem queuesBounded_writeOwners (ch : Chan) (v : BitVec 16) (s : State) : QueuesBounded (writeOwners ch v s) ↔ QueuesBounded s := by
  simp only [writeOwners, queuesBounded_ite, ite_self, queuesBounded_with_fus, queuesBounded_raise, queuesBounded_bind]

theorem queuesBounded_lateTransition (old : LifeState) (s : State) (h : QueuesBounded s) : QueuesBounded (lateTransition old s) := by
  have left : QueuesBounded (if old = .manufacture then leaveManufacture s else s) := by
    split
    · exact queuesBounded_leaveManufacture s h
    · exact h
  unfold lateTransition
  split
  · exact h
  · simp only [queuesBounded_ite, queuesBounded_stopSelfTest, queuesBounded_disarmAll, queuesBounded_endSessions, queuesBounded_raise,
      queuesBounded_afterDraw, ite_self]
    simpa only [queuesBounded_ite] using left

theorem queuesBounded_verifyGroup (g : FuseGroup) (s : State) (h : QueuesBounded s) : QueuesBounded (verifyGroup g s) := by
  cases g with
  | sealed => exact queuesBounded_lateTransition _ _ h
  | bound => exact queuesBounded_lateTransition _ _ h
  | returned => exact queuesBounded_lateTransition _ _ h
  | ended => exact queuesBounded_lateTransition _ _ h
  | rebaseline => exact h
  | rollback => exact h
  | witness => exact h
  | calibration =>
    unfold verifyGroup
    dsimp only
    split
    · split <;> exact h
    · exact h

theorem queuesBounded_burnRollback (s : State) : QueuesBounded (burnRollback s) ↔ QueuesBounded s := by
  simp only [burnRollback, queuesBounded_ite, ite_self, queuesBounded_with_fus]

theorem queuesBounded_restartLimit (s : State) : QueuesBounded (restartLimit s) ↔ QueuesBounded s := by
  simp only [restartLimit, queuesBounded_ite, ite_self, queuesBounded_raise, queuesBounded_beginEntry, queuesBounded_heatEvent]

theorem queuesBounded_checkEnd (s : State) : QueuesBounded (checkEnd s) ↔ QueuesBounded s := by
  simp only [checkEnd, queuesBounded_ite, ite_self, queuesBounded_raise, queuesBounded_modBist, queuesBounded_restartLimit]

theorem outBounded_execFuseBurnVerify (g : FuseGroup) (s : State) (h : QueuesBounded s) : OutBounded (execFuseBurnVerify g s) := by
  simp only [execFuseBurnVerify, outBounded_next, queuesBounded_ite, queuesBounded_verifyGroup g s h, h, ite_self]

theorem outBounded_execPowerOnCheckEnd (s : State) : OutBounded (execPowerOnCheckEnd s) ↔ QueuesBounded s := by
  simp only [execPowerOnCheckEnd, queuesBounded_ite, ite_self, outBounded_next, queuesBounded_checkEnd]

/-! ## Calibration (Calibrate.lean) -/

theorem wrBounded_startCal (k : CalKind) (ch : Chan) (s : State) : WrBounded (startCal k ch s) ↔ QueuesBounded s := by
  unfold startCal
  split <;> simp only [wrBounded_ok, queuesBounded_with_cal, wrBounded_deny]

theorem wrBounded_writeCalGo (ch : Chan) (v : Nat) (s : State) : WrBounded (writeCalGo ch v s) ↔ QueuesBounded s := by
  simp only [writeCalGo, ite_self, wrBounded_ite, wrBounded_ok, wrBounded_deny, wrBounded_startCal]

theorem queuesBounded_endCal (k : CalKind) (st : CalStage) (result : Nat) (s : State) :
    QueuesBounded (endCal k st result s) ↔ QueuesBounded s := by
  simp only [endCal, queuesBounded_with_cal, queuesBounded_raise]

theorem queuesBounded_acceptCal (k : CalKind) (v : Int) (s : State) : QueuesBounded (acceptCal k v s) ↔ QueuesBounded s := by
  simp only [acceptCal, queuesBounded_ite, queuesBounded_endCal]
  split
  · rfl
  · split <;> rfl

theorem queuesBounded_calMeasured (m : CalIn) (s : State) : QueuesBounded (calMeasured m s) ↔ QueuesBounded s := by
  unfold calMeasured
  (repeat' split) <;> simp only [queuesBounded_with_cal, queuesBounded_endCal, queuesBounded_acceptCal]

theorem queuesBounded_imageResult (d : List Byte) (result : BitVec 8) (r : Recipes) (s : State) :
    QueuesBounded (imageResult d result r s) ↔ QueuesBounded s := by
  simp only [imageResult, queuesBounded_with_rcp, queuesBounded_raise]

theorem queuesBounded_storeImage (d : List Byte) (s : State) : QueuesBounded (storeImage d s) ↔ QueuesBounded s := by
  simp only [storeImage, queuesBounded_ite, ite_self, queuesBounded_imageResult]

theorem queuesBounded_burnHash (maker : Bool) (hash : List Byte) (s : State) :
    QueuesBounded (burnHash maker hash s) ↔ QueuesBounded s := by
  unfold burnHash
  dsimp only
  split
  · rfl
  · split <;> split <;> rfl

theorem queuesBounded_loadTap (i : TapInstr) (s : State) : QueuesBounded (loadTap i s) ↔ QueuesBounded s := by
  unfold loadTap
  (repeat' split) <;> simp only [queuesBounded_with_tap, queuesBounded_burnHash]

theorem outBounded_execCalibrationTimeout (s : State) : OutBounded (execCalibrationTimeout s) ↔ QueuesBounded s := by
  simp only [execCalibrationTimeout, queuesBounded_ite, ite_self, outBounded_next, queuesBounded_abandonCal]

theorem outBounded_execTrstNLow (s : State) : OutBounded (execTrstNLow s) ↔ QueuesBounded s := by
  simp only [execTrstNLow, outBounded_next, queuesBounded_with_tap]

/-! ## Reads (DictRead.lean) -/

theorem rdBounded_readRecords (ch : Chan) (n : Nat) (s : State) : RdBounded (readRecords ch n s) ↔ QueuesBounded s := by
  simp only [readRecords, ite_self, rdBounded_ite, rdBounded_ok, rdBounded_error, queuesBounded_modChan]

theorem rdBounded_readEntry (ch : Chan) (p : PortId) (s : State) : RdBounded (readEntry ch p s) ↔ QueuesBounded s := by
  unfold readEntry
  dsimp only
  split <;> simp only [rdBounded_ok, rdBounded_error, queuesBounded_modPort]

theorem rdBounded_readValue (ch : Chan) (o : Obj) (p : PortId) (sub : Nat) (s : State) :
    RdBounded (readValue ch o p sub s) ↔ QueuesBounded s := by
  unfold readValue
  (repeat' split) <;> simp only [rdBounded_ok, rdBounded_error, queuesBounded_afterDraw, rdBounded_readNonce, rdBounded_readRecords,
    rdBounded_readEntry]

theorem rdBounded_dictRead (ch : Chan) (index : BitVec 16) (sub : Byte) (s : State) :
    RdBounded (dictRead ch index sub s) ↔ QueuesBounded s := by
  unfold dictRead
  dsimp only
  (repeat' split) <;> simp only [rdBounded_error, rdBounded_readValue]

/-! ## Writes (DictWrite.lean) -/

theorem queuesBounded_zeroPeak {d : List Byte} {s t : State} (e : zeroPeak d s = some t) : QueuesBounded t ↔ QueuesBounded s := by
  obtain ⟨l, -, rfl⟩ := Option.map_eq_some_iff.mp e
  simp only [queuesBounded_ite, queuesBounded_modHeat, ite_self]

theorem queuesBounded_zeroDevice {base sub : Nat} {d : List Byte} {s t : State} (e : zeroDevice base sub d s = some t) :
    QueuesBounded t ↔ QueuesBounded s := by
  unfold zeroDevice at e
  split at e
  case h_4 => exact queuesBounded_zeroPeak e
  case h_6 => cases e
  all_goals
    obtain ⟨l, -, rfl⟩ := Option.map_eq_some_iff.mp e
    rfl

theorem wrBounded_writeCnt (o : Obj) (p : PortId) (sub : Nat) (d : List Byte) (s : State) :
    WrBounded (writeCnt o p sub d s) ↔ QueuesBounded s := by
  unfold writeCnt
  split
  next t e =>
    split at e
    · obtain ⟨q, -, rfl⟩ := Option.map_eq_some_iff.mp e
      exact queuesBounded_modPort p _ s
    · exact queuesBounded_zeroDevice e
  · exact wrBounded_deny _ s

theorem wrBounded_writeEvt (base : Nat) (w : BitVec 32) (s : State) : WrBounded (writeEvt base w s) ↔ QueuesBounded s := by
  unfold writeEvt
  (repeat' split) <;> simp only [wrBounded_ok, queuesBounded_modClk, queuesBounded_modHeat, wrBounded_deny]

theorem wrBounded_writeLock (ch : Chan) (v : Nat) (s : State) : WrBounded (writeLock ch v s) ↔ QueuesBounded s := by
  simp only [writeLock, ite_self, wrBounded_ite, wrBounded_ok, queuesBounded_modChan, wrBounded_deny]

theorem queuesBounded_accept (ch : Chan) (w : Posted) (s : State) : QueuesBounded (accept ch w s) ↔ QueuesBounded s := Iff.rfl

theorem queuesBounded_newDay (t : Nat) (s : State) : QueuesBounded (newDay t s) ↔ QueuesBounded s := by
  unfold newDay
  split
  · rfl
  · simp only []

theorem wrBounded_writeCivil (ch : Chan) (x : Int) (s : State) : WrBounded (writeCivil ch x s) ↔ QueuesBounded s := by
  simp only [writeCivil, ite_self, wrBounded_ite, wrBounded_ok, queuesBounded_with_aon, wrBounded_deny, queuesBounded_accept,
    queuesBounded_newDay]

theorem wrBounded_writePosted (ch : Chan) (base sub : Nat) (d : List Byte) (s : State) :
    WrBounded (writePosted ch base sub d s) ↔ QueuesBounded s := by
  simp only [writePosted, ite_self, wrBounded_ite, wrBounded_ok, wrBounded_deny, queuesBounded_accept, wrBounded_writeCivil]

theorem wrBounded_writeOrder (ch : Chan) (d : List Byte) (s : State) : WrBounded (writeOrder ch d s) ↔ QueuesBounded s := by
  simp only [writeOrder, ite_self, wrBounded_ite, wrBounded_ok, queuesBounded_rollIssue, wrBounded_deny]

theorem wrBounded_writeSource (dom : Domain) (v : BitVec 8) (s : State) : WrBounded (writeSource dom v s) ↔ QueuesBounded s := by
  simp only [writeSource, ite_self, wrBounded_ite, wrBounded_ok, wrBounded_error, queuesBounded_modClk, queuesBounded_clkEvent,
    queuesBounded_requestSwitch, wrBounded_deny]

theorem wrBounded_writeSelfTest (v : Nat) (s : State) : WrBounded (writeSelfTest v s) ↔ QueuesBounded s := by
  unfold writeSelfTest
  (repeat' split) <;> simp only [wrBounded_ok, queuesBounded_startSelfTest, wrBounded_deny]

theorem wrBounded_writeRequest (ch : Chan) (v : Nat) (s : State) : WrBounded (writeRequest ch v s) ↔ QueuesBounded s := by
  simp only [writeRequest, wrBounded_powerRequest]

theorem queuesBounded_writeRecorder (ch : Chan) (v : Nat) (s : State) (h : QueuesBounded s) : QueuesBounded (writeRecorder ch v s) := by
  simp only [writeRecorder, queuesBounded_ite, queuesBounded_raise, queuesBounded_emptyCrock s h, h, ite_self]

theorem wrBounded_writeDevice (ch : Chan) (base sub : Nat) (d : List Byte) (s : State) (h : QueuesBounded s) :
    WrBounded (writeDevice ch base sub d s) := by
  unfold writeDevice
  dsimp only
  split
  case h_6 => split; exacts [wrBounded_lifeRequest ch _ s h, h]
  case h_7 => exact (queuesBounded_endSession ch 2 s).mpr h
  case h_8 => exact (queuesBounded_writeOwners ch _ s).mpr h
  case h_10 => exact queuesBounded_requestedReset ch s
  case h_11 => exact (wrBounded_writeSource _ _ s).mpr h
  case h_12 => simp only [wrBounded_ok, queuesBounded_ite, queuesBounded_gateSetBits, queuesBounded_gateClearBits, h, ite_self]
  case h_15 => split; exacts [(wrBounded_writeRequest ch _ s).mpr h, h]
  case h_17 => split; exacts [(wrBounded_writeCalGo ch _ s).mpr h, h]
  case h_18 => split; exacts [(wrBounded_writeSelfTest _ s).mpr h, h]
  case h_19 => simp only [wrBounded_ok, queuesBounded_ite, queuesBounded_disarmAll, h, ite_self]
  case h_20 => exact (wrBounded_writeOrder ch d s).mpr h
  case h_21 => exact (queuesBounded_storeImage d s).mpr h
  case h_24 => exact queuesBounded_writeRecorder ch _ s h
  case h_9 => split <;> exact h
  all_goals exact h

theorem queuesBounded_writeCommand (p : PortId) (v : BitVec 8) (s : State) : QueuesBounded (writeCommand p v s) ↔ QueuesBounded s := by
  simp only [writeCommand, queuesBounded_ite, ite_self, queuesBounded_retrainGo, queuesBounded_restartAnGo, queuesBounded_sleepGo,
    queuesBounded_localWake]

theorem queuesBounded_writeAdmin (p : PortId) (v : Nat) (s : State) : QueuesBounded (writeAdmin p v s) ↔ QueuesBounded s := by
  simp only [writeAdmin, queuesBounded_ite, ite_self, queuesBounded_abandonCalPort, queuesBounded_adminDisable,
    queuesBounded_adminEnable]

theorem wrBounded_writeTargetMode (p : PortId) (v : BitVec 8) (s : State) : WrBounded (writeTargetMode p v s) ↔ QueuesBounded s := by
  simp only [writeTargetMode, ite_self, wrBounded_ite, wrBounded_ok, queuesBounded_writeTarget, wrBounded_deny]

theorem queuesBounded_writeAdapt (p : PortId) (v : BitVec 8) (s : State) : QueuesBounded (writeAdapt p v s) ↔ QueuesBounded s := Iff.rfl

theorem queuesBounded_writeNeighbours (p : PortId) (v : BitVec 8) (s : State) :
    QueuesBounded (writeNeighbours p v s) ↔ QueuesBounded s := by
  simp only [writeNeighbours, queuesBounded_modDsp]

theorem queuesBounded_writeThresholds (ch : Chan) (p : PortId) (v : BitVec 32) (s : State) :
    QueuesBounded (writeThresholds ch p v s) ↔ QueuesBounded s := by
  simp only [writeThresholds, queuesBounded_modSig, queuesBounded_raise]

theorem queuesBounded_captureGo (ch : Chan) (p : PortId) (k : RefSlot) (go : Bool) (s : State) :
    QueuesBounded (captureGo ch p k go s) ↔ QueuesBounded s := by
  simp only [captureGo, queuesBounded_ite, ite_self, queuesBounded_startCapture]

theorem wrBounded_writeSignature (ch : Chan) (p : PortId) (v : BitVec 8) (s : State) :
    WrBounded (writeSignature ch p v s) ↔ QueuesBounded s := by
  simp only [writeSignature, queuesBounded_ite, ite_self, wrBounded_ite, wrBounded_ok, queuesBounded_clearTamper, wrBounded_deny,
    queuesBounded_captureGo]

theorem queuesBounded_writeSeal (p : PortId) (v : Nat) (s : State) : QueuesBounded (writeSeal p v s) ↔ QueuesBounded s := by
  simp only [writeSeal, queuesBounded_ite, ite_self, queuesBounded_modSeal, queuesBounded_armChain, queuesBounded_cutOrWait]

theorem wrBounded_writePort (ch : Chan) (base : Nat) (p : PortId) (sub : Nat) (d : List Byte) (s : State) :
    WrBounded (writePort ch base p sub d s) ↔ QueuesBounded s := by
  unfold writePort
  split <;> simp only [wrBounded_ok, queuesBounded_modPort, queuesBounded_modLink, queuesBounded_modHost, queuesBounded_modDsp,
    queuesBounded_modSeal, queuesBounded_modSieve, queuesBounded_writeArm, queuesBounded_pfcCheck, queuesBounded_writeModeMask,
    wrBounded_deny, queuesBounded_writeCommand, queuesBounded_writeAdmin, wrBounded_writeTargetMode, queuesBounded_writeAdapt,
    queuesBounded_writeNeighbours, queuesBounded_writeThresholds, wrBounded_writeSignature, queuesBounded_writeSeal]

theorem wrBounded_writeField (ch : Chan) (o : Obj) (f : Field) (p : PortId) (sub : Nat) (d : List Byte) (s : State)
    (h : QueuesBounded s) : WrBounded (writeField ch o f p sub d s) := by
  unfold writeField
  split
  · split
    · exact (wrBounded_writePort ch _ p sub d s).mpr h
    · exact wrBounded_writeDevice ch _ sub d s h
  · exact (wrBounded_writeEvt _ _ s).mpr h
  · exact (wrBounded_writeCnt o p sub d s).mpr h
  · exact (wrBounded_writeLock ch _ s).mpr h
  · exact (wrBounded_writePosted ch _ sub d s).mpr h
  · exact h
  · exact h

/-- R308: whatever a write does, both queues stay within their capacities. -/
theorem wrBounded_dictWrite (ch : Chan) (index : BitVec 16) (sub : Byte) (d : List Byte) (s : State) (h : QueuesBounded s) :
    WrBounded (dictWrite ch index sub d s) := by
  unfold dictWrite
  dsimp only
  split
  · exact h
  · split
    · exact h
    · split
      · exact h
      · split
        · exact (wrBounded_authResponse ch d s).mpr h
        · split
          · exact h
          · exact wrBounded_writeField ch _ _ _ _ d s h

theorem queuesBounded_beginRequest (ch : Chan) (s : State) : QueuesBounded (beginRequest ch s) ↔ QueuesBounded s := by
  simp only [beginRequest, queuesBounded_modChan, queuesBounded_heard, queuesBounded_countRequest]

theorem queuesBounded_dictCommand (ch : Chan) (index : BitVec 16) (sub : Byte) (d : List Byte) (s : State) (h : QueuesBounded s) :
    QueuesBounded (dictCommand ch index sub d s) := by
  have write := wrBounded_dictWrite ch index sub d _ ((queuesBounded_beginRequest ch s).mpr h)
  simp only [dictCommand, queuesBounded_ite, queuesBounded_answerWrite, write, h, ite_self]

theorem queuesBounded_answerRead (ch : Chan) (r : Except (Code × State) (List Byte × State)) :
    QueuesBounded (answerRead ch r) ↔ RdBounded r := by
  cases r with
  | ok d => rfl
  | error e => exact queuesBounded_answerAbort ch e.1 e.2

theorem queuesBounded_readCommand (ch : Chan) (index : BitVec 16) (sub : Byte) (s : State) :
    QueuesBounded (readCommand ch index sub s) ↔ QueuesBounded s := by
  simp only [readCommand, queuesBounded_ite, queuesBounded_answerRead, rdBounded_dictRead, queuesBounded_beginRequest, ite_self]

/-! ## Dictionary rows (DictRows.lean) -/

theorem queuesBounded_clearPosted (ch : Chan) (s : State) : QueuesBounded (clearPosted ch s) ↔ QueuesBounded s := Iff.rfl

theorem queuesBounded_applyCivil (ch : Chan) (role : Byte) (x : Int) (s : State) :
    QueuesBounded (applyCivil ch role x s) ↔ QueuesBounded s := by
  simp only [applyCivil, queuesBounded_with_aon, queuesBounded_copyToMram, queuesBounded_raise]

theorem queuesBounded_applyPosted (s : State) : QueuesBounded (applyPosted s) ↔ QueuesBounded s := by
  unfold applyPosted
  (repeat' split) <;> simp only [queuesBounded_with_aon, queuesBounded_modPwr, queuesBounded_clearPosted, queuesBounded_applyCivil]

theorem outBounded_execPostedApply (s : State) : OutBounded (execPostedApply s) ↔ QueuesBounded s := by
  simp only [execPostedApply, queuesBounded_ite, ite_self, outBounded_next, queuesBounded_applyPosted]

theorem outBounded_execAllowanceWindow (s : State) : OutBounded (execAllowanceWindow s) ↔ QueuesBounded s := by
  simp only [execAllowanceWindow, queuesBounded_ite, ite_self, outBounded_next, queuesBounded_newDay]

/-! ## SDO transfers (Sdo.lean) -/

theorem queuesBounded_reply (ch : Chan) (d : List Byte) (s : State) : QueuesBounded (reply ch d s) ↔ QueuesBounded s := by
  simp only [reply, queuesBounded_canSend]

theorem queuesBounded_replyWide (ch : Chan) (n : Nat) (d : List Byte) (s : State) :
    QueuesBounded (replyWide ch n d s) ↔ QueuesBounded s := by
  simp only [replyWide, queuesBounded_canSend]

theorem queuesBounded_setXfer (ch : Chan) (x : Xfer) (s : State) : QueuesBounded (setXfer ch x s) ↔ QueuesBounded s := Iff.rfl

theorem queuesBounded_sdoFail (ch : Chan) (index : BitVec 16) (sub : Byte) (code : Code) (s : State) :
    QueuesBounded (sdoFail ch index sub code s) ↔ QueuesBounded s := by
  simp only [sdoFail, queuesBounded_answerAbort, queuesBounded_reply, queuesBounded_setXfer]

theorem queuesBounded_badFrame (ch : Chan) (s : State) : QueuesBounded (badFrame ch s) ↔ QueuesBounded s := by
  simp only [badFrame, queuesBounded_sdoFail]

theorem queuesBounded_sendOrHold (ch : Chan) (index : BitVec 16) (sub : Byte) (frame : CanOut) (before t : State) :
    QueuesBounded (sendOrHold ch index sub frame before t) ↔ QueuesBounded t := by
  unfold sendOrHold
  split <;> simp only [queuesBounded_canSend, queuesBounded_modClk]

/-- R287: a download is complete. -/
theorem queuesBounded_finishDown (ch : Chan) (index : BitVec 16) (sub : Byte) (d : List Byte) (wide : Bool) (ok : List Byte) (s : State)
    (h : QueuesBounded s) : QueuesBounded (finishDown ch index sub d wide ok s) := by
  have write := wrBounded_dictWrite ch index sub d (setXfer ch .none s) h
  unfold finishDown
  dsimp only
  split
  · rw [queuesBounded_sendOrHold, queuesBounded_answerWrite]
    exact write
  · rw [queuesBounded_canSend, queuesBounded_answerWrite]
    exact write

theorem queuesBounded_finishSized (ch : Chan) (index : BitVec 16) (sub : Byte) (size : Option Nat) (d ok : List Byte) (s : State)
    (h : QueuesBounded s) : QueuesBounded (finishSized ch index sub size d ok s) := by
  simp only [finishSized, queuesBounded_ite, queuesBounded_sdoFail, queuesBounded_finishDown ch index sub d false ok s h, h, ite_self]

theorem queuesBounded_withRead (ch : Chan) (index : BitVec 16) (sub : Byte) (k : List Byte → State → State) (s : State)
    (h : QueuesBounded s) (hk : ∀ d t, QueuesBounded t → QueuesBounded (k d t)) : QueuesBounded (withRead ch index sub k s) := by
  have read := (rdBounded_dictRead ch index sub s).mpr h
  unfold withRead
  split <;> rename_i e <;> rw [e] at read
  · exact (queuesBounded_sdoFail ch index sub _ _).mpr read
  · exact hk _ _ read

theorem queuesBounded_initiateDown (ch : Chan) (d : List Byte) (s : State) (h : QueuesBounded s) :
    QueuesBounded (initiateDown ch d s) := by
  unfold initiateDown
  dsimp only
  split
  · exact queuesBounded_finishDown _ _ _ _ _ _ s h
  · exact (queuesBounded_reply _ _ _).mpr h

theorem queuesBounded_segmentDown (ch : Chan) (d : List Byte) (s : State) (h : QueuesBounded s) :
    QueuesBounded (segmentDown ch d s) := by
  unfold segmentDown
  split
  · simp only [queuesBounded_ite, queuesBounded_sdoFail, queuesBounded_finishSized _ _ _ _ _ _ s h, queuesBounded_reply,
      queuesBounded_setXfer,
      h, ite_self]
  · exact (queuesBounded_badFrame ch s).mpr h

theorem queuesBounded_startUp (ch : Chan) (i : BitVec 16) (sub : Byte) (d : List Byte) (s : State) :
    QueuesBounded (startUp ch i sub d s) ↔ QueuesBounded s := by
  simp only [startUp, queuesBounded_ite, ite_self, queuesBounded_reply, queuesBounded_setXfer]

theorem queuesBounded_initiateUp (ch : Chan) (d : List Byte) (s : State) (h : QueuesBounded s) : QueuesBounded (initiateUp ch d s) :=
  queuesBounded_withRead _ _ _ _ s h (fun data t => (queuesBounded_startUp _ _ _ data t).mpr)

theorem queuesBounded_segmentUp (ch : Chan) (d : List Byte) (s : State) : QueuesBounded (segmentUp ch d s) ↔ QueuesBounded s := by
  unfold segmentUp
  split <;> simp only [queuesBounded_ite, ite_self, queuesBounded_reply, queuesBounded_setXfer, queuesBounded_sdoFail,
    queuesBounded_badFrame]

theorem queuesBounded_initiateBlockDown (ch : Chan) (d : List Byte) (s : State) :
    QueuesBounded (initiateBlockDown ch d s) ↔ QueuesBounded s := by
  simp only [initiateBlockDown, queuesBounded_ite, ite_self, queuesBounded_reply, queuesBounded_setXfer, queuesBounded_sdoFail]

theorem queuesBounded_blockSegment (ch : Chan) (d : List Byte) (s : State) : QueuesBounded (blockSegment ch d s) ↔ QueuesBounded s := by
  unfold blockSegment
  split <;> simp only [queuesBounded_ite, ite_self, queuesBounded_reply, queuesBounded_setXfer, queuesBounded_sdoFail,
    queuesBounded_badFrame]

theorem queuesBounded_endBlockDown (ch : Chan) (d : List Byte) (s : State) (h : QueuesBounded s) :
    QueuesBounded (endBlockDown ch d s) := by
  unfold endBlockDown
  split
  · simp only [queuesBounded_ite, queuesBounded_sdoFail, queuesBounded_finishSized _ _ _ _ _ _ s h, h, ite_self]
  · exact (queuesBounded_badFrame ch s).mpr h

theorem queuesBounded_initiateBlockUp (ch : Chan) (d : List Byte) (s : State) (h : QueuesBounded s) :
    QueuesBounded (initiateBlockUp ch d s) := by
  have refused := (queuesBounded_sdoFail ch (frameIndex d) (frameSub d) abUnsupported s).mpr h
  unfold initiateBlockUp
  dsimp only
  split
  · exact (queuesBounded_sdoFail _ _ _ _ s).mpr h
  · split
    · exact refused
    · refine queuesBounded_withRead _ _ _ _ s h (fun data t ht => ?_)
      simp only [queuesBounded_ite, queuesBounded_startUp, refused, queuesBounded_reply, queuesBounded_setXfer, ht, ite_self]

theorem queuesBounded_sendBlock (ch : Chan) (i : BitVec 16) (sub : Byte) (all : List Byte) (sent blk : Nat) (crc : Bool) (s : State) :
    QueuesBounded (sendBlock ch i sub all sent blk crc s) ↔ QueuesBounded s := by
  simp only [sendBlock, queuesBounded_ite, ite_self, implies_true, queuesBounded_foldl, queuesBounded_reply, queuesBounded_setXfer]

theorem queuesBounded_blockUpNext (ch : Chan) (d : List Byte) (s : State) : QueuesBounded (blockUpNext ch d s) ↔ QueuesBounded s := by
  unfold blockUpNext
  split <;> simp only [queuesBounded_ite, ite_self, queuesBounded_setXfer, queuesBounded_sdoFail, queuesBounded_badFrame,
    queuesBounded_sendBlock]

theorem queuesBounded_wideInitDown (ch : Chan) (d : List Byte) (s : State) (h : QueuesBounded s) :
    QueuesBounded (wideInitDown ch d s) := by
  simp only [wideInitDown, queuesBounded_ite, queuesBounded_sdoFail, queuesBounded_finishDown _ _ _ _ _ _ s h, queuesBounded_replyWide,
    queuesBounded_setXfer, h, ite_self]

theorem queuesBounded_wideSegDown (ch : Chan) (d : List Byte) (s : State) (h : QueuesBounded s) :
    QueuesBounded (wideSegDown ch d s) := by
  unfold wideSegDown
  split
  · simp only [queuesBounded_ite, queuesBounded_sdoFail, queuesBounded_finishDown _ _ _ _ _ _ s h, queuesBounded_replyWide,
      queuesBounded_setXfer, h, ite_self]
  · exact (queuesBounded_badFrame ch s).mpr h

theorem queuesBounded_wideInitUp (ch : Chan) (d : List Byte) (s : State) (h : QueuesBounded s) : QueuesBounded (wideInitUp ch d s) := by
  unfold wideInitUp
  dsimp only
  split
  · exact (queuesBounded_sdoFail _ _ _ _ s).mpr h
  · refine queuesBounded_withRead _ _ _ _ s h (fun data t ht => ?_)
    rw [queuesBounded_replyWide, queuesBounded_setXfer]
    exact ht

theorem queuesBounded_wideConfirmed (ch : Chan) (d : List Byte) (s : State) :
    QueuesBounded (wideConfirmed ch d s) ↔ QueuesBounded s := by
  unfold wideConfirmed
  split <;> simp only [queuesBounded_ite, ite_self, queuesBounded_replyWide, queuesBounded_setXfer, queuesBounded_sdoFail,
    queuesBounded_badFrame]

theorem queuesBounded_wideFrame (ch : Chan) (d : List Byte) (s : State) (h : QueuesBounded s) : QueuesBounded (wideFrame ch d s) := by
  have fresh : QueuesBounded (countRequest ch (setXfer ch .none s)) := h
  simp only [wideFrame, queuesBounded_ite, queuesBounded_badFrame, queuesBounded_wideInitDown ch d _ fresh, queuesBounded_wideInitUp ch
    d _ fresh,
    queuesBounded_wideSegDown ch d s h, queuesBounded_wideConfirmed, h, ite_self]

theorem queuesBounded_classicFrame (ch : Chan) (d : List Byte) (s : State) (h : QueuesBounded s) :
    QueuesBounded (classicFrame ch d s) := by
  have fresh : QueuesBounded (countRequest ch (setXfer ch .none s)) := h
  unfold classicFrame
  dsimp only
  split
  · exact (queuesBounded_badFrame ch s).mpr h
  · split
    · exact h
    · split
      · exact (queuesBounded_blockSegment ch d s).mpr h
      · split
        · exact queuesBounded_segmentDown ch d s h
        · exact queuesBounded_initiateDown ch d _ fresh
        · exact queuesBounded_initiateUp ch d _ fresh
        · exact (queuesBounded_segmentUp ch d s).mpr h
        · simp only [queuesBounded_ite, queuesBounded_initiateBlockUp ch d _ fresh, queuesBounded_blockUpNext, h, ite_self]
        · simp only [queuesBounded_ite, queuesBounded_initiateBlockDown, queuesBounded_endBlockDown ch d s h, fresh, ite_self]
        · exact (queuesBounded_badFrame ch s).mpr h

theorem queuesBounded_timedOutBefore (ch : Chan) (s : State) : QueuesBounded (timedOutBefore ch s) ↔ QueuesBounded s := by
  simp only [timedOutBefore, queuesBounded_ite, ite_self, queuesBounded_abortXfer]

/-- R286: whatever frame a channel receives, both queues stay within their capacities. -/
theorem queuesBounded_sdoFrame (ch : Chan) (f : CanFrame) (s : State) (h : QueuesBounded s) : QueuesBounded (sdoFrame ch f s) := by
  have ready : QueuesBounded (modChan ch (fun c => { c with heardAt := s.aon.tally }) (timedOutBefore ch (heard (clearOut s)))) := by
    simp only [queuesBounded_modChan, queuesBounded_timedOutBefore, queuesBounded_heard, queuesBounded_clearOut, h]
  simp only [sdoFrame, queuesBounded_ite, queuesBounded_wideFrame ch _ _ ready, queuesBounded_classicFrame ch _ _ ready, h, ite_self]

theorem outBounded_execSdoTimeout (ch : Chan) (s : State) : OutBounded (execSdoTimeout ch s) ↔ QueuesBounded s := by
  simp only [execSdoTimeout, queuesBounded_ite, ite_self, outBounded_next, queuesBounded_modChan, queuesBounded_clearOut,
    queuesBounded_countAbort, queuesBounded_abortXfer]

/-! ## A cycle of SLOW (Tick.lean) -/

theorem queuesBounded_readEchoes (before : Nat) (s : State) : QueuesBounded (readEchoes before s) ↔ QueuesBounded s := by
  unfold readEchoes
  split
  · rfl
  · refine queuesBounded_forPorts _ (fun p t => ?_) s
    split <;> rfl

theorem queuesBounded_lanePllStep (p : PortId) (s : State) : QueuesBounded (lanePllStep p s) ↔ QueuesBounded s := by
  simp only [lanePllStep, queuesBounded_ite, ite_self, queuesBounded_modClk]

/-- R335: a SLOW cycle. -/
theorem queuesBounded_tick (s : State) : QueuesBounded (tick s) ↔ QueuesBounded s := by
  have plls (t : State) := queuesBounded_forPorts _ queuesBounded_lanePllStep t
  unfold tick
  split
  · rfl
  · simp only [queuesBounded_readEchoes, queuesBounded_finishReturn, queuesBounded_takeShadow, queuesBounded_copyToMram, plls]
    rfl

/-! ## The commands -/

/-- What happens on one port's line, lane, training, sieve or seal adds events to the commit queue alone, and none past its capacity:
  one
line for each row of `lineCommand`, in its order. -/
theorem outBounded_lineCommand {c : Instr} {p : PortId} {s : State} (hc : lineCommand c = some p) (h : QueuesBounded s) :
    OutBounded (exec c s) := by
  unfold lineCommand at hc
  split at hc <;> cases hc
  · exact (outBounded_execLaunchSlot ..).mpr h
  · exact (outBounded_execDataShingle ..).mpr h
  · exact (outBounded_execUncorrectableSlot ..).mpr h
  · exact (outBounded_execIdle ..).mpr h
  · exact (outBounded_execNak ..).mpr h
  · exact (outBounded_execLpiEntry ..).mpr h
  · exact (outBounded_execLpiExit ..).mpr h
  · exact (outBounded_execSleepRequest ..).mpr h
  · exact (outBounded_execSleepAck ..).mpr h
  · exact (outBounded_execSleepReject ..).mpr h
  · exact outBounded_of_iff (queuesBounded_onBeacon ..) h
  · exact outBounded_of_iff (queuesBounded_onBeacon ..) h
  · exact (outBounded_execRequest ..).mpr h
  · exact (outBounded_execAccept ..).mpr h
  · exact (outBounded_execRefuse _ ‹_› _ _ _ s).mpr h
  · exact (outBounded_execMark ..).mpr h
  · exact (outBounded_execReceiveEpoch ..).mpr h
  · exact outBounded_of_iff (queuesBounded_modLine ..) h
  · exact outBounded_of_iff (queuesBounded_mcRetry ..) h
  · exact outBounded_of_iff (queuesBounded_mcPrepared ..) h
  · exact (outBounded_execAutoDownshiftWindow ..).mpr h
  · exact (outBounded_execReplayTimer ..).mpr h
  · exact (outBounded_execNakRepeat ..).mpr h
  · exact outBounded_of_iff (queuesBounded_passLoss ..) h
  · exact (outBounded_execHostFrameStart ..).mpr h
  · exact (outBounded_execHostFrameData ..).mpr h
  · exact outBounded_of_iff (queuesBounded_frameEnd ..) h
  · exact (outBounded_execHtxFrameBoundary ..).mpr h
  · exact (outBounded_execPfcRepeat ..).mpr h
  · exact (outBounded_execHostLaneDown ..).mpr h
  · exact (outBounded_execHostLpiBegin ..).mpr h
  · exact (outBounded_execHostLpiEnd ..).mpr h
  · exact (outBounded_execHostIdleTimeout ..).mpr h
  · exact (outBounded_execLpiEnter ..).mpr h
  · exact (outBounded_execLpiRefresh ..).mpr h
  · exact (outBounded_execEnergyDetect ..).mpr h
  · exact (outBounded_execLpiFalseWake ..).mpr h
  · exact (outBounded_execLpiRefreshMissed ..).mpr h
  · exact (outBounded_execLockLoss ..).mpr h
  · exact outBounded_of_iff (queuesBounded_adapt ..) h
  · exact (outBounded_execSnapshotWindowEnd ..).mpr h
  · exact (outBounded_execSnapshotServe ..).mpr h
  · exact (outBounded_execXtalkJoinDone ..).mpr h
  · exact (outBounded_execXtalkJoinRetry ..).mpr h
  · exact (outBounded_execAutonegStart ..).mpr h
  · exact outBounded_of_iff (queuesBounded_autonegResolve ..) h
  · exact (outBounded_execClause98Pages ..).mpr h
  · exact (outBounded_execStartCandidate ..).mpr h
  · exact outBounded_of_iff (queuesBounded_startConfirmed ..) h
  · exact (outBounded_execFalseStart ..).mpr h
  · exact (outBounded_execPreEmption ..).mpr h
  · exact outBounded_of_iff (queuesBounded_exitCriterion ..) h
  · exact (outBounded_execPeriodBoundary ..).mpr h
  · exact outBounded_of_iff (queuesBounded_phaseLimitExpiry ..) h
  · exact outBounded_of_iff (queuesBounded_chooseAndBegin ..) h
  · exact outBounded_of_iff (queuesBounded_reloadDone ..) h
  · exact outBounded_of_iff (queuesBounded_echoCheck ..) h
  · exact outBounded_of_iff (queuesBounded_fastLimit ..) h
  · exact (outBounded_execEpisodeLimit ..).mpr h
  · exact (outBounded_execSleepWaitTimeout ..).mpr h
  · exact (outBounded_execWakePulseDone ..).mpr h
  · exact (outBounded_execInterruptionEnd ..).mpr h
  · exact (outBounded_execHostInCorruption ..).mpr h
  · exact (outBounded_execHostOutCorruption ..).mpr h
  · exact (outBounded_execProvocationEpisodeEnd ..).mpr h
  · exact (outBounded_execCaptureTimeout ..).mpr h
  · exact (outBounded_execChainStart ..).mpr h
  · exact (outBounded_execSealWindowEnd ..).mpr h
  · exact outBounded_of_iff (queuesBounded_rootWindow ..) h
  · exact (outBounded_execStandardUp ..).mpr h
  · exact outBounded_of_iff (queuesBounded_stdFail ..) h
  · exact (outBounded_execStandardPcsFrame ..).mpr h
  · exact outBounded_of_iff (queuesBounded_leaderSilent ..) h

/-- R311, R330: a command other than a VIN dip keeps both queues within their capacities. -/
theorem outBounded_exec (c : Instr) (s : State) (hc : c ≠ .vinDip) (h : QueuesBounded s) : OutBounded (exec c s) := by
  cases hp : lineCommand c with
  | some p => exact outBounded_lineCommand hp h
  | none =>
    cases c
    case snapshotGo | neighbourMaskWrite | retrainGo | restartAnGo | sleepGo | wakeGo | adminDisable | adminEnable | modeMaskWrite |
      targetModeWrite | rollCallDownshiftOne | rollCallSetMode | rollCallLpiEnable | rollCallLpiDisable | armDrop | armCorrupt |
      armSwap | armInterrupt | armHostIn | armHostOut | disarmAllGo | thresholdsWrite | captureLineGo | captureProbeGo |
      ackTamperGo | sealEnable | sealDisable | genericWrite | eventClear | counterZero | postedWrite | civilStep | canBitRateWrite |
      cobIdWrite | profileSelect | authResponse | sessionEndWrite | ownersWrite | gateSet | gateClear | configLock | resetRequest |
      clearGo | ctlSourceWrite | slowSourceWrite | clkoutSelectWrite | clkoutDivideWrite | powerRequestBoil | powerRequestSimmer |
      powerRequestRest | lifecycleRequestSealed | lifecycleRequestReturned | lifecycleRequestEnded | returnTokenWrite | timebaseGo |
      levelsGo | lengthGo | selfTestGo | recipeImageWrite =>
      exact outBounded_of (queuesBounded_dictCommand _ _ _ _ s h)
    case sdoInitiateDownload | sdoDownloadSegment | sdoInitiateUpload | sdoUploadSegment | sdoBlockDownload | sdoBlockUpload |
      sdoAbort | wideInitiateDownload | wideInitiateUpload | wideSegment | wideConfirm =>
      exact outBounded_of (queuesBounded_sdoFrame _ _ s h)
    case ledgerEntryRead | authNonceRead | recordDataRead | recordBatchRead =>
      exact outBounded_of_iff (queuesBounded_readCommand ..) h
    case hostLaneUp => exact (outBounded_execHostLaneUp ..).mpr h
    case lineWake => exact (outBounded_execLineWake ..).mpr h
    case rollCallApply => exact outBounded_of_iff (queuesBounded_rollApply ..) h
    case signatureComparison => exact outBounded_of_iff (queuesBounded_comparisonWindow ..) h
    case probeRun => exact (outBounded_execProbeRun ..).mpr h
    case probeRepeat => exact (outBounded_execProbeRepeat ..).mpr h
    case simmerProbeWake => exact (outBounded_execSimmerProbeWake ..).mpr h
    case sdoTimeout => exact (outBounded_execSdoTimeout ..).mpr h
    case postedApply => exact (outBounded_execPostedApply ..).mpr h
    case allowanceWindow => exact (outBounded_execAllowanceWindow ..).mpr h
    case bitrateReverted => exact (outBounded_execBitrateReverted ..).mpr h
    case nonceExpiry => exact (outBounded_execNonceExpiry ..).mpr h
    case authLockoutEnd => exact (outBounded_execAuthLockoutEnd ..).mpr h
    case sessionExpiry => exact (outBounded_execSessionExpiry ..).mpr h
    case nmtStart => exact outBounded_of_iff (queuesBounded_nmtEnter ..) h
    case nmtPreOperational => exact outBounded_of_iff (queuesBounded_nmtEnter ..) h
    case nmtStop => exact outBounded_of_iff (queuesBounded_nmtEnter ..) h
    case nmtResetCommunication => exact outBounded_of_iff (queuesBounded_nmtReset ..) h
    case nmtResetNode => exact outBounded_of_iff (queuesBounded_nmtReset ..) h
    case heartbeat => exact (outBounded_execHeartbeat ..).mpr h
    case emcySend => exact outBounded_execEmcySend s h
    case busOff => exact (outBounded_execBusOff ..).mpr h
    case gateOpenComplete => exact outBounded_of_iff (queuesBounded_gateOpenComplete ..) h
    case gateCloseComplete => exact outBounded_of_iff (queuesBounded_gateCloseComplete ..) h
    case eventRaise => exact (outBounded_execEventRaise ..).mpr h
    case recordCommit => exact outBounded_of (queuesBounded_commitNext s h)
    case recorderRecovered => exact outBounded_of_iff (queuesBounded_recoverAttempt ..) h
    case tallyCheckpoint => exact (outBounded_execTallyCheckpoint ..).mpr h
    case crockScanEnd => exact outBounded_of (queuesBounded_scanEnd _ s h)
    case crystalStable => exact outBounded_of_iff (queuesBounded_crystalStable ..) h
    case pllLock => exact outBounded_of_iff (queuesBounded_pllLock ..) h
    case pllLockTimeout => exact (outBounded_execPllLockTimeout ..).mpr h
    case crystalTimeout => exact outBounded_of_iff (queuesBounded_crystalTimeout ..) h
    case crystalRestart => exact (outBounded_execCrystalRestart ..).mpr h
    case refFailed => exact (outBounded_execRefFailed ..).mpr h
    case pllUnlocked => exact (outBounded_execPllUnlocked ..).mpr h
    case hostLanePllFailed => exact (outBounded_execHostLanePllFailed ..).mpr h
    case coldSwitch => exact outBounded_execColdSwitch _ _ s h
    case warmSwitchDone => exact (outBounded_execWarmSwitchDone ..).mpr h
    case clockReturn => exact (outBounded_execClockReturn ..).mpr h
    case rcRetrim => exact (outBounded_execRcRetrim ..).mpr h
    case powerOnReset => exact outBounded_execPowerOnReset _ s h
    case resetNAssert => exact outBounded_execResetNAssert s h
    case resetNRelease => exact outBounded_execResetNRelease s h
    case powerOnCheckEnd => exact (outBounded_execPowerOnCheckEnd ..).mpr h
    case rollbackBurn => exact outBounded_of_iff (queuesBounded_burnRollback ..) h
    case fuseBurnVerify => exact outBounded_execFuseBurnVerify _ s h
    case pointOfNoReturn => exact (outBounded_execPointOfNoReturn ..).mpr h
    case entryTimeout => exact (outBounded_execEntryTimeout ..).mpr h
    case entryComplete => exact outBounded_execEntryComplete s h
    case canWakePattern => exact outBounded_of_iff (queuesBounded_wakeEvent ..) h
    case wakeIn => exact (outBounded_execWakeIn ..).mpr h
    case powerReturnDone => exact (outBounded_execPowerReturnDone ..).mpr h
    case sensorConversion => exact (outBounded_execSensorConversion ..).mpr h
    case throttleStage2Check => exact outBounded_of_iff (queuesBounded_stageTwo ..) h
    case thermalShutdown => exact outBounded_execThermalShutdown _ _ s h
    case thermalRestart => exact outBounded_execThermalRestart s h
    case calibrationMeasurement => exact outBounded_of_iff (queuesBounded_calMeasured ..) h
    case calibrationTimeout => exact (outBounded_execCalibrationTimeout ..).mpr h
    case bayTestDone => exact (outBounded_execBayTestDone ..).mpr h
    case errorPassive => exact (outBounded_execErrorPassive ..).mpr h
    case vinFails => exact outBounded_execVinFails _ s h
    case crystalFrequencyCheckFail => exact (outBounded_execCrystalFrequencyCheckFail ..).mpr h
    case tapInstructionLoad => exact outBounded_of_iff (queuesBounded_loadTap ..) h
    case trstNLow => exact (outBounded_execTrstNLow ..).mpr h
    case vinDip => exact absurd rfl hc
    all_goals cases hp

/-- Settles O4: each command keeps the bounds, and so does the SLOW cycle of an empty queue. -/
theorem queuesStayBounded : Obligations.QueuesStayBounded := by
  unfold Obligations.QueuesStayBounded
  intro s t h hdip ht
  unfold step at ht
  split at ht
  · cases ht
    exact (queuesBounded_tick s).mpr h
  next c rest e => exact outBounded_exec c { s with pending := rest } (fun hc => hdip rest (by rw [e, hc])) h t ht

end Sys2Proof.Machine
end

section
/-! PROOF. What a step does: it runs the command at the front of the queue, and on an empty queue one SLOW cycle passes (R335). -/

namespace Sys2Proof.Machine

/-- R345, R360: what one SLOW cycle ends among the clocks. -/
theorem retrimOver_eq (k : Clocks) :
    retrimOver k = { k with clkHold := false, retrim := false, rc := if k.retrim then .running else k.rc } := by
  unfold retrimOver
  cases k.retrim <;> simp

theorem tick_off {s : State} (h : s.pwr.on = false) : tick s = s := by simp [tick, h]

theorem tick_on {s : State} (h : s.pwr.on = true) :
    tick s = readEchoes s.aon.tally (finishReturn (takeShadow (copyToMram (forPorts lanePllStep
      { advanceTally s with hashWork := hashRun hashPerTick s.hashWork, clk := retrimOver s.clk })))) := by
  simp [tick, h, advanceTally]

theorem step_empty {s : State} (h : s.pending = []) : step s = .next (tick s) := by simp [step, h]

theorem step_front {s : State} {c : Instr} {rest : List Instr} (h : s.pending = c :: rest) :
    step s = exec c { s with pending := rest } := by simp [step, h]

/-- Settles O1: the front command, the SLOW cycle, and what its last parts leave. -/
theorem stepRunsFrontCommand : Obligations.StepRunsFrontCommand := by
  unfold Obligations.StepRunsFrontCommand
  refine ⟨⟨fun c s => step_front rfl, fun c rest s h => step_front h⟩, fun s h => ⟨fun off => ?_, fun on => ?_⟩,
    fun s => ⟨rfl, rfl, fun h => if_neg fun both => ?_⟩⟩
  · rw [step_empty h, tick_off off]
  · rw [step_empty h, tick_on on, retrimOver_eq]
    rfl
  · exact h.elim (· both.1) (· both.2)

end Sys2Proof.Machine
end

section
/-! PROOF. The transfers of the dictionary server (R286 to R293): what a frame does before its effect, the bytes of its initiate frames,
which function a command byte leads to, and the effects of the classical and the wide frames. -/

namespace Sys2Proof.Machine

section
variable {s t : State} {ch : Chan} {i : BitVec 16} {sub : Byte}

/-! ## Around a frame's effect -/

theorem modChan_modChan (ch : Chan) (f g : Channel → Channel) (s : State) :
    modChan ch f (modChan ch g s) = modChan ch (fun c => f (g c)) s := by
  simp [modChan]

/-- R281, R288: a frame of a served channel whose transfer has not timed out. -/
theorem timedOutBefore_inTime (srv : served s ch = true) (time : inTime s ch = true) :
    modChan ch (fun c => { c with heardAt := s.aon.tally }) (timedOutBefore ch (heard (clearOut s))) = framed ch s := by
  rw [served_heard (clearOut s) ch srv, timedOutBefore]
  split
  next late =>
    have none : xferTarget s.chans[ch].xfer = none := by
      simp only [inTime, Bool.or_eq_true, Option.isNone_iff_eq_none, decide_eq_true_eq] at time
      exact time.resolve_right (Nat.not_le.mpr late)
    have open_ : abortXfer ch 0x05040000 { clearOut s with can := { (clearOut s).can with goodFrame := true } }
        = { clearOut s with can := { (clearOut s).can with goodFrame := true } } := by
      unfold abortXfer
      split
      · rfl
      next e => cases none.symm.trans e
    rw [open_]
    rfl
  · rfl

theorem sdoFrame_classic (srv : served s ch = true) (time : inTime s ch = true) (d : List Byte) :
    sdoFrame ch { fd := false, data := d } s = classicFrame ch d (framed ch s) := by
  simp only [sdoFrame, srv, if_true, timedOutBefore_inTime srv time, Bool.false_eq_true, if_false]

theorem sdoFrame_wide (srv : served s ch = true) (time : inTime s ch = true) {f : CanFrame} (fd : f.fd = true) :
    sdoFrame ch f s = wideFrame ch f.data (framed ch s) := by
  simp only [sdoFrame, srv, if_true, timedOutBefore_inTime srv time, fd]

theorem framed_chan : (framed ch s).chans[ch] = { s.chans[ch] with heardAt := s.aon.tally } := by
  simp [framed]

theorem xfer_framed : (framed ch s).chans[ch].xfer = s.chans[ch].xfer := by rw [framed_chan]

theorem newProfile_framed : newProfile (framed ch s) ch = newProfile s ch := by rw [newProfile, framed_chan]; rfl

theorem chan_setXfer (x : Xfer) : (setXfer ch x s).chans[ch] = { s.chans[ch] with xfer := x } := by
  simp [setXfer]

/-- R288: an initiate frame ends the open transfer and counts. -/
theorem countRequest_framed : countRequest ch (setXfer ch .none (framed ch s)) = requested ch (framed ch s) := by
  have heard : { framed ch s with can := { (framed ch s).can with goodFrame := true } } = framed ch s := rfl
  rw [requested, heard, countRequest, setXfer, modChan_modChan]

theorem setXfer_requested : setXfer ch .none (requested ch s) = requested ch s := by
  simp only [setXfer, requested, modChan_modChan]

/-- R314, R356: a served channel's transmitter may drive the bus. -/
theorem busDriven_of_served (srv : served s ch = true) : busDriven s = true := by
  simp only [served, Bool.and_eq_true] at srv
  obtain ⟨⟨⟨⟨⟨⟨on, reset⟩, shut⟩, boil⟩, clocked⟩, -⟩, -⟩ := srv
  simp_all [busDriven, deviceHeld]

theorem canSend_driven (o : CanOut) (h : busDriven s = true) :
    canSend o s = { s with can := { s.can with out := s.can.out ++ [o] } } := if_pos h

theorem canSend_chans (o : CanOut) (s : State) : (canSend o s).chans = s.chans := by unfold canSend; split <;> rfl

theorem canSend_ports (o : CanOut) (s : State) : (canSend o s).ports = s.ports := by unfold canSend; split <;> rfl

theorem canSend_aon (o : CanOut) (s : State) : (canSend o s).aon = s.aon := by unfold canSend; split <;> rfl

theorem busDriven_canSend (o : CanOut) (s : State) : busDriven (canSend o s) = busDriven s := by
  unfold canSend
  split <;> rfl

/-- R292: what a frame that aborts leaves, on a channel whose transmitter may drive the bus. -/
theorem sdoFail_driven (h : busDriven s = true) (c : Code) :
    sdoFail ch i sub c s = { answerAbort ch c (setXfer ch .none s) with
      can := { s.can with out := s.can.out ++ [chanFrame s ch false (abortFrame i sub c)] } } := by
  have driven : busDriven (answerAbort ch c (setXfer ch .none s)) = true := h
  exact canSend_driven _ driven

theorem answerAbort_chan (c : Code) :
    (answerAbort ch c s).chans[ch].xfer = s.chans[ch].xfer ∧ (answerAbort ch c s).chans[ch].resp = .abort c := by
  simp [answerAbort, countAbort]

/-- R292: a frame that aborts ends the transfer, answers the code, and sends its abort frame; outside the channel nothing else changes. -/
theorem sdoFail_framed (srv : served s ch = true) (c : Code) :
    (sdoFail ch i sub c (framed ch s)).chans[ch].xfer = .none
    ∧ (sdoFail ch i sub c (framed ch s)).chans[ch].resp = .abort c
    ∧ (sdoFail ch i sub c (framed ch s)).can.out = [chanFrame s ch false (abortFrame i sub c)] := by
  have driven : busDriven (framed ch s) = true := busDriven_of_served srv
  rw [sdoFail_driven driven]
  refine ⟨?_, ?_, rfl⟩
  · exact (answerAbort_chan c).1.trans (congrArg Channel.xfer (chan_setXfer .none))
  · exact (answerAbort_chan c).2

theorem sdoFail_device (srv : served s ch = true) (c : Code) :
    (sdoFail ch i sub c (framed ch s)).ports = s.ports ∧ (sdoFail ch i sub c (framed ch s)).crock = s.crock
    ∧ (sdoFail ch i sub c (framed ch s)).gate = s.gate ∧ (sdoFail ch i sub c (framed ch s)).fus = s.fus
    ∧ (sdoFail ch i sub c (framed ch s)).clk = s.clk ∧ (sdoFail ch i sub c (framed ch s)).aon = s.aon
    ∧ (sdoFail ch i sub c (framed ch s)).pwr = s.pwr := by
  have driven : busDriven (framed ch s) = true := busDriven_of_served srv
  rw [sdoFail_driven driven]
  simp [answerAbort, countAbort, setXfer, framed]

/-! ## The bytes of an initiate frame -/

section
variable (b : Byte) (y : List Byte)

theorem length_muxBytes : (muxBytes i sub).length = 3 := rfl

theorem command_initFrame : ([b] ++ muxBytes i sub ++ y).getD 0 0 = b := rfl

theorem length_initFrame : ([b] ++ muxBytes i sub ++ y).length = y.length + 4 := by
  simp only [List.length_append, length_muxBytes, List.length_singleton]
  omega

theorem frameIndex_initFrame : frameIndex ([b] ++ muxBytes i sub ++ y) = i := by
  have value : leVal (leBytes 2 i.toNat) = i.toNat := leVal_leBytes 2 _ i.isLt
  exact (congrArg (BitVec.ofNat 16) value).trans (BitVec.ofNat_toNat 16 i |>.trans (BitVec.setWidth_eq i))

theorem frameSub_initFrame : frameSub ([b] ++ muxBytes i sub ++ y) = sub := rfl

theorem slice_initFrame (n : Nat) : slice ([b] ++ muxBytes i sub ++ y) 4 n = y.take n := rfl

theorem length_leBytes (n v : Nat) : (leBytes n v).length = n := by
  induction n generalizing v with
  | zero => rfl
  | succ n ih => rw [leBytes, List.length_cons, ih]

/-- The size behind the multiplexer, where 4 bytes of size follow it. -/
theorem size_initFrame {n : Nat} (h : n < 2 ^ 32) : leVal (slice ([b] ++ muxBytes i sub ++ (leBytes 4 n ++ y)) 4 4) = n := by
  rw [slice_initFrame, List.take_append_of_le_length (by rw [length_leBytes]), List.take_of_length_le (by rw [length_leBytes])]
  exact leVal_leBytes 4 n h

theorem data_initFrame {n : Nat} (k : Nat) : slice ([b] ++ muxBytes i sub ++ (leBytes 4 n ++ y)) 8 k = y.take k := rfl

end

/-- A frame shorter than its length is padded with zeros. -/
theorem padTo_append {n : Nat} {d : List Byte} (h : d.length ≤ n) : padTo n d = d ++ List.replicate (n - d.length) 0 := by
  rw [padTo, List.take_append, List.take_of_length_le h, List.take_replicate, Nat.min_eq_left (Nat.sub_le ..)]

theorem padTo_full {n : Nat} {d : List Byte} (h : d.length = n) : padTo n d = d := by
  rw [padTo_append h.le, h, Nat.sub_self, List.replicate_zero, List.append_nil]

theorem length_abortFrame (c : Code) : (abortFrame i sub c).length = 8 := rfl

/-! ## Which frame a command byte stands for -/

theorem ne_abort_of_kind {b : Byte} {k : Nat} (kind : bitsAt b 5 3 = k) (h : k ≠ 4) : b ≠ 0x80 := by
  rintro rfl
  exact h kind.symm

section
variable {b : Byte} {y : List Byte} (len : (b :: y).length = 8)
include len

section
variable (block : inBlock s.chans[ch].xfer = false)
include block

theorem classicFrame_segmentDown (kind : bitsAt b 5 3 = 0) : classicFrame ch (b :: y) s = segmentDown ch (b :: y) s := by
  have hb := ne_abort_of_kind kind (by decide)
  simp only [classicFrame, len, ne_eq, not_true_eq_false, if_false, hb, block, Bool.false_eq_true, List.getD_cons_zero, kind]

theorem classicFrame_initiateDown (kind : bitsAt b 5 3 = 1) :
    classicFrame ch (b :: y) s = initiateDown ch (b :: y) (countRequest ch (setXfer ch .none s)) := by
  have hb := ne_abort_of_kind kind (by decide)
  simp only [classicFrame, len, ne_eq, not_true_eq_false, if_false, hb, block, Bool.false_eq_true, List.getD_cons_zero, kind]

theorem classicFrame_initiateUp (kind : bitsAt b 5 3 = 2) :
    classicFrame ch (b :: y) s = initiateUp ch (b :: y) (countRequest ch (setXfer ch .none s)) := by
  have hb := ne_abort_of_kind kind (by decide)
  simp only [classicFrame, len, ne_eq, not_true_eq_false, if_false, hb, block, Bool.false_eq_true, List.getD_cons_zero, kind]

theorem classicFrame_segmentUp (kind : bitsAt b 5 3 = 3) : classicFrame ch (b :: y) s = segmentUp ch (b :: y) s := by
  have hb := ne_abort_of_kind kind (by decide)
  simp only [classicFrame, len, ne_eq, not_true_eq_false, if_false, hb, block, Bool.false_eq_true, List.getD_cons_zero, kind]

theorem classicFrame_initiateBlockUp (kind : bitsAt b 5 3 = 5) (initiate : bitsAt b 0 2 = 0) :
    classicFrame ch (b :: y) s = initiateBlockUp ch (b :: y) (countRequest ch (setXfer ch .none s)) := by
  have hb := ne_abort_of_kind kind (by decide)
  simp only [classicFrame, len, ne_eq, not_true_eq_false, if_false, hb, block, Bool.false_eq_true, List.getD_cons_zero, kind, initiate,
    if_true]

theorem classicFrame_blockUpNext (kind : bitsAt b 5 3 = 5) (next : bitsAt b 0 2 ≠ 0) :
    classicFrame ch (b :: y) s = blockUpNext ch (b :: y) s := by
  have hb := ne_abort_of_kind kind (by decide)
  simp only [classicFrame, len, ne_eq, not_true_eq_false, if_false, hb, block, Bool.false_eq_true, List.getD_cons_zero, kind, next]

theorem classicFrame_initiateBlockDown (kind : bitsAt b 5 3 = 6) (initiate : bitsAt b 0 1 = 0) :
    classicFrame ch (b :: y) s = initiateBlockDown ch (b :: y) (countRequest ch (setXfer ch .none s)) := by
  have hb := ne_abort_of_kind kind (by decide)
  simp only [classicFrame, len, ne_eq, not_true_eq_false, if_false, hb, block, Bool.false_eq_true, List.getD_cons_zero, kind, initiate,
    if_true]

end

/-- R289: while segments of a block are awaited, every frame but an abort is one. -/
theorem classicFrame_blockSegment (block : inBlock s.chans[ch].xfer = true) (hb : b ≠ 0x80) :
    classicFrame ch (b :: y) s = blockSegment ch (b :: y) s := by
  simp only [classicFrame, len, ne_eq, not_true_eq_false, if_false, List.getD_cons_zero, hb, block, if_true]

end

theorem classicFrame_abort {y : List Byte} (len : y.length = 7) : classicFrame ch (0x80 :: y) s = setXfer ch .none s := by
  simp only [classicFrame, List.length_cons, len, ne_eq, not_true_eq_false, if_false, List.getD_cons_zero, if_true]

/-! A wide frame's kind and direction are its command byte's bits 7 to 2. -/

section
variable {b : Byte} {y : List Byte} (new : newProfile s ch = true)
include new

theorem wideFrame_wideInitDown (kind : b.toNat / 4 = 56) (len : (b :: y).length = 64) :
    wideFrame ch (b :: y) s = wideInitDown ch (b :: y) (countRequest ch (setXfer ch .none s)) := by
  have bits : bitsAt b 5 3 = 7 ∧ bitsAt b 3 2 = 0 ∧ bitsAt b 2 1 = 0 := by unfold bitsAt; omega
  obtain ⟨wide, init, down⟩ := bits
  simp only [wideFrame, List.getD_cons_zero, wide, init, down, new, len]
  rfl

theorem wideFrame_wideInitUp (kind : b.toNat / 4 = 57) (len : (b :: y).length = 8) :
    wideFrame ch (b :: y) s = wideInitUp ch (b :: y) (countRequest ch (setXfer ch .none s)) := by
  have bits : bitsAt b 5 3 = 7 ∧ bitsAt b 3 2 = 0 ∧ bitsAt b 2 1 = 1 := by unfold bitsAt; omega
  obtain ⟨wide, init, up⟩ := bits
  simp only [wideFrame, List.getD_cons_zero, wide, init, up, new, len]
  rfl

theorem wideFrame_wideSegDown (kind : b.toNat / 4 = 58) (len : (b :: y).length = 64) :
    wideFrame ch (b :: y) s = wideSegDown ch (b :: y) s := by
  have bits : bitsAt b 5 3 = 7 ∧ bitsAt b 3 2 = 1 ∧ bitsAt b 2 1 = 0 := by unfold bitsAt; omega
  obtain ⟨wide, segment, down⟩ := bits
  simp only [wideFrame, List.getD_cons_zero, wide, segment, down, new, len]
  rfl

theorem wideFrame_wideConfirmed (kind : b.toNat / 4 = 61) (len : (b :: y).length = 8) :
    wideFrame ch (b :: y) s = wideConfirmed ch (b :: y) s := by
  have bits : bitsAt b 5 3 = 7 ∧ bitsAt b 3 2 = 2 ∧ bitsAt b 2 1 = 1 := by unfold bitsAt; omega
  obtain ⟨wide, confirm, up⟩ := bits
  simp only [wideFrame, List.getD_cons_zero, wide, confirm, up, new, len]
  rfl

end

/-- R293: no wide frame is known in profile 1.0. -/
theorem wideFrame_oldProfile (old : newProfile s ch = false) (d : List Byte) : wideFrame ch d s = badFrame ch s := by
  simp only [wideFrame, old, or_true, if_true]

end

/-- Settles O60: the frame ends as one that stands for no command, with its abort frame. -/
theorem wideFramesNeedProfile11 : Obligations.WideFramesNeedProfile11 := by
  unfold Obligations.WideFramesNeedProfile11
  intro s ch f srv time profile fd i hi
  have old : newProfile (framed ch s) ch = false := by
    rw [newProfile_framed, newProfile, profile]
    rfl
  have frame : sdoFrame ch f s = badFrame ch (framed ch s) := by rw [sdoFrame_wide srv time fd, wideFrame_oldProfile old]
  have runs : exec i s = .next (sdoFrame ch f s) := by
    simp only [List.mem_cons, List.not_mem_nil, or_false] at hi
    rcases hi with rfl | rfl | rfl | rfl <;> rfl
  obtain ⟨-, resp, out⟩ := sdoFail_framed (i := 0) (sub := 0) srv 0x05040001
  obtain ⟨ports, crock, gate, fus, clk, aon, pwr⟩ := sdoFail_device (i := 0) (sub := 0) srv 0x05040001
  exact ⟨sdoFail ch 0 0 0x05040001 (framed ch s), by rw [runs, frame, badFrame], resp, out, ports, crock, gate, fus, clk, aon, pwr⟩

end Sys2Proof.Machine
end

section
/-! PROOF. Wide-segment transfers (R290 to R292): initiate frames, segments and confirmations of profile 1.1. -/

namespace Sys2Proof.Machine

section
variable {s t : State} {ch : Chan} {i : BitVec 16} {sub : Byte} {x : List Byte} {size : Nat}

/-! ## Answers -/

/-- R287: an answer that waits for no switch of a clock domain is sent. -/
theorem sendOrHold_sends {before : State} {frame : CanOut} (h : t.clk.pending.length ≤ before.clk.pending.length) :
    sendOrHold ch i sub frame before t = canSend frame t := by
  rw [sendOrHold, List.drop_eq_nil_of_le h]
  rfl

/-- R287: a download that passes is answered by its confirmation, on the COB-ID in use before. -/
theorem finishDown_ok {d : List Byte} {wide : Bool} {ok : List Byte} (w : dictWrite ch i sub d (setXfer ch .none s) = .ok t)
    (h : t.clk.pending.length ≤ s.clk.pending.length) :
    finishDown ch i sub d wide ok s = canSend (chanFrame s ch wide (padTo 8 ok)) (answered ch t) := by
  have sends : (answered ch t).clk.pending.length ≤ (setXfer ch .none s).clk.pending.length := h
  rw [finishDown, w]
  exact sendOrHold_sends sends

/-- What a read that succeeds hands to the frame it answers. -/
theorem withRead_ok {k : List Byte → State → State} {v : List Byte} (r : dictRead ch i sub s = .ok (v, t)) :
    withRead ch i sub k s = k v (answeredData ch v t) := by
  rw [withRead, r]
  rfl

theorem replyWide_pad (n : Nat) (d : List Byte) (h : d.length ≤ n) :
    replyWide ch n d s = canSend (chanFrame s ch true (d ++ List.replicate (n - d.length) 0)) s := by
  rw [replyWide, padTo_append h]

theorem replyWide_full (n : Nat) (d : List Byte) (h : d.length = n) : replyWide ch n d s = canSend (chanFrame s ch true d) s := by
  rw [replyWide, padTo_full h]

theorem length_wideConfirmOf (b : Byte) : (wideConfirmOf b i sub).length = 4 := rfl

/-- A confirmation, padded to its 8 bytes. -/
theorem padTo_confirm (a : Byte) : padTo 8 ([a] ++ muxBytes i sub) = [a] ++ muxBytes i sub ++ [0, 0, 0, 0] :=
  padTo_append (d := [a] ++ muxBytes i sub) (by decide : 4 ≤ 8)

/-- R292: an initiate frame that aborts. -/
theorem sdoFail_requested (srv : served s ch = true) (c : Code) :
    (sdoFail ch i sub c (requested ch (framed ch s))).chans[ch].resp = .abort c
    ∧ (sdoFail ch i sub c (requested ch (framed ch s))).ports = s.ports
    ∧ (sdoFail ch i sub c (requested ch (framed ch s))).aon = s.aon := by
  have driven : busDriven (requested ch (framed ch s)) = true := busDriven_of_served srv
  rw [sdoFail_driven driven]
  refine ⟨(answerAbort_chan c).2, ?_⟩
  simp [answerAbort, countAbort, setXfer, requested, framed]

/-! ## Downloads -/

theorem wideInitDown_segmented (long : 56 < size) (room : size ≤ 1048576) (hx : x.length = 56) :
    wideInitDown ch ([0xE0] ++ muxBytes i sub ++ (leBytes 4 size ++ x)) s
      = canSend (chanFrame s ch true ([0xF0] ++ muxBytes i sub ++ [0, 0, 0, 0])) (setXfer ch (.wideDown i sub size x false) s) := by
  have fits : ¬ (size < 1 ∨ 1048576 < size ∨ false ≠ decide (size ≤ wideFirst)) := by
    have flag : decide (size ≤ wideFirst) = false := decide_eq_false (Nat.not_le.mpr long)
    simp only [flag, ne_eq, not_true_eq_false, or_false]
    omega
  have value : leVal (slice ([0xE0] ++ muxBytes i sub ++ (leBytes 4 size ++ x)) 4 4) = size := size_initFrame _ _ (by omega)
  have data : slice ([0xE0] ++ muxBytes i sub ++ (leBytes 4 size ++ x)) 8 wideFirst = x := by
    rw [data_initFrame, wideFirst, List.take_of_length_le hx.le]
  rw [wideInitDown, command_initFrame, frameIndex_initFrame, frameSub_initFrame, value, data]
  have toggle : bitsAt 0xE0 0 1 ≠ 1 := by decide
  have last : decide (bitsAt 0xE0 1 1 = 1) = false := by decide
  simp only [toggle, last, fits, if_false, Bool.false_eq_true]
  exact congrArg (fun d => canSend (chanFrame s ch true d) _) (padTo_confirm 0xF0)

theorem wideInitDown_complete (one : 1 ≤ size) (short : size ≤ 56)
    (w : dictWrite ch i sub (x.take size) (setXfer ch .none s) = .ok t) (h : t.clk.pending.length ≤ s.clk.pending.length) :
    wideInitDown ch ([0xE2] ++ muxBytes i sub ++ (leBytes 4 size ++ x)) s
      = canSend (chanFrame s ch true ([0xF2] ++ muxBytes i sub ++ [0, 0, 0, 0])) (answered ch t) := by
  have fits : ¬ (size < 1 ∨ 1048576 < size ∨ true ≠ decide (size ≤ wideFirst)) := by
    have flag : decide (size ≤ wideFirst) = true := decide_eq_true short
    simp only [flag, ne_eq, not_true_eq_false, or_false]
    omega
  have value : leVal (slice ([0xE2] ++ muxBytes i sub ++ (leBytes 4 size ++ x)) 4 4) = size := size_initFrame _ _ (by omega)
  rw [wideInitDown, command_initFrame, frameIndex_initFrame, frameSub_initFrame, value, data_initFrame]
  have toggle : bitsAt 0xE2 0 1 ≠ 1 := by decide
  have last : decide (bitsAt 0xE2 1 1 = 1) = true := by decide
  simp only [toggle, last, fits, if_false, if_true]
  rw [finishDown_ok w h]
  exact congrArg (fun d => canSend (chanFrame s ch true d) _) (padTo_confirm 0xF2)

/-- R292: an initiate frame has T at 0. -/
theorem wideInitDown_toggled (c : Byte) (y : List Byte) (hc : bitsAt c 0 1 = 1) :
    wideInitDown ch ([c] ++ muxBytes i sub ++ y) s = sdoFail ch i sub 0x05030000 s := by
  rw [wideInitDown, command_initFrame, frameIndex_initFrame, frameSub_initFrame]
  simp only [hc, if_true]

theorem wideSegDown_more {got : List Byte} (open_ : s.chans[ch].xfer = .wideDown i sub size got false) (hx : x.length = 63)
    (more : got.length + 63 < size) :
    wideSegDown ch (0xE8 :: x) s
      = canSend (chanFrame s ch true ([0xF0] ++ muxBytes i sub ++ [0, 0, 0, 0])) (setXfer ch (.wideDown i sub size (got ++ x) true) s) := by
  have data : slice (0xE8 :: x) 1 (min wideMore (size - got.length)) = x := by
    have all : 63 ≤ size - got.length := by omega
    rw [wideMore, Nat.min_eq_left all]
    exact List.take_of_length_le hx.le
  have count : false = decide ((got ++ x).length = size) := by
    rw [List.length_append, hx, decide_eq_false (by omega)]
  have toggle : decide (bitsAt 0xE8 0 1 = 1) = false := by decide
  have last : decide (bitsAt 0xE8 1 1 = 1) = false := by decide
  simp only [wideSegDown, open_, List.getD_cons_zero, data, ← count, toggle, last, ne_eq, not_true_eq_false, if_false, Bool.false_eq_true]
  exact congrArg (fun d => canSend (chanFrame s ch true d) _) (padTo_confirm 0xF0)

/-! ## Uploads -/

theorem wideInitUp_segmented {v : List Byte} (y : List Byte) (r : dictRead ch i sub s = .ok (v, t)) (long : 56 < v.length) :
    wideInitUp ch ([0xE4] ++ muxBytes i sub ++ y) s
      = canSend (chanFrame t ch true ([0xE4] ++ muxBytes i sub ++ leBytes 4 v.length ++ v.take 56))
          (setXfer ch (.wideUp i sub (v.drop 56) none) (answeredData ch v t)) := by
  have last : decide (v.length ≤ wideFirst) = false := decide_eq_false (by rw [wideFirst]; omega)
  have toggle : bitsAt 0xE4 0 1 ≠ 1 := by decide
  rw [wideInitUp, command_initFrame, frameIndex_initFrame, frameSub_initFrame, if_neg toggle, withRead_ok r, last]
  refine replyWide_full 64 _ ?_
  rw [List.length_append, List.length_append, List.length_append, length_muxBytes, length_leBytes, List.length_take, wideFirst]
  simp
  omega

theorem wideInitUp_toggled (y : List Byte) : wideInitUp ch ([0xE5] ++ muxBytes i sub ++ y) s = sdoFail ch i sub 0x05030000 s := by
  rw [wideInitUp, command_initFrame, frameIndex_initFrame, frameSub_initFrame]
  exact if_pos (by decide)

section
variable {left : List Byte} (open_ : s.chans[ch].xfer = .wideUp i sub left none)
include open_

theorem wideConfirmed_more (more : 63 < left.length) :
    wideConfirmed ch (0xF4 :: x) s
      = canSend (chanFrame s ch true (0xEC :: left.take 63)) (setXfer ch (.wideUp i sub (left.drop 63) (some false)) s) := by
  have last : decide (left.length ≤ wideMore) = false := decide_eq_false (by rw [wideMore]; omega)
  have toggle : decide (bitsAt 0xF4 0 1 = 1) = false := by decide
  simp only [wideConfirmed, open_, List.getD_cons_zero, toggle, last, Option.getD_none, ne_eq, not_true_eq_false, if_false,
    Bool.false_eq_true]
  refine replyWide_full 64 _ ?_
  simp [wideMore]
  omega

theorem wideConfirmed_last (short : left.length ≤ 63) :
    wideConfirmed ch (0xF4 :: x) s
      = canSend (chanFrame s ch true (0xEE :: left ++ List.replicate (63 - left.length) 0)) (setXfer ch .none s) := by
  have last : decide (left.length ≤ wideMore) = true := decide_eq_true short
  have toggle : decide (bitsAt 0xF4 0 1 = 1) = false := by decide
  have all : left.take wideMore = left := List.take_of_length_le short
  simp only [wideConfirmed, open_, List.getD_cons_zero, toggle, last, all, Option.getD_none, ne_eq, not_true_eq_false, if_false, if_true]
  have pad : 64 - (left.length + 1) = 63 - left.length := Nat.add_sub_add_right 63 1 _
  refine (replyWide_pad 64 (0xEE :: left) (Nat.succ_le_succ short)).trans ?_
  rw [List.length_cons, pad]
  rfl

end

end

/-- Settles O38: each clause is the effect of its frame. -/
theorem wideTransfers : Obligations.WideTransfers := by
  unfold Obligations.WideTransfers
  intro s ch i sub got left x size srv time profile r
  have new : newProfile r ch = true := newProfile_framed.trans profile
  have xfer : r.chans[ch].xfer = s.chans[ch].xfer := xfer_framed
  have runs (d : List Byte) : sdoFrame ch { fd := true, data := d } s = wideFrame ch d r := sdoFrame_wide srv time rfl
  have fresh : countRequest ch (setXfer ch .none r) = requested ch r := countRequest_framed
  have length (b : Byte) (hx : x.length = 56) : ([b] ++ muxBytes i sub ++ leBytes 4 size ++ x).length = 64 := by
    rw [List.length_append, length_initFrame, length_leBytes, hx]
  refine ⟨fun hx long room => ?_, fun t hx one short w h => ?_, fun open_ hx more => ?_, fun v t hx rd long => ?_, fun hx c hc => ?_,
    fun hx => ?_, fun open_ hx => ⟨fun more => ?_, fun short => ?_⟩⟩
  · refine congrArg Host.Outcome.next ((runs _).trans ((wideFrame_wideInitDown new (b := 0xE0) (by decide) (length _ hx)).trans ?_))
    rw [fresh]
    exact wideInitDown_segmented long room hx
  · refine congrArg Host.Outcome.next ((runs _).trans ((wideFrame_wideInitDown new (b := 0xE2) (by decide) (length _ hx)).trans ?_))
    rw [fresh]
    exact wideInitDown_complete one short (by rwa [setXfer_requested]) h
  · have len : (0xE8 :: x).length = 64 := congrArg (· + 1) hx
    refine congrArg Host.Outcome.next ((runs _).trans ((wideFrame_wideSegDown new (by decide) len).trans ?_))
    exact wideSegDown_more (xfer.trans open_) hx more
  · have len : ([0xE4] ++ muxBytes i sub ++ x).length = 8 := by rw [length_initFrame, hx]
    refine congrArg Host.Outcome.next ((runs _).trans ((wideFrame_wideInitUp new (b := 0xE4) (by decide) len).trans ?_))
    rw [fresh]
    exact wideInitUp_segmented x rd long
  · have toggled : c.toNat / 4 = 56 ∧ bitsAt c 0 1 = 1 := by
      simp only [List.mem_cons, List.not_mem_nil, or_false] at hc
      rcases hc with rfl | rfl <;> decide
    obtain ⟨kind, toggle⟩ := toggled
    have len : ([c] ++ muxBytes i sub ++ x).length = 64 := by rw [length_initFrame, hx]
    have frame : sdoFrame ch { fd := true, data := [c] ++ muxBytes i sub ++ x } s = sdoFail ch i sub 0x05030000 (requested ch r) := by
      refine (runs _).trans ((wideFrame_wideInitDown new (b := c) kind len).trans ?_)
      rw [fresh]
      exact wideInitDown_toggled c x toggle
    obtain ⟨resp, ports, aon⟩ := sdoFail_requested (i := i) (sub := sub) srv 0x05030000
    exact ⟨_, congrArg Host.Outcome.next frame, resp, ports, aon⟩
  · have len : ([0xE5] ++ muxBytes i sub ++ x).length = 8 := by rw [length_initFrame, hx]
    have frame : sdoFrame ch { fd := true, data := [0xE5] ++ muxBytes i sub ++ x } s = sdoFail ch i sub 0x05030000 (requested ch r) := by
      refine (runs _).trans ((wideFrame_wideInitUp new (b := 0xE5) (by decide) len).trans ?_)
      rw [fresh]
      exact wideInitUp_toggled x
    obtain ⟨resp, ports, -⟩ := sdoFail_requested (i := i) (sub := sub) srv 0x05030000
    exact ⟨_, congrArg Host.Outcome.next frame, resp, ports⟩
  · have len : (0xF4 :: x).length = 8 := congrArg (· + 1) hx
    refine congrArg Host.Outcome.next ((runs _).trans ((wideFrame_wideConfirmed new (by decide) len).trans ?_))
    exact wideConfirmed_more (xfer.trans open_) more
  · have len : (0xF4 :: x).length = 8 := congrArg (· + 1) hx
    refine congrArg Host.Outcome.next ((runs _).trans ((wideFrame_wideConfirmed new (by decide) len).trans ?_))
    exact wideConfirmed_last (xfer.trans open_) short

end Sys2Proof.Machine
end

section
/-! PROOF. Segmented and block transfers (R287 to R289, R292): segments both ways, sub-blocks of at most 127 segments, the client's abort
and the server's timeout. -/

namespace Sys2Proof.Machine

section
variable {s t : State} {ch : Chan} {i : BitVec 16} {sub : Byte} {x : List Byte}

theorem reply_full {d : List Byte} (h : d.length = 8) : reply ch d s = canSend (chanFrame s ch false d) s := by
  rw [reply, padTo_full h]

theorem reply_pad {d : List Byte} (h : d.length ≤ 8) :
    reply ch d s = canSend (chanFrame s ch false (d ++ List.replicate (8 - d.length) 0)) s := by
  rw [reply, padTo_append h]

theorem reply_muxBytes (a : Byte) :
    reply ch ([a] ++ muxBytes i sub) s = canSend (chanFrame s ch false ([a] ++ muxBytes i sub ++ [0, 0, 0, 0])) s :=
  congrArg (fun d => canSend (chanFrame s ch false d) s) (padTo_confirm a)

/-! ## Segmented downloads -/

/-- A size in an initiate frame, behind its multiplexer. -/
theorem size_initFrame_last (b : Byte) {n : Nat} (h : n < 2 ^ 32) : leVal (slice ([b] ++ muxBytes i sub ++ leBytes 4 n) 4 4) = n := by
  have value := size_initFrame (i := i) (sub := sub) b [] h
  rwa [List.append_nil] at value

theorem initiateDown_segmented {size : Nat} (h : size < 2 ^ 32) :
    initiateDown ch ([0x21] ++ muxBytes i sub ++ leBytes 4 size) s
      = canSend (chanFrame s ch false ([0x60] ++ muxBytes i sub ++ [0, 0, 0, 0])) (setXfer ch (.segDown i sub (some size) [] false) s) := by
  have segmented : bitsAt 0x21 1 1 ≠ 1 := by decide
  have sized : bitsAt 0x21 0 1 = 1 := by decide
  rw [initiateDown, command_initFrame, frameIndex_initFrame, frameSub_initFrame, if_neg segmented, if_pos sized, size_initFrame_last _ h]
  exact reply_muxBytes 0x60

/-- The toggle bit of a segment's command byte. -/
def toggleByte (tog : Bool) : Byte := BitVec.ofNat 8 (16 * tog.toNat)

section
variable {size : Nat} {got : List Byte} {tog : Bool} (open_ : s.chans[ch].xfer = .segDown i sub (some size) got tog)
include open_

theorem segmentDown_more (hx : x.length = 7) :
    segmentDown ch (toggleByte tog :: x) s
      = canSend (chanFrame s ch false ([0x20 + toggleByte tog] ++ List.replicate 7 0))
          (setXfer ch (.segDown i sub (some size) (got ++ x) (!tog)) s) := by
  have bits : decide (bitsAt (toggleByte tog) 4 1 = 1) = tog ∧ bitsAt (toggleByte tog) 1 3 = 0 ∧ bitsAt (toggleByte tog) 0 1 ≠ 1 := by
    cases tog <;> decide
  obtain ⟨toggle, count, more⟩ := bits
  have data : slice (toggleByte tog :: x) 1 7 = x := List.take_of_length_le hx.le
  simp only [segmentDown, open_, List.getD_cons_zero, toggle, count, more, ne_eq, not_true_eq_false, if_false]
  rw [Nat.sub_zero, data]
  exact reply_pad (d := [0x20 + toggleByte tog]) (by decide : 1 ≤ 8)

/-- R292: a toggle bit that does not alternate. -/
theorem segmentDown_toggled : segmentDown ch ((toggleByte tog ^^^ 0x10) :: x) s = sdoFail ch i sub 0x05030000 s := by
  have toggle : decide (bitsAt (toggleByte tog ^^^ 0x10) 4 1 = 1) ≠ tog := by cases tog <;> decide
  simp only [segmentDown, open_, List.getD_cons_zero]
  exact if_pos toggle

/-- R287: the last segment of a download of the announced size. -/
theorem segmentDown_last (hx : x.length = 7) (hsize : size = got.length + 7)
    (w : dictWrite ch i sub (got ++ x) (setXfer ch .none s) = .ok t) (h : t.clk.pending.length ≤ s.clk.pending.length) :
    segmentDown ch ((toggleByte tog + 1) :: x) s
      = canSend (chanFrame s ch false ([0x20 + toggleByte tog] ++ List.replicate 7 0)) (answered ch t) := by
  have bits : decide (bitsAt (toggleByte tog + 1) 4 1 = 1) = tog ∧ bitsAt (toggleByte tog + 1) 1 3 = 0
      ∧ bitsAt (toggleByte tog + 1) 0 1 = 1 := by
    cases tog <;> decide
  obtain ⟨toggle, count, last⟩ := bits
  have data : slice ((toggleByte tog + 1) :: x) 1 7 = x := List.take_of_length_le hx.le
  have length : ¬ size ≠ (got ++ x).length := by rw [List.length_append, hx, hsize]; simp
  simp only [segmentDown, open_, List.getD_cons_zero, toggle, count, last, ne_eq, not_true_eq_false, if_false, if_true]
  rw [Nat.sub_zero, data, finishSized]
  simp only [length, decide_false, Bool.false_eq_true, if_false]
  rw [finishDown_ok w h]
  rfl

end

/-! ## Segmented uploads -/

section
variable {left : List Byte} {tog : Bool} (open_ : s.chans[ch].xfer = .segUp i sub left tog)
include open_

theorem segmentUp_more (more : 7 < left.length) :
    segmentUp ch ((0x60 + toggleByte tog) :: x) s
      = canSend (chanFrame s ch false (toggleByte tog :: left.take 7)) (setXfer ch (.segUp i sub (left.drop 7) (!tog)) s) := by
  have toggle : decide (bitsAt (0x60 + toggleByte tog) 4 1 = 1) = tog := by cases tog <;> decide
  have last : decide (left.length ≤ 7) = false := decide_eq_false (Nat.not_le.mpr more)
  have seven : min 7 left.length = 7 := Nat.min_eq_left more.le
  simp only [segmentUp, open_, List.getD_cons_zero, toggle, last, seven, ne_eq, not_true_eq_false, if_false, Bool.false_eq_true]
  exact reply_full (by rw [List.length_cons, List.length_take, seven])

theorem segmentUp_last (short : left.length ≤ 7) :
    segmentUp ch ((0x60 + toggleByte tog) :: x) s
      = canSend (chanFrame s ch false (padTo 8 (BitVec.ofNat 8 (16 * tog.toNat + 2 * (7 - left.length) + 1) :: left)))
          (setXfer ch .none s) := by
  have toggle : decide (bitsAt (0x60 + toggleByte tog) 4 1 = 1) = tog := by cases tog <;> decide
  have last : decide (left.length ≤ 7) = true := decide_eq_true short
  have all : left.take 7 = left := List.take_of_length_le short
  simp only [segmentUp, open_, List.getD_cons_zero, toggle, last, Nat.min_eq_right short, all, ne_eq, not_true_eq_false, if_false, if_true]
  rfl

end

/-! ## Block downloads -/

theorem tooShort_framed : tooShort (requested ch (framed ch s)) ch i sub = tooShort s ch i sub := by
  rw [tooShort, newProfile_requested, newProfile_framed]
  rfl

theorem initiateBlockDown_open {n : Nat} (long : tooShort s ch i sub = false) (h : n < 2 ^ 32) :
    initiateBlockDown ch ([0xC6] ++ muxBytes i sub ++ leBytes 4 n) s
      = canSend (chanFrame s ch false ([0xA4] ++ muxBytes i sub ++ [127, 0, 0, 0]))
          (setXfer ch (.blkDown i sub (some n) true [] 1 false) s) := by
  have sized : bitsAt 0xC6 1 1 = 1 := by decide
  have crc : decide (bitsAt 0xC6 2 1 = 1) = true := by decide
  rw [initiateBlockDown, command_initFrame, frameIndex_initFrame, frameSub_initFrame, long, if_neg Bool.false_ne_true, if_pos sized, crc,
    size_initFrame_last _ h]
  exact reply_pad (by decide : 5 ≤ 8)

section
variable {size : Option Nat} {crc : Bool} {got : List Byte} {k : Nat}
  (open_ : s.chans[ch].xfer = .blkDown i sub size crc got k false) (hx : x.length = 7) (hk : k < 127)
include open_ hx hk

theorem blockSegment_more :
    blockSegment ch (BitVec.ofNat 8 k :: x) s = setXfer ch (.blkDown i sub size crc (got ++ x) (k + 1) false) s := by
  have number : bitsAt (BitVec.ofNat 8 k) 0 7 = k := by simp [bitsAt]; omega
  have last : decide (bitsAt (BitVec.ofNat 8 k) 7 1 = 1) = false := by simp [bitsAt]; omega
  have full : decide (k = blockSize) = false := decide_eq_false hk.ne
  have data : slice (BitVec.ofNat 8 k :: x) 1 7 = x := List.take_of_length_le hx.le
  simp only [blockSegment, open_, List.getD_cons_zero, number, last, full, data, ne_eq, not_true_eq_false, if_false, Bool.or_self,
    Bool.false_eq_true]

theorem blockSegment_last :
    blockSegment ch (BitVec.ofNat 8 (128 + k) :: x) s
      = canSend (chanFrame s ch false ([0xA2, BitVec.ofNat 8 k, 127] ++ List.replicate 5 0))
          (setXfer ch (.blkDown i sub size crc (got ++ x) 1 true) s) := by
  have number : bitsAt (BitVec.ofNat 8 (128 + k)) 0 7 = k := by simp [bitsAt]; omega
  have last : decide (bitsAt (BitVec.ofNat 8 (128 + k)) 7 1 = 1) = true := by simp [bitsAt]; omega
  have data : slice (BitVec.ofNat 8 (128 + k) :: x) 1 7 = x := List.take_of_length_le hx.le
  simp only [blockSegment, open_, List.getD_cons_zero, number, last, data, ne_eq, not_true_eq_false, if_false, Bool.true_or, if_true]
  exact reply_pad (by decide : 3 ≤ 8)

end

/-! ## Block uploads -/

theorem initiateBlockUp_open {v : List Byte} (long : tooShort s ch i sub = false) (r : dictRead ch i sub s = .ok (v, t)) :
    initiateBlockUp ch ([0xA4] ++ muxBytes i sub ++ [127, 0, 0, 0]) s
      = canSend (chanFrame t ch false ([0xC6] ++ muxBytes i sub ++ leBytes 4 v.length))
          (setXfer ch (.blkUp i sub v 0 127 false 0 true) (answeredData ch v t)) := by
  have crc : decide (bitsAt 0xA4 2 1 = 1) = true := by decide
  have size : blockSizeOk 127 = true := by decide
  have block : (([0xA4] ++ muxBytes i sub ++ [127, 0, 0, 0] : List Byte).getD 4 0).toNat = 127 := rfl
  have threshold : (([0xA4] ++ muxBytes i sub ++ [127, 0, 0, 0] : List Byte).getD 5 0).toNat = 0 := rfl
  rw [initiateBlockUp, command_initFrame, frameIndex_initFrame, frameSub_initFrame, block, threshold, size, long, crc, withRead_ok r]
  exact reply_full rfl

theorem sendFrames_out (h : busDriven s = true) (fs : List (List Byte)) :
    (fs.foldl (fun t f => reply ch f t) s).can.out.length = s.can.out.length + fs.length
    ∧ (fs.foldl (fun t f => reply ch f t) s).chans = s.chans := by
  induction fs generalizing s with
  | nil => exact ⟨rfl, rfl⟩
  | cons f fs ih =>
    have sent : reply ch f s = { s with can := { s.can with out := s.can.out ++ [chanFrame s ch false (padTo 8 f)] } } := canSend_driven _ h
    have driven : busDriven (reply ch f s) = true := (busDriven_canSend _ s).trans h
    obtain ⟨out, chans⟩ := ih driven
    rw [List.foldl_cons]
    refine ⟨out.trans ?_, chans.trans (canSend_chans _ s)⟩
    rw [sent, List.length_cons]
    simp only [List.length_append, List.length_singleton]
    omega

theorem blockUpNext_start {all : List Byte} {blk : Nat} {crc : Bool} (h : busDriven s = true)
    (open_ : s.chans[ch].xfer = .blkUp i sub all 0 blk false 0 crc) (some_ : 0 < all.length) :
    (blockUpNext ch (0xA3 :: x) s).chans[ch].xfer = .blkUp i sub all 0 blk true (blockFrames blk 1 all).length crc
    ∧ (blockUpNext ch (0xA3 :: x) s).can.out.length = s.can.out.length + (blockFrames blk 1 all).length := by
  have start : bitsAt 0xA3 0 2 = 3 := by decide
  have send : blockUpNext ch (0xA3 :: x) s = (blockFrames blk 1 all).foldl (fun t f => reply ch f t)
      (setXfer ch (.blkUp i sub all 0 blk true (blockFrames blk 1 all).length crc) s) := by
    have more : ¬ all.length ≤ 0 := Nat.not_le.mpr some_
    simp only [blockUpNext, open_, List.getD_cons_zero, start, and_self, if_true, sendBlock, more, if_false, List.drop_zero]
  obtain ⟨out, chans⟩ := sendFrames_out (s := setXfer ch (.blkUp i sub all 0 blk true (blockFrames blk 1 all).length crc) s)
    (ch := ch) h (blockFrames blk 1 all)
  rw [send, chans, out, chan_setXfer]
  exact ⟨rfl, rfl⟩

/-! ## Timeout (R288) -/

theorem abortXfer_open (c : Code) (h : busDriven s = true) (open_ : xferTarget s.chans[ch].xfer = some (i, sub)) :
    abortXfer ch c s = { countAbort ch c (modChan ch (fun x => { x with xfer := .none, resp := .abort c }) s) with
      can := { s.can with out := s.can.out ++ [chanFrame s ch false (abortFrame i sub c)] } } := by
  have driven : busDriven (countAbort ch c (modChan ch (fun x => { x with xfer := .none, resp := .abort c }) s)) = true := h
  unfold abortXfer
  rw [open_]
  exact canSend_driven _ driven

theorem abortXfer_none (c : Code) (h : xferTarget s.chans[ch].xfer = none) : abortXfer ch c s = s := by
  unfold abortXfer
  rw [h]

theorem exec_sdoTimeout (srv : served s ch = true) (late : s.chans[ch].heardAt + 1000000000 ≤ s.aon.tally) :
    exec (.sdoTimeout ch) s = .next (abortXfer ch 0x05040000 (clearOut s)) := by
  have due : ¬ s.aon.tally < s.chans[ch].heardAt + xferTimeout := Nat.not_lt.mpr late
  exact congrArg Host.Outcome.next ((if_neg due).trans (if_pos srv))

end

/-! ## The frames of a served channel -/

section
variable {s : State} {ch : Chan} {i : BitVec 16} {sub : Byte} {x : List Byte} (srv : served s ch = true) (time : inTime s ch = true)
include srv time

theorem sdoFrame_segmentedDownload {size : Nat} (block : inBlock s.chans[ch].xfer = false) (h : size < 2 ^ 32) :
    sdoFrame ch { fd := false, data := [0x21] ++ muxBytes i sub ++ leBytes 4 size } s
      = canSend (chanFrame s ch false ([0x60] ++ muxBytes i sub ++ [0, 0, 0, 0]))
          (setXfer ch (.segDown i sub (some size) [] false) (requested ch (framed ch s))) := by
  refine (sdoFrame_classic srv time _).trans
    ((classicFrame_initiateDown (b := 0x21) rfl ((congrArg inBlock xfer_framed).trans block) (by decide)).trans ?_)
  rw [countRequest_framed]
  exact initiateDown_segmented h

section
variable {size : Nat} {got : List Byte} {tog : Bool} (open_ : s.chans[ch].xfer = .segDown i sub (some size) got tog) (hx : x.length = 7)
include open_ hx

theorem sdoFrame_segmentDown {b : Byte} (kind : bitsAt b 5 3 = 0) :
    sdoFrame ch { fd := false, data := b :: x } s = segmentDown ch (b :: x) (framed ch s) := by
  have block : inBlock (framed ch s).chans[ch].xfer = false := congrArg inBlock (xfer_framed.trans open_)
  exact (sdoFrame_classic srv time _).trans (classicFrame_segmentDown (congrArg (· + 1) hx) block kind)

theorem sdoFrame_segmentDown_more :
    sdoFrame ch { fd := false, data := toggleByte tog :: x } s
      = canSend (chanFrame s ch false ([0x20 + toggleByte tog] ++ List.replicate 7 0))
          (setXfer ch (.segDown i sub (some size) (got ++ x) (!tog)) (framed ch s)) :=
  (sdoFrame_segmentDown srv time open_ hx (by cases tog <;> decide)).trans (segmentDown_more (xfer_framed.trans open_) hx)

theorem sdoFrame_segmentDown_toggled :
    sdoFrame ch { fd := false, data := (toggleByte tog ^^^ 0x10) :: x } s = sdoFail ch i sub 0x05030000 (framed ch s) :=
  (sdoFrame_segmentDown srv time open_ hx (by cases tog <;> decide)).trans (segmentDown_toggled (xfer_framed.trans open_))

theorem sdoFrame_segmentDown_last {u : State} (hsize : size = got.length + 7)
    (w : dictWrite ch i sub (got ++ x) (setXfer ch .none (framed ch s)) = .ok u)
    (h : u.clk.pending.length ≤ s.clk.pending.length) :
    sdoFrame ch { fd := false, data := (toggleByte tog + 1) :: x } s
      = canSend (chanFrame s ch false ([0x20 + toggleByte tog] ++ List.replicate 7 0)) (answered ch u) :=
  (sdoFrame_segmentDown srv time open_ hx (by cases tog <;> decide)).trans
    (segmentDown_last (xfer_framed.trans open_) hx hsize w h)

end

section
variable {left : List Byte} {tog : Bool} (open_ : s.chans[ch].xfer = .segUp i sub left tog) (hx : x.length = 7)
include open_ hx

theorem sdoFrame_segmentUp :
    sdoFrame ch { fd := false, data := (0x60 + toggleByte tog) :: x } s = segmentUp ch ((0x60 + toggleByte tog) :: x) (framed ch s) := by
  have block : inBlock (framed ch s).chans[ch].xfer = false := congrArg inBlock (xfer_framed.trans open_)
  exact (sdoFrame_classic srv time _).trans (classicFrame_segmentUp (congrArg (· + 1) hx) block (by cases tog <;> decide))

end

theorem sdoFrame_blockDownload {n : Nat} (block : inBlock s.chans[ch].xfer = false) (long : tooShort s ch i sub = false) (h : n < 2 ^ 32) :
    sdoFrame ch { fd := false, data := [0xC6] ++ muxBytes i sub ++ leBytes 4 n } s
      = canSend (chanFrame s ch false ([0xA4] ++ muxBytes i sub ++ [127, 0, 0, 0]))
          (setXfer ch (.blkDown i sub (some n) true [] 1 false) (requested ch (framed ch s))) := by
  refine (sdoFrame_classic srv time _).trans
    ((classicFrame_initiateBlockDown (b := 0xC6) rfl ((congrArg inBlock xfer_framed).trans block) (by decide) (by decide)).trans ?_)
  rw [countRequest_framed]
  exact initiateBlockDown_open (tooShort_framed.trans long) h

theorem sdoFrame_blockSegment {size : Option Nat} {crc : Bool} {got : List Byte} {k : Nat}
    (open_ : s.chans[ch].xfer = .blkDown i sub size crc got k false) (hx : x.length = 7) {b : Byte} (hb : b ≠ 0x80) :
    sdoFrame ch { fd := false, data := b :: x } s = blockSegment ch (b :: x) (framed ch s) := by
  have block : inBlock (framed ch s).chans[ch].xfer = true := congrArg inBlock (xfer_framed.trans open_)
  exact (sdoFrame_classic srv time _).trans (classicFrame_blockSegment (congrArg (· + 1) hx) block hb)

theorem sdoFrame_blockUpload {v : List Byte} {t : State} (block : inBlock s.chans[ch].xfer = false) (long : tooShort s ch i sub = false)
    (r : dictRead ch i sub (requested ch (framed ch s)) = .ok (v, t)) :
    sdoFrame ch { fd := false, data := [0xA4] ++ muxBytes i sub ++ [127, 0, 0, 0] } s
      = canSend (chanFrame t ch false ([0xC6] ++ muxBytes i sub ++ leBytes 4 v.length))
          (setXfer ch (.blkUp i sub v 0 127 false 0 true) (answeredData ch v t)) := by
  refine (sdoFrame_classic srv time _).trans
    ((classicFrame_initiateBlockUp (b := 0xA4) rfl ((congrArg inBlock xfer_framed).trans block) (by decide) (by decide)).trans ?_)
  rw [countRequest_framed]
  exact initiateBlockUp_open (tooShort_framed.trans long) r

theorem sdoFrame_blockUpNext {all : List Byte} {blk n : Nat} {crc started : Bool}
    (open_ : s.chans[ch].xfer = .blkUp i sub all 0 blk started n crc) :
    sdoFrame ch { fd := false, data := [0xA3, 0, 0, 0, 0, 0, 0, 0] } s = blockUpNext ch [0xA3, 0, 0, 0, 0, 0, 0, 0] (framed ch s) := by
  have block : inBlock (framed ch s).chans[ch].xfer = false := congrArg inBlock (xfer_framed.trans open_)
  exact (sdoFrame_classic srv time _).trans (classicFrame_blockUpNext rfl block (by decide) (by decide))

end

/-! ## The timeout of a served channel -/

/-- R288: the abort of a transfer that timed out. -/
theorem abortXfer_timedOut {s : State} {ch : Chan} {i : BitVec 16} {sub : Byte} (srv : served s ch = true)
    (open_ : xferTarget s.chans[ch].xfer = some (i, sub)) :
    let t := abortXfer ch 0x05040000 (clearOut s)
    t.chans[ch].xfer = .none ∧ t.chans[ch].resp = .abort 0x05040000 ∧ t.can.out = [chanFrame s ch false (abortFrame i sub 0x05040000)]
      ∧ t.chans[ch].counters = bump 1 1 s.chans[ch].counters ∧ t.ports = s.ports := by
  have driven : busDriven (clearOut s) = true := busDriven_of_served srv
  rw [abortXfer_open (s := clearOut s) _ driven open_]
  refine ⟨?_, ?_, rfl, ?_, rfl⟩ <;> simp [countAbort, clearOut]

/-- Settles O37: each clause is the effect of its frame, or of the timeout. -/
theorem segmentedAndBlockTransfers : Obligations.SegmentedAndBlockTransfers := by
  unfold Obligations.SegmentedAndBlockTransfers
  constructor
  · intro s ch i sub size got left x tog srv time hx r head
    have fails := sdoFail_framed (i := i) (sub := sub) srv 0x05030000
    refine ⟨fun block h => congrArg Host.Outcome.next (sdoFrame_segmentedDownload srv time block h), fun open_ => ⟨?_, ?_, ?_⟩,
      fun open_ => ⟨fun more => ?_, fun short => ?_⟩⟩
    · exact congrArg Host.Outcome.next (sdoFrame_segmentDown_more srv time open_ hx)
    · exact ⟨_, congrArg Host.Outcome.next (sdoFrame_segmentDown_toggled srv time open_ hx), fails⟩
    · exact fun u hsize w h => congrArg Host.Outcome.next (sdoFrame_segmentDown_last srv time open_ hx hsize w h)
    · exact congrArg Host.Outcome.next ((sdoFrame_segmentUp srv time open_ hx).trans (segmentUp_more (xfer_framed.trans open_) more))
    · exact congrArg Host.Outcome.next ((sdoFrame_segmentUp srv time open_ hx).trans (segmentUp_last (xfer_framed.trans open_) short))
  · intro s ch i sub n got x all srv time r
    have driven : busDriven (framed ch s) = true := busDriven_of_served srv
    refine ⟨fun block long h => congrArg Host.Outcome.next (sdoFrame_blockDownload srv time block long h),
      fun size crc k open_ hx low high => ⟨?_, ?_⟩, fun block long v t rd _ _ => ?_, fun blk crc open_ more _ _ => ?_, fun hx => ?_,
      fun open_ late => ?_, fun none late => ?_, fun early => ?_⟩
    · have hb : BitVec.ofNat 8 k ≠ 0x80 := fun e => by have := congrArg BitVec.toNat e; simp at this; omega
      exact congrArg Host.Outcome.next ((sdoFrame_blockSegment srv time open_ hx hb).trans
        (blockSegment_more (xfer_framed.trans open_) hx high))
    · have hb : BitVec.ofNat 8 (128 + k) ≠ 0x80 := fun e => by have := congrArg BitVec.toNat e; simp at this; omega
      exact congrArg Host.Outcome.next ((sdoFrame_blockSegment srv time open_ hx hb).trans
        (blockSegment_last (xfer_framed.trans open_) hx high))
    · exact congrArg Host.Outcome.next (sdoFrame_blockUpload srv time block long rd)
    · obtain ⟨xfer, out⟩ := blockUpNext_start (x := [0, 0, 0, 0, 0, 0, 0]) driven (xfer_framed.trans open_) more
      exact ⟨_, congrArg Host.Outcome.next (sdoFrame_blockUpNext srv time open_), xfer, out.trans (Nat.zero_add _)⟩
    · exact congrArg Host.Outcome.next ((sdoFrame_classic srv time _).trans (classicFrame_abort hx))
    · exact ⟨_, exec_sdoTimeout srv late, abortXfer_timedOut srv open_⟩
    · have done : xferTarget (clearOut s).chans[ch].xfer = Option.none := congrArg xferTarget none
      rw [exec_sdoTimeout srv late, abortXfer_none _ done]
    · exact congrArg Host.Outcome.next (if_pos early)

end Sys2Proof.Machine
end

section
/-! PROOF. A write of ShingleConfig judges the pauses of its port again (R180, R302). -/

namespace Sys2Proof.Machine

/-- A device in MANUFACTURE that CTL reaches, on whose host lane 0 class 2 is paused although PfcEnable does not allow it. -/
def pausedWithoutPfc : State :=
  let s := State.reset
  { s with
    clk := { s.clk with armed := true, onInput1 := [.ctl] }
    can := { s.can with nmt := .preOperational }
    ports := s.ports.set 0 { s.ports[0] with host := { s.ports[0].host with paused := [true, false] } } }

/-- The pauses and releases that host lane 0 owes, where an instruction is carried out. -/
def pfcOwedAfter : Host.Outcome State Fault Refusal → Option (List (Cls × Bool))
  | .next t => some t.ports[(0 : PortId)].host.pfcOwed
  | _ => none

theorem served_pausedWithoutPfc : served pausedWithoutPfc 0 = true := by decide +kernel

theorem ownerWrites_pausedWithoutPfc : ownerWrites pausedWithoutPfc 0 0 = true := by decide +kernel

theorem unlocked_pausedWithoutPfc : unlocked pausedWithoutPfc 0 0 = true := by decide +kernel

/-- R180: the write finds the pause out of its conditions and owes its release. -/
theorem maxFrameWrite_pausedWithoutPfc :
    pfcOwedAfter (exec (.genericWrite 0 (portIndex 0x3020 0) 1 (leBytes 2 (64 : BitVec 16).toNat)) pausedWithoutPfc)
      = some [(2, true)] := by
  decide +kernel

/-- Refutes O39: a write of MaxFrame also judges the port's pauses again, so that a pause whose conditions of R180 are not met is released.
O39 has nothing but MaxFrame change, on every state. -/
theorem not_dictionaryClassWrites : ¬ Obligations.DictionaryClassWrites := by
  unfold Obligations.DictionaryClassWrites
  intro h
  obtain ⟨-, maxFrame, -⟩ := h pausedWithoutPfc 0 served_pausedWithoutPfc
  have written := maxFrame 0 64 ownerWrites_pausedWithoutPfc unlocked_pausedWithoutPfc (by decide) (by decide)
  have owed := maxFrameWrite_pausedWithoutPfc
  rw [written] at owed
  exact absurd owed (by decide +kernel)

end Sys2Proof.Machine
end

section
/-! PROOF. Bit rates before boot-up: a controller that has not booted does not give its rates up (R281, R349). -/

namespace Sys2Proof.Machine

/-- A device that took new rates up at its start, whose controller has become error-passive before boot-up. -/
def passiveBeforeBoot : State :=
  let s := State.reset
  { s with can := { s.can with ratesSince := some 0, errorPassive := true, goodFrame := false } }

/-- When the rates in use were taken up, where an instruction is carried out. -/
def ratesSinceAfter : Host.Outcome State Fault Refusal → Option (Option Nat)
  | .next t => some t.can.ratesSince
  | _ => none

theorem bitrateReverted_passiveBeforeBoot : ratesSinceAfter (exec .bitrateReverted passiveBeforeBoot) = some (some 0) := by decide +kernel

/-- Refutes O41: its clause on the fall-back holds in Initialising too, where the CAN stack does not run yet and keeps the new rates. -/
theorem not_canSettings : ¬ Obligations.CanSettings := by
  unfold Obligations.CanSettings
  intro h
  obtain ⟨-, -, -, -, reverts⟩ := h passiveBeforeBoot 0
  obtain ⟨early, -⟩ := reverts 0 rfl
  obtain ⟨t, next, -, since, -⟩ := early (by decide +kernel) rfl rfl
  have kept := bitrateReverted_passiveBeforeBoot
  rw [next, ratesSinceAfter, since] at kept
  exact absurd (Option.some.inj kept) (by decide)

end Sys2Proof.Machine
end

section
/-! PROOF. Reset Communication at rates that CTL's clock does not carry: boot-up is not sent (R281, R314, R356). -/

namespace Sys2Proof.Machine

/-- A device in BOIL whose CTL runs on RC, with 500 and 2000 kbit/s in use, and 1000 kbit/s stored. -/
def slowClockFastRates : State :=
  let s := State.reset
  { s with can := { s.can with nmt := .preOperational, arbRate := 1000, inUse := (500, 2000) } }

/-- What was sent, where an instruction is carried out. -/
def sentAfter : Host.Outcome State Fault Refusal → Option (List CanOut)
  | .next t => some t.can.out
  | _ => none

theorem busDriven_slowClockFastRates : busDriven slowClockFastRates = true := by decide +kernel

theorem resetCommunication_slowClockFastRates : sentAfter (exec (.nmtResetCommunication 0) slowClockFastRates) = some [] := by
  decide +kernel

/-- Refutes O43: Reset Communication takes the stored rates into use, and where CTL runs on RC these may be too fast for the controller
(R356), so that the bus is driven before the command and not after it: no boot-up is sent. -/
theorem not_nmtAndCan : ¬ Obligations.NmtAndCan := by
  unfold Obligations.NmtAndCan
  intro h
  obtain ⟨command, -⟩ := h slowClockFastRates
  obtain ⟨-, resets⟩ := command 0 (by decide +kernel) busDriven_slowClockFastRates (.inl rfl)
  obtain ⟨t, next, -, out, -⟩ := resets (.nmtResetCommunication 0) List.mem_cons_self
  have silent := resetCommunication_slowClockFastRates
  rw [next, sentAfter, out] at silent
  exact absurd (Option.some.inj silent) (List.cons_ne_nil _ _)

end Sys2Proof.Machine
end

section
/-! PROOF. Writes to the device's own objects (R296, R308): what the common checks ask of them, and the EVT16 fields (R303). -/

namespace Sys2Proof.Machine

/-! ## The checks of R308 on a device-wide field -/

/-- A writable row of the object tables below 0x3000, in either profile, for which R210, R215, R318, R319 and R390 have no rule of their own
beyond the Access column. -/
structure DeviceField (base sub : Nat) (o : Obj) (f : Field) (w : Writers) : Prop where
  range   : base < 0x3000
  plain   : ∀ b ∈ [0x2005, 0x2007, 0x2103, 0x2204, 0x2302, 0x2510, 0x2600], base ≠ b
  found   : ∀ new, findField new base sub = .ok (o, f)
  index   : o.index = base
  perPort : o.perPort = false
  writers : f.w = some w
  holder  : o.holder = .always

section
variable {s t : State} {ch : Chan} {p : PortId}

/-- R390: out of ENDED, only Owners and RecorderControl ask for a state of the life cycle. -/
theorem lifeForbids_alive {base : Nat} (h : life s ≠ .ended) (owners : base ≠ 0x2006) (recorder : base ≠ 0x4006) (sub v : Nat) :
    lifeForbids base sub v s = false := by
  simp [lifeForbids, h, owners, recorder]

section
variable {base sub : Nat} {o : Obj} {f : Field} {w : Writers} {d : List Byte} (r : DeviceField base sub o f w)
include r

theorem DeviceField.holderGate_eq : holderGate o p s = none := by simp [holderGate, r.holder]

theorem DeviceField.roleExtra_eq (v : Nat) : roleExtra base sub v ch s = true := by
  have locks := r.plain 0x2007 (by simp)
  have gates := r.plain 0x2103 (by simp)
  have retention := r.plain 0x2204 (by simp)
  have low := r.range
  unfold roleExtra
  split
  case h_5 => rfl
  all_goals omega

theorem DeviceField.roleGrants_eq (access : accessGrants o w p ch s = true) (own : w.own = false ∨ sub = f.lo + ch.val) (v : Nat) :
    roleGrants o f w p sub v ch s = true := by
  have order := r.plain 0x2600 (by simp)
  have mine : (!w.own || decide (sub = f.lo + ch.val)) = true := by
    rcases own with own | own <;> simp [own]
  simp [roleGrants, r.index, order, r.holder, access, mine, r.roleExtra_eq]

theorem DeviceField.underTest_eq (v : Nat) : (underTest o p s || serviceUnderTest o.index p sub v s) = false := by
  have sieve := r.plain 0x2510 (by simp)
  have cal := r.plain 0x2302 (by simp)
  have low := r.range
  have crock : ¬ 0x4000 ≤ base := by omega
  have signature : base ≠ 0x3050 := by omega
  simp [underTest, serviceUnderTest, armsTested, asksUnderTest, r.index, r.holder, sieve, cal, crock, signature]

theorem DeviceField.lockForbids_eq (v : Nat) : lockForbids o f p sub v ch s = false := by
  have gates := r.plain 0x2103 (by simp)
  have low := r.range
  have free : lockCovers base sub = false := by
    simp [lockCovers]
    omega
  simp [lockForbids, r.index, gates, free]

theorem DeviceField.writeForbidden_none (alive : lifeForbids base sub (leVal d) s = false) (access : accessGrants o w p ch s = true)
    (own : w.own = false ∨ sub = f.lo + ch.val) (len : lengthOk f.len d.length = true) (ok : valueOk o f p sub d s = true) :
    writeForbidden o f w p sub d ch s = none := by
  have sieve : (decide (o.holder = .sieve) && otherHolder ch s) = false := by simp [r.holder]
  exact Machine.writeForbidden_none (by rwa [r.index]) (r.roleGrants_eq access own _) sieve (r.underTest_eq _) len ok
    (r.lockForbids_eq _)

end

/-- R308: a write to a device-wide field that the common checks let pass has its field's effect. -/
theorem dictWrite_deviceField {base : Nat} {i : BitVec 16} {sub : Byte} {o : Obj} {f : Field} {w : Writers} {d : List Byte}
    (r : DeviceField base sub.toNat o f w) (hi : splitIndex i = (base, 0)) (alive : lifeForbids base sub.toNat (leVal d) s = false)
    (access : accessGrants o w 0 ch s = true) (own : w.own = false ∨ sub.toNat = f.lo + ch.val) (len : lengthOk f.len d.length = true)
    (ok : valueOk o f 0 sub.toNat d s = true) : dictWrite ch i sub d s = writeField ch o f 0 sub.toNat d s :=
  dictWrite_passes 0 base hi (r.found _) r.writers r.holderGate_eq (by rw [r.index]; exact r.plain 0x2005 (by simp))
    (r.writeForbidden_none alive access own len ok)

/-- The outcome of a served write. -/
theorem dictCommand_served {i : BitVec 16} {sub : Byte} {d : List Byte} (h : served s ch = true) :
    dictCommand ch i sub d s = answerWrite ch i sub (dictWrite ch i sub d (requested ch s)) := by
  rw [dictCommand, if_pos h, beginRequest_served s ch h]

/-- R309: an abort whose code commits no record leaves what the write left. -/
theorem refusedWrite_unrecorded {i : BitVec 16} {sub : Byte} {c : Code} (h : refusedCode c = false) : refusedWrite ch i sub c s = s := by
  simp [refusedWrite, h]

/-- R296: a session's role is WORKSHOP or MAKER. -/
theorem hasSession_iff : hasSession s ch = true ↔ hasWorkshop s ch = true ∨ hasMaker s ch = true := by
  rw [hasWorkshop, hasMaker, decide_eq_true_iff, decide_eq_true_iff, hasSession, roleOf]
  rcases s.chans[ch].session with - | ⟨role, _, _⟩
  · simp
  · cases role <;> simp

theorem accessGrants_wOWM {o : Obj} (h : o.perPort = false) (role : ownsAny s ch = true ∨ hasSession s ch = true) :
    accessGrants o wOWM p ch s = true := by
  rw [hasSession_iff] at role
  rcases role with own | workshop | maker
  · simp [accessGrants, wOWM, ownerOf, h, own]
  · simp [accessGrants, wOWM, workshop]
  · simp [accessGrants, wOWM, maker]

end

/-! ## EVT16 fields -/

/-- A set of bits, added up. -/
def bitSum (q : Nat → Bool) (n : Nat) : Nat := (List.range n).foldl (fun a i => if q i then a + 2 ^ i else a) 0

theorem bitSum_succ (q : Nat → Bool) (n : Nat) : bitSum q (n + 1) = 2 ^ n * (q n).toNat + bitSum q n := by
  rw [bitSum, List.range_succ, List.foldl_append]
  cases h : q n <;> simp [bitSum, h, Nat.add_comm]

theorem bitSum_lt (q : Nat → Bool) (n : Nat) : bitSum q n < 2 ^ n := by
  induction n with
  | zero => exact Nat.one_pos
  | succ n ih =>
    rw [bitSum_succ, pow_succ]
    cases q n <;> simp only [Bool.toNat_false, Bool.toNat_true] <;> omega

theorem testBit_bitSum (q : Nat → Bool) {n i : Nat} (h : i < n) : (bitSum q n).testBit i = q i := by
  induction n with
  | zero => exact absurd h (Nat.not_lt_zero i)
  | succ n ih =>
    rw [bitSum_succ]
    rcases Nat.lt_succ_iff_lt_or_eq.mp h with low | rfl
    · rw [Nat.testBit_two_pow_mul_add _ (bitSum_lt q n), if_pos low, ih low]
    · rw [Nat.testBit_two_pow_mul_add _ (bitSum_lt q i), if_neg (lt_irrefl i), Nat.sub_self]
      cases q i <;> rfl

section
variable (q mask : BitVec 16) (v : Evt16)

theorem sequence_append : ((q ++ mask) >>> 16).truncate 16 = q := by
  refine BitVec.eq_of_getLsbD_eq fun i hi => ?_
  rw [BitVec.truncate_eq_setWidth, BitVec.getLsbD_setWidth, BitVec.getLsbD_ushiftRight, BitVec.getLsbD_append, decide_eq_true hi,
    if_neg (by omega), Nat.add_sub_cancel_left, Bool.true_and]

theorem mask_append : (q ++ mask).truncate 16 = mask := by
  refine BitVec.eq_of_getLsbD_eq fun i hi => ?_
  rw [BitVec.truncate_eq_setWidth, BitVec.getLsbD_setWidth, BitVec.getLsbD_append, decide_eq_true hi, if_pos hi, Bool.true_and]

/-- R303: the bits that a write of sequence and mask clears. -/
def evtCleared (i : Nat) : Bool := mask.getLsbD i && decide (evtDist (v.last.getD i 0) q ≤ 32767)

theorem evtClear_append :
    evtClear (q ++ mask) v = if 1 ≤ evtDist v.ctr q ∧ evtDist v.ctr q ≤ 32767 then none
      else some { v with bits := v.bits &&& ~~~BitVec.ofNat 16 (bitSum (evtCleared q mask v) 16) } := by
  simp only [evtClear, sequence_append, mask_append]
  rfl

theorem evtClear_bit (i : Fin 16) :
    (v.bits &&& ~~~BitVec.ofNat 16 (bitSum (evtCleared q mask v) 16)).getLsbD i.val
      = (v.bits.getLsbD i.val && !evtCleared q mask v i.val) := by
  rw [BitVec.getLsbD_and, BitVec.getLsbD_not, BitVec.getLsbD_ofNat, testBit_bitSum _ i.isLt, decide_eq_true i.isLt, Bool.true_and,
    Bool.true_and]

theorem evtSet_last (e : BitVec 16) (i : Fin 16) (len : v.last.length = 16) :
    (evtSet e v).last.getD i.val 0
      = if ((evtSet e v).bits.getLsbD i.val && decide (32768 ≤ evtDist (if e.getLsbD i.val then (evtSet e v).ctr else v.last.getD i.val 0)
            (evtSet e v).ctr)) = true then (evtSet e v).ctr - 32767
        else if e.getLsbD i.val then (evtSet e v).ctr else v.last.getD i.val 0 := by
  have place : i.val < v.last.length := len.symm ▸ i.isLt
  simp [evtSet, List.getD_eq_getElem?_getD, List.getElem?_eq_getElem place]

end

/-- R303: the two EVT16 fields of the dictionary. -/
theorem deviceField_clockEvents :
    DeviceField 0x2102 2 deviceObjects[7] { lo := 2, hi := 2, len := .fixed 4, cls := .evt16, w := some wOWM } wOWM :=
  ⟨by decide, by decide, fun new => by cases new <;> rfl, rfl, rfl, rfl, rfl⟩

theorem deviceField_thermalEvents :
    DeviceField 0x2212 1 deviceObjects[19] { lo := 1, hi := 1, len := .fixed 4, cls := .evt16, w := some wOWM } wOWM :=
  ⟨by decide, by decide, fun new => by cases new <;> rfl, rfl, rfl, rfl, rfl⟩

section
variable {s : State} {ch : Chan}

/-- R303: a served write of sequence and mask reaches its field. -/
theorem dictWrite_eventField {base : Nat} {i : BitVec 16} {sub : Byte} {o : Obj} {f : Field} (r : DeviceField base sub.toNat o f wOWM)
    (hi : splitIndex i = (base, 0)) (cls : f.cls = .evt16) (len : f.len = .fixed 4) (owners : base ≠ 0x2006) (alive : life s ≠ .ended)
    (role : ownsAny s ch = true ∨ hasSession s ch = true) (v : BitVec 32) :
    dictWrite ch i sub (leBytes 4 v.toNat) s = writeEvt base v s := by
  have value : leVal (leBytes 4 v.toNat) = v.toNat := leVal_leBytes 4 _ v.isLt
  have recorder : base ≠ 0x4006 := by have := r.range; omega
  have ok : valueOk o f 0 sub.toNat (leBytes 4 v.toNat) s = true := by simp [valueOk, cls]
  rw [dictWrite_deviceField r hi (lifeForbids_alive alive owners recorder _ _) (accessGrants_wOWM r.perPort role) (.inl rfl)
    (by rw [len, length_leBytes]; rfl) ok]
  simp [writeField, cls, r.index, value]

/-- R303: the sequence is ahead of the counter: the write aborts, with no record. -/
theorem answerWrite_window {i : BitVec 16} {sub : Byte} : answerWrite ch i sub (deny abWindow s) = answerAbort ch abWindow s :=
  congrArg (answerAbort ch abWindow) (refusedWrite_unrecorded (by decide))

end

/-- Settles O58: the counter's algebra, bit by bit, and the two fields' writes. -/
theorem eventFields : Obligations.EventFields := by
  unfold Obligations.EventFields
  refine ⟨fun e v i len => ⟨rfl, rfl, ?_, ?_⟩, fun v => ⟨?_, ?_⟩, fun q mask v => ⟨fun one far => ?_, fun old => ?_⟩,
    fun s ch v srv alive role => ?_⟩
  · simp [evtSet, len]
  · rw [evtSet_last v e i len]
    simp only [Bool.and_eq_true, decide_eq_true_eq]
    rfl
  · exact BitVec.extractLsb'_append_eq_left
  · exact BitVec.extractLsb'_append_eq_right
  · rw [evtClear_append]
    exact if_pos ⟨one, far⟩
  · have notAhead : ¬ (1 ≤ evtDist v.ctr q ∧ evtDist v.ctr q ≤ 32767) := by
      unfold evtDist
      omega
    rw [evtClear_append, if_neg notAhead]
    exact ⟨_, rfl, rfl, rfl, evtClear_bit q mask v⟩
  · have role' : ownsAny (requested ch s) ch = true ∨ hasSession (requested ch s) ch = true := by simpa using role
    have clocks : exec (.eventClear ch 0x2102 v) s = .next (answerWrite ch 0x2102 2 (writeEvt 0x2102 v (requested ch s))) := by
      refine congrArg Host.Outcome.next ((dictCommand_served srv).trans ?_)
      exact congrArg (answerWrite ch 0x2102 2)
        (dictWrite_eventField (s := requested ch s) (sub := 2) deviceField_clockEvents (by decide) rfl rfl (by decide) alive role' v)
    have heat : exec (.eventClear ch 0x2212 v) s = .next (answerWrite ch 0x2212 1 (writeEvt 0x2212 v (requested ch s))) := by
      refine congrArg Host.Outcome.next ((dictCommand_served srv).trans ?_)
      exact congrArg (answerWrite ch 0x2212 1)
        (dictWrite_eventField (s := requested ch s) (sub := 1) deviceField_thermalEvents (by decide) rfl rfl (by decide) alive role' v)
    refine ⟨fun e he => ?_, fun none => ?_, fun e he => ?_, fun none => ?_⟩
    · rw [clocks, writeEvt, if_pos rfl, requested_clk, he]
      rfl
    · refine ⟨answerAbort ch abWindow (requested ch s), ?_, (answerAbort_chan _).2, rfl⟩
      rw [clocks, writeEvt, if_pos rfl, requested_clk, none, answerWrite_window]
    · rw [heat, writeEvt, if_neg (by decide), requested_heat, he]
      rfl
    · refine ⟨answerAbort ch abWindow (requested ch s), ?_, (answerAbort_chan _).2, rfl⟩
      rw [heat, writeEvt, if_neg (by decide), requested_heat, none, answerWrite_window]

end Sys2Proof.Machine
end

section
/-! PROOF. Refused writes (R308, R309): a request leaves what the common checks read, and a refusal changes nothing but the channels and
what the recorder holds. -/

namespace Sys2Proof.Machine

section
variable {s : State} {ch c : Chan} {p : PortId} {i : BitVec 16} {sub : Byte} {o : Obj} {f : Field} {w : Writers} {d : List Byte} {k : Code}

/-! ## The checks on a request -/

theorem accessGrants_requested : accessGrants o w p ch (requested c s) = accessGrants o w p ch s := by
  simp [accessGrants, ownerOf]

theorem mayGate_requested (g : Nat) : mayGate (requested c s) ch g = mayGate s ch g := by
  simp [mayGate]

theorem roleExtra_requested (base n v : Nat) : roleExtra base n v ch (requested c s) = roleExtra base n v ch s := by
  have own : owns (requested c s) ch = owns s ch := rfl
  have gate : mayGate (requested c s) ch = mayGate s ch := funext mayGate_requested
  have mask : maskPending (requested c s) = maskPending s := rfl
  simp only [roleExtra, own, gate, mask, hasSession_requested, isBound_requested]

theorem roleGrants_requested (n v : Nat) : roleGrants o f w p n v ch (requested c s) = roleGrants o f w p n v ch s := by
  simp [roleGrants, accessGrants_requested, roleExtra_requested]

theorem clearsLocked_requested (v : BitVec 32) : clearsLocked v (requested c s) = clearsLocked v s := by
  simp [clearsLocked]

theorem lockForbids_requested (n v : Nat) : lockForbids o f p n v ch (requested c s) = lockForbids o f p n v ch s := by
  have held : sealHeldOpen (requested c s) = sealHeldOpen s := rfl
  simp [lockForbids, clearsLocked_requested, held]

theorem writeForbidden_requested (n : Nat) : writeForbidden o f w p n d ch (requested c s) = writeForbidden o f w p n d ch s := by
  simp only [writeForbidden, roleGrants_requested, lockForbids_requested]
  rfl

/-! ## What a refusal leaves -/

/-- The channels and the recorder's queue taken from t. -/
def refusalFrame (s t : State) : State := { s with chans := t.chans, crock := t.crock }

theorem raise_frame (e : Ev) (s : State) : raise e s = { s with crock := (raise e s).crock } := by
  unfold raise
  split
  · rfl
  · split <;> rfl

theorem refusalCounted_frame : refusalCounted ch s = { s with chans := (refusalCounted ch s).chans } := by
  unfold refusalCounted
  split <;> rfl

theorem refusedWrite_frame : refusedWrite ch i sub k s = refusalFrame s (refusedWrite ch i sub k s) := by
  unfold refusedWrite
  split
  · rfl
  · split
    · rw [raise_frame, refusalCounted_frame]
      rfl
    · rfl

/-- R308: the answer to a write that is refused as it stands. -/
theorem answerWrite_deny_frame : answerWrite ch i sub (deny k s) = refusalFrame s (answerWrite ch i sub (deny k s)) :=
  (congrArg (answerAbort ch k) refusedWrite_frame).trans rfl

theorem answerWrite_deny_resp : (answerWrite ch i sub (deny k s)).chans[ch].resp = .abort k := (answerAbort_chan k).2

/-! ## The writes that are refused -/

theorem dictWrite_gated (found : findField (newProfile s ch) (splitIndex i).1 sub.toNat = .ok (o, f)) (hw : f.w = some w)
    (gate : holderGate o (splitIndex i).2 s = some k) : dictWrite ch i sub d s = deny k s := by
  simp only [dictWrite, found, hw, gate]

theorem dictWrite_forbidden (found : findField (newProfile s ch) (splitIndex i).1 sub.toNat = .ok (o, f)) (hw : f.w = some w)
    (auth : o.index ≠ 0x2005) (gate : holderGate o (splitIndex i).2 s = none)
    (forbidden : writeForbidden o f w (splitIndex i).2 sub.toNat d ch s = some k) : dictWrite ch i sub d s = deny k s := by
  simp only [dictWrite, found, hw, gate, auth, if_false, forbidden]

theorem dictWrite_missing (missing : findField (newProfile s ch) (splitIndex i).1 sub.toNat = .error k) :
    dictWrite ch i sub d s = deny k s := by
  simp only [dictWrite, missing]

/-- R309: what the dictionary does not hold is refused without a record. -/
theorem refusedCode_of_missing {new : Bool} {base n : Nat} (missing : findField new base n = .error k) : refusedCode k = false := by
  unfold findField at missing
  split at missing
  · cases missing; decide
  · split at missing
    · cases missing; decide
    · split at missing
      · cases missing; decide
      · split at missing <;> cases missing
        decide

end

/-- Settles O26: each refusal leaves the request as it stood, but for the channels and the recorder. -/
theorem refusedWritesChangeNothing : Obligations.RefusedWritesChangeNothing := by
  unfold Obligations.RefusedWritesChangeNothing
  intro s ch i sub d c srv
  have answer (refused : dictWrite ch i sub d (requested ch s) = deny c (requested ch s)) :
      exec (.genericWrite ch i sub d) s = .next (answerWrite ch i sub (deny c (requested ch s))) := by
    rw [← refused]
    exact congrArg Host.Outcome.next (dictCommand_served srv)
  have kept := answerWrite_deny_frame (s := requested ch s) (ch := ch) (i := i) (sub := sub) (k := c)
  have profile : newProfile (requested ch s) ch = newProfile s ch := newProfile_requested s ch ch
  refine ⟨fun o f w found hw auth checks => ?_, fun missing => ?_⟩
  · have found' : findField (newProfile (requested ch s) ch) (splitIndex i).1 sub.toNat = .ok (o, f) := by rwa [profile]
    have refused : dictWrite ch i sub d (requested ch s) = deny c (requested ch s) := by
      rcases checks with gate | ⟨gate, forbidden⟩
      · exact dictWrite_gated found' hw gate
      · exact dictWrite_forbidden found' hw auth gate (by rwa [writeForbidden_requested])
    refine ⟨_, answer refused, answerWrite_deny_resp, ?_⟩
    rw [kept]
    exact ⟨rfl, rfl, rfl, rfl, rfl, rfl, rfl, rfl, rfl, rfl, rfl, rfl⟩
  · have refused : dictWrite ch i sub d (requested ch s) = deny c (requested ch s) := dictWrite_missing (by rwa [profile])
    have unrecorded : answerWrite ch i sub (deny c (requested ch s)) = answerAbort ch c (requested ch s) :=
      congrArg (answerAbort ch c) (refusedWrite_unrecorded (refusedCode_of_missing missing))
    exact ⟨answerAbort ch c (requested ch s), by rw [answer refused, unrecorded], (answerAbort_chan c).2,
      rfl, rfl, rfl, rfl, rfl, rfl, rfl⟩

end Sys2Proof.Machine
end

section
/-! PROOF. The end of a session (R301) and what ends with it: the Holder's sieve (R217), captures (R244) and a calibration run (R392). -/

namespace Sys2Proof.Machine

section
variable {s t : State} {ch : Chan} {p q : PortId}

/-! ## What bays leave of the device's services -/

/-- The channels, the always-on state, the fuses and the CAN objects. -/
def services (s : State) : Vector Channel 4 × Aon × Fuses × Can := (s.chans, s.aon, s.fus, s.can)

theorem services_of_elsewhere (h : elsewhere p t = elsewhere p s) : services t = services s :=
  (congrArg services h : services (elsewhere p t) = services (elsewhere p s))

/-- What each port's turn keeps, all of them keep. -/
theorem forPorts_keeps {α : Type} (g : State → α) {f : PortId → State → State} (h : ∀ p t, g (f p t) = g t) (s : State) :
    g (forPorts f s) = g s :=
  List.foldlRecOn (motive := fun t => g t = g s) _ _ rfl fun t same p _ => (h p t).trans same

theorem services_releaseHolder : services (releaseHolder s) = services s := by
  unfold releaseHolder
  split <;> rfl

theorem services_disarmAll (cause : BitVec 8) : services (disarmAll cause s) = services s := by
  refine services_releaseHolder.trans (forPorts_keeps services (fun p t => ?_) s)
  split
  · rfl
  · exact services_of_elsewhere (elsewhere_disarm 0xFF cause t)

theorem cal_releaseHolder : (releaseHolder s).cal = s.cal := by
  unfold releaseHolder
  split <;> rfl

theorem cal_disarmNow (kinds keep cause : BitVec 8) : (disarmNow p kinds keep cause s).cal = s.cal := by
  have swapped : (if kinds.getLsbD kindSwap then skipSwap p false s else s).cal = s.cal := by
    split
    · unfold skipSwap
      split <;> rfl
    · rfl
  unfold disarmNow
  split
  · rfl
  · exact cal_releaseHolder.trans ((raise_cal _ _).trans swapped)

theorem cal_disarm (kinds cause : BitVec 8) : (disarm p kinds cause s).cal = s.cal := by
  have cut : (if kinds.getLsbD kindInterrupt && s.ports[p].sieve.interrupting then endInterruption p s else s).cal = s.cal := by
    split
    · unfold endInterruption
      dsimp only
      split <;> rfl
    · rfl
  unfold disarm
  generalize (if kinds.getLsbD kindInterrupt && s.ports[p].sieve.interrupting then endInterruption p s else s) = u at cut ⊢
  dsimp only
  split
  · exact cut
  · exact (cal_disarmNow _ _ _).trans cut

theorem cal_disarmAll (cause : BitVec 8) : (disarmAll cause s).cal = s.cal := by
  refine cal_releaseHolder.trans (forPorts_keeps State.cal (fun p t => ?_) s)
  split
  · rfl
  · exact cal_disarm 0xFF cause

theorem arm_disarmNow (kinds keep cause : BitVec 8) (h : s.ports[p].sieve.arm = 0) :
    (disarmNow p kinds keep cause s).ports[p].sieve.arm = 0 := by
  have swapped : (if kinds.getLsbD kindSwap then skipSwap p false s else s).ports[p].sieve.arm = 0 := by
    split
    · obtain ⟨x, o, n, self⟩ := skipSwap_self (p := p) false s
      rw [self]
      exact h
    · exact h
  unfold disarmNow
  by_cases idle : s.ports[p].sieve.live &&& kinds = 0
  · rw [if_pos idle]
    exact h
  · rw [if_neg idle]
    dsimp only
    rw [releaseHolder_ports, raise_ports]
    generalize (if kinds.getLsbD kindSwap then skipSwap p false s else s) = u at swapped ⊢
    rw [modSieve_port]
    dsimp only
    rw [swapped]
    exact BitVec.zero_and

/-- R217: a disarm of every kind leaves no kind of its port in Arm. -/
theorem arm_disarm (cause : BitVec 8) : (disarm p 0xFF cause s).ports[p].sieve.arm = 0 := by
  unfold disarm
  generalize (if (0xFF : BitVec 8).getLsbD kindInterrupt && s.ports[p].sieve.interrupting then endInterruption p s else s) = u
  have cleared : (modSieve p (fun v => { v with arm := v.arm &&& ~~~0xFF, rearmed := v.rearmed &&& ~~~0xFF }) u).ports[p].sieve.arm
      = 0 := by
    rw [modSieve_port]
    exact BitVec.and_zero
  dsimp only
  generalize modSieve p _ u = w at cleared ⊢
  split
  · rw [modSieve_port]
    exact cleared
  · exact arm_disarmNow _ _ _ cleared

theorem arm_disarmAll (cause : BitVec 8) (live : s.ports[q].sieve.live ≠ 0) : (disarmAll cause s).ports[q].sieve.arm = 0 := by
  unfold disarmAll
  rw [releaseHolder_ports]
  obtain ⟨t, same, turn⟩ := forPorts_self (q := q) (s := s) (f := fun p t =>
    if t.ports[p].sieve.live = 0 ∧ t.ports[p].sieve.interrupting = false then t else disarm p 0xFF cause t) (fun p q t hq => by
      split
      · rfl
      · exact (portFrame_of_elsewhere p t (elsewhere_disarm 0xFF cause t)).2 q hq)
  rw [turn, if_neg fun quiet => live (same ▸ quiet.1)]
  exact arm_disarm cause

/-! ## Captures and a calibration run -/

theorem endCaptures_keeps {α : Type} (g : State → α) (h : ∀ p f t, g (modSig p f t) = g t) : g (endCaptures ch s) = g s := by
  have one (p : PortId) (k : RefSlot) (t : State) :
      g (match captureOf t.ports[p].sig k with
        | some c => if c.1 = ch then setCapture p k .sessionEnded t else t
        | none => t) = g t := by
    split
    · split
      · exact h _ _ _
      · rfl
    · rfl
  exact forPorts_keeps g (fun p t => (one p .probe _).trans (one p .line t)) s

theorem modSig_sieve (f : Sig → Sig) : (modSig p f s).ports[q].sieve = s.ports[q].sieve := by
  by_cases e : q = p
  · rw [e, modSig_port]
  · exact congrArg Port.sieve (modSig_other s p f q e)

/-- R392: a run under the channel's session is abandoned. -/
theorem abandonCalOf_run {r : CalRun} (run : s.cal.run = some r) (hr : r.ch = ch) :
    (abandonCalOf ch s).cal.run = none ∧ (abandonCalOf ch s).cal.stage = .abandoned := by
  simp only [abandonCalOf, run, hr, if_true, abandonCal, and_self]

/-- R392: an abandoned run touches nothing but the calibration. -/
theorem abandonCalOf_keeps {α : Type} (g : State → α) (h : ∀ k t, g { t with cal := k } = g t) (s : State) :
    g (abandonCalOf ch s) = g s := by
  unfold abandonCalOf
  split
  · rfl
  · split
    · unfold abandonCal
      split
      · rfl
      · exact h _ _
    · rfl

theorem services_workGone : services (workGone ch s) = services s :=
  (abandonCalOf_keeps services (fun _ _ => rfl) _).trans (endCaptures_keeps services fun _ _ _ => rfl)

theorem sieve_workGone : (workGone ch s).ports[q].sieve = s.ports[q].sieve :=
  (abandonCalOf_keeps (fun t => t.ports[q].sieve) (fun _ _ => rfl) _).trans
    (endCaptures_keeps (fun t => t.ports[q].sieve) fun _ f _ => modSig_sieve f)

theorem cal_workGone {r : CalRun} (run : s.cal.run = some r) (hr : r.ch = ch) :
    (workGone ch s).cal.run = none ∧ (workGone ch s).cal.stage = .abandoned := by
  have kept : (endCaptures ch s).cal = s.cal := endCaptures_keeps State.cal fun _ _ _ => rfl
  unfold workGone
  exact abandonCalOf_run (s := endCaptures ch s) ((congrArg Calib.run kept).trans run) hr

theorem services_holderGone (cause : Nat) : services (holderGone ch cause s) = services s := by
  unfold holderGone
  split
  · exact services_disarmAll 3
  · rfl

theorem cal_holderGone (cause : Nat) : (holderGone ch cause s).cal = s.cal := by
  unfold holderGone
  split
  · exact cal_disarmAll 3
  · rfl

/-- R217: the Holder's session disarms what is in force. -/
theorem arm_holderGone {cause : Nat} (h : cause ≠ 5) (holder : s.sieveHolder = some ch) (live : s.ports[q].sieve.live ≠ 0) :
    (holderGone ch cause s).ports[q].sieve.arm = 0 := by
  rw [holderGone, if_pos ⟨holder, h⟩]
  exact arm_disarmAll 3 live

/-! ## Sessions -/

/-- R301: the record of the end is raised behind the cleared session. -/
theorem closeSession_open {x : Session} (cause : Nat) (h : s.chans[ch].session = some x) :
    closeSession ch cause s = raise (sessionEndEv ch x.role cause) (modChan ch (fun c => { c with session := none }) s) := by
  rw [closeSession]
  split
  next e => exact nomatch h.symm.trans e
  next y e => cases h.symm.trans e; rfl

theorem closeSession_closed (cause : Nat) (h : s.chans[ch].session = none) : closeSession ch cause s = s := by
  rw [closeSession]
  split
  · rfl
  next y e => exact nomatch h.symm.trans e

/-- R301: what the end of a session leaves: no session on the channel, the others', no run under it, and the Holder's sieve disarmed. -/
structure SessionGone (ch : Chan) (s t : State) : Prop where
  own    : t.chans[ch].session = none
  others : ∀ c : Chan, c ≠ ch → t.chans[c].session = s.chans[c].session
  run    : ∀ r, s.cal.run = some r → r.ch = ch → t.cal.run = none ∧ t.cal.stage = .abandoned
  sieve  : s.sieveHolder = some ch → ∀ p : PortId, s.ports[p].sieve.live ≠ 0 → t.ports[p].sieve.arm = 0

theorem sessionGone_endSession {x : Session} {cause : Nat} (h : cause ≠ 5) (open_ : s.chans[ch].session = some x) :
    SessionGone ch s (endSession ch cause s) := by
  have ends : endSession ch cause s = workGone ch (holderGone ch cause (closeSession ch cause s)) := by
    rw [endSession, open_]
    exact if_pos rfl
  have closed := closeSession_open cause open_
  have kept : services (endSession ch cause s) = services (closeSession ch cause s) := by
    rw [ends]
    exact services_workGone.trans (services_holderGone cause)
  have chans : (endSession ch cause s).chans = (modChan ch (fun c => { c with session := none }) s).chans := by
    refine (congrArg Prod.fst kept).trans ?_
    rw [closed]
    exact raise_chans _ _
  refine ⟨?_, fun c hc => ?_, fun r run hr => ?_, fun holder p live => ?_⟩
  · rw [chans]
    exact congrArg Channel.session (modChan_self _ _ _)
  · rw [chans]
    exact congrArg Channel.session (modChan_other _ _ _ _ hc)
  · have cal : (holderGone ch cause (closeSession ch cause s)).cal = s.cal := by
      rw [cal_holderGone, closed, raise_cal, modChan_cal]
    rw [ends]
    exact cal_workGone ((congrArg Calib.run cal).trans run) hr
  · have holder' : (closeSession ch cause s).sieveHolder = some ch := by rw [closed, raise_sieveHolder, modChan_sieveHolder, holder]
    have live' : (closeSession ch cause s).ports[p].sieve.live ≠ 0 := by rwa [closed, raise_ports, modChan_ports]
    rw [ends, sieve_workGone]
    exact arm_holderGone h holder' live'

end

end Sys2Proof.Machine
end

section
/-! PROOF. Nonces and answers (R299, R300), sessions (R301) and owners (R297). -/

namespace Sys2Proof.Machine

section
variable {s t : State} {ch c : Chan} {d : List Byte}

/-! ## Nonces -/

theorem nonce_requested : (requested c s).chans[ch].nonce = s.chans[ch].nonce := by
  by_cases e : ch = c
  · subst e
    simp [requested]
  · simp [requested, modChan_other _ c ch _ e]

theorem validNonce_requested : validNonce (requested c s) ch = validNonce s ch := by
  rw [validNonce, nonce_requested]
  rfl

/-- R299: AuthNonce is read by every channel, in each state of the dictionary. -/
theorem dictRead_nonce : dictRead ch 0x2004 1 s = readNonce ch s := by
  have found : findField (newProfile s ch) (splitIndex 0x2004).1 (1 : Byte).toNat
      = .ok (commObjects[12], { lo := 1, hi := 1, len := .fixed 16 }) := by
    cases newProfile s ch <;> rfl
  rw [dictRead, found]
  rfl

theorem readNonce_open (h : s.aon.lockout ≤ s.aon.tally) :
    readNonce ch s = .ok (beBytes 16 (drawn s % 2 ^ 128), afterDraw (modChan ch (fun c =>
      { c with nonce := some (beBytes 16 (drawn s % 2 ^ 128), s.aon.tally + 60000000000) }) s)) := by
  have unlocked : lockedOut s = false := decide_eq_false (Nat.not_lt.mpr h)
  rw [readNonce, unlocked]
  rfl

theorem readNonce_locked (h : s.aon.tally < s.aon.lockout) : readNonce ch s = .error (abLocked, s) := by
  have locked : lockedOut s = true := decide_eq_true h
  rw [readNonce, locked]
  rfl

theorem readCommand_served {i : BitVec 16} {sub : Byte} (h : served s ch = true) :
    readCommand ch i sub s = answerRead ch (dictRead ch i sub (requested ch s)) := by
  rw [readCommand, if_pos h, beginRequest_served s ch h]

/-! ## Answers (R300) -/

/-- R300: AuthResponse is judged in its own order, whatever the state of the life cycle. -/
theorem dictWrite_authResponse : dictWrite ch 0x2005 1 d s = authResponse ch d s := by
  have found : findField (newProfile s ch) (splitIndex 0x2005).1 (1 : Byte).toNat
      = .ok (commObjects[13], { lo := 1, hi := 1, len := .fixed 272, cls := .ctrl, rd := false, w := some { all := true } }) := by
    cases newProfile s ch <;> rfl
  rw [dictWrite, found]
  rfl

theorem authCheck_requested : authCheck (requested c s) ch d = authCheck s ch d := by
  rw [authCheck, authCheck, validNonce_requested]
  rfl

/-- The role that a response asks for. -/
def askedRole (d : List Byte) : Role := if (d.getD 1 0).toNat = 1 then .workshop else .maker

section
variable (len : d.length = 272) (life : authLifeDenied s (d.getD 1 0).toNat = false) (unlocked : s.aon.lockout ≤ s.aon.tally)
include len life unlocked

theorem authResponse_passes (check : authCheck s ch d = none) :
    authResponse ch d s = .ok (openSession ch (askedRole d) (slice d 68 64) (useNonce ch s)) := by
  have out : lockedOut s = false := decide_eq_false (Nat.not_lt.mpr unlocked)
  simp only [authResponse, len, life, out, check, ne_eq, not_true_eq_false, if_false, Bool.false_eq_true]
  rfl

theorem authResponse_fails {k : Nat} (check : authCheck s ch d = some k) :
    authResponse ch d s = .error (abAuth, authFailed ch k (d.getD 1 0).toNat (useNonce ch s)) := by
  have out : lockedOut s = false := decide_eq_false (Nat.not_lt.mpr unlocked)
  simp only [authResponse, len, life, out, check, ne_eq, not_true_eq_false, if_false, Bool.false_eq_true]

end

/-! ### A failed answer -/

theorem chans_authFailed (k role : Nat) :
    (authFailed ch k role s).chans = (modChan ch (fun c => { c with counters := bump 7 1 c.counters }) s).chans := raise_chans _ _

theorem ports_authFailed (k role : Nat) : (authFailed ch k role s).ports = s.ports := raise_ports _ _

/-- R300: the fifth failure in a row starts the lockout. -/
theorem aon_authFailed (k role : Nat) : (authFailed ch k role s).aon =
    if s.aon.authRun + 1 = 5 then { s.aon with authRun := 0, lockout := s.aon.tally + 60000000000 }
    else { s.aon with authRun := s.aon.authRun + 1 } := by
  have aon : ∀ e : Ev, (raise e (modChan ch (fun c => { c with counters := bump 7 1 c.counters }) s)).aon = s.aon :=
    fun e => raise_aon _ _
  unfold authFailed
  dsimp only [copyToMram]
  rw [aon]

/-! ### A session opens -/

theorem chan_closeSession (cause : Nat) : (closeSession ch cause s).chans[ch] = { s.chans[ch] with session := none } := by
  rcases h : s.chans[ch].session with - | x
  · rw [closeSession_closed cause h, ← h]
  · rw [closeSession_open cause h, raise_chans]
    exact modChan_self _ _ _

theorem chan_closeSession_other (cause : Nat) (hc : c ≠ ch) : (closeSession ch cause s).chans[c] = s.chans[c] := by
  rcases h : s.chans[ch].session with - | x
  · rw [closeSession_closed cause h]
  · rw [closeSession_open cause h, raise_chans]
    exact modChan_other _ _ _ _ hc

/-- R300, R301: the session as it opens, before what ran under the one it replaces ends. -/
def sessionOpened (ch : Chan) (role : Role) (key : List Byte) (s : State) : State :=
  let t := closeSession ch 7 s
  raise (devEv .dict 0x0602 6 ([BitVec.ofNat 8 ch.val, BitVec.ofNat 8 (roleCode role)] ++ (sha256 key).take 4))
    (modChan ch (fun c => { c with session := some { role := role, expiry := s.aon.tally + sessionLength, keyId := (sha256 key).take 4 } })
      (copyToMram { t with aon := { t.aon with authRun := 0 } }))

theorem openSession_eq (role : Role) (key : List Byte) : openSession ch role key s =
    if s.chans[ch].session.isSome then workGone ch (holderGone ch 7 (sessionOpened ch role key s)) else sessionOpened ch role key s := rfl

theorem services_openSession (role : Role) (key : List Byte) :
    services (openSession ch role key s) = services (sessionOpened ch role key s) := by
  rw [openSession_eq]
  split
  · exact services_workGone.trans (services_holderGone 7)
  · rfl

theorem chans_openSession (role : Role) (key : List Byte) :
    (openSession ch role key s).chans = (sessionOpened ch role key s).chans := congrArg Prod.fst (services_openSession role key)

/-- R301: the new session runs for 30 minutes, and the failures in a row are forgotten. -/
theorem sessionOpened_own (role : Role) (key : List Byte) :
    (sessionOpened ch role key s).chans[ch] = { s.chans[ch] with
      session := some { role := role, expiry := s.aon.tally + 1800000000000, keyId := (sha256 key).take 4 } }
    ∧ (sessionOpened ch role key s).aon.authRun = 0 := by
  have closed := chan_closeSession (ch := ch) (s := s) 7
  unfold sessionOpened
  dsimp only
  rw [raise_chans, raise_aon]
  refine ⟨(modChan_self _ _ _).trans ?_, rfl⟩
  exact congrArg (fun c : Channel => { c with
    session := some { role := role, expiry := s.aon.tally + sessionLength, keyId := (sha256 key).take 4 } }) closed

theorem chan_openSession (role : Role) (key : List Byte) : (openSession ch role key s).chans[ch] = { s.chans[ch] with
    session := some { role := role, expiry := s.aon.tally + 1800000000000, keyId := (sha256 key).take 4 } } := by
  rw [chans_openSession]
  exact (sessionOpened_own role key).1

theorem chan_answered : (answered ch s).chans[ch] = { s.chans[ch] with resp := .ok } := modChan_self _ _ _

theorem sessionOpened_other (role : Role) (key : List Byte) (hc : c ≠ ch) : (sessionOpened ch role key s).chans[c] = s.chans[c] := by
  unfold sessionOpened
  dsimp only
  rw [raise_chans]
  exact (modChan_other _ _ _ _ hc).trans (chan_closeSession_other 7 hc)

/-- R16: a session that replaces none ends nothing. -/
theorem openSession_first (role : Role) (key : List Byte) (h : s.chans[ch].session = none) :
    (openSession ch role key s).ports = s.ports ∧ (openSession ch role key s).sieveHolder = s.sieveHolder
    ∧ (openSession ch role key s).cal = s.cal := by
  rw [openSession_eq, h, if_neg (by decide)]
  unfold sessionOpened
  dsimp only
  rw [closeSession_closed 7 h, raise_ports, raise_sieveHolder, raise_cal]
  exact ⟨rfl, rfl, rfl⟩

/-! ### The nonce is used up -/

theorem chan_useNonce : (useNonce ch s).chans[ch] = { s.chans[ch] with nonce := none } := modChan_self _ _ _

/-- R309: a record of a refusal leaves the channel's nonce. -/
theorem nonce_refusedWrite {i : BitVec 16} {sub : Byte} (k : Code) :
    (refusedWrite ch i sub k s).chans[ch].nonce = s.chans[ch].nonce := by
  have counted : (refusalCounted ch s).chans[ch].nonce = s.chans[ch].nonce := by
    unfold refusalCounted
    split
    · simp
    · rfl
  unfold refusedWrite
  split
  · rfl
  · split
    · refine (congrArg (fun v : Vector Channel 4 => v[ch].nonce) (raise_chans _ _)).trans ?_
      exact (congrArg Channel.nonce (modChan_self _ _ _)).trans counted
    · simp [refusalSuppressed]

theorem nonce_answerAbort (k : Code) : (answerAbort ch k s).chans[ch].nonce = s.chans[ch].nonce := by simp [answerAbort, countAbort]

/-- R299: whatever an answer says, it uses the nonce up. -/
theorem nonce_authResponse {i : BitVec 16} {sub : Byte} : (answerWrite ch i sub (authResponse ch d s)).chans[ch].nonce = none := by
  have used : (useNonce ch s).chans[ch].nonce = none := congrArg Channel.nonce chan_useNonce
  have aborts (k : Code) (t : State) (h : t.chans[ch].nonce = none) :
      (answerWrite ch i sub (.error (k, t))).chans[ch].nonce = none :=
    (nonce_answerAbort k).trans ((nonce_refusedWrite k).trans h)
  unfold authResponse
  dsimp only
  split
  · exact aborts _ _ used
  · split
    · exact aborts _ _ used
    · split
      · exact aborts _ _ used
      · split
        · refine aborts _ _ ?_
          rw [chans_authFailed]
          exact (congrArg Channel.nonce (modChan_self _ _ _)).trans used
        · exact (congrArg Channel.nonce chan_answered).trans ((congrArg Channel.nonce (chan_openSession _ _)).trans used)

/-! ## The end of a session by a write (R301) -/

theorem deviceField_roleSession (ch : Chan) : DeviceField 0x2003 (ch.val + 1) commObjects[11] (ctrls 1 4 8 wOwn) wOwn :=
  ⟨by decide, by decide, fun new => by fin_cases ch <;> cases new <;> rfl, rfl, rfl, rfl, rfl⟩

theorem dictWrite_sessionEnd : dictWrite ch 0x2003 (BitVec.ofNat 8 (ch.val + 1)) (leBytes 8 0) s = .ok (endSession ch 2 s) := by
  have sub : (BitVec.ofNat 8 (ch.val + 1)).toNat = ch.val + 1 := by
    have := ch.isLt
    rw [BitVec.toNat_ofNat, Nat.mod_eq_of_lt (by omega)]
  have field := deviceField_roleSession ch
  rw [← sub] at field
  have alive : lifeForbids 0x2003 (BitVec.ofNat 8 (ch.val + 1)).toNat (leVal (leBytes 8 0)) s = false := by simp [lifeForbids, endedAccepts]
  rw [dictWrite_deviceField field (by decide) alive (by simp [accessGrants, wOwn]) (.inr (sub.trans (Nat.add_comm _ _))) (by decide) rfl]
  rfl

/-! ## Owners (R297) -/

/-- R385: a burn verifies where some fresh cell is good. -/
theorem burnFuse_verifies (cells : List Cell) : (burnFuse cells).2 = true ↔ ∃ c ∈ cells, c.st = .fresh ∧ c.good = true := by
  induction cells with
  | nil => simp [burnFuse]
  | cons c rest ih =>
    unfold burnFuse isFresh
    by_cases fresh : c.st = .fresh <;> by_cases good : c.good = true <;> simp [fresh, good, ih]

/-- R385: a fuse reads burned after a burn where it did before or the burn verified. -/
theorem fuseBurned_burnFuse (cells : List Cell) : fuseBurned (burnFuse cells).1 = (fuseBurned cells || (burnFuse cells).2) := by
  induction cells with
  | nil => rfl
  | cons c rest ih =>
    unfold fuseBurned at ih ⊢
    unfold burnFuse isFresh
    by_cases fresh : c.st = .fresh <;> by_cases good : c.good = true <;> simp [fresh, good, ih, burnCell, isBurned, Bool.or_assoc]

/-- R385: after a burn of BOUND in SEALED UNBOUND, the life cycle stands where the burn left it. -/
theorem lifeOf_burnBound {f : Fuses} (h : lifeOf f = .sealedUnbound) :
    lifeOf (burnLife .bound f).1 = if (burnLife .bound f).2 then .sealedBound else .sealedUnbound := by
  have burned := fuseBurned_burnFuse f.bound
  have cells : (burnLife .bound f).1 = { f with bound := (burnFuse f.bound).1 } := rfl
  have flag : (burnLife .bound f).2 = (burnFuse f.bound).2 := rfl
  unfold lifeOf at h ⊢
  split at h
  · cases h
  next ended =>
    split at h
    · cases h
    next returned =>
      split at h
      · cases h
      next bound =>
        split at h
        next closed =>
          simp only [cells, flag, ended, returned, closed, burned, bound, Bool.false_or, if_true]
          rfl
        · cases h

theorem bindCaptures_keeps {α : Type} (g : State → α) (h : ∀ p f t, g (modSig p f t) = g t) : g (bindCaptures ch s) = g s := by
  have one (p : PortId) (k : RefSlot) (t : State) :
      g (if (refOf (refSlot t.ports[p].sig k)).isNone && (captureOf t.ports[p].sig k).isNone then startCapture p k ch t else t) = g t := by
    split
    · exact h _ _ _
    · rfl
  exact forPorts_keeps g (fun p t => (one p .probe _).trans (one p .line t)) s

theorem can_bindCaptures : (bindCaptures ch s).can = s.can := bindCaptures_keeps State.can fun _ _ _ => rfl

theorem fus_bindCaptures : (bindCaptures ch s).fus = s.fus := bindCaptures_keeps State.fus fun _ _ _ => rfl

/-- R297: the ownership, its count and its instant. -/
theorem can_bind (v : BitVec 16) : (bind ch v s).can =
    { s.can with owners := v, bindingCount := sat16 (s.can.bindingCount + 1), lastBinding := s.aon.tally } :=
  can_bindCaptures.trans (raise_can _ _)

theorem fus_bind (v : BitVec 16) : (bind ch v s).fus = s.fus := fus_bindCaptures.trans (raise_fus _ _)

theorem writeOwners_bound (v : BitVec 16) (h : life s = .sealedBound) : writeOwners ch v s = bind ch v s := if_pos h

/-- R388: the first binding burns BOUND, and binds where that verifies. -/
theorem writeOwners_unbound (v : BitVec 16) (h : life s = .sealedUnbound) :
    (writeOwners ch v s).fus = (burnLife .bound s.fus).1
    ∧ (writeOwners ch v s).can.owners = if (burnLife .bound s.fus).2 then v else s.can.owners := by
  have unbound : ¬ life s = .sealedBound := by rw [h]; decide
  unfold writeOwners
  rw [if_neg unbound]
  dsimp only
  split
  · rw [fus_bind, can_bind, raise_fus]
    exact ⟨rfl, rfl⟩
  · rw [raise_fus, raise_can]
    exact ⟨rfl, rfl⟩

theorem deviceField_owners : DeviceField 0x2006 1 commObjects[14] (ctrl 1 2 wWM) wWM :=
  ⟨by decide, by decide, fun new => by cases new <;> rfl, rfl, rfl, rfl, rfl⟩

/-- R297: a session writes Owners in SEALED. -/
theorem dictWrite_owners (session : hasSession s ch = true) (sealed_ : life s = .sealedUnbound ∨ life s = .sealedBound) (v : BitVec 16) :
    dictWrite ch 0x2006 1 (leBytes 2 v.toNat) s = .ok (writeOwners ch v s) := by
  have value : leVal (leBytes 2 v.toNat) = v.toNat := leVal_leBytes 2 _ v.isLt
  have alive : lifeForbids 0x2006 (1 : Byte).toNat (leVal (leBytes 2 v.toNat)) s = false := by
    rcases sealed_ with h | h <;> simp [lifeForbids, h]
  have access : accessGrants commObjects[14] wWM 0 ch s = true := by
    rcases hasSession_iff.mp session with h | h <;> simp [accessGrants, wWM, h]
  rw [dictWrite_deviceField (sub := 1) deviceField_owners (by decide) alive access (.inl rfl) (by rw [length_leBytes]; rfl) rfl]
  have effect : writeField ch commObjects[14] (ctrl 1 2 wWM) 0 (1 : Byte).toNat (leBytes 2 v.toNat) s
      = .ok (writeOwners ch (BitVec.ofNat 16 (leVal (leBytes 2 v.toNat))) s) := rfl
  rw [effect, value, BitVec.ofNat_toNat, BitVec.setWidth_eq]

end

/-! ## The commands -/

section
variable {s t : State} {ch : Chan}

theorem exec_authResponse (srv : served s ch = true) (d : List Byte) :
    exec (.authResponse ch d) s = .next (answerWrite ch 0x2005 1 (authResponse ch d (requested ch s))) := by
  rw [← dictWrite_authResponse]
  exact congrArg Host.Outcome.next (dictCommand_served srv)

theorem exec_authNonceRead (srv : served s ch = true) :
    exec (.authNonceRead ch) s = .next (answerRead ch (readNonce ch (requested ch s))) := by
  rw [← dictRead_nonce]
  exact congrArg Host.Outcome.next (readCommand_served srv)

theorem answered_can : (answered ch s).can = s.can := rfl

theorem answered_fus : (answered ch s).fus = s.fus := rfl

theorem session_requested (c : Chan) : (requested ch s).chans[c].session = s.chans[c].session := (chan_requested s ch c).1

section
variable {d : List Byte} (srv : served s ch = true) (len : d.length = 272) (life : authLifeDenied s (d.getD 1 0).toNat = false)
  (unlocked : s.aon.lockout ≤ s.aon.tally)
include srv len life unlocked

/-- R300: an answer that passes every check opens a session of 30 minutes. -/
theorem exec_authResponse_passes (check : authCheck s ch d = none) : ∃ t, exec (.authResponse ch d) s = .next t ∧ t.chans[ch].resp = .ok
    ∧ t.chans[ch].session = some { role := askedRole d, expiry := s.aon.tally + 1800000000000, keyId := (sha256 (slice d 68 64)).take 4 }
    ∧ t.aon.authRun = 0 ∧ (∀ c : Chan, c ≠ ch → t.chans[c].session = s.chans[c].session)
    ∧ (s.chans[ch].session = none → t.ports = s.ports ∧ t.sieveHolder = s.sieveHolder ∧ t.cal = s.cal) := by
  have passes := authResponse_passes (s := requested ch s) len life unlocked (authCheck_requested.trans check)
  have opened := sessionOpened_own (ch := ch) (s := useNonce ch (requested ch s)) (askedRole d) (slice d 68 64)
  have aon := congrArg (fun x => x.2.1.authRun)
    (services_openSession (ch := ch) (s := useNonce ch (requested ch s)) (askedRole d) (slice d 68 64))
  refine ⟨_, (exec_authResponse srv d).trans (congrArg (fun r => Host.Outcome.next (answerWrite ch 0x2005 1 r)) passes),
    congrArg Channel.resp chan_answered, (congrArg Channel.session chan_answered).trans (congrArg Channel.session (chan_openSession _ _)),
    aon.trans opened.2, fun c hc => ?_, fun first => ?_⟩
  · have kept : (openSession ch (askedRole d) (slice d 68 64) (useNonce ch (requested ch s))).chans[c] = (requested ch s).chans[c] := by
      rw [chans_openSession]
      exact (sessionOpened_other _ _ hc).trans (modChan_other _ _ _ _ hc)
    exact (congrArg Channel.session (modChan_other _ _ _ _ hc)).trans ((congrArg Channel.session kept).trans (session_requested c))
  · have first' : (useNonce ch (requested ch s)).chans[ch].session = none := by
      rw [chan_useNonce]
      exact (session_requested ch).trans first
    exact openSession_first _ _ first'

/-- R300: an answer that fails a check counts, and the fifth in a row starts the lockout. -/
theorem exec_authResponse_fails {k : Nat} (check : authCheck s ch d = some k) : ∃ t, exec (.authResponse ch d) s = .next t
    ∧ t.chans[ch].resp = .abort abAuth ∧ t.chans[ch].session = s.chans[ch].session ∧ t.ports = s.ports
    ∧ (s.aon.authRun = 4 → t.aon.authRun = 0 ∧ t.aon.lockout = s.aon.tally + 60000000000)
    ∧ (s.aon.authRun ≠ 4 → t.aon.authRun = s.aon.authRun + 1 ∧ t.aon.lockout = s.aon.lockout) := by
  have fails := authResponse_fails (s := requested ch s) len life unlocked (authCheck_requested.trans check)
  have answer : answerWrite ch 0x2005 1 (authResponse ch d (requested ch s))
      = answerAbort ch abAuth (authFailed ch k (d.getD 1 0).toNat (useNonce ch (requested ch s))) := by
    rw [fails]
    exact congrArg (answerAbort ch abAuth) (refusedWrite_unrecorded (by decide))
  have aon : (answerAbort ch abAuth (authFailed ch k (d.getD 1 0).toNat (useNonce ch (requested ch s)))).aon
      = if s.aon.authRun + 1 = 5 then { s.aon with authRun := 0, lockout := s.aon.tally + 60000000000 }
        else { s.aon with authRun := s.aon.authRun + 1 } := aon_authFailed k _
  have session : (authFailed ch k (d.getD 1 0).toNat (useNonce ch (requested ch s))).chans[ch].session = s.chans[ch].session := by
    rw [chans_authFailed]
    exact (congrArg Channel.session (modChan_self _ _ _)).trans ((congrArg Channel.session chan_useNonce).trans (session_requested ch))
  refine ⟨_, (exec_authResponse srv d).trans (congrArg Host.Outcome.next answer), (answerAbort_chan _).2, ?_, ports_authFailed k _,
    fun fifth => ?_, fun before => ?_⟩
  · rw [← session]
    simp [answerAbort, countAbort]
  · rw [aon, if_pos (by omega)]
    exact ⟨rfl, rfl⟩
  · rw [aon, if_neg (by omega)]
    exact ⟨rfl, rfl⟩

end

/-- R301: a session's end by a write to its own sub-index of RoleSession. -/
theorem exec_sessionEndWrite (srv : served s ch = true) :
    exec (.sessionEndWrite ch (BitVec.ofNat 8 (ch.val + 1)) 0) s = .next (answered ch (endSession ch 2 (requested ch s))) :=
  congrArg Host.Outcome.next (dictCommand_ok srv dictWrite_sessionEnd)

theorem exec_sessionExpiry {x : Session} (open_ : s.chans[ch].session = some x) :
    exec (.sessionExpiry ch) s = .next (if x.expiry ≤ s.aon.tally then endSession ch 1 s else s) := by
  refine congrArg Host.Outcome.next ?_
  split
  next e => exact nomatch open_.symm.trans e
  next y e => cases open_.symm.trans e; rfl

/-- R301: what the end by a write leaves, told of the state before the request. -/
theorem sessionGone_answered (h : SessionGone ch (requested ch s) t) : SessionGone ch s (answered ch t) := by
  refine ⟨(congrArg Channel.session chan_answered).trans h.own, fun c hc => ?_, fun r run hr => ?_, fun holder p live => ?_⟩
  · exact (congrArg Channel.session (modChan_other _ _ _ _ hc)).trans ((h.others c hc).trans (session_requested c))
  · have cal : (answered ch t).cal = t.cal := rfl
    rw [cal]
    exact h.run r (by rwa [requested_cal]) hr
  · rw [answered_ports]
    exact h.sieve (by rwa [requested_sieveHolder]) p (by rwa [requested_ports])

theorem exec_ownersWrite (srv : served s ch = true) (session : hasSession s ch = true)
    (sealed_ : life s = .sealedUnbound ∨ life s = .sealedBound) (v : BitVec 16) :
    exec (.ownersWrite ch v) s = .next (answered ch (writeOwners ch v (requested ch s))) :=
  congrArg Host.Outcome.next (dictCommand_ok srv
    (dictWrite_owners (s := requested ch s) (by rwa [hasSession_requested]) (by rwa [life_requested]) v))

end

/-- Settles O42: nonces, answers, the ends of sessions, and owners. -/
theorem sessionsOpenAndEnd : Obligations.SessionsOpenAndEnd := by
  unfold Obligations.SessionsOpenAndEnd
  intro s ch
  refine ⟨fun srv => ⟨fun free => ?_, fun locked => ?_, fun d => ⟨_, exec_authResponse srv d, nonce_authResponse⟩,
      fun d len life free => ⟨exec_authResponse_passes srv len life free, fun k => exec_authResponse_fails srv len life free⟩⟩,
    fun n till nonce => ?_, fun free => congrArg Host.Outcome.next (if_pos free), fun x open_ i hi => ?_, fun x open_ young => ?_,
    fun v srv session => ⟨fun bound => ?_, fun unbound => ?_⟩⟩
  · rw [exec_authNonceRead srv, readNonce_open (s := requested ch s) free]
    rfl
  · rw [exec_authNonceRead srv, readNonce_locked (s := requested ch s) locked]
    exact ⟨_, rfl, (answerAbort_chan _).2, (nonce_answerAbort _).trans nonce_requested, rfl⟩
  · refine congrArg Host.Outcome.next ?_
    split
    next e => exact nomatch nonce.symm.trans e
    next y e => cases nonce.symm.trans e; rfl
  · rcases hi with ⟨rfl, old⟩ | ⟨rfl, srv⟩
    · have gone := sessionGone_endSession (cause := 1) (by decide) open_
      exact ⟨_, (exec_sessionExpiry open_).trans (congrArg Host.Outcome.next (if_pos old)), gone.own, gone.others, gone.run, gone.sieve⟩
    · have gone : SessionGone ch s (answered ch (endSession ch 2 (requested ch s))) := sessionGone_answered
        (sessionGone_endSession (s := requested ch s) (cause := 2) (by decide) ((session_requested ch).trans open_))
      exact ⟨_, exec_sessionEndWrite srv, gone.own, gone.others, gone.run, gone.sieve⟩
  · rw [exec_sessionExpiry open_, if_neg (Nat.not_le.mpr young)]
  · have run := exec_ownersWrite srv session (.inr bound) v
    rw [writeOwners_bound (s := requested ch s) v bound] at run
    refine ⟨_, run, ?_⟩
    rw [answered_can, answered_fus, can_bind, fus_bind]
    exact ⟨rfl, rfl, rfl, rfl⟩
  · obtain ⟨fus, owners⟩ := writeOwners_unbound (ch := ch) (s := requested ch s) v unbound
    have lives : life (answered ch (writeOwners ch v (requested ch s)))
        = if (burnLife .bound s.fus).2 then .sealedBound else .sealedUnbound :=
      (congrArg lifeOf fus).trans (lifeOf_burnBound unbound)
    refine ⟨_, exec_ownersWrite srv session (.inl unbound) v, fun good => ?_, fun bad => ?_⟩
    · have verified : (burnLife .bound s.fus).2 = true := (burnFuse_verifies _).mpr good
      exact ⟨lives.trans (if_pos verified), owners.trans (if_pos verified)⟩
    · have failed : ¬ (burnLife .bound s.fus).2 = true := fun verified => by
        obtain ⟨c, hc, fresh, good⟩ := (burnFuse_verifies _).mp verified
        exact Bool.false_ne_true ((bad c hc fresh).symm.trans good)
      exact ⟨lives.trans (if_neg failed), owners.trans (if_neg failed)⟩

end Sys2Proof.Machine
end

section
/-! PROOF. No write puts a frame on the bus: what it leaves to be sent is what was there, through every function a write reaches. A port's
functions keep the outbox with all else outside their port; the functions of the device stand in the order of the model's files. -/

namespace Sys2Proof.Machine

/-- The frames that wait to be sent. -/
def sent (s : State) : List CanOut := s.can.out

/-- The frames that wait after a write, whether it was applied or refused. -/
def sentByWrite (r : Wr) : List CanOut :=
  match r with
  | .ok t => sent t
  | .error e => sent e.2

section
variable (s : State) (p : PortId) (ch : Chan)

/-! ## Outcomes, branches and loops -/

@[simp] theorem sentByWrite_ok : sentByWrite (.ok s) = sent s := rfl

@[simp] theorem sentByWrite_error (c : Code) : sentByWrite (.error (c, s)) = sent s := rfl

@[simp] theorem sentByWrite_deny (c : Code) : sentByWrite (deny c s) = sent s := rfl

@[simp] theorem sentByWrite_ite (b : Prop) [Decidable b] (r r' : Wr) :
    sentByWrite (if b then r else r') = if b then sentByWrite r else sentByWrite r' := apply_ite ..

@[simp] theorem sent_ite (b : Prop) [Decidable b] (t u : State) : sent (if b then t else u) = if b then sent t else sent u := apply_ite ..

theorem sent_foldl {α : Type} {f : State → α → State} (h : ∀ t a, sent (f t a) = sent t) (l : List α) :
    sent (l.foldl f s) = sent s :=
  List.foldlRecOn (motive := fun t => sent t = sent s) _ _ rfl fun t same a _ => (h t a).trans same

theorem sent_forPorts {f : PortId → State → State} (h : ∀ p t, sent (f p t) = sent t) : sent (forPorts f s) = sent s :=
  sent_foldl s (fun t p => h p t) _

theorem sent_forChans {f : Chan → State → State} (h : ∀ c t, sent (f c t) = sent t) : sent (forChans f s) = sent s :=
  sent_foldl s (fun t c => h c t) _

theorem sent_forClasses {f : Cls → State → State} (h : ∀ c t, sent (f c t) = sent t) : sent (forClasses f s) = sent s :=
  sent_foldl s (fun t c => h c t) _

theorem sent_of_elsewhere {t : State} (h : elsewhere p t = elsewhere p s) : sent t = sent s :=
  (congrArg sent h : sent (elsewhere p t) = sent (elsewhere p s))

/-! ## Parts of the state without the outbox -/

@[simp] theorem sent_with_aon (x : Aon) : sent { s with aon := x } = sent s := rfl

@[simp] theorem sent_with_fus (x : Fuses) : sent { s with fus := x } = sent s := rfl

@[simp] theorem sent_with_cal (x : Calib) : sent { s with cal := x } = sent s := rfl

@[simp] theorem sent_with_life (x : Life) : sent { s with life := x } = sent s := rfl

@[simp] theorem sent_with_rcp (x : Recipes) : sent { s with rcp := x } = sent s := rfl

@[simp] theorem sent_with_lastAnchor (x : List (BitVec 64)) : sent { s with lastAnchor := x } = sent s := rfl

@[simp] theorem sent_modChan (f : Channel → Channel) : sent (modChan ch f s) = sent s := rfl

@[simp] theorem sent_copyToMram : sent (copyToMram s) = sent s := rfl

@[simp] theorem sent_modClk (f : Clocks → Clocks) : sent (modClk f s) = sent s := rfl

@[simp] theorem sent_modGate (f : Gates → Gates) : sent (modGate f s) = sent s := rfl

@[simp] theorem sent_modPwr (f : Power → Power) : sent (modPwr f s) = sent s := rfl

@[simp] theorem sent_modHeat (f : Heat → Heat) : sent (modHeat f s) = sent s := rfl

@[simp] theorem sent_modBist (f : Bist → Bist) : sent (modBist f s) = sent s := rfl

@[simp] theorem sent_modPort (f : Port → Port) : sent (modPort p f s) = sent s := rfl

@[simp] theorem sent_modLink (f : Link → Link) : sent (modLink p f s) = sent s := rfl

@[simp] theorem sent_modLine (f : Line → Line) : sent (modLine p f s) = sent s := rfl

@[simp] theorem sent_modHost (f : HostLane → HostLane) : sent (modHost p f s) = sent s := rfl

@[simp] theorem sent_modDsp (f : Dsp → Dsp) : sent (modDsp p f s) = sent s := rfl

@[simp] theorem sent_modSig (f : Sig → Sig) : sent (modSig p f s) = sent s := rfl

@[simp] theorem sent_modSeal (f : Seal → Seal) : sent (modSeal p f s) = sent s := rfl

@[simp] theorem sent_modSieve (f : SievePort → SievePort) : sent (modSieve p f s) = sent s := rfl

@[simp] theorem sent_raise (e : Ev) : sent (raise e s) = sent s := congrArg Can.out (raise_can s e)

/-! ## Ports -/

@[simp] theorem sent_finishSeal (root : List Byte) (anchor : Option Nat) (failed : Bool) :
    sent (finishSeal p root anchor failed s) = sent s := sent_of_elsewhere s p (elsewhere_finishSeal ..)

@[simp] theorem sent_gapLeaf (c : Cls) (l : RxLoss) (entry : Nat) : sent (gapLeaf p c l entry s) = sent s :=
  sent_of_elsewhere s p (elsewhere_gapLeaf ..)

@[simp] theorem sent_release (g : Seg) : sent (release p g s) = sent s := sent_of_elsewhere s p (elsewhere_release ..)

@[simp] theorem sent_ledgerAdd (rx : Bool) (c : Cls) (l : RxLoss) (t : Nat) : sent (ledgerAdd p rx c l t s) = sent s :=
  sent_of_elsewhere s p (elsewhere_ledgerAdd ..)

@[simp] theorem sent_releaseHolder : sent (releaseHolder s) = sent s := sent_of_elsewhere s 0 (elsewhere_releaseHolder ..)

@[simp] theorem sent_disarm (kinds cause : BitVec 8) : sent (disarm p kinds cause s) = sent s :=
  sent_of_elsewhere s p (elsewhere_disarm ..)

@[simp] theorem sent_armKinds (kinds : BitVec 8) : sent (armKinds ch p kinds s) = sent s := sent_of_elsewhere s p (elsewhere_armKinds ..)

@[simp] theorem sent_pfcCheck : sent (pfcCheck p s) = sent s := sent_of_elsewhere s p (elsewhere_pfcCheck ..)

@[simp] theorem sent_rollIssue (issuer : BitVec 8) (o : BitVec 64) : sent (rollIssue issuer o s) = sent s :=
  sent_of_elsewhere s 0 (elsewhere_rollIssue ..)

@[simp] theorem sent_mcStart (target : EMode) (roll : Option (BitVec 16)) : sent (mcStart p target roll s) = sent s :=
  sent_of_elsewhere s p (elsewhere_mcStart ..)

@[simp] theorem sent_restartEntries : sent (restartEntries p s) = sent s := sent_of_elsewhere s p (elsewhere_restartEntries ..)

@[simp] theorem sent_tryAutoneg : sent (tryAutoneg p s) = sent s := sent_of_elsewhere s p (elsewhere_tryAutoneg ..)

@[simp] theorem sent_declareDown (cause : DownCause) : sent (declareDown p cause s) = sent s :=
  sent_of_elsewhere s p (elsewhere_declareDown ..)

@[simp] theorem sent_restartFull (beacons : Bool) : sent (restartFull p beacons s) = sent s :=
  sent_of_elsewhere s p (elsewhere_restartFull ..)

@[simp] theorem sent_setCapture (k : RefSlot) (x : CapResult) : sent (setCapture p k x s) = sent s :=
  sent_of_elsewhere s p (elsewhere_setCapture ..)

@[simp] theorem sent_passAllLosses : sent (passAllLosses p s) = sent s := sent_of_elsewhere s p (elsewhere_passAllLosses ..)

@[simp] theorem sent_chooseAutoneg : sent (chooseAutoneg p s) = sent s := sent_of_elsewhere s p (elsewhere_chooseAutoneg ..)

@[simp] theorem sent_cutChain : sent (cutChain p s) = sent s := rfl

@[simp] theorem sent_armChain : sent (armChain p s) = sent s := by simp [armChain]

@[simp] theorem sent_anchorOutcome (seq : Option Nat) : sent (anchorOutcome p seq s) = sent s := by
  unfold anchorOutcome
  split
  · rfl
  · split
    · cases seq <;> simp
    · rfl

@[simp] theorem sent_writeArm (v : BitVec 8) : sent (writeArm ch p v s) = sent s := by simp [writeArm]

@[simp] theorem sent_clearTamper (how : Nat) : sent (clearTamper p how ch s) = sent s := by simp [clearTamper]

@[simp] theorem sent_startCapture (k : RefSlot) : sent (startCapture p k ch s) = sent s := rfl

@[simp] theorem sent_retrainGo : sent (retrainGo p s) = sent s := by simp [retrainGo]

@[simp] theorem sent_restartAnGo : sent (restartAnGo p s) = sent s := by simp [restartAnGo]

@[simp] theorem sent_sleepGo : sent (sleepGo p s) = sent s := by
  unfold sleepGo
  dsimp only
  (repeat' split) <;> rfl

@[simp] theorem sent_startPulse : sent (startPulse p s) = sent s := by simp [startPulse]

@[simp] theorem sent_localWake : sent (localWake p s) = sent s := by simp [localWake]

@[simp] theorem sent_writeTarget (v : BitVec 8) : sent (writeTarget p v s) = sent s := by
  unfold writeTarget
  split <;> simp

@[simp] theorem sent_abandonCal : sent (abandonCal s) = sent s := by
  unfold abandonCal
  split <;> rfl

@[simp] theorem sent_abandonCalPort : sent (abandonCalPort p s) = sent s := by
  unfold abandonCalPort
  split <;> simp

@[simp] theorem sent_cutOrWait : sent (cutOrWait p s) = sent s := by
  unfold cutOrWait
  split <;> simp

@[simp] theorem sent_writeCommand (v : BitVec 8) : sent (writeCommand p v s) = sent s := by simp [writeCommand]

@[simp] theorem sent_writeAdmin (v : Nat) : sent (writeAdmin p v s) = sent s := by simp [writeAdmin, adminDisable, adminEnable]

@[simp] theorem sent_writeThresholds (v : BitVec 32) : sent (writeThresholds ch p v s) = sent s := by simp [writeThresholds]

@[simp] theorem sentByWrite_writeSignature (v : BitVec 8) : sentByWrite (writeSignature ch p v s) = sent s := by
  simp [writeSignature, captureGo]

@[simp] theorem sent_writeSeal (v : Nat) : sent (writeSeal p v s) = sent s := by simp [writeSeal]

theorem sentByWrite_writePort (base sub : Nat) (d : List Byte) : sentByWrite (writePort ch base p sub d s) = sent s := by
  unfold writePort
  split <;> simp [writeModeMask, writeTargetMode, writeAdapt, writeNeighbours]

/-! ## Sessions -/

theorem sent_of_services {t : State} (h : services t = services s) : sent t = sent s := congrArg (fun x => x.2.2.2.out) h

@[simp] theorem sent_disarmAll (cause : BitVec 8) : sent (disarmAll cause s) = sent s := sent_of_services s (services_disarmAll cause)

@[simp] theorem sent_closeSession (cause : Nat) : sent (closeSession ch cause s) = sent s := by
  unfold closeSession
  split <;> simp

@[simp] theorem sent_holderGone (cause : Nat) : sent (holderGone ch cause s) = sent s := sent_of_services s (services_holderGone cause)

@[simp] theorem sent_workGone : sent (workGone ch s) = sent s := sent_of_services s services_workGone

@[simp] theorem sent_endSession (cause : Nat) : sent (endSession ch cause s) = sent s := by simp [endSession]

@[simp] theorem sent_endSessions (cause : Nat) : sent (endSessions cause s) = sent s := by
  simp [endSessions, sent_forChans]

@[simp] theorem sent_authFailed (check role : Nat) : sent (authFailed ch check role s) = sent s :=
  sent_raise (modChan ch (fun c => { c with counters := bump 7 1 c.counters }) s) _

@[simp] theorem sent_openSession (role : Role) (key : List Byte) : sent (openSession ch role key s) = sent s := by simp [openSession]

theorem sentByWrite_authResponse (d : List Byte) : sentByWrite (authResponse ch d s) = sent s := by
  unfold authResponse
  (repeat' split) <;> simp [useNonce]

@[simp] theorem sent_writeOwners (v : BitVec 16) : sent (writeOwners ch v s) = sent s := by
  have bound (t : State) : sent (bind ch v t) = sent t := (congrArg Can.out (can_bind (s := t) (ch := ch) v) :)
  simp [writeOwners, bound]

/-! ## Self-test, gates and life cycle -/

@[simp] theorem sent_readyLost (c : Cls) : sent (readyLost p c s) = sent s := by simp [readyLost]

@[simp] theorem sent_bayEntries : sent (bayEntries p s) = sent s := by simp [bayEntries, sent_forClasses]

@[simp] theorem sent_selfTestDone : sent (selfTestDone s) = sent s := by
  unfold selfTestDone
  split <;> simp

@[simp] theorem sent_startBays : sent (startBays s) = sent s := by
  unfold startBays
  split <;> simp [sent_foldl, startBayTest, setBayResult]

@[simp] theorem sent_endBayTest (r : BayResult) : sent (endBayTest p r s) = sent s := by simp [endBayTest, setBayResult]

@[simp] theorem sent_cutBayTest : sent (cutBayTest p s) = sent s := by
  unfold cutBayTest
  split <;> simp [setBayResult]

@[simp] theorem sent_stopSelfTest : sent (stopSelfTest s) = sent s := by
  unfold stopSelfTest
  split
  · rfl
  · exact (sent_selfTestDone _).trans (sent_foldl s (fun t p => sent_modPort t p _) _)

@[simp] theorem sent_gateSetBits (v : BitVec 32) : sent (gateSetBits v s) = sent s := by simp [gateSetBits, sent_forPorts]

@[simp] theorem sent_gateClearBits (v : BitVec 32) : sent (gateClearBits v s) = sent s := by
  unfold gateClearBits
  extract_lets cleared bays cut
  have seals : sent (forPorts cutChain bays) = sent bays := sent_forPorts bays fun p t => sent_cutChain t p
  have turns : sent bays = sent s := sent_forPorts cleared fun p t => by simp
  simp only [cut, sent_ite, sent_disarmAll, seals, turns, ite_self]

@[simp] theorem sent_emptyCrock : sent (emptyCrock s) = sent s := sent_forPorts _ fun p t => sent_anchorOutcome t p none

/-- R388, R317: the COB-IDs and rates return to their defaults, the outbox stays. -/
@[simp] theorem sent_leaveManufacture : sent (leaveManufacture s) = sent s :=
  (sent_emptyCrock _).trans (sent_forPorts _ fun p t => sent_modSig t p _)

@[simp] theorem sent_transition (k : LifeFuse) : sent (transition k ch s) = sent s := by simp [transition]

theorem sentByWrite_lifeRequest (v : Nat) : sentByWrite (lifeRequest ch v s) = sent s := by
  have returned : sentByWrite (requestReturned ch s) = sent s := by
    unfold requestReturned
    dsimp only
    (repeat' split) <;> simp
  simp [lifeRequest, returned, requestSealed, requestEnded]

/-! ## Power, clocks and the remaining objects of the device -/

@[simp] theorem sent_entryRefusedRecord (target : PState) (refuser : Nat) (c : Option Chan) :
    sent (entryRefusedRecord target refuser c s) = sent s := by
  unfold entryRefusedRecord
  split <;> simp [refusalCounted, refusalSuppressed]

@[simp] theorem sent_beginEntry (target : PState) (c : Option Chan) : sent (beginEntry target c s) = sent s := by
  unfold beginEntry
  dsimp only
  split <;> simp [sent_forPorts]

theorem sentByWrite_powerRequest (target : PState) : sentByWrite (powerRequest target ch s) = sent s := by
  unfold powerRequest
  dsimp only
  (repeat' split) <;> simp [refuseEntry]

theorem sentByWrite_writeSource (dom : Domain) (v : BitVec 8) : sentByWrite (writeSource dom v s) = sent s := by
  simp [writeSource, clkEvent, requestSwitch]

/-- R320: the answer to the write outlives the reset that it requests. -/
theorem sent_requestedReset : sent (requestedReset ch s) = sent s := rfl

theorem sentByWrite_writeCalGo (v : Nat) : sentByWrite (writeCalGo ch v s) = sent s := by
  have start (k : CalKind) : sentByWrite (startCal k ch s) = sent s := by
    unfold startCal
    split <;> simp
  simp [writeCalGo, start]

theorem sentByWrite_writeSelfTest (v : Nat) : sentByWrite (writeSelfTest v s) = sent s := by
  unfold writeSelfTest
  (repeat' split) <;> simp [startSelfTest]

theorem sent_storeImage (d : List Byte) : sent (storeImage d s) = sent s := by simp [storeImage, imageResult]

theorem sentByWrite_writeOrder (d : List Byte) : sentByWrite (writeOrder ch d s) = sent s := by simp [writeOrder]

theorem sent_writeRecorder (v : Nat) : sent (writeRecorder ch v s) = sent s := by simp [writeRecorder]

theorem sentByWrite_writeDevice (base sub : Nat) (d : List Byte) : sentByWrite (writeDevice ch base sub d s) = sent s := by
  unfold writeDevice
  dsimp only
  split
  case h_6 => split; exacts [sentByWrite_lifeRequest s ch _, rfl]
  case h_7 => exact sent_endSession s ch 2
  case h_8 => exact sent_writeOwners s ch _
  case h_9 => split <;> rfl
  case h_10 => exact sent_requestedReset s ch
  case h_11 => exact sentByWrite_writeSource s _ _
  case h_12 => simp
  case h_15 => split; exacts [sentByWrite_powerRequest s ch _, rfl]
  case h_17 => split; exacts [sentByWrite_writeCalGo s ch _, rfl]
  case h_18 => split; exacts [sentByWrite_writeSelfTest s _, rfl]
  case h_19 => simp
  case h_20 => exact sentByWrite_writeOrder s ch d
  case h_21 => exact sent_storeImage s d
  case h_24 => exact sent_writeRecorder s ch _
  all_goals rfl

theorem sent_zeroDevice {base sub : Nat} {d : List Byte} {t : State} (e : zeroDevice base sub d s = some t) : sent t = sent s := by
  unfold zeroDevice at e
  split at e
  case h_4 =>
    obtain ⟨l, -, rfl⟩ := Option.map_eq_some_iff.mp e
    simp
  case h_6 => cases e
  all_goals
    obtain ⟨l, -, rfl⟩ := Option.map_eq_some_iff.mp e
    rfl

theorem sentByWrite_writeCnt (o : Obj) (sub : Nat) (d : List Byte) : sentByWrite (writeCnt o p sub d s) = sent s := by
  unfold writeCnt
  split
  next t e =>
    split at e
    · obtain ⟨q, -, rfl⟩ := Option.map_eq_some_iff.mp e
      rfl
    · exact sent_zeroDevice s e
  · rfl

theorem sentByWrite_writeEvt (base : Nat) (w : BitVec 32) : sentByWrite (writeEvt base w s) = sent s := by
  unfold writeEvt
  (repeat' split) <;> rfl

theorem sentByWrite_writeLock (v : Nat) : sentByWrite (writeLock ch v s) = sent s := by simp [writeLock]

theorem sentByWrite_writePosted (base sub : Nat) (d : List Byte) : sentByWrite (writePosted ch base sub d s) = sent s := by
  have accepted (w : Posted) (t : State) : sent (accept ch w t) = sent t := rfl
  have civil (x : Int) : sentByWrite (writeCivil ch x s) = sent s := by simp [writeCivil, accepted, newDay]
  simp [writePosted, accepted, civil]

/-! ## A write -/

theorem sentByWrite_writeField (o : Obj) (f : Field) (sub : Nat) (d : List Byte) : sentByWrite (writeField ch o f p sub d s) = sent s := by
  unfold writeField
  split
  · split
    · exact sentByWrite_writePort s p ch _ sub d
    · exact sentByWrite_writeDevice s ch _ sub d
  · exact sentByWrite_writeEvt s _ _
  · exact sentByWrite_writeCnt s p o sub d
  · exact sentByWrite_writeLock s ch _
  · exact sentByWrite_writePosted s ch _ sub d
  · rfl
  · rfl

/-- R287: a write sends nothing itself. -/
theorem sentByWrite_dictWrite (i : BitVec 16) (sub : Byte) (d : List Byte) : sentByWrite (dictWrite ch i sub d s) = sent s := by
  unfold dictWrite
  dsimp only
  split
  · rfl
  · split
    · rfl
    · split
      · rfl
      · split
        · exact sentByWrite_authResponse s ch d
        · split
          · rfl
          · exact sentByWrite_writeField s _ ch _ _ _ d

end

end Sys2Proof.Machine
end

section
/-! PROOF. Expedited transfers (R287, R289): a download of 1 to 4 bytes in its first frame, and the answer to an upload. -/

namespace Sys2Proof.Machine

section
variable {s t : State} {ch : Chan} {i : BitVec 16} {sub : Byte}

/-! ## Downloads -/

/-- The command byte of an expedited download that leaves n of its 4 bytes unused: kind 1, expedited, with its size. -/
theorem bits_expedited (n : Fin 4) :
    bitsAt (BitVec.ofNat 8 (0x23 + 4 * n.val)) 5 3 = 1 ∧ bitsAt (BitVec.ofNat 8 (0x23 + 4 * n.val)) 1 1 = 1
    ∧ bitsAt (BitVec.ofNat 8 (0x23 + 4 * n.val)) 0 1 = 1 ∧ bitsAt (BitVec.ofNat 8 (0x23 + 4 * n.val)) 2 2 = n.val := by
  revert n
  decide

/-- R289: an expedited frame is judged as a write of the bytes that it carries. -/
theorem initiateDown_expedited {d : List Byte} (one : 1 ≤ d.length) (four : d.length ≤ 4) :
    initiateDown ch ([BitVec.ofNat 8 (0x23 + 4 * (4 - d.length))] ++ muxBytes i sub ++ (d ++ List.replicate (4 - d.length) 0)) s
      = finishDown ch i sub d false ([0x60] ++ muxBytes i sub) s := by
  obtain ⟨-, expedited, sized, unused⟩ := bits_expedited ⟨4 - d.length, by omega⟩
  have data : (d ++ List.replicate (4 - d.length) (0 : Byte)).take (4 - (4 - d.length)) = d := by
    rw [Nat.sub_sub_self four]
    exact List.take_left
  rw [initiateDown, command_initFrame, frameIndex_initFrame, frameSub_initFrame, if_pos expedited, if_pos sized, unused, slice_initFrame]
  rw [data]

/-- R292, R308: a write that is refused is answered by its abort frame. -/
theorem finishDown_refused {d : List Byte} {wide : Bool} {ok : List Byte} {c : Code}
    (w : dictWrite ch i sub d (setXfer ch .none s) = .error (c, t)) :
    finishDown ch i sub d wide ok s
      = canSend (chanFrame s ch false (abortFrame i sub c)) (answerAbort ch c (refusedWrite ch i sub c t)) := by
  rw [finishDown, w]
  rfl

/-- R352: the confirmation of a write that asks for a switch of a clock domain is held until the new clock runs. -/
theorem finishDown_held {d : List Byte} {wide : Bool} {ok : List Byte} {x : Domain × Bool}
    (w : dictWrite ch i sub d (setXfer ch .none s) = .ok t) (pending : t.clk.pending = s.clk.pending ++ [x]) :
    finishDown ch i sub d wide ok s = modClk (fun k => { k with held := k.held ++
      [{ dom := x.1, ch := ch, index := i, sub := sub, frame := chanFrame s ch wide (padTo 8 ok) }] }) (answered ch t) := by
  have waits : (t.clk.pending.drop s.clk.pending.length).head? = some x := by rw [pending, List.drop_left]; rfl
  have held : ((answered ch t).clk.pending.drop (setXfer ch .none s).clk.pending.length).head? = some x := waits
  rw [finishDown, w]
  change sendOrHold ch i sub _ _ (answered ch t) = _
  rw [sendOrHold, held]
  rfl

/-- R287, R352: an initiate frame starts with an empty outbox, and its write sends nothing. -/
theorem sent_of_dictWrite {d : List Byte} (w : dictWrite ch i sub d (requested ch (framed ch s)) = .ok t) : t.can.out = [] := by
  have kept := sentByWrite_dictWrite (requested ch (framed ch s)) ch i sub d
  rw [w] at kept
  exact kept

/-! ## Uploads -/

theorem startUp_expedited {v : List Byte} (one : 1 ≤ v.length) (four : v.length ≤ 4) :
    startUp ch i sub v s = canSend (chanFrame s ch false ([BitVec.ofNat 8 (0x43 + 4 * (4 - v.length))] ++ muxBytes i sub ++ v
      ++ List.replicate (4 - v.length) 0)) s := by
  have len : ([BitVec.ofNat 8 (0x43 + 4 * (4 - v.length))] ++ muxBytes i sub ++ v).length = v.length + 4 := length_initFrame _ v
  rw [startUp, if_pos ⟨one, four⟩, reply_pad (by omega), len, show 8 - (v.length + 4) = 4 - v.length by omega]

theorem startUp_segmented {v : List Byte} (long : 4 < v.length) :
    startUp ch i sub v s
      = canSend (chanFrame s ch false ([0x41] ++ muxBytes i sub ++ leBytes 4 v.length)) (setXfer ch (.segUp i sub v false) s) := by
  have len : ([0x41] ++ muxBytes i sub ++ leBytes 4 v.length).length = 8 := by rw [length_initFrame, length_leBytes]
  rw [startUp, if_neg fun short => Nat.not_le.mpr long short.2, reply_full len]
  rfl

end

/-- Settles O36: each clause is the effect of its frame; the outbox of a held confirmation is empty because no write sends. -/
theorem expeditedTransfers : Obligations.ExpeditedTransfers := by
  unfold Obligations.ExpeditedTransfers
  intro s ch i sub d x srv time block r
  have idle : inBlock (framed ch s).chans[ch].xfer = false := by rw [xfer_framed]; exact block
  have fresh : countRequest ch (setXfer ch .none (framed ch s)) = r := countRequest_framed
  constructor
  · intro one four f
    have frame : exec (.sdoInitiateDownload ch f) s = .next (finishDown ch i sub d false ([0x60] ++ muxBytes i sub) r) := by
      have len : ([BitVec.ofNat 8 (0x23 + 4 * (4 - d.length))] ++ muxBytes i sub ++ (d ++ List.replicate (4 - d.length) 0)).length = 8 := by
        rw [length_initFrame, List.length_append, List.length_replicate]
        omega
      obtain ⟨kind, -⟩ := bits_expedited ⟨4 - d.length, by omega⟩
      have data : f.data = [BitVec.ofNat 8 (0x23 + 4 * (4 - d.length))] ++ muxBytes i sub ++ (d ++ List.replicate (4 - d.length) 0) :=
        List.append_assoc ..
      refine congrArg Host.Outcome.next ((sdoFrame_classic srv time f.data).trans ?_)
      rw [data]
      refine (classicFrame_initiateDown len idle kind).trans ?_
      rw [fresh]
      exact initiateDown_expedited one four
    have judged : dictWrite ch i sub d (setXfer ch .none r) = dictWrite ch i sub d r := congrArg _ setXfer_requested
    refine ⟨fun t w => ⟨fun room => ?_, fun x pending => ?_⟩, fun c t w => ?_⟩
    · rw [frame, finishDown_ok (s := r) (judged.trans w) room, padTo_confirm]
      rfl
    · have empty : t.can.out = [] := sent_of_dictWrite w
      rw [frame, finishDown_held (s := r) (judged.trans w) pending, padTo_confirm]
      exact ⟨_, rfl, empty, rfl⟩
    · rw [frame, finishDown_refused (judged.trans w)]
      rfl
  · intro hx f
    have frame : exec (.sdoInitiateUpload ch f) s = .next (withRead ch i sub (startUp ch i sub) r) := by
      have len : ([0x40] ++ muxBytes i sub ++ x).length = 8 := by rw [length_initFrame, hx]
      refine congrArg Host.Outcome.next ((sdoFrame_classic srv time f.data).trans ((classicFrame_initiateUp len idle (by decide)).trans ?_))
      rw [fresh, initiateUp]
      exact congrArg (fun j => withRead ch j sub (startUp ch j sub) r) (frameIndex_initFrame 0x40 x)
    refine ⟨fun v t rd one four => ?_, fun v t rd long => ?_, fun c t rd => ?_⟩
    · rw [frame, withRead_ok rd, startUp_expedited one four]
      rfl
    · rw [frame, withRead_ok rd, startUp_segmented long]
      rfl
    · rw [frame, withRead, rd]
      rfl

end Sys2Proof.Machine
end
